-- ==== Sys2Proof/Word.lean ====
section
/-!
DEFINITION. The plainest words of the machine: bytes and 32-bit registers, and the sparse tables that hold every
large array of the part (registers, memory bytes, page records): a list of keys and values.
-/

namespace Sys2Proof

/-- One byte of memory or of a message. -/
abbrev Byte := BitVec 8

/-- One register word: every register access is 32 bits wide (R897). -/
abbrev Word32 := BitVec 32

/-- A sparse table: keys strictly rising, no entry that equals what an unlisted key reads as. -/
abbrev Map (α : Type) := List (Nat × α)

end Sys2Proof
end

