-- ==== Sys2Proof/Syntax.lean ====
section
/-!
DEFINITION. The commands the block takes: one constructor of `Instr` for each row of the opcode table, with the operands
of the row and, for what the outside world decides (an error, a code's verdict, a temperature), that outcome as an operand.
-/

namespace Sys2Proof.Machine

open Sys2Proof

/-- Where a DRAM line lies (Table — Retirement entry, with column and device). -/
structure Loc where
  chan : Nat
  sub  : Nat
  rank : Nat
  bg   : Nat
  bank : Nat
  row  : Nat
  col  : Nat
  dev  : Nat
  deriving DecidableEq, Repr

/-- R492: what the code of a DRAM line says when it is read. The environment decides; a line stored as poison reads as
poison whatever stands here. -/
inductive LineDec where
  | good
  /-- The poison word, with symbol errors in one device or without. -/
  | poisonWord (errors : Bool)
  /-- Corrected, all erroneous symbols in one device. -/
  | corrected
  /-- Any other syndrome. -/
  | uncorrectable
  deriving DecidableEq, Repr

/-- A read's environment: what its DRAM line decodes as and where the line lies. -/
structure ReadEnv where
  dec : LineDec
  loc : Loc
  deriving DecidableEq, Repr

/-- The sources of management accesses (R260), coded as WIN_LEASE.OWNER codes its holders. -/
inductive MgmtSrc where
  | window
  | smbus
  | i3c
  | relay
  | keaquin
  deriving DecidableEq, Repr


/-- MetaValue of a CXL.mem request: I (no copy kept), S (shared) or A (any). -/
inductive Meta where
  | i | s | a
  deriving DecidableEq, Repr

/-- A CXL.mem request as received on a host port. Reads ignore `data`, `be` and `poison`. -/
structure MemReq where
  port   : Nat
  link   : Nat
  tag    : Nat
  /-- LD-ID, or SPID in SPID mode. -/
  src    : Nat
  mval   : Meta
  /-- DPA[47:6]. -/
  line   : Nat
  data   : List Byte
  /-- Byte enables, bit i for byte i. -/
  be     : Nat
  poison : Bool
  env    : ReadEnv
  /-- The sheet descriptor of the page turns out uncorrectable at this access (R134). -/
  sheetBad : Bool := false
  /-- The directory entry of the line turns out uncorrectable at this access (R342). -/
  dirBad : Bool := false
  deriving DecidableEq, Repr

/-- One flash target as its ONFI parameter page gives it (R526): target number, geometry, times in units of 100 ns,
1 µs and 1 ms, and what it supports. -/
structure FlashPar where
  target  : Nat
  luns    : Nat
  planes  : Nat
  /-- Pages per block, blocks per plane. -/
  ppb     : Nat
  bpp     : Nat
  /-- Page main and spare area, bytes. -/
  main    : Nat := 16384
  spare   : Nat := 2048
  /-- Highest NV-LPDDR4 rate, MT/s; 0 where the interface is another. -/
  rate    : Nat
  tR      : Nat
  tProg   : Nat
  tBers   : Nat
  /-- Program and erase suspend, with a latency of at most 1 µs. -/
  suspend : Bool := false
  fastSuspend : Bool := false
  retry   : Nat := 8
  /-- Factory bad blocks: LUN and block. -/
  bad     : List (Nat × Nat) := []
  deriving DecidableEq, Repr

/-- A Filalnis bundle as received: the header fields of *Table — Bundle header*, the payload, and what the receiver's
checks of the bytes say (R722, R725). -/
structure Bundle where
  typ     : Nat
  secure  : Bool := false
  poison  : Bool := false
  keyph   : Bool := false
  seq     : Nat := 0
  ack     : Nat := 0
  nak     : Bool := false
  crvc    : Nat := 0
  credits : Nat := 0
  dst     : Nat := 0
  src     : Nat := 0
  vc      : Nat := 0
  hops    : Nat := 0
  sten    : Nat := 0
  tag     : Nat := 0
  dpa     : Nat := 0
  arg     : Nat := 0
  payload : List Byte := []
  /-- The CRC-32C is good and no reserved bit is set (R723, R725). -/
  crcOk   : Bool := true
  /-- The tag verifies (R725, R735); meaningless unless SECURE. -/
  tagOk   : Bool := true
  deriving DecidableEq, Repr

/-- The configuration registers of a PCIe function that the block's rules read, as the host writes them. -/
structure FnCfg where
  busMaster : Bool
  memSpace  : Bool
  romEn     : Bool := false
  intDis    : Bool := true
  msixEn    : Bool := false
  msiEn     : Bool := false
  /-- MSI messages enabled. -/
  msiN      : Nat := 1
  pmeEn     : Bool := false
  /-- PME_Status is written 1 to clear. -/
  pmeClear  : Bool := false
  deriving DecidableEq, Repr

/-- One DIMM as its SPD and its training give it (R486, R487). -/
structure DimmEnv where
  chan    : Nat
  /-- 1 RDIMM, 2 MRDIMM, 0 another kind. -/
  kind    : Nat
  /-- Devices, module width and ranks stand in the table of supported DIMMs. -/
  fits    : Bool := true
  capGiB  : Nat
  /-- Logical ranks. -/
  ranks   : Nat := 1
  /-- Rated speed in the SPD, MT/s. -/
  spd     : Nat
  /-- Highest rate its channel trains to, MT/s; 0 where training fails. -/
  trained : Nat
  deriving DecidableEq, Repr

/-- What Keaquin finds when the part starts up: straps, fuses, devices and the verdicts of the self-tests (R926 to R937). -/
structure BootEnv where
  smbAddr  : Nat := 0
  dbgEn    : Bool := false
  /-- The fused debug-permit bit is set; the fused minimum SVN. -/
  permit   : Bool := false
  minSvn   : Nat := 0
  /-- The description table cannot be built (R294). -/
  tableBad : Bool := false
  /-- The generator's first health test passes. -/
  rngOk    : Bool := true
  /-- The post-mortem area's CRC fails. -/
  postBad  : Bool := false
  dimms    : List DimmEnv := []
  /-- DRAM channels whose zero-fill and read-back fails, with the test code. -/
  dramBad  : List Nat := []
  flash    : List FlashPar := []
  /-- Pattern slots whose persistent record does not verify. -/
  patBad   : List Nat := []
  /-- Units whose self-test fails: kind code, instance, test code. -/
  failed   : List (Nat × Nat × Nat) := []
  deriving DecidableEq, Repr

/-- What the outside gives at a frame edge: the readings of the eight junction sensors (none where a sensor gives no
plausible one) and the package power in W, the sheets whose descriptor turns out uncorrectable, the lines the patrol scrub
reads in the frame with what they decode as and the percent of its pass, and what the lines decode as that collectives
read. -/
structure EdgeEnv where
  temps : List (Option Nat) := []
  watts : Nat := 0
  lost  : List Nat := []
  scrub : List (Nat × ReadEnv) := []
  scrubPct : Nat := 0
  env   : List (Nat × ReadEnv) := []
  deriving DecidableEq, Repr

/-- Who reads a register: a source of the management path, the window's control page in BAR0, or the host of a tenant
function reading its tenant page (R252). -/
inductive Reader where
  | mgmt (src : MgmtSrc)
  | control
  | page (fn : Nat)
  deriving DecidableEq, Repr

end Sys2Proof.Machine

namespace Sys2Proof

open Sys2Proof.Machine

/-- The commands: one constructor for each row of the opcode table (302 rows). -/
inductive Instr where
  /-- DEVICE_RESET (R924): Power-up or RST_N assertion returns every block to its reset state, leaves FATAL and erases tenant contents by key rotation. -/
  | deviceReset
  /-- RST_N_DEASSERT (R931): RST_N deassertion samples the RST_N straps and starts the boot ROM, which verifies and runs a firmware slot or enters recovery. -/
  | rstNDeassert (env : BootEnv)
  /-- RNG_HEALTH_TEST (R936): A failed generator health test logs RNG_FAULT and is repeated once per second, blocking start-up until it passes. -/
  | rngHealthTest (ok : Bool)
  /-- MEMORY_ACTIVE (R935): When every start-up step is done the device declares memory active and ends any trial boot. -/
  | memoryActive
  /-- CONFIG_READY (R295): Once the description table exists and PERST# is deasserted, a port's functions stop answering with retry status. -/
  | configReady (port : Nat)
  /-- PERST_DEASSERT (R194): Deassertion of a port's PERST# samples its bifurcation and management straps, releases WAKE# and starts link training. -/
  | perstDeassert (port : Nat) (bifurc mgmtEn : Bool) (mgmtPort : Nat)
  /-- PERST_ASSERT (R274): Assertion of a port's PERST# resets that port's links and functions, and after L2 places the port in D3cold. -/
  | perstAssert (port : Nat)
  /-- FRAME_EDGE (R45): Every 2,000 hub cycles the frame edge performs steps 1 to 7, with the reel and scene work at those boundaries. -/
  | frameEdge (env : EdgeEnv)
  /-- TAKEOVER (R60): A STANDBY node that sees no valid marker for T reels becomes the clock node with a new epoch. -/
  | takeover
  /-- SYNC_COAST_TIMEOUT (R54): A follower in COAST for L reels without a valid marker enters LOST and leaves its collectives. -/
  | syncCoastTimeout
  /-- FRAME_PLL_UNLOCK (R75): Loss of PLL lock continues frames from the internal oscillator and sends the node to LOST. -/
  | framePllUnlock
  /-- FRAME_IN_PULSE (R65): A FRAME_IN rising edge, delayed by IN_DELAY, is taken as the reference edge and its width as the reel or scene position. -/
  | frameInPulse (ofs : Int) (width : Nat)
  /-- SLATE_DATA_WRITE (R35): A write of SLATE_DATA stores owner codes in the shadow bank, or is discarded with WR_DROP while a swap is pending. -/
  | slateDataWrite (src : MgmtSrc) (v : Word32)
  /-- SLATE_SWAP_REQUEST (R33): Setting SLATE_CTL.SWAP requests a slate swap at the next reel boundary. -/
  | slateSwapRequest (src : MgmtSrc)
  /-- RESEAT_REQUEST (R59): Writing SYNC_CTL.RESEAT requests a re-seat at the first reel boundary after a valid marker. -/
  | reseatRequest (src : MgmtSrc) (v : Word32)
  /-- MEM_RD (R97): A CXL.mem MemRd is identified, access-checked, granted and served from its page's tier. -/
  | memRd (m : MemReq)
  /-- MEM_RD_DATA (R302): A MemRdData is served as a MemRd of the same MetaValue. -/
  | memRdData (m : MemReq)
  /-- MEM_INV (R302): A MemInv is treated as a MemRd of the same MetaValue and returns no data. -/
  | memInv (m : MemReq)
  /-- MEM_WR (R101): A full-line MemWr recalls other grants and is applied once its page is OPEN. -/
  | memWr (m : MemReq)
  /-- MEM_WR_PTL (R496): A partial MemWrPtl is read-modify-written by the DRAM channel after its recalls. -/
  | memWrPtl (m : MemReq)
  /-- HUB_REQUEST_ADMIT (R357): A waiting request is admitted to the hub request queue once its bucket covers it and an entry is free. -/
  | hubRequestAdmit (port : Nat)
  /-- HELD_WRITE_APPLY (R101): Writes held for a page that was not OPEN are applied in arrival order once it is OPEN. -/
  | heldWriteApply (page : Nat)
  /-- WAIT_EXPIRED (R115): An allocation that has waited WAIT_LIMIT frames sets WAIT_EXPIRED, logs the tenant and keeps waiting. -/
  | waitExpired (t : Nat) (folded : Bool)
  /-- FLOOR_WRITE (R110): A floor write is refused if floors would exceed P, and otherwise accepted. -/
  | floorWrite (src : MgmtSrc) (t : Nat) (folded : Bool) (v : Word32)
  /-- FLOOR_INCREASE_EFFECT (R111): An accepted floor increase takes effect once OVF_FREE covers it. -/
  | floorIncreaseEffect (t : Nat)
  /-- CALL_DEADLINE (R121): At the deadline scene a call is judged met or missed, and a miss is flagged and logged. -/
  | callDeadline (slot : Nat)
  /-- CALL_RELEASE (R119): At the end of the grace scenes a call's pages leave on call. -/
  | callRelease (slot : Nat)
  /-- HID_READ (R139): An identity READ fills the staged words with the selected entry. -/
  | hidRead (src : MgmtSrc)
  /-- HID_WRITE (R139): An identity WRITE is refused or takes effect at the next step 2. -/
  | hidWrite (src : MgmtSrc)
  /-- HID_INVALIDATE (R140): An INVALIDATE ends an identity at the next step 2 and starts its bulk clear. -/
  | hidInvalidate (src : MgmtSrc)
  /-- RGN_READ (R147): A range READ fills the data words with the entry as it stands. -/
  | rgnRead (src : MgmtSrc)
  /-- RGN_BIND (R143): A BIND is refused or takes effect at the next step 2 with every page ZERO. -/
  | rgnBind (src : MgmtSrc)
  /-- RGN_UNBIND (R145): An UNBIND denies access from the next step 2 and releases the region's pages, cache lines, extents and directory state. -/
  | rgnUnbind (src : MgmtSrc)
  /-- UNBIND_DONE (R145): When all release work of an unbind is done the index becomes free and UNBIND_DONE is set. -/
  | unbindDone (idx : Nat)
  /-- SET_SHARERS (R146): SET_SHARERS replaces a shared region's sharer mask and recalls removed sharers' grants. -/
  | setSharers (src : MgmtSrc)
  /-- ID_ENTRY_FAULT (R184): An identity entry failing its storage check is treated as invalidated and its state released. -/
  | idEntryFault (idx : Nat)
  /-- RANGE_ENTRY_FAULT (R185): A range entry failing its storage check refuses every access to its region. -/
  | rangeEntryFault (idx : Nat)
  /-- KEY_SLOT_FAULT (R186): A key slot failing its check poisons reads and discards writes of the owner's regions. -/
  | keySlotFault (t : Nat)
  /-- ROTATE (R159): KEY_CTL.ROTATE replaces the selected tenant's key unless it owns a bound region or the generator has failed. -/
  | rotate (src : MgmtSrc)
  /-- REQ_SEAL (R165): A write of REQ_SEAL records a seal request for the next reel boundary, cancelling a pending unseal. -/
  | reqSeal (src : MgmtSrc) (t : Nat)
  /-- REQ_UNSEAL (R165): A write of REQ_UNSEAL records an unseal request for the next reel boundary, cancelling a pending seal. -/
  | reqUnseal (src : MgmtSrc) (t : Nat)
  /-- LINK_UP (R191): A host link trains into L0, negotiates CXL and fixes its flit mode. -/
  | linkUp (port link rate width : Nat) (cxl f256 viral : Bool) (ndr drs : Nat)
  /-- LINK_DOWN (R224): A host link leaving L0 other than into a power state puts the port in hold. -/
  | linkDown (port link : Nat)
  /-- UNCORR (R224): An uncorrectable link error or replay exhaustion puts the port in hold. -/
  | uncorr (port : Nat)
  /-- IDE_FAILURE (R221): An IDE integrity, sequence or state failure puts the port in hold and stops transmission under the failed keys. -/
  | ideFailure (port : Nat)
  /-- VIRAL_RX (R219): A viral indication received on a link puts its port in hold. -/
  | viralRx (port : Nat)
  /-- FLIT_DOWN (R224): A retrain into 68-byte flits while an identity holds an HDM-DB extent puts the port in hold. -/
  | flitDown (port link rate width : Nat)
  /-- HOLD_FORCE (R224): A write of HOLD.FORCE puts the port in hold with cause FORCE. -/
  | holdForce (src : MgmtSrc) (port : Nat)
  /-- PORT_HELD (R226): When every bulk clear of a freezing port completes, the port enters HELD. -/
  | portHeld (port : Nat)
  /-- HOLD_RELEASE (R227): A write of HOLD.RELEASE moves a HELD port to RELEASING at the next edge. -/
  | holdRelease (src : MgmtSrc) (port : Nat)
  /-- PORT_RUN (R228): A RELEASING port returns to RUN at the first edge at which its links are in L0 with CXL. -/
  | portRun (port : Nat)
  /-- RETRAIN (R191): A write of LINK_CTL.RETRAIN retrains both links of the port. -/
  | retrain (src : MgmtSrc) (port : Nat) (v : Word32)
  /-- ID_CFG_WRITE (R199): A write of ID_CFG is accepted only while no identity names the port and the LD total stays within 128. -/
  | idCfgWrite (src : MgmtSrc) (port : Nat) (v : Word32)
  /-- COMPLETION_TIMEOUT (R212): A host-memory request without completion by its timeout ends with an error to its cue. -/
  | completionTimeout (port tag : Nat)
  /-- HOST_READ_COMPLETION (R586): A completion for a cue's host read delivers data, or ends the cue with HOST_ERR on an error status. -/
  | hostReadCompletion (port tag : Nat) (data : List Byte) (poison error : Bool)
  /-- BIRSP (R323): A BIRsp from a recalled identity removes or downgrades its grant, or is discarded if late or misfit. -/
  | birsp (port link src line rsp : Nat) (dirty : Bool)
  /-- BICONFLICT (R334): A BIConflict is answered with BIConflictAck and the identity's request served after the recall. -/
  | biconflict (port link src line tag : Nat)
  /-- RWD_WRITEBACK (R820): A write-back under an outstanding recall enters the write-back sink and is applied at level 2. -/
  | rwdWriteback (m : MemReq)
  /-- L0P_WIDEN (R278): A narrowed link widens to full width when its backlog exceeds one frame. -/
  | l0pWiden (port backlog : Nat)
  /-- L0P_PARTNER_REQUEST (R279): A partner's L0p narrowing request is refused while a sealed tenant holds slots in the port's group. -/
  | l0pPartnerRequest (port width : Nat)
  /-- L1_ENTRY (R276): A port enters ASPM L1 after L1_IDLE of no traffic, nothing outstanding and no grant held. -/
  | l1Entry (port sub : Nat)
  /-- PME_TURN_OFF (R273): On PME_Turn_Off a port quiesces and sends PME_TO_Ack once its functions, cues, responses and bulk clears are done. -/
  | pmeTurnOff (port : Nat)
  /-- QUIESCE_TIMEOUT (R273): A port that cannot quiesce within 125 frames sends PME_TO_Ack and cancels its running cues. -/
  | quiesceTimeout (port : Nat)
  /-- PM_STATE_WRITE (R272): A power-state write moves a function between D0 and D3hot, pausing or resuming its rings and interrupts. -/
  | pmStateWrite (fn : Option Nat) (st : Nat) (cfg : FnCfg)
  /-- MSIX_UNMASK (R270): Unmasking a vector with its pending bit set sends its message in the next frame. -/
  | msixUnmask (fn : Option Nat) (vec : Nat)
  /-- FLR (R289): An FLR cancels the function's cues, and for the management function discards queued window accesses and frees its lease. -/
  | flr (fn : Option Nat)
  /-- CXL_RESET (R234): A CXL Reset of a tenant function cancels the cues of its rings and leaves the port untouched. -/
  | cxlReset (fn : Nat)
  /-- IDE_KM (R220): IDE_KM or CXL_IDE_KM messages program or refresh IDE keys of a link. -/
  | ideKm (port kind : Nat) (on : Bool)
  /-- INITIATE_DC_ADD (R203): The fabric manager's add request adds an extent to an LD or is refused with reason ACCESS, TAG, HOLDER or PORT_HELD. -/
  | initiateDcAdd (hid base count tag : Nat)
  /-- INITIATE_DC_RELEASE (R207): A forced release ends an identity's holding of an extent after recalling its grants. -/
  | initiateDcRelease (hid base count : Nat) (forced : Bool)
  /-- ADD_DC_EXTENT_REFERENCE (R223): The fabric manager adds or removes a reference to a DC extent. -/
  | addDcExtentReference (tag : Nat) (add : Bool)
  /-- GET_DCD_INFO (R223): The fabric manager reads the DCD information. -/
  | getDcdInfo
  /-- GET_HOST_DC_REGION_CONFIGURATION (R202): The fabric manager reads an LD's fixed DC region configuration. -/
  | getHostDcRegionConfiguration (port ld : Nat)
  /-- GET_DC_REGION_EXTENT_LISTS (R223): The fabric manager reads the extent lists of a DC region. -/
  | getDcRegionExtentLists (hid : Nat)
  /-- LIST_TAGS (R223): The fabric manager reads the extent tags in use. -/
  | listTags
  /-- SET_DC_REGION_CONFIGURATION (R223): Set DC Region Configuration returns Unsupported. -/
  | setDcRegionConfiguration
  /-- FM_IDENTIFY (R223): The fabric manager's Identify returns the device identity. -/
  | fmIdentify
  /-- GET_LD_INFO (R223): The fabric manager reads the port's LD information. -/
  | getLdInfo (port : Nat)
  /-- GET_LD_ALLOCATIONS (R223): The fabric manager reads the LD allocations. -/
  | getLdAllocations (port : Nat)
  /-- SET_LD_ALLOCATIONS (R223): The fabric manager sets LD allocations within the limits of ID_CFG. -/
  | setLdAllocations (port n : Nat)
  /-- TUNNEL_MANAGEMENT_COMMAND (R223): The fabric manager tunnels a management command to an LD. -/
  | tunnelManagementCommand (port ld op : Nat) (args : List Nat)
  /-- IDENTIFY (R222): The mailbox Identify command returns the device identity. -/
  | identify (fn : Option Nat)
  /-- BACKGROUND_OPERATION_STATUS (R222): The mailbox returns the status of the background command. -/
  | backgroundOperationStatus (fn : Option Nat)
  /-- GET_EVENT_RECORDS (R874): The mailbox returns CXL event records, limited to the tenant's own for a tenant function. -/
  | getEventRecords (fn : Option Nat) (log : Nat)
  /-- CLEAR_EVENT_RECORDS (R222): The mailbox clears event records. -/
  | clearEventRecords (fn : Option Nat) (log n : Nat)
  /-- GET_EVENT_INTERRUPT_POLICY (R222): The mailbox returns the event interrupt policy. -/
  | getEventInterruptPolicy (fn : Option Nat)
  /-- SET_EVENT_INTERRUPT_POLICY (R222): The mailbox sets the event interrupt policy. -/
  | setEventInterruptPolicy (fn : Option Nat) (policy : Nat)
  /-- GET_FW_INFO (R950): The mailbox reports firmware slots, reporting online activation as unsupported. -/
  | getFwInfo (fn : Option Nat)
  /-- TRANSFER_FW (R949): Transfer FW writes an image into the idle slot in parts and verifies it on the last part. -/
  | transferFw (fn : Option Nat) (slot : Nat) (last : Bool) (bad version svn : Nat) (advance : Bool)
  /-- ACTIVATE_FW (R950): Activate FW writes a boot record naming the slot as a trial for the next reset. -/
  | activateFw (fn : Option Nat) (slot : Nat) (online written : Bool)
  /-- GET_TIMESTAMP (R222): The mailbox returns the timestamp. -/
  | getTimestamp (fn : Option Nat)
  /-- SET_TIMESTAMP (R222): The management function sets the timestamp. -/
  | setTimestamp (fn : Option Nat) (time : Nat)
  /-- GET_SUPPORTED_LOGS (R222): The mailbox lists the supported logs. -/
  | getSupportedLogs (fn : Option Nat)
  /-- GET_LOG (R222): The mailbox returns a log, limited to the tenant's own entries for a tenant function. -/
  | getLog (fn : Option Nat)
  /-- IDENTIFY_MEMORY_DEVICE (R222): The mailbox reports zero static capacity and BIND_MAX as dynamic capacity. -/
  | identifyMemoryDevice (fn : Option Nat)
  /-- GET_HEALTH_INFO (R222): The mailbox returns health information. -/
  | getHealthInfo (fn : Option Nat)
  /-- GET_POISON_LIST (R864): The mailbox returns poison-list lines in regions the requester's tenant may reach, with overflow indication. -/
  | getPoisonList (fn : Option Nat)
  /-- INJECT_POISON (R222): While debug is unlocked the management function injects poison into a line. -/
  | injectPoison (fn : Option Nat) (line : Nat)
  /-- CLEAR_POISON (R222): While debug is unlocked the management function clears poison from a line. -/
  | clearPoison (fn : Option Nat) (line : Nat) (data : List Byte)
  /-- GET_DC_CONFIG (R222): The mailbox returns the DC configuration of the function's LD. -/
  | getDcConfig (fn : Option Nat)
  /-- GET_DC_EXTENT_LIST (R222): The mailbox returns the DC extents held by the function's LD. -/
  | getDcExtentList (fn : Option Nat)
  /-- ADD_DC_RESPONSE (R222): A tenant function's host accepts an offered extent for its own LD. -/
  | addDcResponse (fn : Option Nat) (base count : Nat) (accept : Bool)
  /-- RELEASE_DC (R207): A tenant function's host releases an extent, recalling its grants and releasing unheld private pages. -/
  | releaseDc (fn : Option Nat) (base count : Nat)
  /-- GET_TENANT_STATUS (R222): The mailbox returns a tenant's charges, load index and holds. -/
  | getTenantStatus (fn : Option Nat) (t : Nat)
  /-- GET_REGION_TAG (R222): The mailbox returns the region tag of a reachable region. -/
  | getRegionTag (fn : Option Nat) (granule : Nat)
  /-- READ_CONTINUITY_LOG (R874): The management function reads reserve-ring entries by sequence. -/
  | readContinuityLog (fn : Option Nat) (seq : Nat)
  /-- GET_PORT_HOLD_STATUS (R222): The mailbox returns a port's hold status. -/
  | getPortHoldStatus (fn : Option Nat) (port : Nat)
  /-- MAILBOX_UNSUPPORTED (R222): An unlisted opcode, or one from a function not permitted, returns Unsupported. -/
  | mailboxUnsupported (fn : Option Nat) (op : Nat)
  /-- BACKGROUND_COMMAND_DONE (R250): A background mailbox command completes and raises its MBOX cause. -/
  | backgroundCommandDone
  /-- WIN_CTL_WRITE (R255): A write of WIN_CTL switches the ROM BAR between the ROM image and the register window. -/
  | winCtlWrite (v : Word32)
  /-- WIN_LEASE_CLAIM (R262): A CLAIM write takes the lease for the window if it is free. -/
  | winLeaseClaim
  /-- WIN_LEASE_FREE (R262): A FREE write frees the lease if the window holds it. -/
  | winLeaseFree
  /-- LEASE_CLAIM (R264): An MCTP or relay Lease Claim message takes the lease if free. -/
  | leaseClaim (src : MgmtSrc)
  /-- LEASE_FREE (R264): An MCTP or relay Lease Free message frees the lease it holds. -/
  | leaseFree (src : MgmtSrc)
  /-- LEASE_TIMEOUT (R266): A lease whose holder makes no access for 125,000 frames is freed. -/
  | leaseTimeout
  /-- REGISTER_WRITE (R261): A management-path write to a register with no row of its own takes effect in source order, subject to RWL and reserved-field rules. -/
  | registerWrite (src : MgmtSrc) (ofs : Nat) (vals : List Word32) (full : Bool) (tag : Nat)
  /-- REGISTER_READ_CLEAR (R903): A read of an RC field returns and clears the selected count. -/
  | registerReadClear (src : MgmtSrc) (ofs tag : Nat)
  /-- LATCHED_PAIR_READ (R901): A read of a latching low word latches the high word for the reading source. -/
  | latchedPairRead (rd : Reader) (ofs tag : Nat)
  /-- WINDOW_CAPTURE_READ (R904): A read of the lowest word of a multi-word window captures every word for the reading source. -/
  | windowCaptureRead (src : MgmtSrc) (ofs tag : Nat)
  /-- REGISTER_READ (R260): An MCTP Register Read message reads a register through the management path or is answered BUSY. -/
  | registerRead (rd : Reader) (ofs n tag : Nat)
  /-- REGISTER_WRITE_MCTP (R260): An MCTP Register Write message writes a register through the management path or is answered BUSY. -/
  | registerWriteMctp (src : MgmtSrc) (ofs : Nat) (v : Word32) (tag : Nat)
  /-- SET_ENDPOINT_ID (R280): The bus owner sets the MCTP endpoint ID shared by both bindings. -/
  | setEndpointId (eid : Nat)
  /-- GET_ENDPOINT_ID (R280): MCTP control returns the endpoint ID. -/
  | getEndpointId
  /-- GET_MESSAGE_TYPE_SUPPORT (R280): MCTP control lists the supported message types. -/
  | getMessageTypeSupport
  /-- GET_VERSION_MCTP (R280): MCTP control returns the supported versions. -/
  | getVersionMctp
  /-- GET_VERSION (R281): The SPDM responder answers GET_VERSION. -/
  | getVersion (via : Nat)
  /-- GET_CAPABILITIES (R281): The SPDM responder answers GET_CAPABILITIES. -/
  | getCapabilities (via : Nat)
  /-- NEGOTIATE_ALGORITHMS (R281): The SPDM responder negotiates ECDSA P-384, SHA-384 and AES-256-GCM. -/
  | negotiateAlgorithms (via : Nat) (offered : Bool)
  /-- GET_DIGESTS (R281): The SPDM responder returns certificate digests. -/
  | getDigests (via : Nat)
  /-- GET_CERTIFICATE (R281): The SPDM responder returns its certificate chain. -/
  | getCertificate (via : Nat)
  /-- CHALLENGE (R281): The SPDM responder answers a CHALLENGE. -/
  | challenge (via : Nat)
  /-- GET_MEASUREMENTS (R281): The SPDM responder returns its measurements. -/
  | getMeasurements (via : Nat)
  /-- KEY_EXCHANGE (R281): KEY_EXCHANGE starts an SPDM secured session. -/
  | keyExchange (via : Nat) (both : Bool)
  /-- FINISH (R281): FINISH completes an SPDM secured session. -/
  | spdmFinish (via : Nat) (ok : Bool)
  /-- HEARTBEAT (R281): HEARTBEAT keeps an SPDM session alive. -/
  | heartbeat (via : Nat)
  /-- HEARTBEAT_MISSED (R293): A session that misses its heartbeat is ended, keys already delivered staying installed. -/
  | heartbeatMissed (via : Nat)
  /-- KEY_UPDATE (R734): SPDM KEY_UPDATE switches a session or link to a new key. -/
  | keyUpdate (via : Nat)
  /-- END_SESSION (R281): END_SESSION ends an SPDM session. -/
  | endSession (via : Nat)
  /-- DELIVER_KEY (R282): DELIVER_KEY installs a tenant key delivered inside an authenticated session, subject to R159. -/
  | deliverKey (via t key : Nat) (chain : Bool)
  /-- UNLOCK_DEBUG (R934): UNLOCK_DEBUG with a signed token unlocks debug while no region is bound, voiding every guarantee until reset. -/
  | unlockDebug (via : Nat) (token : Bool)
  /-- DOE_ABORT (R293): A DOE abort ends the data object in flight. -/
  | doeAbort (fn : Option Nat)
  /-- RECALL_DEADLINE (R326): A recall unanswered at step 2 of F + 4 declares the identity lost and starts its bulk clear. -/
  | recallDeadline (line : Nat) (forBacking : Bool) (hid : Nat)
  /-- BULK_CLEAR_DONE (R327): A bulk clear completes at step 2 of E + 2, clearing RELEASING of an invalidated identity. -/
  | bulkClearDone (hid : Nat)
  /-- LOST_CLEAR (R330): A write of LOST_CTL.CLEAR ends a DEADLINE loss and advances the identity's generation. -/
  | lostClear (src : MgmtSrc)
  /-- GEN_ADVANCE (R332): A waiting generation advance proceeds once fewer than 15 earlier generations are unretired. -/
  | genAdvance (hid : Nat)
  /-- RES_DRAINED (R316): When the seal drain of a tenant's directory blocks completes, its reads receive grants. -/
  | resDrained (t : Nat)
  /-- RGL_CLASS_WRITE (R356): A class register write is discarded if GUAR or LANE sums would be exceeded, and otherwise takes effect at step 6. -/
  | rglClassWrite (src : MgmtSrc) (r : Nat) (v : Word32)
  /-- BUCKET_WRITE (R366): A bucket write takes effect at step 6, filling the bucket when ENABLE rises and capping the level at the new depth. -/
  | bucketWrite (src : MgmtSrc) (t : Nat) (hi : Bool) (v : Word32)
  /-- PAGE_DISPATCH (R425): A page whose whole input is in a hamper is dispatched to the IN lane with the most free space. -/
  | pageDispatch
  /-- LANE_PAGE_START (R428): A lane starts a page in its owner's slot and fixes its charge by the pattern case. -/
  | lanePageStart (lane owner : Nat)
  /-- LANE_PAGE_DONE (R429): A lane finishes a page's fold or decode and releases its output. -/
  | lanePageDone (lane owner : Nat) (ue : Bool) (flips : List (Nat × Byte))
  /-- RACK_FILL_DONE (R455): A rack fill completes, or after a failed retry restores the slot from the persistent copy or faults it. -/
  | rackFillDone (slot : Nat) (ok copyOk : Bool)
  /-- LANE_FAULT (R453): A shadow mismatch, ECC or parity fault restarts the page elsewhere and drains a lane at 2 faults per reel. -/
  | laneFault (lane owner kind : Nat)
  /-- FOLD_PAT_WRITE (R441): A fold-selection write is discarded whole if an enabled selection names an unusable pattern. -/
  | foldPatWrite (src : MgmtSrc) (t : Nat) (v : Word32)
  /-- COMMON_DEF_WRITE (R439): A COMMON_DEF write naming a slot that is not a loaded common pattern with VALID 1 is discarded. -/
  | commonDefWrite (src : MgmtSrc) (v : Word32)
  /-- LOAD_DATA_WRITE (R466): A LOAD_DATA write appends 4 bytes to the open staging buffer, or is discarded. -/
  | loadDataWrite (src : MgmtSrc) (v : Word32)
  /-- BEGIN (R466): BEGIN opens the staging buffer for a slot and moves it to STAGING. -/
  | patBegin (src : MgmtSrc)
  /-- COMMIT (R467): COMMIT validates the staged pattern file and rejects it or schedules its installation. -/
  | patCommit (src : MgmtSrc)
  /-- PATTERN_INSTALL (R467): A validated file is installed at the next step 2 and its slot becomes ACTIVE, pinned for a sealed owner. -/
  | patternInstall
  /-- ABORT (R468): ABORT discards the staging buffer and restores the slot's previous state. -/
  | patAbort (src : MgmtSrc)
  /-- WITHDRAW (R471): WITHDRAW moves an ACTIVE slot to WITHDRAWN and clears selections naming it. -/
  | patWithdraw (src : MgmtSrc)
  /-- RETIRE (R474): RETIRE empties an unreferenced withdrawn or faulted slot and erases its persistent copies. -/
  | patRetire (src : MgmtSrc)
  /-- REFOLD (R473): REFOLD sets a withdrawn slot's refold mark so its pages are promoted and folded anew. -/
  | patRefold (src : MgmtSrc)
  /-- REPAIR (R470): REPAIR opens staging on a FAULT slot to restore a file of the same UID and CRC. -/
  | patRepair (src : MgmtSrc)
  /-- PATTERN_PERSIST (R476): A slot record is written to both persistent copies, and retried each reel on failure. -/
  | patternPersist (slot : Nat) (ok : Bool) (target : Nat)
  /-- RET_READ (R509): A retirement READ fills the staged words with the selected entry. -/
  | retRead (src : MgmtSrc)
  /-- RET_WRITE (R511): A retirement WRITE takes a DRAM row or bank out of use and migrates its units. -/
  | retWrite (src : MgmtSrc)
  /-- RET_RELEASE (R512): A RELEASE returns a migrated row or bank to use after zeroing it. -/
  | retRelease (src : MgmtSrc)
  /-- RETIRE_MIGRATION_DONE (R511): When the last unit of a retired row or bank has moved, DONE reads 1. -/
  | retireMigrationDone (i : Nat)
  /-- UNIT_MIGRATION_COPY (R517): A DRAM unit being migrated is copied after its admitted accesses and freed after the copy. -/
  | unitMigrationCopy (page : Nat) (slips : Bool)
  /-- REFRESH (R500): At each refresh interval a channel issues same-bank refresh in maintenance or open slots, postponing at most four intervals. -/
  | refresh (chan : Nat)
  /-- REFRESH_MANAGEMENT_REQUEST (R500): A DIMM's request for refresh management is served with refresh-management commands. -/
  | refreshManagementRequest (chan : Nat)
  /-- FLUSH (R508): FC_CTL.FLUSH writes back every dirty front-cache line as class MNT work. -/
  | flush (src : MgmtSrc)
  /-- CH_FATAL (R522): Exhausted CRC or parity retries or a PMIC or sensor fault send a DRAM channel OUT without draining. -/
  | chFatal (chan retries : Nat) (sheets dirLines : List Nat) (slots : List (Nat × Bool))
  /-- DIMM_HOT (R524): A DIMM above its sensor's high limit sets HOT and is logged. -/
  | dimmHot (chan temp : Nat)
  /-- FLASH_READ_DONE (R541): A flash read's data is decided by a lane, with LDPC and read retry on a bad first decision. -/
  | flashReadDone (page : Nat) (good : Bool) (level : Nat)
  /-- FLASH_PROGRAM_DONE (R539): A write point's program completes, committing its shelves or abandoning them on failure. -/
  | flashProgramDone (lun : Nat) (ok : Bool)
  /-- FLASH_ERASE_DONE (R540): An erase completes, freeing the block or retiring it on failure. -/
  | flashEraseDone (lun : Nat) (ok : Bool)
  /-- FLASH_READ_ISSUE (R530): A shelf read is issued once staging is reserved and charged to the request's owner. -/
  | flashReadIssue (page : Nat)
  /-- WRITE_POINT_FLUSH (R539): A write point programs its buffer when the next record does not fit or its oldest record waited FLUSH frames. -/
  | writePointFlush (lun : Nat)
  /-- SORT_RELOCATE (R544): Sort reads, corrects and rewrites a victim's live records and erases the emptied victim. -/
  | sortRelocate (lun : Nat) (ue : Bool) (flips : List (Nat × Byte))
  /-- LUN_TIMEOUT (R551): A LUN not answering a status read within its timeout is faulted and its records decided damaged. -/
  | lunTimeout (lun : Nat)
  /-- SRET_RETIRE (R552): A software RETIRE of a LUN or plane is refused or takes effect, reducing S and relocating records. -/
  | sretRetire (src : MgmtSrc)
  /-- SRET_READ (R552): A software-retirement READ reports the selected location's status. -/
  | sretRead (src : MgmtSrc)
  /-- SRET_DONE (R553): When a retired location holds no live record, RETIRED reads 1 and SRET_DONE is set. -/
  | sretDone (lun : Nat)
  /-- INVENTORY_WRITE (R556): Every SCENES scenes the inventory record is written to alternate copies, retried on failure. -/
  | inventoryWrite (ok : Bool) (target : Nat)
  /-- SCH_FATAL (R563): A shelf channel failing ZQ, parity or training on retry goes OUT without draining. -/
  | schFatal (chan : Nat)
  /-- DOORBELL (R571): A doorbell write announces new cues, or stops the ring with BAD_DOORBELL. -/
  | doorbell (fn ring : Nat) (tail : Nat)
  /-- RING_ENABLE (R569): A write of CTL.ENABLE to 1 binds and starts a ring with HEAD 0. -/
  | ringEnable (fn ring : Nat) (size : Nat) (inDpa : Bool)
  /-- RING_DISABLE (R574): A write of CTL.ENABLE to 0 stops new starts and disables the ring once none is running. -/
  | ringDisable (fn ring : Nat) (size : Nat) (inDpa : Bool)
  /-- RESUME (R597): A write of CTL.RESUME returns a stopped ring to RUN at HEAD. -/
  | resume (fn ring : Nat) (size : Nat) (inDpa : Bool)
  /-- CUE_START (R579): An engine starts a ring's next cue when a context, a start and the bound function allow, copying and validating it. -/
  | cueStart (ring : Nat) (fetched : Option (List Byte × Bool)) (env : List (Nat × ReadEnv))
  /-- FILL (R586): FILL writes a repeated 8-byte value over a DPA range. -/
  | fill (cue : Nat) (env : List (Nat × ReadEnv))
  /-- COPY_PLAIN (R587): COPY in PLAIN mode copies bytes between DPA and host memory. -/
  | copyPlain (cue : Nat) (env : List (Nat × ReadEnv))
  /-- COPY_FOLD (R588): COPY in FOLD mode sends DPA pages to host memory as wire segments. -/
  | copyFold (cue : Nat) (env : List (Nat × ReadEnv))
  /-- COPY_UNFOLD (R589): COPY in UNFOLD mode checks and writes a host segment stream into DPA pages. -/
  | copyUnfold (cue : Nat) (env : List (Nat × ReadEnv))
  /-- EQUAL (R590): COMPARE EQUAL compares two ranges and reports a mismatch. -/
  | equal (cue : Nat) (env : List (Nat × ReadEnv))
  /-- FIRST_DIFF (R590): COMPARE FIRST_DIFF returns the offset of the first differing byte. -/
  | firstDiff (cue : Nat) (env : List (Nat × ReadEnv))
  /-- CAS (R591): COMPARE CAS atomically writes SWAP if the target equals CMP and returns the old value. -/
  | cas (cue : Nat) (env : ReadEnv)
  /-- REDUCE (R593): REDUCE writes the element-wise sum, min or max of up to 16 sources, rounded once. -/
  | reduce (cue : Nat) (env : List (Nat × ReadEnv))
  /-- CALL (R594): A CALL cue reads a call sheet and hands it to the tier manager, completing at acceptance or rejection. -/
  | callCue (cue : Nat) (env : List (Nat × ReadEnv))
  /-- PRESS (R647): A PRESS cue reads its job card and is refused or waits for admission. -/
  | pressCue (cue : Nat) (env : List (Nat × ReadEnv))
  /-- LAY (R678): A LAY cue submits a weight set to be laid into a deck of a press. -/
  | layCue (cue : Nat)
  /-- COLLECT (R775): A COLLECT cue is checked and arms its collective entry, pinning SRC and DST. -/
  | collectCue (cue : Nat) (env : List (Nat × ReadEnv))
  /-- CUE_COMPLETE (R596): A finished cue writes its completion record, raises its interrupt and stops the ring on error. -/
  | cueComplete (cue : Nat) (env : List (Nat × ReadEnv))
  /-- ENGINE_FAULT (R607): An engine buffer or datapath error ends the cue with ENGINE_FAULT and drains the engine at 2 faults per reel. -/
  | engineFault (engine : Nat) (cue : Option Nat)
  /-- CUE_TAG_WRITE (R585): A CUE_TAG write is discarded if the engines' tag shares would exceed 768. -/
  | cueTagWrite (src : MgmtSrc) (v : Word32)
  /-- STRIKE (R611): In each strike position a press strikes the owner's ready job, lay or calibration, or stays idle. -/
  | strike (press pos : Nat) (margins : List (Nat × Nat)) (seams : List (Nat × Bool)) (agrees : Bool)
  /-- ACC_FAULT (R640): A gang accumulator parity error ends that context's job on its whole chain. -/
  | accFault (press ctx : Nat)
  /-- DECK_OWN_WRITE (R623): A DECK_OWN write changes a deck owner and empties it, or is discarded while the deck is in use. -/
  | deckOwnWrite (src : MgmtSrc) (press : Nat) (v : Word32)
  /-- PART_WRITE (R626): A press partition write is discarded if it involves a sealed tenant, starves the common part or duplicates a tenant. -/
  | partWrite (src : MgmtSrc) (press part : Nat) (v : Word32)
  /-- JOB_ADMIT (R648): A waiting job is admitted on every chain press once contexts, bench units and its decks are free. -/
  | jobAdmit (cue : Nat)
  /-- PROLOGUE_VECTOR (R650): The prologue turns a vector's input rows into quantised operands. -/
  | prologueVector (cue i : Nat) (env : List (Nat × ReadEnv))
  /-- EPILOGUE_VECTOR (R654): The tail press's epilogue scales, activates, adds residuals and rounds once, writing the outputs. -/
  | epilogueVector (cue : Nat) (env : List (Nat × ReadEnv))
  /-- JOB_COMPLETE (R667): A job whose vectors are all applied frees its resources and completes its PRESS cue. -/
  | jobComplete (cue : Nat)
  /-- PE_PARITY (R676): A prologue or epilogue parity error poisons the vector's outputs and the job continues. -/
  | peParity (cue i unit : Nat)
  /-- LAY_START (R683): An accepted lay starts programming when its deck is free and the lay rate limits allow, raising its lay counts. -/
  | layStart (cue : Nat)
  /-- LAY_ROUND (R685): In a lay position a programming array pulses and verifies rows, then sweeps, failing on VERIFY or COMPLIANCE. -/
  | layRound (cue pos : Nat) (outs : List (Nat × List Bool × List (Nat × List Bool) × Bool)) (env : List (Nat × ReadEnv))
  /-- LAY_COMMIT (R691): After every array's sweep the lay commits at step 2, marking the parts LAID. -/
  | layCommit (cue : Nat)
  /-- LAY_HOLD (R689): VPROG falling below HOLD_MV asserts LAY_HOLD and pauses every lay. -/
  | layHold (mv : Nat)
  /-- HOLD_TIMEOUT (R690): A lay held HOLD_MAX scenes after LAY_HOLD fails with HOLD_TIMEOUT. -/
  | holdTimeout (cue : Nat)
  /-- CALIBRATION (R697): A due calibration measures a deck's reference columns and updates swatches, marking DRIFTED or CAL_FAILED parts. -/
  | calibration (press deck pos : Nat) (drifted failed : List Nat)
  /-- SWATCH_STORE (R705): A swatch store writes the inactive NOR slot and commits it with its commit word. -/
  | swatchStore (fails : Bool)
  /-- STORE_NOW (R707): A write of STORE_CMD.NOW starts a swatch store. -/
  | storeNow (src : MgmtSrc)
  /-- LINK (R725): A LINK bundle delivers acknowledgements, NAKs and credit returns. -/
  | link (f : Nat) (b : Bundle)
  /-- DLY_REQ (R757): A received DLY_REQ is answered with a DLY_RSP carrying its stamps. -/
  | dlyReq (f : Nat) (b : Bundle) (rx tx : Nat)
  /-- DLY_RSP (R757): A received DLY_RSP updates LINK_DLY from the four stamps. -/
  | dlyRsp (f : Nat) (b : Bundle) (rx : Nat)
  /-- MARKER (R51): A received frame marker is validated, yields the follower's offset and drives its sync state. -/
  | marker (f : Nat) (b : Bundle) (rx stay : Nat)
  /-- RD (R746): At the backing node an RD is matched to a peer, access-checked and answered with an RSP. -/
  | rd (f : Nat) (b : Bundle) (env : List (Nat × ReadEnv))
  /-- WR (R746): At the backing node a WR is applied and answered with a CMP. -/
  | wr (f : Nat) (b : Bundle) (env : List (Nat × ReadEnv))
  /-- RSP (R747): At the origin an RSP delivers the lines, with poison or an error status as poison. -/
  | rsp (f : Nat) (b : Bundle) (env : List (Nat × ReadEnv))
  /-- CMP (R747): At the origin a CMP completes a remote write. -/
  | cmp (f : Nat) (b : Bundle) (env : List (Nat × ReadEnv))
  /-- RECALL (R751): At the origin a RECALL recalls the local holders and answers with a RECALL_RSP. -/
  | recall (f : Nat) (b : Bundle) (env : List (Nat × ReadEnv))
  /-- RECALL_RSP (R751): At the backing node a RECALL_RSP answers a peer recall, carrying modified data if any. -/
  | recallRsp (f : Nat) (b : Bundle) (env : List (Nat × ReadEnv))
  /-- CUE_FWD (R754): At the backing node a forwarded cue runs on a forwarded context as the peer's tenant. -/
  | cueFwd (f : Nat) (b : Bundle) (env : List (Nat × ReadEnv))
  /-- CUE_CPL (R754): At the origin a CUE_CPL record is written and completes the forwarded cue. -/
  | cueCpl (f : Nat) (b : Bundle) (env : List (Nat × ReadEnv))
  /-- MGMT (R755): A MGMT bundle carries a relayed register access served from permitted nodes, or SPDM keying. -/
  | mgmt (f : Nat) (b : Bundle) (acc : Option (Nat × Option Word32))
  /-- REPLAY_TIMEOUT (R726): A sender without ACK progress retransmits from its oldest retained bundle and takes the link down after 8 tries. -/
  | replayTimeout (f : Nat)
  /-- RSP_TIMEOUT (R748): An unanswered remote request is reissued or delivered as poison, or a write completed with a logged entry. -/
  | rspTimeout (i : Nat)
  /-- PEER_DEADLINE (R751): A peer silent for DEADLINE frames after a RECALL is declared lost and bulk cleared. -/
  | peerDeadline (peer : Nat)
  /-- FPORT_LINK_UP (R731): A fabric PCS coming up runs SPDM keying and makes the port ACTIVE. -/
  | fportLinkUp (f node : Nat) (keyed : Bool)
  /-- FPORT_LINK_DOWN (R769): A fabric port going down drops its keys, retrains and is skipped by routing. -/
  | fportLinkDown (f cause : Nat)
  /-- LINK_REKEY (R734): A link key update starts at 2^40 bundles or on a REKEY write, flipping KEYPH. -/
  | linkRekey (f : Nat)
  /-- NODE_WRITE (R764): A write of FPORT0.NODE is discarded while any port is ACTIVE. -/
  | nodeWrite (src : MgmtSrc) (v : Word32)
  /-- PEER_READ (R743): A peer READ fills the staged peer entry. -/
  | peerRead (src : MgmtSrc)
  /-- PEER_WRITE (R743): A peer WRITE is refused or takes effect at the next step 2. -/
  | peerWrite (src : MgmtSrc)
  /-- PEER_INVALIDATE (R762): A peer INVALIDATE ends a peer entry and empties its directory slots. -/
  | peerInvalidate (src : MgmtSrc)
  /-- PEER_CLEAR (R753): A peer CLEAR ends LOST and advances the peer's generation. -/
  | peerClear (src : MgmtSrc)
  /-- COLL_ENTRY_WRITE (R772): A collective entry write is discarded while the entry is active, and otherwise takes effect at step 2. -/
  | collEntryWrite (src : MgmtSrc) (r : Nat) (v : Word32)
  /-- JOIN_SEND (R776): When every SRC and DST page is OPEN a member sends JOIN to the chair and becomes JOINED. -/
  | joinSend (entry : Nat)
  /-- JOIN (R779): The chair counts a matching JOIN from a member. -/
  | join (f : Nat) (b : Bundle) (env : List (Nat × ReadEnv))
  /-- WITHDRAW_COLL (R782): The chair removes a withdrawing member from the count. -/
  | withdrawColl (f : Nat) (b : Bundle) (env : List (Nat × ReadEnv))
  /-- GO_DECISION (R780): When all members are counted or the go-by frame arrives, the chair sends GO or ABORT NO_QUORUM. -/
  | goDecision (entry : Nat)
  /-- GO (R781): A member receiving GO runs, or completes NOT_COUNTED if left out. -/
  | go (f : Nat) (b : Bundle) (env : List (Nat × ReadEnv))
  /-- ABORT_COLL (R802): A received ABORT is forwarded by the chair or completes the member TORN or NO_QUORUM. -/
  | abortColl (f : Nat) (b : Bundle) (env : List (Nat × ReadEnv))
  /-- PULL (R786): A PULL asks a child for pages of a stripe, answered once per PULL. -/
  | pull (f : Nat) (b : Bundle) (env : List (Nat × ReadEnv))
  /-- UP (R787): An UP segment from a leaf is added into the parent's page accumulator. -/
  | up (f : Nat) (b : Bundle) (env : List (Nat × ReadEnv))
  /-- SUM (R789): A sum page part from a child is added exactly into the parent's accumulator. -/
  | sum (f : Nat) (b : Bundle) (env : List (Nat × ReadEnv))
  /-- DOWN (R790): A DOWN page is written to DST and forwarded unchanged to the member's children. -/
  | down (f : Nat) (b : Bundle) (env : List (Nat × ReadEnv))
  /-- COLLECTIVE_DONE (R800): A member that has written every DST page and sent its owed pages writes the status block and completes. -/
  | collectiveDone (entry : Nat)
  /-- COLL_DEADLINE (R801): At the deadline edge an unfinished member completes NO_GO, NOT_COUNTED or LATE. -/
  | collDeadline (entry : Nat)
  /-- PULL_TIMEOUT (R802): A PULL unanswered within PULL_TO is repeated once, then aborts the collective TORN. -/
  | pullTimeout (entry : Nat)
  /-- COLL_ACC_FAULT (R812): An accumulator error poisons that page of the result and the collective continues. -/
  | collAccFault (entry page : Nat)
  /-- WEDGE (R825): A host port whose S2M credits stay exhausted for WEDGE frames enters hold with cause FORCE. -/
  | wedge (port : Nat)
  /-- ESCROW_UE (R833): An uncorrectable error in an escrow unit poisons its work and frees the unit. -/
  | escrowUe (sel port ix : Nat)
  /-- SVC_DRAIN (R838): A service REQ 1 puts an IN unit in DRAIN, or is refused. -/
  | svcDrain (src : MgmtSrc) (kind inst : Nat)
  /-- SVC_RETURN (R838): A service REQ 2 puts an OUT unit in QUAR, or is refused. -/
  | svcReturn (src : MgmtSrc) (kind inst : Nat)
  /-- UNIT_DRAINED (R837): A unit in DRAIN whose drained condition holds enters OUT. -/
  | unitDrained (kind inst : Nat)
  /-- QUARANTINE_DONE (R842): A unit's quarantine tests pass into REJOIN or fail back to OUT. -/
  | quarantineDone (kind inst : Nat) (failed : Option Nat) (lost : List (Nat × Nat))
  /-- QUARANTINE_TIMEOUT (R837): A quarantine lasting QUAR_TO scenes fails and the unit returns to OUT. -/
  | quarantineTimeout (kind inst : Nat)
  /-- LOG_OVERFLOW (R870): At the first frame with room after drops, LOG_OVERFLOW is logged with the count dropped. -/
  | logOverflow
  /-- LOG_RING_UE (R883): Entries lost to a channel or on-chip error are logged as a run and read as DAMAGED. -/
  | logRingUe (first n : Nat)
  /-- RD_SEQ_WRITE (R873): A write of CLOG.RD_SEQ selects an entry and reports its read status. -/
  | rdSeqWrite (src : MgmtSrc) (seq : Nat)
  /-- HUB_UE (R875): An uncorrectable error in a hub control structure logs FATAL. -/
  | hubUe (part : Nat)
  /-- DIE_LINK (R875): Loss of a press die's link to the hub logs FATAL. -/
  | dieLink (die : Nat)
  /-- MGMT_WATCHDOG (R875): Keaquin failing its watchdog logs FATAL. -/
  | mgmtWatchdog
  /-- RAIL_FAULT (R925): A monitored rail outside ±8 % for over 10 µs logs RAIL_FAULT as FATAL. -/
  | railFault (rail : Nat)
  /-- THERMAL_TRIP (R948): A sensor at 110 °C stops the press-die clocks and logs FATAL. -/
  | thermalTrip (sensor deg : Nat)
  /-- EVT_STAT_CLEAR (R882): A W1C write of EVT_STAT clears bits unless an event sets them in the same frame. -/
  | evtStatClear (src : MgmtSrc) (page : Nat) (v : Word32)
  /-- EVT_ENA_WRITE (R908): A write of EVT_ENA gates roll-up and makes enabling an already set bit a cause. -/
  | evtEnaWrite (src : MgmtSrc) (page : Nat) (v : Word32)
  /-- EVT_FORCE (R892): A write of EVT_FORCE sets EVT_STAT bits, stamps the frame and counts as a cause without the event's effects. -/
  | evtForce (src : MgmtSrc) (page : Nat) (v : Word32)
  /-- VMAP_DATA_WRITE (R915): A vector-map write takes effect at the next frame edge. -/
  | vmapDataWrite (src : MgmtSrc) (v : Word32)
  /-- DAILY_SEL_WRITE (R911): A write of DAILY_SEL selects a dailies record and reports its read status. -/
  | dailySelWrite (src : MgmtSrc) (reel : Nat) (damaged : Bool)
  /-- PWR_REQ_RUN (R942): A request for RUN begins a wake or withdraws OFF. -/
  | pwrReqRun (src : MgmtSrc) (autoWake : Bool)
  /-- PWR_REQ_TRIM (R939): A request for TRIM gates the presses, or is refused while sealed tenants hold press positions. -/
  | pwrReqTrim (src : MgmtSrc) (autoWake : Bool)
  /-- PWR_REQ_IDLE (R941): A request for IDLE gates presses, idles shelf targets and puts empty ranks in self-refresh, or is refused. -/
  | pwrReqIdle (src : MgmtSrc) (autoWake : Bool)
  /-- PWR_REQ_OFF (R943): A request for OFF stops LAY cues and flushes swatch, inventory and pattern writes before OFF_READY. -/
  | pwrReqOff (src : MgmtSrc) (autoWake : Bool)
  /-- WAKE_COMPLETE (R942): A wake reaches RUN at the reel boundary at least 2 scenes later, marking due arrays recalibrate-pending. -/
  | wakeComplete
  /-- THERM_EMERGENCY (R946): A reading at T_EMERG drops the die's step to 4 at the next edge. -/
  | thermEmergency (sensor deg : Nat)
  /-- SENSOR_FAULT (R959): A sensor with no plausible reading for 8 frames counts as reading T_EMERG and is logged. -/
  | sensorFault (sensor : Nat)
  /-- TRST_ASSERT (R987): TRST# assertion returns the TAP to Test-Logic-Reset without affecting the device. -/
  | trstAssert
  /-- BYPASS (R986): The JTAG BYPASS instruction is served at all times. -/
  | bypass
  /-- IDCODE (R986): The JTAG IDCODE instruction returns the stepping and 0xB12_A0C3. -/
  | idcode
  /-- SAMPLE_PRELOAD (R986): SAMPLE/PRELOAD is served only while RST_N is asserted. -/
  | samplePreload
  /-- EXTEST (R986): EXTEST is served only while RST_N is asserted, pins returning at RST_N deassertion. -/
  | extest
  /-- JTAG_OTHER_INSTRUCTION (R986): Any other JTAG instruction is served only while debug is unlocked and otherwise acts as BYPASS. -/
  | jtagOtherInstruction
  /-- LINK_DEGRADED (R236): A host link's rate or width degrades while the link stays in L0, setting DEGRADED while traffic continues at the new rate. -/
  | linkDegraded (port link rate width : Nat)
  /-- L1_EXIT (R277): A host link leaves ASPM L1, L1.1 or L1.2 back to L0 on demand for traffic or at the partner's request, including through CLKREQ#. -/
  | l1Exit (port : Nat)
  /-- L2_ENTRY (R274): After PME_TO_Ack the host takes the link into L2, a link power state from which the following PERST# assertion is not a hold cause. -/
  | l2Entry (port : Nat)
  /-- FRAME_PLL_RELOCK (R75): The frame PLL regains lock on the returned 156.25 MHz fabric reference after running from its internal oscillator. -/
  | framePllRelock
  /-- TENANT_PAGE_WRITE (R252): A host write to a tenant page's INT_STAT, INT_ENA, INT_MAP or ring registers is served by the port, charged to its take, and clears, enables or maps interrupt causes. -/
  | tenantPageWrite (fn ofs : Nat) (v : Word32)
  /-- CREDIT_RETURN (R824): A host returns S2M NDR and DRS credits to a host port, letting responses held for credit leave and ending the WEDGE count. -/
  | creditReturn (port ndr drs : Nat)
  deriving DecidableEq, Repr

end Sys2Proof
end

