-- ==== Sys2Proof/Decode.lean ====
section
/-!
DEFINITION. The command that a word spells by the bits of the opcode table. No row of the table gives bits: a command comes
to the block as an event, a message or a register access, not as a word, so no word spells one.
-/

namespace Sys2Proof

/-- The command that a word of `nbits` bits spells. -/
def decodeTableWord (_nbits _w : Nat) : Option Instr := none

end Sys2Proof
end

