-- ==== Sys2Proof/Config.lean ====
section
/-!
DEFINITION. What an implementation fixes and the values the spec leaves open: constants without a body, so that no proof
can see what they are.
-/

namespace Sys2Proof.Config

/-- A fresh free value, applied to the counter `freeIx` of the state (log entry 3). -/
opaque freeNat : Nat → Nat

/-- HOME of a sheet descriptor: device-private (R88, R89). -/
opaque homeLocator : Nat → Nat

/-- The front-cache set of a line: the spec gives 98,304 sets and no index function (R505). -/
opaque fcSet : Nat → Nat

/-- Whether the ECDSA P-384 signature of a pattern file verifies under the signer its KEY_ID names (R460): a fact about
keys the model does not hold. The argument is the file. -/
opaque patSignatureOk : List (BitVec 8) → Bool

/-- The 128-bit tenant mask of the pattern signer with a KEY_ID, where the signed firmware configuration lists it
(R460). -/
opaque patSigner : Nat → Option Nat

/-- The file of the vendor common set that the firmware image names for a common slot, if any (R477). -/
opaque commonFile : Nat → Option (List (BitVec 8))

/-- The entry of the built-in GELU (0) and SiLU (1) tables at −∞, where R653 gives no value. -/
opaque tableAtNegInf : Nat → Nat

/-- Silicon stepping and device UID of the fuses (SYS.DEV_ID, SYS.UID). -/
opaque step : Nat
opaque uid : Nat

/-- The ROM image (R257): offset of the description table, offset of the PCI data structure, the Caraux Vendor ID, and the
bytes the spec gives no value for. -/
opaque romTable : Nat
opaque romPcir : Nat
opaque vendorId : Nat
opaque romRest : Nat → BitVec 8

end Sys2Proof.Config
end

