-- ==== Sys2Proof/Machine/Maps.lean ====
section
/-!
DEFINITION. Reading and writing a sparse table in its one canonical form: keys strictly rising, no entry equal to the
value `d k` that an unlisted key `k` reads as. Equal tables are then equal data.
-/

namespace Sys2Proof.Machine

open Sys2Proof

/-- The value at key `k`; an unlisted key reads as `d k`. -/
def mapGet {α : Type} (d : Nat → α) (m : Map α) (k : Nat) : α :=
  match m with
  | [] => d k
  | (k', v) :: r => if k' = k then v else mapGet d r k

/-- Enter `v` at key `k`, before the first greater key or in place of the entry there. -/
def mapInsert {α : Type} (k : Nat) (v : α) : Map α → Map α
  | [] => [(k, v)]
  | (k', v') :: r =>
    if k' = k then (k, v) :: r
    else if k < k' then (k, v) :: (k', v') :: r
    else (k', v') :: mapInsert k v r

/-- Write `v` at key `k`, keeping the keys rising; a value equal to `d k` is not listed. -/
def mapPut {α : Type} [DecidableEq α] (d : Nat → α) (k : Nat) (v : α) (m : Map α) : Map α :=
  if v = d k then m.filter (fun e => e.1 != k) else mapInsert k v m

/-- Change the value at key `k` by `f`. -/
def mapUpd {α : Type} [DecidableEq α] (d : Nat → α) (k : Nat) (f : α → α) (m : Map α) : Map α :=
  mapPut d k (f (mapGet d m k)) m

/-- Change every listed value by `f` (which sees its key), keeping the canonical form. -/
def mapAll {α : Type} [DecidableEq α] (d : Nat → α) (f : Nat → α → α) : Map α → Map α
  | [] => []
  | (k, v) :: r => if f k v = d k then mapAll d f r else (k, f k v) :: mapAll d f r

/-- The canonical form from key `lo` on. -/
def mapWfFrom {α : Type} [DecidableEq α] (d : Nat → α) (lo : Nat) : Map α → Bool
  | [] => true
  | (k, v) :: r => decide (lo ≤ k) && decide (v ≠ d k) && mapWfFrom d (k + 1) r

/-- The canonical form: keys strictly rising, no entry equal to what its key reads as when unlisted. -/
def mapWf {α : Type} [DecidableEq α] (d : Nat → α) (m : Map α) : Bool := mapWfFrom d 0 m

/-- Fold a command over a list of numbers: the shape of every "for each unit" rule. -/
def forEach {σ : Type} (l : List Nat) (f : Nat → σ → σ) (s : σ) : σ := l.foldl (fun a k => f k a) s

/-- Insert in a list sorted by `le`, before the first element that does not precede it. -/
def insertBy {α : Type} (le : α → α → Bool) (a : α) : List α → List α
  | [] => [a]
  | b :: r => if le a b then a :: b :: r else b :: insertBy le a r

/-- Insertion sort (structural, stable for equal keys). -/
def sortBy {α : Type} (le : α → α → Bool) (l : List α) : List α :=
  l.foldr (insertBy le) []

/-- Write the element at a position of a list, if it is there. -/
def listSet {α : Type} (n : Nat) (v : α) : List α → List α
  | [] => []
  | a :: r => match n with
    | 0 => v :: r
    | n + 1 => a :: listSet n v r

/-- Saturating count in `w` bits. -/
def satAdd (w a b : Nat) : Nat := min (2 ^ w - 1) (a + b)

/-- Bits `hi..lo` of a word as a number. -/
def field (w : Word32) (hi lo : Nat) : Nat := (w.toNat / 2 ^ lo) % 2 ^ (hi - lo + 1)

/-- One bit of a word. -/
def bitOf (w : Word32) (i : Nat) : Bool := w.getLsbD i

/-- A number placed at bit `lo` of a word (cut to the field's width `n`). -/
def place (v n lo : Nat) : Word32 := BitVec.ofNat 32 ((v % 2 ^ n) * 2 ^ lo)

/-- A truth value placed at bit `lo` of a word. -/
def placeB (b : Bool) (lo : Nat) : Word32 := if b then BitVec.ofNat 32 (2 ^ lo) else 0#32

/-- The 32-bit word `k` (0 the lowest) of a number. -/
def word32 (v k : Nat) : Word32 := BitVec.ofNat 32 (v / 2 ^ (32 * k))

/-- Little-endian bytes of a number (R11). -/
def leBytes : Nat → Nat → List Byte
  | 0, _ => []
  | n + 1, v => BitVec.ofNat 8 v :: leBytes n (v / 256)

/-- The number a little-endian byte list spells (R11). -/
def leNat : List Byte → Nat
  | [] => 0
  | b :: r => b.toNat + 256 * leNat r

end Sys2Proof.Machine
end

