-- ==== Sys2Proof/Machine/Fp.lean ====
section
/-!
DEFINITION. Numbers in the formats of the part and their exact arithmetic: FP32, BF16, FP8 and integers, held as dyadic
rationals, and the one rounding to nearest even, with overflow judged after it (R593, R651, R653, R656, R796).
-/

namespace Sys2Proof.Machine

open Sys2Proof

/-- A floating-point format: exponent and mantissa bits, and whether the top exponent holds infinities (E4M3 has none). -/
structure FpFmt where
  eb : Nat
  mb : Nat
  inf : Bool
  deriving DecidableEq, Repr

def fp32 : FpFmt := ⟨8, 23, true⟩
def bf16 : FpFmt := ⟨8, 7, true⟩
def e5m2 : FpFmt := ⟨5, 2, true⟩
def e4m3 : FpFmt := ⟨4, 3, false⟩

/-- A value: a NaN, an infinity, or `m × 2^-k`. -/
inductive Fv where
  | nan
  | inf (neg : Bool)
  | fin (m : Int) (k : Nat)
  deriving DecidableEq, Repr

def FpFmt.bias (f : FpFmt) : Nat := 2 ^ (f.eb - 1) - 1
/-- The least subnormal is 2^-k0. -/
def FpFmt.k0 (f : FpFmt) : Nat := f.bias - 1 + f.mb
/-- Code of the largest finite magnitude. -/
def FpFmt.maxCode (f : FpFmt) : Nat := if f.inf then (2 ^ f.eb - 1) * 2 ^ f.mb - 1 else 2 ^ (f.eb + f.mb) - 2
def FpFmt.signBit (f : FpFmt) : Nat := 2 ^ (f.eb + f.mb)
/-- Code of +∞ (formats that have it). -/
def FpFmt.infCode (f : FpFmt) : Nat := (2 ^ f.eb - 1) * 2 ^ f.mb
/-- The canonical quiet NaN: 0x7FC0_0000, 0x7FC0, 0x7E, 0x7F (R593, R656). -/
def FpFmt.nanCode (f : FpFmt) : Nat := if f.inf then f.infCode + 2 ^ (f.mb - 1) else 2 ^ (f.eb + f.mb) - 1

/-- The value of a bit pattern. -/
def FpFmt.decode (f : FpFmt) (bits : Nat) : Fv :=
  let neg := bits / f.signBit % 2 == 1
  let e := bits / 2 ^ f.mb % 2 ^ f.eb
  let frac := bits % 2 ^ f.mb
  if f.inf && e == 2 ^ f.eb - 1 then (if frac = 0 then .inf neg else .nan)
  else if !f.inf && e == 2 ^ f.eb - 1 && frac == 2 ^ f.mb - 1 then .nan
  else
    let m : Nat := if e = 0 then frac else (2 ^ f.mb + frac) * 2 ^ (e - 1)
    .fin (if neg then -(m : Int) else m) f.k0

/-- A quotient rounded to the nearest integer, ties to even. -/
def divRound (num den : Nat) : Nat :=
  let q := num / den
  let r := num % den
  if den < 2 * r ∨ (2 * r = den ∧ q % 2 = 1) then q + 1 else q

/-- Floor of the base-2 logarithm of a positive quotient. -/
def log2Q (num den : Nat) : Int :=
  let d : Int := (Nat.log2 num : Int) - (Nat.log2 den : Int)
  -- 2^d × den ≤ num, or one less
  let ge := if 0 ≤ d then decide (den * 2 ^ d.toNat ≤ num) else decide (den ≤ num * 2 ^ (-d).toNat)
  if ge then d else d - 1

/-- A quotient times 2^s. -/
def scaleQ (num den : Nat) (s : Int) : Nat × Nat :=
  if 0 ≤ s then (num * 2 ^ s.toNat, den) else (num, den * 2 ^ (-s).toNat)

/-- R656: the code of a magnitude `num / den` rounded to nearest even as though the exponent range had no upper limit: it
lies beyond the largest finite value exactly if its code exceeds `maxCode`. -/
def FpFmt.roundMag (f : FpFmt) (num den : Nat) : Nat :=
  if num = 0 then 0
  else
    let qe : Int := max (log2Q num den - f.mb) (-(f.k0 : Int))
    let x := scaleQ num den (-qe)
    (qe + f.k0).toNat * 2 ^ f.mb + divRound x.1 x.2

/-- The code of a sign and a magnitude code, with the overflow rule of the format; the Bool says that it saturated or is
infinite. An exact zero is +0; a nonzero value that rounds to zero keeps its sign. -/
def FpFmt.finish (f : FpFmt) (neg : Bool) (mag : Nat) : Nat × Bool :=
  let s := if neg then f.signBit else 0
  if f.maxCode < mag then (s + (if f.inf then f.infCode else f.maxCode), true) else (s + mag, false)

/-- The single rounding of a value to a format. -/
def FpFmt.round (f : FpFmt) (v : Fv) : Nat × Bool :=
  match v with
  | .nan => (f.nanCode, true)
  | .inf neg => f.finish neg (f.maxCode + 1)
  | .fin m k => if m = 0 then (0, false) else f.finish (decide (m < 0)) (f.roundMag m.natAbs (2 ^ k))

/-- A quotient of integers rounded to a format. -/
def FpFmt.roundQ (f : FpFmt) (num : Int) (den : Nat) : Nat :=
  if num = 0 then 0 else (f.finish (decide (num < 0)) (f.roundMag num.natAbs den)).1

/-- Round a value to the nearest integer, ties to even, and saturate to `lo .. hi`; the Bool says it saturated. A NaN
gives 0 (R652, R656). -/
def roundInt (lo hi : Int) (v : Fv) : Int × Bool :=
  match v with
  | .nan => (0, true)
  | .inf neg => (if neg then lo else hi, true)
  | .fin m k =>
    let n := divRound m.natAbs (2 ^ k)
    let i : Int := if m < 0 then -(n : Int) else n
    if i < lo then (lo, true) else if hi < i then (hi, true) else (i, false)

/-! ### Exact operations -/

def Fv.ofInt (i : Int) : Fv := .fin i 0

def Fv.neg : Fv → Fv
  | .nan => .nan
  | .inf n => .inf (!n)
  | .fin m k => .fin (-m) k

/-- Exact sum; ∞ − ∞ is NaN. -/
def Fv.add : Fv → Fv → Fv
  | .nan, _ => .nan
  | _, .nan => .nan
  | .inf a, .inf b => if a == b then .inf a else .nan
  | .inf a, _ => .inf a
  | _, .inf b => .inf b
  | .fin m k, .fin n l => let c := max k l; .fin (m * 2 ^ (c - k) + n * 2 ^ (c - l)) c

/-- Exact product; ∞ × 0 is NaN (R656). -/
def Fv.mul : Fv → Fv → Fv
  | .nan, _ => .nan
  | _, .nan => .nan
  | .inf a, .inf b => .inf (a != b)
  | .inf a, .fin n _ => if n = 0 then .nan else .inf (a != decide (n < 0))
  | .fin m _, .inf b => if m = 0 then .nan else .inf (b != decide (m < 0))
  | .fin m k, .fin n l => .fin (m * n) (k + l)

/-- Exact sum of a list. -/
def Fv.sum (l : List Fv) : Fv := l.foldl Fv.add (.fin 0 0)

/-- `a < b` for values that are no NaN. -/
def Fv.lt : Fv → Fv → Bool
  | .inf a, .inf b => a && !b
  | .inf a, .fin _ _ => a
  | .fin _ _, .inf b => !b
  | .fin m k, .fin n l => let c := max k l; decide (m * 2 ^ (c - k) < n * 2 ^ (c - l))
  | _, _ => false

def Fv.max (a b : Fv) : Fv := if a.lt b then b else a
def Fv.min (a b : Fv) : Fv := if b.lt a then b else a

/-- A value times 2^-s. -/
def Fv.shift (s : Nat) : Fv → Fv
  | .fin m k => .fin m (k + s)
  | v => v

/-! ### Square roots (R651) -/

/-- The code of 1 / sqrt(num / den), correctly rounded to nearest even, for a positive quotient. -/
def FpFmt.rsqrt (f : FpFmt) (num den : Nat) : Nat :=
  -- y² = den / num
  let l := (log2Q den num) / 2
  let qe : Int := max (l - f.mb) (-(f.k0 : Int))
  let a := scaleQ den num (-2 * qe)
  let n0 := Nat.sqrt (a.1 / a.2)
  let odd := 2 * n0 + 1
  let up := decide (odd * odd * a.2 < 4 * a.1) || (decide (odd * odd * a.2 = 4 * a.1) && n0 % 2 == 1)
  (f.finish false ((qe + f.k0).toNat * 2 ^ f.mb + (if up then n0 + 1 else n0))).1

/-! ### The built-in tables of R653 -/

/-- Fraction bits of the evaluation of the built-in tables. -/
def tabBits : Nat := 512

/-- 1 / sqrt(2π) in units of 2^-512. -/
def invSqrt2Pi : Nat :=
  0x662114cf50d942343f2cf1402eae38bfd3829f30512706d8c0471b4802639d2e9df8ac55447d3db723f5d3abb374e88deb14277970be1513278e993445f08cff

/-- Σ (−1)^n x^(2n+1) / (2^n n! (2n+1)) from term `n` on, in units of 2^-512; `t` is x^(2n+1) / (2^n n!), `x2` is x². -/
def phiSeries : Nat → Nat → Int → Int → Int
  | 0, _, _, _ => 0
  | fuel + 1, n, t, x2 =>
    t / (2 * n + 1 : Nat) + phiSeries fuel (n + 1) (-(t * x2 / 2 ^ tabBits) / (2 * (n + 1) : Nat)) x2

/-- Φ(x) in units of 2^-512, x in the same units and |x| ≤ 16. -/
def stdNormal (x : Int) : Int :=
  (2 : Int) ^ (tabBits - 1) + phiSeries 700 0 x (x * x / 2 ^ tabBits) * (invSqrt2Pi : Int) / 2 ^ tabBits

/-- Σ y^n / n! from term `n` on, in units of 2^-512. -/
def expSeries : Nat → Nat → Int → Int → Int
  | 0, _, _, _ => 0
  | fuel + 1, n, t, y => t + expSeries fuel (n + 1) (t * y / 2 ^ tabBits / (n + 1 : Nat)) y

/-- Square in units of 2^-512, `n` times. -/
def squareN : Nat → Int → Int
  | 0, v => v
  | n + 1, v => squareN n (v * v / 2 ^ tabBits)

/-- e^-|x| in units of 2^-512. -/
def expNeg (x : Int) : Int := squareN 7 (expSeries 90 0 (2 ^ tabBits) (-(x.natAbs : Int) / 128))

/-- A finite value in units of 2^-512. -/
def toFixed (m : Int) (k : Nat) : Int := if k ≤ tabBits then m * 2 ^ (tabBits - k) else m / 2 ^ (k - tabBits)

/-- The GELU entry of a value: x × Φ(x) rounded to BF16; at −∞ the spec gives none, a free value. -/
def geluOf (neg : Bool) (v : Fv) : Nat :=
  match v with
  | .nan => bf16.nanCode
  | .inf false => bf16.infCode
  | .inf true => Config.tableAtNegInf 0
  | .fin m k =>
    if m = 0 then (if neg then bf16.signBit else 0)
    else
      let x := toFixed m k
      if 16 * 2 ^ tabBits ≤ x then (bf16.round v).1
      else if x ≤ -(16 * 2 ^ tabBits : Int) then bf16.signBit
      else (bf16.finish (decide (m < 0)) (bf16.roundMag (m * stdNormal x).natAbs (2 ^ (k + tabBits)))).1

/-- The SiLU entry of a value: x / (1 + e^−x) rounded to BF16. -/
def siluOf (neg : Bool) (v : Fv) : Nat :=
  match v with
  | .nan => bf16.nanCode
  | .inf false => bf16.infCode
  | .inf true => Config.tableAtNegInf 1
  | .fin m k =>
    if m = 0 then (if neg then bf16.signBit else 0)
    else
      let x := toFixed m k
      if 128 * 2 ^ tabBits ≤ x then (bf16.round v).1
      else if x ≤ -(128 * 2 ^ tabBits : Int) then bf16.signBit
      else
        let e := (expNeg x).toNat
        let num := if 0 < m then m.natAbs * 2 ^ tabBits else m.natAbs * e
        (bf16.finish (decide (m < 0)) (bf16.roundMag num ((2 ^ tabBits + e) * 2 ^ k))).1

end Sys2Proof.Machine
end

