-- ==== Sys2Proof/Machine/Crc.lean ====
section
/-!
DEFINITION. The two checks of *Table — Check parameters* (R398): reflected CRCs of 32 bits.
-/

namespace Sys2Proof.Machine

open Sys2Proof

/-- One bit of a reflected CRC with the bit-reversed polynomial `poly`. -/
def crcBit (poly c : Nat) : Nat := if c % 2 = 1 then (c / 2) ^^^ poly else c / 2

/-- One byte. -/
def crcByte (poly c : Nat) (b : Byte) : Nat :=
  crcBit poly (crcBit poly (crcBit poly (crcBit poly (crcBit poly (crcBit poly (crcBit poly (crcBit poly (c ^^^ b.toNat))))))))

/-- Initial value and final XOR are all ones. -/
def crc32With (poly : Nat) (l : List Byte) : Nat := (l.foldl (crcByte poly) 0xFFFFFFFF) ^^^ 0xFFFFFFFF

/-- Check A: 0x1EDC_6F41 in normal form. -/
def crcA (l : List Byte) : Nat := crc32With 0x82F63B78 l

/-- Check B: 0x741B_8CD7 in normal form. -/
def crcB (l : List Byte) : Nat := crc32With 0xEB31D82E l

end Sys2Proof.Machine
end

