-- ==== Sys2Proof/Machine/State.lean ====
section
/-!
DEFINITION. The state of the block as plain data, and the machine right after reset.
-/

namespace Sys2Proof.Machine

open Sys2Proof

/-! ## Outcomes that are no next state -/

/-- Why the block stops. No rule of the spec stops the block (FATAL, R875, is a state it goes on in), so there is no
constructor: no command faults. -/
inductive Fault : Type
  deriving DecidableEq, Repr

/-- Why a command has no meaning. -/
inductive Refusal : Type where
  /-- Raised by an arm of `exec` whose command has not its meaning yet (safe: the machine stops where the part goes
  on). -/
  | notModelled (mnemonic : String)
  deriving DecidableEq, Repr

/-! ## Units and their service states (ch. 20) -/

/-- The kinds of unit that have a service state, in the order QUAR_SEL.KIND codes them. -/
inductive UnitKind where
  | hport | fport | dram | shelf | lane | engine | press
  deriving DecidableEq, Repr

/-- R836: the service states, coded 0 to 4 in this order. -/
inductive SvcState where
  | inn | drain | out | quar | rejoin
  deriving DecidableEq, Repr

/-- One unit's service record (R836 to R858). -/
structure UnitSvc where
  st       : SvcState := .inn
  /-- A request accepted or a fault rule applied, waiting for step 5 of the next edge (R837). -/
  req      : Option Nat := none
  /-- QUAR_STAT.RESULT: 0 none, 1 running, 2 passed, 3 failed. -/
  result   : Nat := 0
  /-- QUAR_STAT.TEST. -/
  test     : Nat := 0
  /-- QUAR_STAT.TRIES, saturating at 255. -/
  tries    : Nat := 0
  /-- QUAR_STAT.SHADOW: reels counted under R844. -/
  shadow   : Nat := 0
  /-- Frame in which the quarantine began. -/
  since    : Nat := 0
  /-- Shadow strikes made in the reel in progress (R844). -/
  strikes  : Nat := 0
  /-- Every shadow strike of the reel agreed so far. -/
  agree    : Bool := true
  /-- The whole reel in progress has been spent in REJOIN so far. -/
  whole    : Bool := false
  /-- A failed shadow strike, or a fault in QUAR or REJOIN, waits for the next edge (R845, R851): the reason code. -/
  fail     : Option Nat := none
  /-- Faults counted in the reel in progress (R454, R607, R240 and the like). -/
  faults   : Nat := 0
  deriving DecidableEq, Repr

/-! ## Outputs (log entry 4): what the block sends out, oldest first -/

/-- What the block sends to a host, a peer, a pin or its management channels. -/
inductive Output where
  /-- S2M no-data response: port, tag, kind (0 Cmp, 4 BIConflictAck), grant (0 none, 1 S, 2 M), DevLoad. -/
  | ndr (port tag kind grant devload : Nat)
  /-- S2M data response: port, tag, the line, poison, grant, DevLoad. -/
  | drs (port tag : Nat) (data : List Byte) (poison : Bool) (grant devload : Nat)
  /-- A back-invalidate snoop: port, identity, line DPA, 0 BISnpInv, 1 BISnpData, 2 BISnpCur. -/
  | bisnp (port hid line kind : Nat)
  /-- A host-memory read sent for a cue: port, address, length, tag. -/
  | hostRead (port addr len tag : Nat)
  /-- A host-memory write: port, address, bytes, poisoned. -/
  | hostWrite (port addr : Nat) (data : List Byte) (poison : Bool)
  /-- An interrupt message: function key, vector. -/
  | msi (fn vec : Nat)
  /-- INTA level of a function. -/
  | inta (fn : Nat) (level : Bool)
  /-- PM_PME message of a function. -/
  | pmPme (fn : Nat)
  /-- A PME_TO_Ack message of a port. -/
  | pmeToAck (port : Nat)
  /-- A mailbox answer: function (its key plus 1; 0 the management function), return code, the values it reports. -/
  | mbox (fn code : Nat) (data : List Nat)
  /-- A fabric-manager answer: return code, the values it reports. -/
  | fm (code : Nat) (data : List Nat)
  /-- An MCTP, MGMT or window register answer: source code, value. -/
  | mgmtAnswer (src tag : Nat) (value : BitVec 32)
  /-- An answer that a message got the BUSY status (R260). -/
  | mgmtBusy (src tag : Nat)
  /-- An MCTP control or SPDM answer: code and values. -/
  | mctp (code : Nat) (data : List Nat)
  /-- An SPDM answer: transport (0 MCTP, 1 the management function's DOE, 2 + k the DOE of function k), request, accepted. -/
  | spdm (via req : Nat) (ok : Bool)
  /-- A fabric bundle sent on a port (again, for a retransmission). -/
  | bundle (port : Nat) (b : Bundle)
  /-- An add-capacity or forced-release event to a function's host: function key, 0 add 1 release 2 forced, base, count, tag. -/
  | dcEvent (fn kind base count tag : Nat)
  /-- An edge pulse of FRAME_OUT: width in ns (R64). -/
  | frameOut (width : Nat)
  /-- WAKE# of a port driven low (true) or released. -/
  | wake (port : Nat) (low : Bool)
  /-- A pin of R985: number (0 FATAL#, 1 THERM_ALERT#), asserted. -/
  | pin (which : Nat) (on : Bool)
  /-- A TDO value of the TAP: register read out. -/
  | tdo (value : Nat)
  /-- A link power or width action of a host port: port, kind, value. -/
  | linkAct (port kind value : Nat)
  deriving DecidableEq, Repr

/-! ## Register pages (ch. 22) -/

/-- The part of one page's common header that changes (R889 to R895, R908, R915). -/
structure PageHdr where
  stat  : Word32 := 0#32
  ena   : Word32 := 0#32
  /-- EVT_FIRST while VALID. -/
  first : Option Nat := none
  /-- EVT_FIRST was set in the frame in progress (R893: the lowest bit of that frame wins). -/
  firstNow : Bool := false
  /-- Bits set in the frame in progress (R914: a clear in the same frame leaves them set). -/
  now   : Word32 := 0#32
  /-- Frame of the last setting (R894). -/
  stamp : Nat := 0
  /-- CLOG_SEQ (R895). -/
  seq   : Nat := 0
  /-- Vector-map entry in force; none is the reset entry VEC = page + 2, EN 1 (R919). -/
  vmap  : Option (Nat × Bool) := none
  /-- Vector-map entry last written, taking effect at the next edge (R915). -/
  vmapNext : Option (Nat × Bool) := none
  deriving DecidableEq, Repr

/-- A register access waiting in a source queue of the management path (R260). -/
structure MgmtAcc where
  src   : Nat
  write : Bool
  ofs   : Nat
  val   : Word32
  /-- What an answer carries back: a relayed access's node and tag. -/
  tag   : Nat := 0
  deriving DecidableEq, Repr

/-- The management path, the window and the lease (ch. 05). -/
structure MgmtS where
  /-- Accesses served in the frame in progress, of a take of 64. -/
  used  : Nat := 0
  /-- Accesses waiting, per source code. -/
  queue : Map (List MgmtAcc) := []
  /-- Accesses held before a full queue: the window's link ingress and the relay's channel buffers. -/
  held  : List MgmtAcc := []
  /-- Source after the one served last (rotation of R260). -/
  turn  : Nat := 0
  /-- WIN_CTL: MODE and BASE. -/
  winMode : Bool := false
  winBase : Nat := 0
  /-- WIN_LEASE.OWNER: 0 free. -/
  lease : Nat := 0
  /-- Frames since the holder's last access (R266). -/
  idle  : Nat := 0
  /-- Latched high words, per source and offset (R901), and window captures (R904). -/
  latch : Map (Option Word32) := []
  /-- MGMT_LAST: offset and source of the last bad access. -/
  lastOfs : Nat := 0
  lastSrc : Nat := 0
  deriving DecidableEq, Repr

/-! ## The continuity log (ch. 21) -/

/-- One log entry (R865). -/
structure LogEntry where
  seq    : Nat
  event  : Nat
  sev    : Nat
  tenant : Option Nat
  frame  : Nat
  page   : Nat
  addr   : Nat
  detail : Nat
  deriving DecidableEq, Repr

/-- The log, its rings and the poison list. -/
structure LogS where
  /-- The sequence number the next entry takes (R867). -/
  next    : Nat := 1
  /-- Uncopied entries, oldest first (at most 256, R870). -/
  onchip  : List LogEntry := []
  /-- Entries in the reserve ring, oldest first (at most 1,048,576, R871). -/
  ring    : List LogEntry := []
  /-- Sequence numbers whose entry is lost (R883, R884). -/
  damaged : List Nat := []
  /-- Drops not yet reported by LOG_OVERFLOW (R870). -/
  dropped : Nat := 0
  /-- Entries (event, page, address) logged in the reel in progress (R872). -/
  seen    : List (Nat × Nat × Nat) := []
  /-- Lines of the poison list, oldest first (R864). -/
  plist   : List Nat := []
  plistOvf : Bool := false
  /-- R875 in force. -/
  fatal   : Bool := false
  /-- A FATAL entry was logged since the last edge. -/
  fatalNew : Bool := false
  /-- CXL event records: log (0 info, 1 warning, 2 failure, 3 fatal) and entry, oldest first (R874). -/
  records : List (Nat × LogEntry) := []
  /-- Post-mortem area of the SPI NOR (R876): survives a reset. -/
  post    : Option (List LogEntry) := none
  /-- The copy of the entry selected by RD_SEQ is made at the read of RD_DATA0 (R881); this is the selection. -/
  rdSeq   : Nat := 0
  /-- Log entries kept in the reel in progress (dailies). -/
  reelKept : Nat := 0
  deriving DecidableEq, Repr

/-! ## The frame and the reel (ch. 01) -/

/-- FRAME.SYNC_STAT.STATE. -/
inductive SyncState where
  | free | acquire | locked | coast | lost
  deriving DecidableEq, Repr

/-- A marker as a follower holds it. -/
structure MarkerRec where
  port  : Nat
  hops  : Nat
  epoch : Nat
  node  : Nat
  /-- Offset in units of 0.125 ns. -/
  ofs   : Int
  deriving DecidableEq, Repr

/-- Frame number and frame sync. -/
structure FrameS where
  num     : Nat := 0
  sync    : SyncState := .free
  /-- integ of R52, in units of 1/512 ns. -/
  integ   : Int := 0
  /-- Slew still to apply in the reel in progress, in units of 1/512 ns. -/
  slew    : Int := 0
  /-- Phase moved since reset, in units of 1/512 ns. -/
  phase   : Int := 0
  /-- Last offset, in units of 0.125 ns. -/
  ofs     : Int := 0
  /-- Marker accepted in the reel in progress from the selected source. -/
  mark    : Option MarkerRec := none
  /-- Marker deliveries of the reel in progress and of the last reel: port, hops. -/
  heard   : List (Nat × Nat) := []
  heardLast : List (Nat × Nat) := []
  hops    : Nat := 0
  /-- Epoch of the last accepted marker; none before the first. -/
  epoch   : Option Nat := none
  clockNode : Nat := 0
  srcAct  : Nat := 0
  /-- Consecutive reels with |offset| ≤ 20 ns. -/
  good    : Nat := 0
  /-- Consecutive reels with |offset| > 100 ns. -/
  bad     : Nat := 0
  /-- Consecutive reels without a valid marker. -/
  silent  : Nat := 0
  /-- Re-seat requested (SYNC_CTL.RESEAT), and the pool frame number and phase held ready for it (R59). -/
  reseat  : Bool := false
  reseatTo : Option (Nat × Int) := none
  /-- The edge in progress ends a re-seat: no new work in this frame (R59). -/
  reseatNow : Bool := false
  /-- A host port has admitted a CXL.mem request since reset (R58). -/
  hostSeen : Bool := false
  /-- The first valid marker has set number and phase (R58, R65). -/
  joined  : Bool := false
  pll     : Bool := true
  /-- A frame edge has been marked since reset (R980). -/
  started : Bool := false
  /-- LOCKED or COAST throughout the reel in progress (dailies SYNC). -/
  inSyncReel : Bool := true
  deriving DecidableEq, Repr

/-- The slate and the takes. -/
structure SlateS where
  /-- Owner codes that differ from the reset slate: key (row × 16 + group) × 16 + slot. -/
  act     : Map (BitVec 8) := []
  shadow  : Map (BitVec 8) := []
  bank    : Bool := false
  pend    : Bool := false
  err     : Bool := false
  errRow  : Nat := 0
  errGroup : Nat := 0
  wrDrop  : Bool := false
  /-- Work charged in the frame in progress, per unit, take and owner (`useKey`). -/
  used    : Map Nat := []
  /-- Work begun and not finished, in charge units, per unit, take and owner (R38). -/
  carry   : Map Nat := []
  /-- Owners whose frame in progress is a dropped frame on a unit (R42): unit and owner keys with the work left. -/
  ovr     : Map Nat := []
  /-- Work that will still run at the next edge (R41): it makes the next frame a dropped frame. -/
  ovrNext : Map Nat := []
  /-- Dropped frames per unit in the reel in progress (R76). -/
  reelDrops : Map Nat := []
  /-- OVR_TOTAL. -/
  dropTotal : Nat := 0
  deriving DecidableEq, Repr

/-- Counts of the reel in progress for the dailies record (R910). -/
structure DailyAcc where
  dropped : Nat := 0
  hostRd  : Nat := 0
  hostWr  : Nat := 0
  dram    : Nat := 0
  shelfB  : Nat := 0
  folds   : Nat := 0
  unfolds : Nat := 0
  strikes : Nat := 0
  cut     : Nat := 0
  fabB    : Nat := 0
  misses  : Nat := 0
  void    : Bool := false
  throttled : Bool := false
  deriving DecidableEq, Repr

/-- The dailies ring: reel number and the 64 bytes, newest last (R910 to R912). -/
structure DailyS where
  acc  : DailyAcc := {}
  ring : List (Nat × List Byte) := []
  /-- Reels whose record fails its ECC or CHECK (R911). -/
  bad  : List Nat := []
  sel  : Nat := 0
  /-- DAILY_STAT: 2 NOT_YET until a selection is written. -/
  stat : Nat := 2
  deriving DecidableEq, Repr

/-! ## One range, three tiers (ch. 02) -/

/-- R92: page states, coded 0 to 7 in this order. -/
inductive PageState where
  | zero | opened | folded | shelved | folding | unfolding | shelving | fetching
  deriving DecidableEq, Repr

/-- A folded page's stored form (ch. 08): the bytes of header, code area and trailer, or the raw page. -/
structure Stored where
  raw   : Bool
  /-- Pattern slot named by the form (0 for RAW). -/
  pat   : Nat
  bytes : List Byte
  /-- Poison mask, bit i for line i. -/
  mask  : Nat
  /-- Slips held (16 for RAW, 17 with a mask). -/
  slips : Nat
  deriving DecidableEq, Repr

/-- The kinds of M2S request. -/
inductive ReqKind where
  | rd | rdData | inv | wr | wrPtl
  deriving DecidableEq, Repr

/-- One host request, from its receipt to its response (ch. 04, 06, 07). -/
structure Req where
  m      : MemReq
  kind   : ReqKind
  /-- Identity, tenant and class once matched (R137). -/
  hid    : Nat
  tenant : Nat
  cls    : Nat
  /-- Frame of receipt. -/
  since  : Nat
  /-- Where it sits in the hub request queue: 0 not admitted, 1 guaranteed, 2 common, 3 reserved (R357, R358); 4 the
  write-back sink (R820). -/
  place  : Nat := 0
  /-- Tier of its page at lookup: 0 open, 1 folded, 2 shelved (R348). -/
  tier   : Nat := 0
  /-- Grant its response gives: 0 none, 1 S, 2 M. -/
  grant  : Nat := 0
  deriving DecidableEq, Repr

/-- Who a line access is for, and so what answers it. -/
inductive Who where
  | host (r : Req)
  /-- Line of a request served for a peer: job number, line. -/
  | peer (job line : Nat)
  /-- Device-side work (a cue, a press, a lay, a collective): its buffer key, the line, and the tenant and class it is
  regulated as. The read line, or the acknowledgement of the write, goes to the buffer of the key. -/
  | dev (key line tenant cls : Nat)
  /-- An internal access: nothing is sent. -/
  | internal
  deriving DecidableEq, Repr

/-- A line write held for a page that is not OPEN (R101). `be` has bit i set for byte i written. -/
structure LineWrite where
  line   : Nat
  data   : List Byte
  be     : Nat
  poison : Bool
  env    : ReadEnv
  who    : Who
  deriving DecidableEq, Repr

/-- A line read waiting for the decode of its page (R98 to R100). -/
structure LineRead where
  line : Nat
  who  : Who
  deriving DecidableEq, Repr

/-- What the last piece of a page's move delivered, committed or abandoned at the next step 2 (R71, R93). -/
inductive PageDone where
  /-- A fold's output. -/
  | foldOut (f : Stored)
  /-- A decode's 4,096 bytes and poison mask. -/
  | decoded (bytes : List Byte) (mask : Nat)
  | progOk
  | progFail
  | laneFault
  deriving DecidableEq, Repr

/-- One page of a bound, locally backed granule, when it is not a ZERO page at rest. -/
structure PageRec where
  st      : PageState := .zero
  age     : Nat := 0
  /-- Accessed since the last edge (transitions 5 and 10). -/
  touched : Bool := false
  stored  : Option Stored := none
  done    : Option PageDone := none
  /-- Sealed spill: SHELVING from an open frame and staging (transition 4). -/
  spill   : Bool := false
  /-- A host request or a cue waits for the page to be OPEN. -/
  want    : Bool := false
  /-- A read asked for its promotion and room granted an open frame without an eviction (R98, R99): transition 6 or 11
  follows at the next step 2. -/
  lift    : Bool := false
  held    : List LineWrite := []
  reads   : List LineRead := []
  /-- DRAM channels of its open frame and of its slips (R498). -/
  frameCh : Option Nat := none
  slipCh  : Option Nat := none
  /-- Release pending (transition 13, R94). -/
  release : Bool := false
  /-- Pinned by an active collective (R112). -/
  pins    : Nat := 0
  /-- Refold mark of its pattern promotes it (R473). -/
  refold  : Bool := false
  /-- The stored form with a damaged check rewritten, due at the next step 2 (R406). -/
  fix     : Option Stored := none
  /-- The lane that faulted under its last fold (R131). -/
  excl    : Option Nat := none
  deriving DecidableEq, Repr

/-- CALL_STAT.STATE. -/
inductive CallState where
  | pending | met | missed | inGrace
  deriving DecidableEq, Repr

/-- One active call sheet (R116 to R122). -/
structure Call where
  tenant   : Nat
  /-- The function that submitted the CALL cue (R254). -/
  fn       : Nat := 0
  callId   : Nat
  deadline : Nat
  /-- Covered ranges: first page number and pages, in entry order. -/
  ranges   : List (Nat × Nat)
  st       : CallState := .pending
  /-- Frame of the edge it is judged at (R121, R122), and of the edge at which its pages leave on call (R119). -/
  evalAt   : Nat := 0
  endAt    : Nat := 0
  /-- It has been judged, and its pages have left on call. -/
  judged   : Bool := false
  released : Bool := false
  /-- Order of acceptance. -/
  serial   : Nat
  deriving DecidableEq, Repr

/-- A call sheet the tier manager has taken and will accept or reject at the next step 2 (R119): the cue, its tenant and
function, the frame it was taken in, and the sheet's bytes. -/
structure CallTaken where
  cue    : Nat
  tenant : Nat
  fn     : Nat
  since  : Nat
  bytes  : List Byte
  deriving DecidableEq, Repr

structure TierS where
  pages  : Map PageRec := []
  calls  : List (Nat × Call) := []
  taken  : List CallTaken := []
  serial : Nat := 0
  /-- Sheets whose descriptor is lost, with the DRAM channels of the units it located, unusable until the region is
  unbound (R134). -/
  lost   : List (Nat × List Nat) := []
  /-- Frames each tenant's allocation has waited without a victim: key tenant × 2 + (1 for folded room). -/
  waits  : Map Nat := []
  /-- Waits whose expiry has been reported (R115). -/
  expired : List Nat := []
  /-- OVF_FREE was below the low watermark at the last edge. -/
  ovfLow : Bool := false
  /-- Background eviction is refilling OVF_FREE to HIGH (R114). -/
  refill : Bool := false
  /-- Shared floors are scaled down (R129). -/
  scaled : Bool := false
  /-- Held writes and attached reads of released pages, to be completed normally (R127). -/
  orphanW : List LineWrite := []
  orphanR : List LineRead := []
  deriving DecidableEq, Repr

/-! ## Tenants, identities and sealing (ch. 03) -/

/-- R137: one host identity entry; LOST and RELEASING are its read-only bits. -/
structure Identity where
  valid     : Bool := false
  port      : Nat := 0
  mode      : Nat := 0
  src       : Nat := 0
  tenant    : Nat := 0
  cls       : Nat := 0
  releasing : Bool := false
  /-- 0 not lost, 1 DEADLINE, 2 HOLD (ch. 06). -/
  lost      : Nat := 0
  /-- Generation of its grants, 4 bits (R310). -/
  gen       : Nat := 0
  /-- A generation advance waits for retirements (R332). -/
  genWait   : Bool := false
  /-- Earlier generations not yet retired, with the sweep pass that retires each. -/
  old       : List (Nat × Nat) := []
  /-- Bulk clear in progress since this frame (R327). -/
  clearing  : Option Nat := none
  /-- The entry has been valid and was invalidated: its rewrite advances the generation (R330). -/
  former    : Bool := false
  /-- LOST_CTL.CLEAR waits for the next edge. -/
  clearReq  : Bool := false
  deriving DecidableEq, Repr

/-- R142: one range table entry. -/
structure Range where
  valid     : Bool := false
  kind      : Nat := 0
  remote    : Bool := false
  owner     : Nat := 0
  node      : Nat := 0
  base      : Nat := 0
  size      : Nat := 0
  /-- Bit t: tenant t is a sharer. -/
  sharers   : Nat := 0
  unbinding : Bool := false
  /-- Failed its storage check (R185). -/
  fault     : Bool := false
  deriving DecidableEq, Repr

/-- Commands on the identity, range and key tables waiting for step 2, in the order received (R177). -/
inductive TableCmd where
  | hidWrite (idx : Nat) (lo hi : Word32)
  | hidInval (idx : Nat)
  | hidFault (idx : Nat)
  | rgnBind (idx : Nat) (words : List Word32)
  | rgnUnbind (idx : Nat)
  | rgnShare (idx : Nat) (sharers : Nat)
  | rotate (tenant : Nat)
  | deliver (tenant key : Nat)
  deriving DecidableEq, Repr

/-- One tenant. -/
structure Tenant where
  sealed    : Bool := false
  reqSeal   : Bool := false
  reqUnseal : Bool := false
  /-- SEAL_CTL.ERR. -/
  err       : Nat := 0
  /-- SEAL_CTL.VOID, bits 0 to 4. -/
  void      : Nat := 0
  /-- A delivered key; none is an internally generated key, which nothing returns. -/
  key       : Option Nat := none
  keyFault  : Bool := false
  keyGen    : Nat := 1
  keyBusy   : Bool := false
  /-- Floors in effect, in MiB (R111). -/
  ofEff     : Nat := 0
  ffEff     : Nat := 0
  /-- Directory blocks of a sealed tenant (ch. 06): assigned, and draining until empty. -/
  dirBlocks : List Nat := []
  dirDrain  : Bool := false
  /-- Token bucket level in 1/16 line and whether it is enabled (R363). -/
  level     : Nat := 0
  bktOn     : Bool := false
  bktRate   : Nat := 0
  bktDepth  : Nat := 0
  /-- Bucket registers as written, in effect at step 6 (R366). -/
  bktNext   : Option (Nat × Bool × Nat) := none
  /-- Target register as written, in effect at step 6 (R373). -/
  tgt       : Word32 := 0#32
  tgtNext   : Option Word32 := none
  /-- GSTAT. -/
  missed    : Bool := false
  within    : Bool := false
  waited    : Bool := false
  waitedNow : Bool := false
  /-- A request found its guaranteed placement full in the reel in progress (R370). -/
  fullNow   : Bool := false
  /-- Latency samples of the reel in progress and of the last reel: 64 bins, N and X (R368). -/
  hist      : List Nat := []
  histN     : Nat := 0
  histX     : Nat := 0
  lastHist  : List Nat := []
  lastN     : Nat := 0
  lastX     : Nat := 0
  /-- Fold pattern selection register (ch. 09). -/
  foldPat   : Word32 := 0#32
  deriving DecidableEq, Repr

structure TablesS where
  ids      : Map Identity := []
  ranges   : Map Range := []
  cmds     : List TableCmd := []
  /-- Identities ended at the step 2 in progress: the cues of their functions are cancelled (R285). -/
  ended    : List Nat := []
  /-- Causes of R174 seen in the reel in progress, per sealed tenant (bits as in SEAL_CTL.VOID). -/
  voidSeen : Map Nat := []
  hidBusy  : Bool := false
  hidStat  : Nat := 0
  rgnBusy  : Bool := false
  rgnStat  : Nat := 0
  /-- The generator's last health test failed (R187, R936). -/
  rngBad   : Bool := false
  /-- Debug unlocked since reset (R172, R934). -/
  debug    : Bool := false
  deriving DecidableEq, Repr

/-! ## Host ports (ch. 04) -/

/-- HOLD.STATE. -/
inductive HoldState where
  | run | freeze | held | releasing
  deriving DecidableEq, Repr

/-- One link of a host port. -/
structure HLink where
  up    : Bool := false
  /-- 0 none, 1 PCIe only, 2 CXL. -/
  proto : Nat := 0
  /-- 0 none, 1 68-byte, 2 256-byte. -/
  flit  : Nat := 0
  rate  : Nat := 0
  width : Nat := 0
  deriving DecidableEq, Repr

/-- One Dynamic Capacity extent held by an identity's LD (R203 to R208). -/
structure Extent where
  hid    : Nat
  rgn    : Nat
  base   : Nat
  count  : Nat
  tag    : Nat
  /-- Offered and not yet accepted by the host (Add DC Response). -/
  offered : Bool := false
  deriving DecidableEq, Repr

/-- One host port. -/
structure HPort where
  bifurc  : Bool := false
  link0   : HLink := {}
  link1   : HLink := {}
  retrain : Bool := false
  hold    : HoldState := .run
  cause   : Nat := 0
  /-- Entered FREEZE since the last edge: R225 runs at the next step 2. -/
  frozen  : Bool := false
  /-- A RELEASE waits for the next edge (R227). -/
  release : Bool := false
  /-- HOLD causes in the reel in progress (R240). -/
  reelCauses : Nat := 0
  /-- Requests received and not admitted, oldest first: the ingress and the bypass buffer (R210, R365). -/
  waiting : List Req := []
  tagsUsed : Nat := 0
  tagPeak : Nat := 0
  viralHost : Bool := false
  viralTx : Bool := false
  viralRx : Bool := false
  ideIo   : Bool := false
  ideSel  : Nat := 0
  ideMem  : Bool := false
  ideFail : Bool := false
  /-- Key set in use, flipped by a refresh (R220). -/
  ideKey  : Nat := 0
  /-- Configuration ready of the port's functions (R295). -/
  cfgReady : Bool := false
  /-- PERST# level: true while asserted. -/
  perst   : Bool := true
  /-- PWR_STAT.LSTATE: 0 L0, 2 L1, 3 L1.1, 4 L1.2, 5 L2, 6 down (1, L0p, is shown while `l0p` is not 0). -/
  lstate  : Nat := 0
  /-- Narrowed width while L0p is in force, coded as LINK_CTL.WIDTH_MAX plus 1; 0 none. -/
  l0p     : Nat := 0
  quiesced : Bool := false
  /-- PME_Turn_Off received and not yet answered, with its frame (R273). -/
  turnOff : Option Nat := none
  d3cold  : Bool := false
  wakeLow : Bool := false
  /-- Frames since the last traffic (R276). -/
  idle    : Nat := 0
  /-- Line transfers of the reel in progress, for L0p (R278), and backlog seen. -/
  reelUse : Nat := 0
  /-- S2M credits held back: responses waiting, oldest first, and frames the credits have been exhausted (R825). -/
  s2mNdr  : Nat := 0
  s2mDrs  : Nat := 0
  respQ   : List Output := []
  wedge   : Nat := 0
  /-- Load index per tenant for this frame (R371). -/
  load    : Map Nat := []
  /-- A cause stands at the link: the causes of the reel in progress have been advised (R240). -/
  advised : Bool := false
  deriving DecidableEq, Repr

/-! ## The directory (ch. 06) -/

/-- One directory entry (R309). -/
structure DirEnt where
  valid  : Bool := false
  set    : Nat := 0
  way    : Nat := 0
  coarse : Bool := false
  m      : Bool := false
  resv   : Bool := false
  owner  : Nat := 0
  /-- Exact slots, lowest first: identity and generation. -/
  slots  : List (Nat × Nat) := []
  groups : Nat := 0
  /-- Serial of the last use (least recently used, R318). -/
  used   : Nat := 0
  deriving DecidableEq, Repr

/-- A back-invalidate snoop of a recall in progress. -/
structure Snoop where
  hid    : Nat
  /-- 0 BISnpInv, 1 BISnpData, 2 BISnpCur. -/
  kind   : Nat
  /-- Frame in which it was handed to the port; none while it waits for the issue take (R321). -/
  sent   : Option Nat := none
  hadM   : Bool := false
  /-- The write-back of a modified line has arrived (R322). -/
  wb     : Bool := false
  /-- A BIRsp said the line was modified and its write-back is awaited. -/
  needWb : Bool := false
  /-- A fitting BIRsp has arrived. -/
  resp   : Bool := false
  deriving DecidableEq, Repr

/-- A recall sent to a peer node (R751). -/
structure PeerSnoop where
  peer   : Nat
  /-- 0 Cur, 1 Data, 2 Inv. -/
  kind   : Nat
  sent   : Nat
  deriving DecidableEq, Repr

/-- What a transaction on a line is for (R307). -/
inductive TransFor where
  | req (r : Req)
  /-- A request served for a peer: its job. -/
  | peer (job : Nat)
  /-- A recall asked for by the backing node (R751, R760): its kind, and how to answer: port, backing node, tag. -/
  | recall (kind port node tag sten : Nat)
  /-- A device-side read or write (R305). -/
  | device (write : Bool)
  /-- An eviction, release or repair: every grant is recalled and the entry freed. -/
  | free
  /-- A recall of some identities' grants only: those of removed tenants (R146), bit t for tenant t; those of a draining host
  port (R846), bit 128 + p for port p. -/
  | unshare (tenants : Nat)
  deriving DecidableEq, Repr

/-- How far a transaction has come. -/
inductive TPhase where
  | start | recall | ready | serving | done
  deriving DecidableEq, Repr

/-- A transaction in progress on one line, and those that wait behind it in order. -/
structure Trans where
  what    : TransFor
  phase   : TPhase := .start
  /-- Waits for the recall tracker, a way of its set or an identity's answer elsewhere. -/
  blocked : Bool := false
  snoops  : List Snoop := []
  peers   : List PeerSnoop := []
  /-- Data written back under the recall of a backing node, and that the line was modified. -/
  wbData  : Option (List Byte) := none
  wait    : List TransFor := []
  deriving DecidableEq, Repr

structure DirS where
  ents   : Map DirEnt := []
  /-- Transactions in progress, by line; none where there is none. -/
  trans  : Map (Option Trans) := []
  /-- Snoops queued for the issue take, in order: line key and identity (R321). -/
  issue  : List (Nat × Nat) := []
  clock  : Nat := 0
  peak   : Nat := 0
  /-- Entry number the sweep is at, and completed passes. -/
  pos    : Nat := 0
  passes : Nat := 0
  deriving DecidableEq, Repr

/-! ## Regulation (ch. 07) -/

/-- One class: its registers in force and as last written, its estimate and its samples. -/
structure ClassS where
  lat    : Nat := 0
  pctl   : Nat := 0
  tiers  : Nat := 0
  guar   : Nat := 0
  max    : Nat := 0
  ways   : Nat := 0
  cap    : Nat := 0
  lane   : Nat := 0
  weight : Nat := 0
  start  : Nat := 8
  deriving DecidableEq, Repr

structure ClassRun where
  /-- E_c with 32 fraction bits (log entry 21). -/
  e      : Nat := 0
  step   : Nat := 0
  occ    : Nat := 0
  occCommon : Nat := 0
  ent    : Nat := 0
  /-- Measured latencies of the frame in progress: sum in ns and count. -/
  sum    : Nat := 0
  cnt    : Nat := 0
  /-- Frames of receipt of the measured requests outstanding. -/
  outst  : List Nat := []
  hist   : List Nat := []
  n      : Nat := 0
  x      : Nat := 0
  lastHist : List Nat := []
  lastN  : Nat := 0
  lastX  : Nat := 0
  /-- Held step 7 in every frame of the reel so far (R383). -/
  top    : Bool := true
  /-- A storage check failed: the reel is not checked (R382). -/
  skip   : Bool := false
  /-- Front-cache lines charged (R360). -/
  fcLines : Nat := 0
  /-- Lane cycles granted in the frame (R353). -/
  laneUsed : Nat := 0
  deriving DecidableEq, Repr

structure RglS where
  /-- Class registers in force, as differences from the reset table. -/
  cls    : Map ClassS := []
  /-- Class registers as last written, taking effect at the next step 6 (R373). -/
  next   : Map ClassS := []
  run    : Map ClassRun := []
  common : Nat := 0
  /-- Entries in use of the common pool, and per sealed tenant of its reserved entries. -/
  commonUsed : Nat := 0
  resUsed : Map Nat := []
  /-- A share changed since the last division (R355). -/
  dirty  : Bool := true
  deriving DecidableEq, Repr

/-! ## Host functions (ch. 05) -/

/-- Power state of a function (R271). -/
inductive PmState where
  | d0uninit | d0 | d3hot
  deriving DecidableEq, Repr

/-- One PCIe function: the interrupt, power and mailbox state of ch. 05. -/
structure Fn where
  pm      : PmState := .d0uninit
  pmeEn   : Bool := false
  pmeStat : Bool := false
  msixEn  : Bool := false
  msiEn   : Bool := false
  /-- MSI messages enabled (a power of two; vectors fold onto them). -/
  msiN    : Nat := 1
  /-- Interrupt Disable bit of the Command register: 1 blocks INTA. -/
  intDis  : Bool := true
  busMaster : Bool := false
  memSpace : Bool := false
  romEn   : Bool := false
  /-- Vectors whose mask bit is 0 (every vector is masked at reset). -/
  unmasked : List Nat := []
  /-- Vectors with their pending bit set. -/
  pending : List Nat := []
  /-- Vectors that got a cause in the frame in progress: their message is due in the next frame (R270). -/
  now     : List Nat := []
  intaOn  : Bool := false
  /-- INT_STAT, INT_ENA and INT_MAP of a tenant function; causes set in the frame in progress. -/
  stat    : Word32 := 0#32
  ena     : Word32 := 0#32
  map     : Map Nat := []
  seen    : Word32 := 0#32
  /-- Mailbox: event interrupt policy, timestamp set and the frame it was set in. -/
  policy  : Nat := 0
  tstamp  : Nat := 0
  tstampAt : Nat := 0
  /-- Event records cleared up to this count, per log. -/
  cleared : List Nat := [0, 0, 0, 0]
  /-- CXL DC event records of the function: kind (0 add, 1 release, 2 forced), base, count, tag. -/
  dcRecs  : List (Nat × Nat × Nat × Nat) := []
  /-- A data object in flight in the DOE mailbox (R293). -/
  doe     : Bool := false
  deriving DecidableEq, Repr

/-- The mailbox's one background command: function, opcode, target slot or line (R250). -/
structure Background where
  fn     : Nat
  opcode : Nat
  arg    : Nat
  result : Nat
  deriving DecidableEq, Repr

/-- SPDM on one transport: the responder's progress and its session. -/
structure Spdm where
  /-- 0 none, 1 version, 2 capabilities, 3 algorithms negotiated. -/
  stage    : Nat := 0
  /-- KEY_EXCHANGE done, FINISH awaited; with requester authentication. -/
  opening  : Bool := false
  session  : Bool := false
  mutualAuth : Bool := false
  /-- Flipped by KEY_UPDATE. -/
  keyGen   : Nat := 0
  deriving DecidableEq, Repr

/-- MCTP endpoint, and SPDM per transport (0 MCTP, 1 the management function's DOE, 2 + k the DOE of function k). -/
structure MctpS where
  eid      : Nat := 0
  spdm     : Map Spdm := []
  /-- Tags to which the fabric manager has added an extent reference (R223). -/
  refs     : List Nat := []
  deriving DecidableEq, Repr


/-! ## The Filalnis fabric (ch. 17) -/

/-- A bundle waiting to be sent: its owner code. -/
structure Queued where
  owner : Nat
  b     : Bundle
  deriving DecidableEq, Repr

/-- One fabric port. -/
structure FPort where
  /-- 0 DOWN, 1 TRAINING, 2 LINK, 3 ACTIVE. -/
  link   : Nat := 0
  secure : Bool := false
  peerNode : Nat := 0
  /-- LINK_DLY, in 0.125 ns units (R757). -/
  dly    : Nat := 0
  /-- Next sequence number to send, and the next expected (R724, R725). -/
  txSeq  : Nat := 0
  rxSeq  : Nat := 0
  /-- Bundles sent and not acknowledged, oldest first, with the frame of the last ACK progress and the retransmissions of
  the oldest (R724, R726). -/
  replay : List Bundle := []
  ackAt  : Nat := 0
  tries  : Nat := 0
  /-- A NAK has been sent for the next expected number. -/
  naked  : Bool := false
  /-- Bundles of the neighbour received since the last ACK sent. -/
  owed   : Bool := false
  /-- Credits available to send per channel, and credits to return per channel (R728). -/
  cred   : List Nat := [1024, 2048, 256, 4096, 256]
  back   : List Nat := [0, 0, 0, 0, 0]
  /-- Waiting bundles, oldest first. -/
  queue  : List Queued := []
  /-- Key phase, sequenced bundles sent under the key, an update waiting, and the sequence number whose acknowledgement
  ends the previous key (R733, R734). -/
  keyph  : Bool := false
  keyCnt : Nat := 0
  rekey  : Bool := false
  oldKey : Option Nat := none
  /-- Authentication failures and link-downs of the reel in progress (R735, R769). -/
  authReel : Nat := 0
  downReel : Nat := 0
  advised : Bool := false
  /-- t1 of the DLY_REQ outstanding. -/
  dlyT1  : Option Nat := none
  deriving DecidableEq, Repr

/-- A peer entry (R741). -/
structure Peer where
  valid  : Bool := false
  node   : Nat := 0
  sten   : Nat := 0
  tenant : Nat := 0
  lost   : Bool := false
  gen    : Nat := 0
  clearing : Option Nat := none
  deriving DecidableEq, Repr

/-- Whom an outstanding remote request of this node is for. -/
inductive RemWho where
  | host (r : Req)
  /-- Device-side work: the lines go to the buffer of this key. -/
  | dev (key : Nat)
  deriving DecidableEq, Repr

/-- An entry of the remote request table (R745). -/
structure RemReq where
  valid : Bool := false
  gen   : Nat := 0
  write : Bool := false
  node  : Nat := 0
  line  : Nat := 0
  lines : Nat := 0
  arg   : Nat := 0
  sten  : Nat := 0
  data  : List Byte := []
  be    : Nat := 0
  poison : Bool := false
  since : Nat := 0
  again : Bool := false
  who   : RemWho := .dev 0
  deriving DecidableEq, Repr

/-- A request served here for a peer (R746). -/
structure PeerJob where
  port  : Nat
  node  : Nat
  peer  : Nat
  sten  : Nat
  tag   : Nat
  tenant : Nat
  write : Bool
  line  : Nat
  lines : Nat
  /-- Grant sought or kept: 0 none, 1 S, 2 M. -/
  want  : Nat
  data  : List Byte
  be    : Nat
  poison : Bool
  env   : ReadEnv
  since : Nat
  place : Nat := 0
  grant : Nat := 0
  /-- Lines read so far: line, bytes, poison. -/
  got   : List (Nat × List Byte × Bool) := []
  deriving DecidableEq, Repr

/-- A peer directory entry (R750). -/
structure PeerEnt where
  valid  : Bool := false
  m      : Bool := false
  coarse : Bool := false
  slots  : List (Nat × Nat) := []
  groups : Nat := 0
  used   : Nat := 0
  deriving DecidableEq, Repr

/-- The fabric state of the node. -/
structure FabS where
  ports  : Map FPort := []
  /-- Routing entries in force and as written (taking effect at step 2). -/
  route  : Map Word32 := []
  routeNext : List (Nat × Word32) := []
  peers  : Map Peer := []
  /-- Staged PEER_DATA and the command waiting for step 2: index, op, word. -/
  staged : Word32 := 0#32
  cmds   : List (Nat × Nat × Word32) := []
  cmdStat : Nat := 0
  pdir   : Map PeerEnt := []
  reqs   : Map RemReq := []
  jobs   : Map (Option PeerJob) := []
  jobNext : Nat := 0
  /-- Jobs not admitted to the hub request queue, oldest first. -/
  waiting : List Nat := []
  /-- Remote requests that wait for a table entry or for an earlier request on their line, oldest first. -/
  stalled : List RemReq := []
  /-- Bundles addressed to this node by itself, delivered at the next edge (R738). -/
  loop   : List Bundle := []
  /-- Lines delivered to device-side work: key and line, bytes, poison. -/
  buf    : List (Nat × Nat × List Byte × Bool) := []
  /-- Most entries of the origin response sink in use since ESC_PEAK was read. -/
  peak   : Nat := 0
  deriving DecidableEq, Repr
/-! ## Folder lanes, the rack and the hamper queues (ch. 09) -/

/-- What a piece of lane work is for. -/
inductive LaneKind where
  /-- Transition 2: fold an OPEN page. -/
  | fold
  /-- Transition 6, or a decode for a read whose page is then promoted: unfold a FOLDED page. -/
  | unfold
  /-- R98: a transient decode. -/
  | transient
  /-- The decode of a fetched shelf record (R99, transition 11 or transient). -/
  | fetched
  deriving DecidableEq, Repr

/-- One piece of lane work: its page, its owner (a tenant), its class, and the lane that faulted under it (R131). -/
structure LaneWork where
  id     : Nat
  kind   : LaneKind
  page   : Nat
  owner  : Nat
  cls    : Nat
  excl   : Option Nat := none
  /-- Hamper units it holds: of the migration escrow, and of its owner's or the common part (R433, R434). -/
  escU   : Nat := 0
  partU  : Nat := 0
  /-- The pattern it uses, fixed at its start (R428, R440); none folds or decodes RAW. -/
  pat    : Option Nat := none
  /-- The pattern its header names was available when it started (R418, R463). -/
  avail  : Bool := true
  /-- It found its pattern missing from the rack, and the fill it waited on has failed (R436, R455). -/
  missed : Bool := false
  failed : Bool := false
  /-- Cycles charged once started (R428), and the fill cycles it uses beside its base cycles (R429, R430). -/
  charge : Nat := 0
  extra  : Nat := 0
  /-- Its input came from flash uncorrectable, or is decided damaged (R542, R544, R551). -/
  ue     : Bool := false
  /-- It used more than its charge and could not pay within the frame (R431). -/
  overran : Bool := false
  deriving DecidableEq, Repr

/-- One folder lane. -/
structure Lane where
  /-- Work dispatched and waiting, oldest first. -/
  queue  : List LaneWork := []
  /-- Work in progress per owner code. -/
  busy   : List (Nat × LaneWork) := []
  /-- Finished outputs waiting for their consumer: page and hamper part of the output unit (R433). -/
  outs   : List (Nat × Nat) := []
  /-- Lane cache: pattern slots, least recently used first (R437). -/
  cache  : List Nat := []
  /-- Grants left to each class in the round in progress (R352). -/
  credit : Map Nat := []
  deriving DecidableEq, Repr

/-- One rack entry (R436). -/
structure RackEnt where
  slot   : Nat := 0
  valid  : Bool := false
  pinned : Bool := false
  used   : Nat := 0
  filling : Bool := false
  deriving DecidableEq, Repr

structure LanesS where
  lanes   : Map Lane := []
  /-- Work not yet dispatched, oldest first (R425). -/
  waiting : List LaneWork := []
  serial  : Nat := 0
  rack    : Map RackEnt := []
  clock   : Nat := 0
  /-- Patterns of sealed tenants still to be pinned, in order (R438, R469). -/
  toPin   : List Nat := []
  /-- COMMON_DEF register in force. -/
  commonDef : Word32 := 0#32
  /-- Last PAT_MISS slot (ch. 08). -/
  missSlot : Nat := 0
  /-- WIRE_ERR: cause, fabric port, host, page. -/
  wireErr : Nat × Nat × Bool × Nat := (0, 0, false, 0)
  /-- Pages already logged this reel for a repaired (page × 2) or damaged (page × 2 + 1) decision (R407). -/
  logged  : List Nat := []
  deriving DecidableEq, Repr

/-! ## The pattern store (ch. 10) -/

/-- One slot: state as in *Table — Slot states*. -/
structure PatSlot where
  st      : Nat := 0
  owner   : Nat := 0
  file    : List Byte := []
  /-- UID and CRC recorded for the slot. -/
  uid     : Nat := 0
  crc     : Nat := 0
  /-- State held before a fault, and before BEGIN or REPAIR. -/
  preFault : Nat := 0
  preStage : Nat := 0
  refold  : Bool := false
  /-- The record is in both persistent copies (R476); frame of the change still to be written, and failed reels. -/
  persisted : Bool := false
  dirty   : Option Nat := none
  failed  : Nat := 0
  deriving DecidableEq, Repr

/-- A slot's record in the persistent copies (R475): state, owner, file, sequence. -/
structure PatRec where
  st    : Nat := 0
  owner : Nat := 0
  file  : List Byte := []
  seq   : Nat := 0
  deriving DecidableEq, Repr

structure PatS where
  slots   : Map PatSlot := []
  /-- Open staging buffer: slot, opened by REPAIR, owner selected at BEGIN. -/
  staging : Option (Nat × Bool × Nat) := none
  staged  : List Byte := []
  /-- LOAD_DATA was written beyond the file's length. -/
  past    : Bool := false
  /-- A validated file waits for PATTERN_INSTALL, since this frame. -/
  install : Option Nat := none
  /-- Commands waiting for step 2: operation and slot, in order (R479). -/
  cmds    : List (Nat × Nat) := []
  stat    : Nat := 0
  /-- Persistent copies, which outlive a reset; a node with no shelf has none. -/
  store   : Map PatRec := []
  seq     : Nat := 0
  hasStore : Bool := false
  deriving DecidableEq, Repr

/-! ## The DRAM channels and the front cache (ch. 11) -/

/-- One DRAM channel. -/
structure DramCh where
  /-- CH_STAT.KIND: 0 absent, 1 RDIMM, 2 MRDIMM. -/
  kind   : Nat := 0
  capGiB : Nat := 0
  ranks  : Nat := 1
  /-- Trained MT/s. -/
  rate   : Nat := 0
  temp   : Nat := 0
  /-- R514: a failed device: subchannel, rank, device. -/
  failed : Option (Nat × Nat × Nat) := none
  /-- LAST_ERR: location and kind (1 corrected, 2 uncorrectable). -/
  lastErr : Option (Loc × Nat) := none
  /-- Corrected reads of the reel in progress, in all and per row. -/
  ceReel : Nat := 0
  ceRows : List (Nat × Nat) := []
  /-- Rows corrected by scrub in this pass and in the last pass. -/
  scrubRows : List Nat := []
  scrubLast : List Nat := []
  /-- Rows advised since reset (R514). -/
  advised : List Nat := []
  banksAdvised : List Nat := []
  /-- Device and bank of the corrections of the reel in progress. -/
  devBanks : List (Nat × Nat) := []
  /-- Rows logged corrected in the reel in progress (R492). -/
  logRows : List Nat := []
  /-- Refresh intervals postponed (R501). -/
  postponed : Nat := 0
  deriving DecidableEq, Repr

/-- One retirement entry (R509). -/
structure RetEntry where
  valid  : Bool := false
  lo     : Word32 := 0#32
  hi     : Word32 := 0#32
  done   : Bool := false
  /-- In force since a step 2 (R511). -/
  active : Bool := false
  deriving DecidableEq, Repr

/-- One front-cache line: its way, charge and state (R505, R506, R360). The data is the line's one copy in `mem`. -/
structure FcLine where
  valid : Bool := false
  way   : Nat := 0
  cls   : Nat := 0
  /-- The sealed tenant that owns the way, if any. -/
  sealedBy : Option Nat := none
  dirty : Bool := false
  used  : Nat := 0
  deriving DecidableEq, Repr

structure DramS where
  fc      : Map FcLine := []
  fcClock : Nat := 0
  flush   : Bool := false
  ret     : Map RetEntry := []
  /-- A retirement command waiting for step 2: index, op, words. -/
  retCmd  : Option (Nat × Nat × Word32 × Word32) := none
  retStat : Nat := 0
  /-- Scrub: completed passes, and lines done of the current pass per 100 lines. -/
  scrubPasses : Nat := 0
  scrubPct : Nat := 0
  deriving DecidableEq, Repr

/-! ## The shelf (ch. 12) -/

/-- A shelf read or program that waits for its channel. -/
structure ShelfWork where
  page : Nat
  owner : Nat
  cls : Nat
  transient : Bool
  deriving DecidableEq, Repr

/-- One shelf record (R532): its page, whether it is still the page's copy, and where it lies. -/
structure ShelfRec where
  page  : Nat := 0
  live  : Bool := false
  lun   : Nat := 0
  block : Nat := 0
  /-- Flash page in the block, first slip position and slips (R533, R535). -/
  pg    : Nat := 0
  first : Nat := 0
  slips : Nat := 0
  owner : Nat := 0
  raw   : Bool := false
  /-- 0 in a write-point buffer, 1 being programmed, 2 on flash. -/
  st    : Nat := 0
  /-- Marked damaged by sort, or on a faulted LUN or a lost channel (R544, R551, R563). -/
  damaged : Bool := false
  /-- Sort's new copy of a record, and the page's form that it carries (R544). -/
  copyOf : Option Nat := none
  fixed  : Option Stored := none
  deriving DecidableEq, Repr

/-- A read in progress: staging reserved, its array read started (R530, R818). -/
structure ShelfRead where
  page  : Nat
  owner : Nat
  cls   : Nat
  transient : Bool
  rec'  : Nat
  since : Nat
  deriving DecidableEq, Repr

/-- One erase block: 0 free, 1 free and erased, 2 open, 3 full, 4 retired, 5 holding a persistent copy. -/
structure ShBlock where
  use    : Nat := 0
  erases : Nat := 0
  /-- A CORRECTED entry was logged for it in this reel (R542). -/
  logged : Bool := false
  deriving DecidableEq, Repr

/-- One LUN: its write point, the array operations in progress and its sort. -/
structure ShLun where
  opened : Option Nat := none
  nextPg : Nat := 0
  /-- Records in the page buffer, their slip positions used, and the frame of the oldest (R538, R539). -/
  buf    : List Nat := []
  used   : Nat := 0
  oldest : Nat := 0
  prog   : Option (List Nat) := none
  progBlk : Nat := 0
  susp   : Nat := 0
  erasing : Option Nat := none
  /-- Faulted (R551); planes retired by software (R552) as a mask, and those whose retirement is complete. -/
  fault  : Bool := false
  retPlanes : Nat := 0
  retDone : Nat := 0
  /-- Sort runs (R543) on this victim; a wear-levelling victim was taken in this reel (R549). -/
  sorting : Bool := false
  victim : Option Nat := none
  wlDone : Bool := false
  /-- Planes advised (R551); bit 8 the LUN. -/
  advised : Nat := 0
  deriving DecidableEq, Repr

/-- One populated target as its parameter page gives it. -/
structure ShTarget where
  luns   : Nat := 0
  planes : Nat := 1
  /-- Pages per block, blocks per plane. -/
  ppb    : Nat := 0
  bpp    : Nat := 0
  /-- 1 class A, 2 class B, 0 neither row. -/
  cls    : Nat := 0
  rate   : Nat := 0
  suspend : Bool := false
  used   : Bool := false
  deriving DecidableEq, Repr

structure ShCh where
  rate : Nat := 0
  /-- Location of the last error: chip enable, LUN, plane, block. -/
  last : Nat × Nat × Nat × Nat := (0, 0, 0, 0)
  deriving DecidableEq, Repr

/-- What the inventory record keeps (R556): blocks retired or erased, and planes retired by software. -/
structure Inventory where
  seq    : Nat := 0
  blocks : Map ShBlock := []
  planes : Map Nat := []
  deriving DecidableEq, Repr

structure ShelfS where
  targets : Map ShTarget := []
  chans  : Map ShCh := []
  luns   : Map ShLun := []
  blocks : Map ShBlock := []
  recs   : Map ShelfRec := []
  serial : Nat := 1
  toRead : List ShelfWork := []
  reads  : List ShelfRead := []
  toProg : List ShelfWork := []
  /-- Media class of the device: 0 none, 1 A, 2 B (R527). -/
  cls    : Nat := 0
  /-- Targets that hold the persistent copies. -/
  copies : List Nat := []
  gib    : Nat := 0
  /-- Software retirement: the command waiting for step 2, and its last status. -/
  sretCmd : Option Word32 := none
  sretStat : Nat := 0
  /-- Inventory record: scenes since the last write, failed writes, and the copy that outlives a reset. -/
  invScenes : Nat := 0
  invFailed : Nat := 0
  inv    : Inventory := {}
  deriving DecidableEq, Repr


/-! ## Cues (ch. 13) -/

/-- One ring (R567 to R574); its key is 4 × tenant + k. -/
structure Ring where
  base   : Nat := 0
  size   : Nat := 4
  /-- In DPA; host memory otherwise. -/
  loc    : Bool := false
  /-- 0 DISABLED, 1 RUN, 2 STOPPED. -/
  st     : Nat := 0
  /-- ENABLE was written 0 and cues still run (R574). -/
  disabling : Bool := false
  /-- The function it is bound to (R568). -/
  fn     : Option Nat := none
  head   : Nat := 0
  /-- TAIL last accepted, and as it stood at the last edge: its cues may start (R571). -/
  tail   : Nat := 0
  ready  : Nat := 0
  err    : Nat := 0
  errIdx : Nat := 0
  deriving DecidableEq, Repr

/-- A cue in a context, from its start until its record is written (R578). -/
structure CueRun where
  /-- Ring key, or 512 + engine for a cue forwarded here (R754). -/
  ring   : Nat
  /-- Engine it runs on (R567, R608). -/
  eng    : Nat
  idx    : Nat
  tenant : Nat
  fn     : Nat
  bytes  : List Byte
  /-- 0 runs on its engine, 1 waits on another unit, 2 has ended and its record is due, 3 its record is being written. -/
  phase  : Nat := 0
  /-- Progress in bytes, and for a lay, a fold or an unfold its output offset and pages. -/
  ofs    : Nat := 0
  outOfs : Nat := 0
  pages  : Nat := 0
  /-- Buffer entries asked for: lines read, host lines, acknowledgements of writes. -/
  asked  : List Nat := []
  status : Nat := 0
  poison : Bool := false
  mismatch : Bool := false
  overflow : Bool := false
  r0     : Nat := 0
  r1     : Nat := 0
  /-- Order of its end (records are written in this order, R596); frame of its end. -/
  ended  : Nat := 0
  endAt  : Nat := 0
  /-- FOLD: wire records of the segment being filled; UNFOLD: accepted pages still to be written. -/
  recs   : List (List Byte) := []
  toWrite : List (Nat × List Byte × Nat) := []
  /-- The record a CUE_CPL brought for a forwarded cue (R754). -/
  reply  : Option (List Byte) := none
  /-- A cue forwarded here: the origin node, its tenant and tag, and the peer entry. -/
  origin : Option (Nat × Nat × Nat × Nat) := none
  deriving DecidableEq, Repr

/-- A host-memory read outstanding on a tag of a port (R211). -/
structure HostRead where
  port : Nat
  tag  : Nat
  ring : Nat
  eng  : Nat
  /-- Cue that waits for it, and the host line address (byte address / 64). -/
  cue  : Nat
  line : Nat
  since : Nat
  deriving DecidableEq, Repr

structure CueS where
  rings  : Map Ring := []
  /-- Cues in contexts, by serial number, oldest first. -/
  runs   : List (Nat × CueRun) := []
  serial : Nat := 0
  ends   : Nat := 0
  reads  : List HostRead := []
  /-- CUE_TAG.TAGS per engine. -/
  tags   : Map Nat := []
  /-- Forwarded cues that wait for a context (R754): engine, origin (node, tenant, tag, peer), tenant, bytes. -/
  fwd    : List (Nat × (Nat × Nat × Nat × Nat) × Nat × List Byte) := []
  deriving DecidableEq, Repr

/-! ## Presses, their jobs and their cells (ch. 14 to 16) -/

/-- One array's part of a deck; key (press × 8 + array) × 4 + deck. -/
structure DeckPart where
  /-- 0 EMPTY, 1 LAYING, 2 LAID, 3 DRIFTED. -/
  st     : Nat := 0
  /-- FORMAT and SET_ID of the last commit. -/
  fmt    : Nat := 0
  setId  : Nat := 0
  /-- The 128 KiB block as laid (R679). -/
  weights : List Byte := []
  /-- Lay count, from the swatch. -/
  lays   : Nat := 0
  /-- Reel count at the commit, and at the last calibration, with the die temperature then (R697). -/
  laidAt : Nat := 0
  calAt  : Nat := 0
  calTemp : Nat := 0
  deriving DecidableEq, Repr

/-- One array; key press × 8 + array. -/
structure PressArray where
  /-- Recalibrate-pending: 0 no, 1 after a margin failure, 2 from the swatch store. -/
  pending : Nat := 0
  /-- Decks calibrated since the pending mark. -/
  calMask : Nat := 0
  calFailed : Bool := false
  /-- Reel count of the last lay start (R683). -/
  layAt  : Option Nat := none
  /-- Decks whose calibration a margin retry made due (R697). -/
  retryDue : Nat := 0
  deriving DecidableEq, Repr

/-- One press. -/
structure PressU where
  own    : Word32 := 0xFFFFFFFF#32
  /-- Decks whose owner changed, to be emptied at the next step 2 (R623). -/
  emptyDue : Nat := 0
  parts  : List Word32 := [0#32, 0#32, 0#32]
  /-- Positions used, by strikes and rounds, in the frame in progress, and positions removed from it (R629). -/
  used   : Nat := 0
  removed : Nat := 0
  /-- MARGIN: array and deck of the last event. -/
  lastArray : Nat := 0
  lastDeck : Nat := 0
  /-- Seam faults of the reel on the hop to the next press (R639). -/
  seam   : Nat := 0
  deriving DecidableEq, Repr

/-- One vector in progress of a job. -/
structure PressVec where
  v      : Nat
  /-- Operand of each chain press, row by row; none is a poisoned element. Empty before its prologue. -/
  ops    : List (List (Option Int)) := []
  /-- Strikes done. -/
  strikes : Nat := 0
  /-- Arrays whose strike is to be repeated (R628): press, array. -/
  retry  : List (Nat × Nat) := []
  /-- Poisoned outputs: deck rank and group; and deck ranks poisoned whole (R638, R639). -/
  bad    : List (Nat × Nat) := []
  badDeck : List Nat := []
  /-- A prologue or epilogue unit erred (R676). -/
  badAll : Bool := false
  /-- Its epilogue has begun: writes still to be sent (line, data, byte enables, poison). -/
  epi    : Option (List (Nat × List Byte × Nat × Bool)) := none
  deriving DecidableEq, Repr

/-- One press job, waiting or admitted; its key is its cue. -/
structure PressJob where
  tenant : Nat
  card   : List Byte
  /-- 0 waits, 1 admitted, 2 ending. -/
  st     : Nat := 0
  /-- Order of passing R647, then of admission. -/
  order  : Nat
  /-- Context on each chain press; the resources come from the owner's partition. -/
  ctx    : List Nat := []
  sealedPart : Bool := false
  vecs   : List PressVec := []
  /-- Next vector of each chain press's prologue. -/
  next   : List Nat := []
  /-- Vectors completed. -/
  done   : Nat := 0
  asked  : List Nat := []
  sat    : Nat := 0
  poisoned : Nat := 0
  deriving DecidableEq, Repr

/-- One array of a lay. -/
structure LayArray where
  array  : Nat
  /-- Rows done; rounds used by each row so far; rows swept. -/
  row    : Nat := 0
  rounds : List Nat := []
  swept  : Nat := 0
  data   : List Byte := []
  deriving DecidableEq, Repr

/-- One lay; its key is its cue. -/
structure LayJob where
  tenant : Nat
  press  : Nat
  deck   : Nat
  fmt    : Nat
  setId  : Nat
  src    : Nat
  len    : Nat
  mask   : Nat
  /-- 0 taken, 1 accepted, 2 programming or in its sweep. -/
  st     : Nat := 0
  since  : Nat
  order  : Nat
  arrays : List LayArray := []
  asked  : List Nat := []
  deriving DecidableEq, Repr

/-- What a swatch record keeps beside its device-private trims (R702): lay counts, CAL_FAILED and temperature. -/
structure SwRec where
  lays   : List Nat := [0, 0, 0, 0]
  calFailed : Bool := false
  temp   : Nat := 0
  deriving DecidableEq, Repr

/-- The swatch store in the SPI NOR (R703): the slots outlive a reset. -/
structure SwatchS where
  /-- Slot A and slot B: valid, SEQ, records. -/
  validA : Bool := false
  seqA   : Nat := 0
  recsA  : Map SwRec := []
  validB : Bool := false
  seqB   : Nat := 0
  recsB  : Map SwRec := []
  /-- Arrays marked in the active slot's change map. -/
  marked : List Nat := []
  /-- STORE_CMD.NOW, consecutive failures, frame of the last store. -/
  now    : Bool := false
  fails  : Nat := 0
  last   : Nat := 0
  /-- A press page's advice of the NOR has been given. -/
  advised : Bool := false
  deriving DecidableEq, Repr

structure PressS where
  units  : Map PressU := []
  parts  : Map DeckPart := []
  arrays : Map PressArray := []
  jobs   : List (Nat × PressJob) := []
  lays   : List (Nat × LayJob) := []
  serial : Nat := 0
  /-- Reels since reset: the clock of deck ages. -/
  reels  : Nat := 0
  /-- VPROG in mV, the scene in which LAY_HOLD was asserted, and whether VPROG was below RELEASE_MV in this reel. -/
  mv     : Nat := 0
  hold   : Option Nat := none
  low    : Bool := false
  swatch : SwatchS := {}
  deriving DecidableEq, Repr
/-! ## Collectives (ch. 18) -/

/-- A child's answer to a PULL, as far as it has come. -/
structure CollKid where
  node   : Nat
  /-- Frame of the last PULL, and that it was repeated (R802). -/
  since  : Nat
  again  : Bool := false
  /-- Its segments refused for this page (R802). -/
  refused : Nat := 0
  /-- Blocks received: block, 16 exact elements in units of 2^-149, 16 classes (0 finite, 1 +∞, 2 −∞, 3 NaN). -/
  blocks : List (Nat × List Int × List Nat) := []
  mask   : Option Nat := none
  deriving DecidableEq, Repr

/-- A page accumulator (R788): the page, its height, the children still to come, whether this node's own page is in, and
the exact sums so far. -/
structure CollAcc where
  page   : Nat
  stripe : Nat
  height : Nat
  kids   : List CollKid
  own    : Bool := false
  sums   : List Int := []
  specs  : List Nat := []
  mask   : Nat := 0
  deriving DecidableEq, Repr

/-- One member's part of a collective, from its COLLECT cue's acceptance on. -/
structure CollRun where
  cue      : Nat
  tenant   : Nat
  fn       : Nat
  src      : Nat
  dst      : Nat
  len      : Nat
  deadline : Nat
  /-- Member bitmap, bit n for node n. -/
  members  : Nat
  /-- Counted set: at the chair while it counts, then as a GO or an ABORT brings it. -/
  counted  : Nat := 0
  /-- The chair has decided (R780). -/
  decided  : Bool := false
  /-- GO set in ascending order; empty before GO. -/
  go       : List Nat := []
  /-- Withdrew before GO (R806); completed LATE and still serves PULLs (R801). -/
  withdrew : Bool := false
  late     : Bool := false
  /-- The node left sync and has told the chair (R782). -/
  unsynced : Bool := false
  /-- Pages PULLed by the parent and not sent; pages sent up; pages rounded here as root. -/
  owed     : List Nat := []
  sent     : List Nat := []
  rounded  : List Nat := []
  accs     : List CollAcc := []
  /-- SRC lines asked for, by line. -/
  asked    : List Nat := []
  /-- DST pages being written: page, bytes, mask, lines written so far. -/
  toWrite  : List (Nat × List Byte × Nat × Nat) := []
  written  : List Nat := []
  /-- DOWN segments that wait for a lane or a route: page, bytes, mask. -/
  toSend   : List (Nat × List Byte × Nat) := []
  /-- Writes not yet acknowledged. -/
  acks     : List Nat := []
  /-- The status block is being written: outcome, failing node. -/
  ending   : Option (Nat × Nat) := none
  deriving DecidableEq, Repr

/-- A collective entry (Table — COLL page registers): its words, its state and its last run. -/
structure CollEnt where
  cfg     : Word32 := 0x100#32
  own     : Word32 := 0#32
  pat     : Word32 := 0#32
  mapLo   : Word32 := 0#32
  mapHi   : Word32 := 0#32
  stsLo   : Word32 := 0#32
  stsHi   : Word32 := 0#32
  reserve : Word32 := 2000#32
  /-- 0 IDLE, 1 ARMING, 2 JOINED, 3 RUNNING, 4 DONE, 5 FAILED. -/
  st      : Nat := 0
  outcome : Nat := 0
  chair   : Nat := 0
  n       : Nat := 0
  m       : Nat := 0
  pages   : Nat := 0
  run     : Option CollRun := none
  deriving DecidableEq, Repr

structure CollS where
  ents : Map CollEnt := []
  /-- Entry writes that take effect at the next step 2: entry, register, value. -/
  next : List (Nat × Nat × Word32) := []
  deriving DecidableEq, Repr


/-! ## Power and heat (ch. 23) -/

structure PowerS where
  /-- PWR_STAT.STATE: 0 RUN, 1 TRIM, 2 IDLE, 3 OFF requested. -/
  st     : Nat := 0
  /-- TRIM or IDLE asked for and not yet performed (R939). -/
  want   : Option Nat := none
  /-- Frame in which a wake began (R942). -/
  wake   : Option Nat := none
  /-- State before the OFF request, which keeps what is gated (Table — Device power states). -/
  before : Nat := 0
  /-- Writes of R943 not yet finished: 1 swatch store, 2 inventory, 3 pattern records. -/
  offWait : List Nat := []
  rej    : Nat := 0
  /-- Sensor readings, °C, and their maxima in the reel in progress and in the last reel. -/
  temp   : List Nat := [0, 0, 0, 0, 0, 0, 0, 0]
  reelMax : List Nat := [0, 0, 0, 0, 0, 0, 0, 0]
  lastMax : List Nat := [0, 0, 0, 0, 0, 0, 0, 0]
  /-- Frames each sensor has had no plausible reading (R959), and that it is logged. -/
  silent : List Nat := [0, 0, 0, 0, 0, 0, 0, 0]
  /-- Package power: samples of the reel in progress, and the mean of the last reel. -/
  wSum   : Nat := 0
  wN     : Nat := 0
  wLast  : Nat := 0
  /-- Throttle steps of the four press dies: 0 cap 10, 1 cap 8, 2 cap 6, 3 cap 4. -/
  steps  : List Nat := [0, 0, 0, 0]
  /-- Dies that reached T_EMERG since the last edge (R946). -/
  emerg  : List Nat := []
  /-- Sealed positions exceeded a cap in the reel in progress and in the last reel (R947). -/
  overNow : Bool := false
  overLast : Bool := false
  /-- The press-die clocks are stopped (R948). -/
  stopped : Bool := false
  deriving DecidableEq, Repr

/-! ## Firmware, straps and the test port (ch. 23, ch. 24) -/

/-- A firmware slot of the SPI NOR: what its image is, and why it does not verify: 0 it does but for its SVN, 1 header,
2 signature (R929). -/
structure FwImage where
  present : Bool := false
  bad     : Nat := 1
  version : Nat := 0
  svn     : Nat := 0
  advance : Bool := false
  deriving DecidableEq, Repr

/-- A copy of the boot record (R928). -/
structure BootRec where
  valid  : Bool := false
  seq    : Nat := 0
  active : Nat := 0
  trial  : Bool := false
  prev   : Nat := 0
  deriving DecidableEq, Repr

/-- The firmware: the slots and records of the SPI NOR, which outlive a reset, and what this boot runs. -/
structure FwS where
  slot1  : FwImage := {}
  slot2  : FwImage := {}
  recA   : BootRec := {}
  recB   : BootRec := {}
  /-- Minimum SVN raised by images with ADVANCE (R951). -/
  svnMin : Nat := 0
  /-- The trial boot ended before memory active: the next reset runs PREV (R951). -/
  trialEnded : Bool := false
  /-- Slot that runs; 0 in recovery or before boot. -/
  running : Nat := 0
  /-- This boot is a trial that has not reached memory active. -/
  trial  : Bool := false
  /-- Recovery (R932). -/
  recovery : Bool := false
  deriving DecidableEq, Repr

/-- The instruction register of the TAP (R986). -/
inductive TapIr where
  | bypass | idcode | sample | extest | other
  deriving DecidableEq, Repr
/-! ## The whole machine -/

structure SysS where
  /-- D of R90, GiB. -/
  dGiB : Nat := 0
  memActive : Bool := false
  /-- The running firmware carries a valid Caraux signature. -/
  fwSigned : Bool := false
  /-- Configuration ready reached, and the description table built with entries (R258, R294). -/
  cfgReady : Bool := false
  table  : Option Bool := none
  /-- The description table as built (R258). -/
  rom    : List Byte := []
  /-- Straps MGMT_EN and MGMT_PORT as sampled (R244). -/
  mgmtEn : Bool := false
  mgmtPort : Nat := 0
  /-- SYS.FULL_STAT. -/
  full : Word32 := 0#32
  /-- RST_N is asserted. -/
  rstLow : Bool := true
  /-- Start-up waits for the generator's health test: what it will find (R936). -/
  boot : Option BootEnv := none
  /-- The start-up sequence has been performed (R935). -/
  bootDone : Bool := false
  /-- Straps SMB_ADDR and DBG_EN as sampled. -/
  smbAddr : Nat := 0
  dbgEn : Bool := false
  /-- Instruction of the test port. -/
  tap : TapIr := .idcode
  /-- FATAL# and THERM_ALERT# as driven. -/
  fatalPin : Bool := false
  alertPin : Bool := false
  /-- SYS.ESC_PEAK: most units of each escrow in use since last read (key 8 × SEL + PORT). -/
  escPeak : Map Nat := []
  deriving DecidableEq, Repr

/-- The state of the block. -/
structure State where
  frame  : FrameS := {}
  slate  : SlateS := {}
  regs   : Map Word32 := []
  ctrs   : Map Nat := []
  hdrs   : Map PageHdr := []
  mgmt   : MgmtS := {}
  log    : LogS := {}
  daily  : DailyS := {}
  svc    : Map UnitSvc := []
  svcEvt : Word32 := 0#32
  svcRej : Nat := 0
  mem    : List Host.Cell := []
  poison : Map Bool := []
  tier   : TierS := {}
  tenants : Map Tenant := []
  tables : TablesS := {}
  hports : Map HPort := []
  extents : List Extent := []
  fns    : Map Fn := []
  mfn    : Fn := {}
  bg     : Option Background := none
  bgLast : Nat := 0
  mctp   : MctpS := {}
  dir    : DirS := {}
  rgl    : RglS := {}
  fab    : FabS := {}
  lanes  : LanesS := {}
  pats   : PatS := {}
  chans  : Map DramCh := []
  dram   : DramS := {}
  shelf  : ShelfS := {}
  cues   : CueS := {}
  press  : PressS := {}
  coll   : CollS := {}
  power  : PowerS := {}
  fw     : FwS := {}
  sys    : SysS := {}
  out    : List Output := []
  freeIx : Nat := 0
  pending : List Instr := []
  deriving DecidableEq, Repr

/-- GiB of usable shelf, S. -/
def State.shelfGiB (s : State) : Nat := s.shelf.gib
def State.dramRate (s : State) (c : Nat) : Nat := (s.chans.find? fun e => e.1 == c).elim 0 (·.2.rate)
def State.shelfRate (s : State) (c : Nat) : Nat := (s.shelf.chans.find? fun e => e.1 == c).elim 0 (·.2.rate)

/-- The machine right after reset. -/
def State.reset : State := {}

end Sys2Proof.Machine
end

