-- ==== Sys2Proof/Machine/FoldFormat.lean ====
section
/-!
DEFINITION. The folded page format, bit for bit (ch. 08): code table, residual tokens, stored form, checks, encoder,
decoder, and the wire form with its checks in byte order.
-/

namespace Sys2Proof.Machine

open Sys2Proof

/-! ### Bits (R390) -/

/-- The eight bits of a byte, least significant first. -/
def byteBits (b : Byte) : List Bool := (List.range 8).map b.toNat.testBit

/-- The bit stream of a code area. -/
def bitsOf (l : List Byte) : List Bool := (l.map byteBits).flatten

/-- A bit stream as bytes, the last byte padded with zero bits. -/
def packBits : Nat → List Bool → List Byte
  | 0, _ => []
  | n + 1, l => BitVec.ofNat 8 (((l.take 8).zipIdx).foldl (fun a x => if x.1 then a + 2 ^ x.2 else a) 0) :: packBits n (l.drop 8)

/-- A fixed-width field, least significant bit first. -/
def fieldBits (w v : Nat) : List Bool := (List.range w).map v.testBit

/-- A variable-length code, most significant bit first. -/
def codeBits (w v : Nat) : List Bool := (List.range w).map fun i => v.testBit (w - 1 - i)

/-- The value of a fixed-width field. -/
def bitsNat : List Bool → Nat
  | [] => 0
  | b :: r => (if b then 1 else 0) + 2 * bitsNat r

/-! ### The code table (R392 to R394) -/

/-- Length of symbol `s`. -/
def codeLen (tbl : List Byte) (s : Nat) : Nat :=
  let b := (tbl.getD (s / 2) 0#8).toNat
  if s % 2 = 0 then b % 16 else b / 16

/-- The 1,024 lengths. -/
def codeLens (tbl : List Byte) : List Nat := (List.range 1024).map (codeLen tbl)

/-- Symbols of length `n`, ascending. -/
def symsOf (lens : List Nat) (n : Nat) : List Nat := (lens.zipIdx.filter fun x => x.1 == n).map (·.2)

/-- First code of each length: R393's `next` before any symbol took its code. -/
def firstCode (lens : List Nat) : Nat → Nat
  | 0 => 0
  | n + 1 => (firstCode lens n + (if n = 0 then 0 else (symsOf lens n).length)) * 2

/-- A code table made ready: for each length 1 to 15, its first code and its symbols in the order of their codes. -/
def codeBook (lens : List Nat) : List (Nat × List Nat) := (List.range 15).map fun n => (firstCode lens (n + 1), symsOf lens (n + 1))

/-- R394, with the sum in units of 2^-15. -/
def tableValid (lens : List Nat) : Bool :=
  lens.any (fun n => n != 0) && decide (lens.foldl (fun a n => if n = 0 then a else a + 2 ^ (15 - n)) 0 ≤ 2 ^ 15)

/-- Read one index code: the symbol and the rest, or none at a bit sequence that begins no code. The number is the bits
read. -/
def readCode : List (Nat × List Nat) → Nat → Nat → List Bool → Option Nat × Nat × List Bool
  | [], _, n, l => (none, n, l)
  | _ :: _, _, n, [] => (none, n, [])
  | (first, syms) :: r, c, n, b :: l =>
    let c' := 2 * c + (if b then 1 else 0)
    if first ≤ c' ∧ c' < first + syms.length then (syms[c' - first]?, n + 1, l)
    else readCode r c' (n + 1) l

/-- The code of a symbol as bits; none where it has none. -/
def symBits (lens : List Nat) (book : List (Nat × List Nat)) (s : Nat) : Option (List Bool) :=
  let n := lens.getD s 0
  if n = 0 then none
  else match book[n - 1]? with
    | none => none
    | some (first, syms) => some (codeBits n (first + syms.findIdx (· == s)))

/-! ### Residual tokens (R395, R396) -/

/-- How one residual was read: its 16 bytes where it is valid, the tokens begun, the bits read, the rest. -/
structure ResRead where
  bytes : Option (List Byte)
  toks  : Nat
  bits  : Nat
  rest  : List Bool

/-- Read residual tokens from position `p` with the bytes so far; `fuel` 17 suffices, a token moves at least one byte. -/
def readRes : Nat → List Byte → Nat → Nat → List Bool → ResRead
  | 0, _, t, n, l => ⟨none, t, n, l⟩
  | fuel + 1, acc, t, n, l =>
    let p := acc.length
    if 16 ≤ p then (if p = 16 then ⟨some acc, t, n, l⟩ else ⟨none, t, n, l⟩)
    else match l with
      | false :: r => ⟨some (acc ++ List.replicate (16 - p) 0#8), t + 1, n + 1, r⟩
      | true :: false :: r =>
        if r.length < 4 then ⟨none, t + 1, n + 2 + r.length, []⟩
        else
          let k := bitsNat (r.take 4) + 1
          if 16 < p + k then ⟨none, t + 1, n + 6, r.drop 4⟩ else readRes fuel (acc ++ List.replicate k 0#8) (t + 1) (n + 6) (r.drop 4)
      | true :: true :: false :: r =>
        if r.length < 4 then ⟨none, t + 1, n + 3 + r.length, []⟩
        else
          let b := bitsNat (r.take 4)
          if b = 0 then ⟨none, t + 1, n + 7, r.drop 4⟩ else readRes fuel (acc ++ [BitVec.ofNat 8 b]) (t + 1) (n + 7) (r.drop 4)
      | true :: true :: true :: r =>
        if r.length < 8 then ⟨none, t + 1, n + 3 + r.length, []⟩
        else readRes fuel (acc ++ [BitVec.ofNat 8 (bitsNat (r.take 8))]) (t + 1) (n + 11) (r.drop 8)
      | short => ⟨none, t + 1, n + short.length, []⟩

/-- R399: the greedy tokens of a residual: bits and number of tokens. -/
def writeRes : Nat → List Byte → List Bool × Nat
  | 0, _ => ([], 0)
  | _ + 1, [] => ([], 0)
  | fuel + 1, b :: r =>
    if (b :: r).all (· == 0#8) then ([false], 1)
    else if b = 0#8 then
      let z := ((b :: r).takeWhile (· == 0#8)).length
      let (t, n) := writeRes fuel ((b :: r).drop z)
      (true :: false :: fieldBits 4 (z - 1) ++ t, n + 1)
    else
      let (t, n) := writeRes fuel r
      if b.toNat < 16 then (true :: true :: false :: fieldBits 4 b.toNat ++ t, n + 1)
      else (true :: true :: true :: fieldBits 8 b.toNat ++ t, n + 1)

def xorBytes (a b : List Byte) : List Byte := List.zipWith (· ^^^ ·) a b

/-! ### Patterns -/

/-- Offsets of the pattern file (Table — Pattern file). -/
def patTable (file : List Byte) : List Byte := (file.drop 0x4040).take 512
def patVector (file : List Byte) (s : Nat) : List Byte := (file.drop (0x40 + 16 * s)).take 16

/-! ### Encoding (R399, R401) -/

/-- The encoder's choice for one vector: bits, tokens (index code and residual). The fewest bits win, and the lowest
symbol among equals. -/
def encodeVec (file : List Byte) (lens : List Nat) (book : List (Nat × List Nat)) (v : List Byte) : List Bool × Nat :=
  let best := (List.range 1024).foldl (fun (b : Option (List Bool × Nat)) s =>
    match symBits lens book s with
    | none => b
    | some code =>
      let (rb, n) := writeRes 17 (xorBytes v (patVector file s))
      let c := (code ++ rb, n + 1)
      match b with
      | none => some c
      | some d => if c.1.length < d.1.length then some c else some d) none
  best.getD ([], 0)

/-- Vectors of a page. -/
def pageVecs : Nat → List Byte → List (List Byte)
  | 0, _ => []
  | n + 1, l => l.take 16 :: pageVecs n (l.drop 16)

/-- M's page part: poisoned lines as zeros (R397, R398). -/
def maskedPage (bytes : List Byte) (mask : Nat) : List Byte :=
  if mask = 0 then bytes else (bytes.zipIdx).map fun x => if mask.testBit (x.2 / 64) then 0#8 else x.1

/-- The message M (R398). -/
def checkMsg (page : List Byte) (mask : Nat) (pm : Bool) : List Byte := if pm then page ++ leBytes 8 mask else page

/-- The header word of R388. -/
def headerWord (pat form clen : Nat) (pm : Bool) (checkA : Nat) : Nat :=
  pat + (form + (if pm then 4 else 0)) * 2 ^ 12 + clen * 2 ^ 16 + 2 ^ 28 + checkA * 2 ^ 32

/-- The result of a fold: the stored form and its base cycles (R429). -/
structure FoldOut where
  form : Stored
  base : Nat

def ceilDiv (a b : Nat) : Nat := (a + b - 1) / b

/-- Stored bytes of a RAW page: header, trailer, mask when PMASK is 1, then the page (the first three are kept in the
sheet's private storage, R401). -/
def rawForm (page : List Byte) (mask : Nat) : Stored :=
  let pm := mask != 0
  let m := checkMsg page mask pm
  { raw := true, pat := 0, mask := mask, slips := 16
    bytes := leBytes 8 (headerWord 0 1 0 pm (crcA m)) ++ leBytes 4 (crcB m) ++ (if pm then leBytes 8 mask else []) ++ page }

/-- Codes and tokens begun up to stream bit `limit`. -/
def begunBy (limit : Nat) (pieces : List (List Bool × Nat)) : Nat :=
  (pieces.foldl (fun (a : Nat × Nat) x => (a.1 + x.1.length, if a.1 ≤ limit then a.2 + x.2 else a.2)) (0, 0)).2

/-- Fold a page with poison mask `mask` under pattern `pat` of file `file`; none folds RAW (R440). -/
def foldPage (pat : Option (Nat × List Byte)) (bytes : List Byte) (mask : Nat) : FoldOut :=
  let page := maskedPage bytes mask
  match pat with
  | none => ⟨rawForm page mask, 256⟩
  | some (slot, file) =>
    let lens := codeLens (patTable file)
    let book := codeBook lens
    let pm := mask != 0
    let pieces := (pageVecs 256 page).map (encodeVec file lens book)
    let bits := (if pm then bitsOf (leBytes 8 mask) else []) ++ (pieces.map (·.1)).flatten
    let clen := ceilDiv bits.length 8
    let k := pieces.foldl (fun a x => a + x.2) 0
    if 3840 < 12 + clen then ⟨rawForm page mask, max 256 (max (8 + ceilDiv 30625 48) (8 + ceilDiv (begunBy 30624 pieces) 8))⟩
    else
      let m := checkMsg page mask pm
      ⟨{ raw := false, pat := slot, mask := mask, slips := ceilDiv (12 + clen) 256
         bytes := leBytes 8 (headerWord slot 0 clen pm (crcA m)) ++ packBits clen bits ++ leBytes 4 (crcB m) },
       max 256 (max (8 + ceilDiv bits.length 48) (8 + ceilDiv k 8))⟩

/-! ### Decoding (R402 to R405, R429) -/

/-- A decoded code stream: the page where it is sound, bits read, codes and tokens begun. -/
structure StreamRead where
  page : Option (List Byte)
  bits : Nat
  k    : Nat
  rest : List Bool

def readVecs (file : List Byte) (book : List (Nat × List Nat)) : Nat → List (List Byte) → Nat → Nat → List Bool → StreamRead
  | 0, acc, n, k, l => ⟨some acc.reverse.flatten, n, k, l⟩
  | v + 1, acc, n, k, l =>
    match readCode book 0 0 l with
    | (none, m, r) => ⟨none, n + m, k + 1, r⟩
    | (some s, m, r) =>
      let q := readRes 17 [] 0 0 r
      match q.bytes with
      | none => ⟨none, n + m + q.bits, k + 1 + q.toks, q.rest⟩
      | some b => readVecs file book v (xorBytes (patVector file s) b :: acc) (n + m + q.bits) (k + 1 + q.toks) q.rest

/-- A code area read whole: mask, codes, padding and end (R391, R404). -/
structure AreaRead where
  /-- The page and its mask, where the area is sound. -/
  out  : Option (List Byte × Nat)
  bits : Nat
  k    : Nat

def readArea (file : List Byte) (pm : Bool) (area : List Byte) : AreaRead :=
  let lens := codeLens (patTable file)
  let mask := if pm then leNat (area.take 8) else 0
  let pre := if pm then 64 else 0
  if pm && area.length < 8 then ⟨none, 8 * area.length, 0⟩
  else
    let q := readVecs file (codeBook lens) 256 [] pre 0 ((bitsOf area).drop pre)
    match q.page with
    | none => ⟨none, q.bits, q.k⟩
    | some p => if q.rest.length < 8 && q.rest.all (· == false) then ⟨some (maskedPage p mask, mask), q.bits, q.k⟩ else ⟨none, q.bits, q.k⟩

/-- Outcome of a stored decode (R405). -/
inductive DecOutcome where
  | good
  | checkA      -- good, check A damaged
  | checkB      -- good, check B damaged
  | checks      -- data damaged: both checks differ
  | unsound     -- data damaged: not structurally sound
  | noPattern   -- data damaged: the pattern condition failed
  | uncorrectable
  deriving DecidableEq, Repr

def DecOutcome.damaged : DecOutcome → Bool
  | .good | .checkA | .checkB => false
  | _ => true

/-- A finished decode. -/
structure DecodeOut where
  outcome : DecOutcome
  bytes   : List Byte
  mask    : Nat
  base    : Nat
  /-- PATTERN of the header. -/
  pat     : Nat

/-- Fields of a header's low word. -/
def hdrPat (w : Nat) : Nat := w % 4096
def hdrForm (w : Nat) : Nat := w / 4096 % 4
def hdrPm (w : Nat) : Bool := w.testBit 14
def hdrRsv (w : Nat) : Bool := w.testBit 15
def hdrClen (w : Nat) : Nat := w / 65536 % 4096
def hdrVer (w : Nat) : Nat := w / 2 ^ 28 % 16

/-- All lines poison. -/
def allMask : Nat := 2 ^ 64 - 1

/-- Base cycles of a CODED decode. -/
def codedBase (b k : Nat) : Nat := max 205 (max (8 + ceilDiv b 48) (8 + ceilDiv k 8))

/-- The decision on checks computed over M. -/
def checkOutcome (page : List Byte) (mask : Nat) (pm : Bool) (a b : Nat) : DecOutcome :=
  let m := checkMsg page mask pm
  if crcA m = a then (if crcB m = b then .good else .checkB) else if crcB m = b then .checkA else .checks

/-- Decode a stored form. `ue` says that a byte of it was uncorrectable; `avail` whether the pattern a CODED header names
is available (R463), and its file. -/
def decodeStored (ue : Bool) (avail : Nat → Option (List Byte)) (st : Stored) : DecodeOut :=
  let w := leNat (st.bytes.take 8)
  let bad := fun (o : DecOutcome) (base : Nat) => (⟨o, List.replicate 4096 0#8, allMask, base, hdrPat w⟩ : DecodeOut)
  let raw := hdrForm w == 1
  if ue then bad .uncorrectable 205
  else if hdrVer w ≠ 1 ∨ hdrRsv w ∨ 2 ≤ hdrForm w then bad .unsound 205
  else if raw then
    if hdrPat w ≠ 0 ∨ hdrClen w ≠ 0 then bad .unsound 205
    else
      let pm := hdrPm w
      let mask := if pm then leNat ((st.bytes.drop 12).take 8) else 0
      let page := maskedPage ((st.bytes.drop (if pm then 20 else 12)).take 4096) mask
      let o := checkOutcome page mask pm (w / 2 ^ 32) (leNat ((st.bytes.drop 8).take 4))
      if o.damaged then bad o 205 else ⟨o, page, mask, 205, 0⟩
  else
    let clen := hdrClen w
    if clen = 0 ∨ 3828 < clen then bad .unsound 205
    else match avail (hdrPat w) with
      | none => bad .noPattern 205
      | some file =>
        let q := readArea file (hdrPm w) ((st.bytes.drop 8).take clen)
        match q.out with
        | none => bad .unsound (codedBase q.bits q.k)
        | some (page, mask) =>
          let o := checkOutcome page mask (hdrPm w) (w / 2 ^ 32) (leNat ((st.bytes.drop (8 + clen)).take 4))
          if o.damaged then bad o (codedBase (8 * clen) q.k) else ⟨o, page, mask, codedBase (8 * clen) q.k, hdrPat w⟩

/-- R406: the form with a check rewritten over M. -/
def rewriteCheck (b : Bool) (page : List Byte) (mask : Nat) (st : Stored) : Stored :=
  let w := leNat (st.bytes.take 8)
  let m := checkMsg page mask (hdrPm w)
  if b then
    let at' := if hdrForm w = 1 then 8 else 8 + hdrClen w
    { st with bytes := st.bytes.take at' ++ leBytes 4 (crcB m) ++ st.bytes.drop (at' + 4) }
  else { st with bytes := st.bytes.take 4 ++ leBytes 4 (crcA m) ++ st.bytes.drop 8 }

/-- Flips of stored bytes: position and XOR value (the environment of a decode, log entry 25). -/
def flipBytes (l : List Byte) (f : List (Nat × Byte)) : List Byte :=
  f.foldl (fun l x => listSet x.1 (l.getD x.1 0#8 ^^^ x.2) l) l

/-! ### The wire form (R408 to R413, R991) -/

/-- WIRE_ERR.CAUSE codes. -/
def wMAGIC : Nat := 1
def wFIELD : Nat := 2
def wPATTERN : Nat := 3
def wCODE : Nat := 4
def wLENGTH : Nat := 5
def wEND : Nat := 6

/-- One wire page, accepted and decoded. -/
structure WirePage where
  form  : Nat
  pat   : Nat
  mask  : Nat
  bytes : List Byte
  base  : Nat
  /-- Bytes of its record. -/
  len   : Nat
  deriving DecidableEq, Repr

/-- The page records of a segment, in order: `n` records from record `i` on, `l` the bytes up to byte 8 + SLEN. -/
def readRecords (avail : Nat → Option (List Byte)) : Nat → Nat → List WirePage → List Byte → Except (Nat × Nat) (List WirePage)
  | 0, i, acc, l => if l.isEmpty then .ok acc.reverse else .error (wLENGTH, i - 1)
  | n + 1, i, acc, l =>
    if l.length < 4 then .error (wLENGTH, i)
    else
      let w := leNat (l.take 4)
      let form := hdrForm w; let pm := hdrPm w; let clen := hdrClen w
      if hdrRsv w ∨ hdrVer w ≠ 1 ∨ form = 3 ∨ (form = 0 ∧ (clen = 0 ∨ 3828 < clen)) ∨ (form ≠ 0 ∧ (clen ≠ 0 ∨ hdrPat w ≠ 0)) then .error (wFIELD, i)
      else
        let body := if form = 0 then clen else (if pm then 8 else 0) + (if form = 1 then 4096 else 0)
        let r := l.drop 4
        if r.length < body then .error (wLENGTH, i)
        else if form = 0 then
          match avail (hdrPat w) with
          | none => .error (wPATTERN, i)
          | some file =>
            let q := readArea file pm (r.take clen)
            match q.out with
            | none => .error (wCODE, i)
            | some (page, mask) => readRecords avail n (i + 1) (⟨0, hdrPat w, mask, page, codedBase (8 * clen) q.k, 4 + body⟩ :: acc) (r.drop body)
        else
          let mask := if pm then leNat (r.take 8) else 0
          let page := if form = 1 then maskedPage ((r.drop (if pm then 8 else 0)).take 4096) mask else List.replicate 4096 0#8
          readRecords avail n (i + 1) (⟨form, 0, mask, page, 205, 4 + body⟩ :: acc) (r.drop body)

/-- R991: check a segment in byte order; the error is the cause and the page record. -/
def readSegment (avail : Nat → Option (List Byte)) (l : List Byte) : Except (Nat × Nat) (List WirePage) :=
  if l.length < 12 then .error (wLENGTH, 0)
  else
    let h := leNat (l.take 8)
    let pages := h / 2 ^ 16 % 2 ^ 13
    let slen := h / 2 ^ 32 % 2 ^ 16
    if h % 2 ^ 16 ≠ 0xF01D then .error (wMAGIC, 0)
    else if h / 2 ^ 29 % 8 ≠ 0 ∨ h / 2 ^ 48 ≠ 0 ∨ pages = 0 ∨ 4096 < pages ∨ slen < 4 ∨ 16372 < slen then .error (wFIELD, 0)
    else if l.length < 12 + slen then .error (wLENGTH, 0)
    else match readRecords avail pages 0 [] ((l.drop 8).take slen) with
      | .error e => .error e
      | .ok ps =>
        let m := leNat ((l.drop (8 + slen)).take 4)
        if m % 2 ^ 16 = 0xE0F5 ∧ m / 2 ^ 29 = 0 ∧ m / 2 ^ 16 % 2 ^ 13 = pages then .ok ps else .error (wEND, pages - 1)

/-- A page as a wire record: its stored form's header word and body (R410); a page of zeros without poison may go as
ZERO. -/
def wireRecord (st : Stored) : List Byte :=
  let w := leNat (st.bytes.take 8)
  if hdrForm w = 1 then st.bytes.take 4 ++ st.bytes.drop 12
  else st.bytes.take 4 ++ (st.bytes.drop 8).take (hdrClen w)

/-- A ZERO record with an optional mask. -/
def zeroRecord (mask : Nat) : List Byte :=
  leBytes 4 (2 * 2 ^ 12 + (if mask = 0 then 0 else 4 * 2 ^ 12) + 2 ^ 28) ++ (if mask = 0 then [] else leBytes 8 mask)

/-- A segment of some records (R409). -/
def wireSegment (recs : List (List Byte)) : List Byte :=
  let body := recs.flatten
  leBytes 8 (0xF01D + recs.length * 2 ^ 16 + body.length * 2 ^ 32) ++ body ++ leBytes 4 (0xE0F5 + recs.length * 2 ^ 16)

end Sys2Proof.Machine
end

