-- ==== Sys2Proof/Machine/RegTable.lean ====
section
/-!
DEFINITION. The plain read-write registers of the register space, field by field, transcribed from the register tables of
the spec: page family and instances, byte offset in the page, bits, reset value, values that are not reserved, and
whether the field is RWL. Registers whose write has a rule of its own (a staged or indexed table) are not here.
-/

namespace Sys2Proof.Machine

/-- One field of a read-write register. -/
structure RegField where
  fam : Nat
  i0 : Nat
  i1 : Nat
  ofs : Nat
  hi : Nat
  lo : Nat
  rst : Nat
  /-- Values that are not reserved, as ranges; the empty list is every value. -/
  legal : List (Nat × Nat)
  rwl : Bool
  deriving DecidableEq, Repr

/-- Rows 0 to 23 of the register tables. -/
def regFields0 : List RegField := [
  ⟨2, 0, 0, 0x048, 1, 0, 0, [], false⟩,  -- FRAME.SYNC_CTL.ROLE
  ⟨2, 0, 0, 0x048, 7, 4, 0, [(0, 1), (8, 15)], false⟩,  -- FRAME.SYNC_CTL.SRC
  ⟨2, 0, 0, 0x048, 8, 8, 0, [], false⟩,  -- FRAME.SYNC_CTL.RESEAT_AUTO
  ⟨2, 0, 0, 0x048, 19, 16, 8, [(2, 15)], false⟩,  -- FRAME.SYNC_CTL.LOSS_REELS
  ⟨2, 0, 0, 0x048, 23, 20, 4, [(1, 15)], false⟩,  -- FRAME.SYNC_CTL.TAKEOVER_REELS
  ⟨2, 0, 0, 0x058, 11, 0, 0, [], false⟩,  -- FRAME.IN_DELAY.DLY
  ⟨2, 0, 0, 0x05C, 31, 0, 0, [], false⟩,  -- FRAME.NUM_SET_LO.NUM
  ⟨2, 0, 0, 0x060, 15, 0, 0, [], false⟩,  -- FRAME.NUM_SET_HI.NUM
  ⟨2, 0, 0, 0x068, 6, 0, 0, [(0, 124)], false⟩,  -- FRAME.SLATE_IDX.ROW
  ⟨2, 0, 0, 0x068, 11, 8, 0, [], false⟩,  -- FRAME.SLATE_IDX.GROUP
  ⟨2, 0, 0, 0x068, 13, 12, 0, [], false⟩,  -- FRAME.SLATE_IDX.WORD
  ⟨2, 0, 0, 0x068, 16, 16, 0, [], false⟩,  -- FRAME.SLATE_IDX.BANK
  ⟨2, 0, 0, 0x070, 3, 0, 0, [], false⟩,  -- FRAME.OVR_SEL.GROUP
  ⟨2, 0, 0, 0x070, 12, 4, 0, [], false⟩,  -- FRAME.OVR_SEL.INST
  ⟨3, 0, 0, 0x054, 7, 0, 8, [], false⟩,  -- TIER.WM.LOW
  ⟨3, 0, 0, 0x054, 15, 8, 16, [], false⟩,  -- TIER.WM.HIGH
  ⟨3, 0, 0, 0x058, 7, 0, 24, [], false⟩,  -- TIER.AGE_CTL.FOLD_MIN
  ⟨3, 0, 0, 0x058, 15, 8, 64, [], false⟩,  -- TIER.AGE_CTL.SHELVE_MIN
  ⟨3, 0, 0, 0x058, 23, 16, 1, [], false⟩,  -- TIER.AGE_CTL.HEADROOM
  ⟨3, 0, 0, 0x05C, 7, 0, 2, [], false⟩,  -- TIER.CALL_CTL.GRACE
  ⟨3, 0, 0, 0x05C, 31, 16, 1000, [(1, 65535)], false⟩,  -- TIER.CALL_CTL.WAIT_LIMIT
  ⟨3, 0, 0, 0x060, 7, 0, 0, [], false⟩,  -- TIER.CALL_IDX.SLOT
  ⟨3, 0, 0, 0x074, 31, 0, 0, [], false⟩,  -- TIER.SHEET_IDX.SHEET
  ⟨3, 0, 0, 0x0A0, 3, 0, 0, [(0, 8)], false⟩  -- TIER.CNT_SEL.SEL
  ]

/-- Rows 24 to 47 of the register tables. -/
def regFields1 : List RegField := [
  ⟨0x12, 0, 127, 0x100, 22, 0, 0, [], true⟩,  -- TENn.OPEN_FLOOR.MIB
  ⟨0x12, 0, 127, 0x104, 22, 0, 0, [], true⟩,  -- TENn.FOLD_FLOOR.MIB
  ⟨0x12, 0, 127, 0x108, 22, 0, 0, [], true⟩,  -- TENn.CEILING.MIB
  ⟨0x12, 0, 127, 0x10C, 4, 0, 16, [(1, 16)], true⟩,  -- TENn.DECL.SLIPS
  ⟨0x12, 0, 127, 0x044, 8, 0, 0, [(0, 256)], true⟩,  -- TENn.RQ_RES.ENTRIES
  ⟨0x12, 0, 127, 0x048, 15, 0, 0, [], true⟩,  -- TENn.FC_WAYS.MASK
  ⟨0x12, 0, 127, 0x04C, 10, 0, 0, [(0, 1024)], true⟩,  -- TENn.DIR_RES.UNITS
  ⟨0x12, 0, 127, 0x050, 5, 0, 0, [(0, 32)], true⟩,  -- TENn.RACK_PIN.COUNT
  ⟨0x12, 0, 127, 0x054, 6, 0, 0, [(0, 0), (4, 4), (8, 8), (12, 12), (16, 16), (20, 20), (24, 24), (28, 28), (32, 32), (36, 36), (40, 40), (44, 44), (48, 48), (52, 52), (56, 56), (60, 60), (64, 64)], true⟩,  -- TENn.HAMPER.KIB
  ⟨0x12, 0, 127, 0x060, 31, 0, 0, [], true⟩,  -- TENn.SHELF0–7.MASK
  ⟨0x12, 0, 127, 0x064, 31, 0, 0, [], true⟩,  -- TENn.SHELF0–7.MASK
  ⟨0x12, 0, 127, 0x068, 31, 0, 0, [], true⟩,  -- TENn.SHELF0–7.MASK
  ⟨0x12, 0, 127, 0x06C, 31, 0, 0, [], true⟩,  -- TENn.SHELF0–7.MASK
  ⟨0x12, 0, 127, 0x070, 31, 0, 0, [], true⟩,  -- TENn.SHELF0–7.MASK
  ⟨0x12, 0, 127, 0x074, 31, 0, 0, [], true⟩,  -- TENn.SHELF0–7.MASK
  ⟨0x12, 0, 127, 0x078, 31, 0, 0, [], true⟩,  -- TENn.SHELF0–7.MASK
  ⟨0x12, 0, 127, 0x07C, 31, 0, 0, [], true⟩,  -- TENn.SHELF0–7.MASK
  ⟨0x12, 128, 128, 0x040, 9, 0, 0, [], false⟩,  -- TEN128.HID_IDX.IDX
  ⟨0x12, 128, 128, 0x044, 31, 0, 0, [], false⟩,  -- TEN128.HID_LO
  ⟨0x12, 128, 128, 0x048, 31, 0, 0, [], false⟩,  -- TEN128.HID_HI
  ⟨0x12, 128, 128, 0x050, 11, 0, 0, [], false⟩,  -- TEN128.RGN_IDX.IDX
  ⟨0x12, 128, 128, 0x054, 31, 0, 0, [], false⟩,  -- TEN128.RGN_DATA0–7
  ⟨0x12, 128, 128, 0x058, 31, 0, 0, [], false⟩,  -- TEN128.RGN_DATA0–7
  ⟨0x12, 128, 128, 0x05C, 31, 0, 0, [], false⟩  -- TEN128.RGN_DATA0–7
  ]

/-- Rows 48 to 71 of the register tables. -/
def regFields2 : List RegField := [
  ⟨0x12, 128, 128, 0x060, 31, 0, 0, [], false⟩,  -- TEN128.RGN_DATA0–7
  ⟨0x12, 128, 128, 0x064, 31, 0, 0, [], false⟩,  -- TEN128.RGN_DATA0–7
  ⟨0x12, 128, 128, 0x068, 31, 0, 0, [], false⟩,  -- TEN128.RGN_DATA0–7
  ⟨0x12, 128, 128, 0x06C, 31, 0, 0, [], false⟩,  -- TEN128.RGN_DATA0–7
  ⟨0x12, 128, 128, 0x070, 31, 0, 0, [], false⟩,  -- TEN128.RGN_DATA0–7
  ⟨7, 0, 0, 0x040, 6, 0, 0, [], false⟩,  -- KEY.KEY_IDX.TENANT
  ⟨0x10, 0, 7, 0x040, 2, 0, 5, [(0, 5)], false⟩,  -- HPORTn.LINK_CTL.RATE_MAX
  ⟨0x10, 0, 7, 0x040, 6, 4, 4, [(0, 4)], false⟩,  -- HPORTn.LINK_CTL.WIDTH_MAX
  ⟨0x10, 0, 7, 0x040, 8, 8, 1, [], false⟩,  -- HPORTn.LINK_CTL.FLIT68_EN
  ⟨0x10, 0, 7, 0x04C, 1, 0, 0, [(0, 2)], false⟩,  -- HPORTn.ID_CFG.MODE
  ⟨0x10, 0, 7, 0x04C, 12, 8, 1, [(1, 16)], false⟩,  -- HPORTn.ID_CFG.LDS
  ⟨0x10, 0, 7, 0x058, 7, 0, 64, [], false⟩,  -- HPORTn.DEVLOAD.THR1
  ⟨0x10, 0, 7, 0x058, 15, 8, 160, [], false⟩,  -- HPORTn.DEVLOAD.THR2
  ⟨0x10, 0, 7, 0x058, 23, 16, 224, [], false⟩,  -- HPORTn.DEVLOAD.THR3
  ⟨0x10, 0, 7, 0x05C, 6, 0, 0, [], false⟩,  -- HPORTn.DL_SEL.TENANT
  ⟨0x10, 0, 7, 0x068, 2, 0, 0, [(0, 6)], false⟩,  -- HPORTn.ERR_SEL.SEL
  ⟨0x10, 0, 7, 0x070, 0, 0, 1, [], false⟩,  -- HPORTn.VIRAL.TX_EN
  ⟨0x10, 0, 7, 0x080, 7, 0, 64, [(1, 255)], false⟩,  -- HPORTn.PWR_CTL.L1_IDLE
  ⟨0x10, 0, 7, 0x080, 8, 8, 1, [], false⟩,  -- HPORTn.PWR_CTL.L0P_EN
  ⟨0x10, 0, 7, 0x080, 14, 12, 3, [(1, 4)], false⟩,  -- HPORTn.PWR_CTL.L0P_MIN
  ⟨0x10, 0, 7, 0x080, 22, 16, 25, [(0, 100)], false⟩,  -- HPORTn.PWR_CTL.L0P_THR
  ⟨4, 0, 0, 0x04C, 10, 0, 1024, [], false⟩,  -- DIR.SWEEP.RATE
  ⟨4, 0, 0, 0x054, 9, 0, 0, [], false⟩,  -- DIR.LOST_IDX.HID
  ⟨4, 0, 0, 0x05C, 18, 0, 0, [], false⟩  -- DIR.ENT_IDX.SET
  ]

/-- Rows 72 to 95 of the register tables. -/
def regFields3 : List RegField := [
  ⟨4, 0, 0, 0x05C, 23, 20, 0, [], false⟩,  -- DIR.ENT_IDX.WAY
  ⟨4, 0, 0, 0x074, 3, 0, 0, [(0, 8)], false⟩,  -- DIR.CNT_SEL.SEL
  ⟨5, 0, 0, 0x040, 4, 0, 0, [(0, 19)], false⟩,  -- RGL.CLS_IDX.CLASS
  ⟨5, 0, 0, 0x060, 2, 0, 3, [(1, 6)], false⟩,  -- RGL.CTL.ALPHA
  ⟨5, 0, 0, 0x068, 7, 0, 0, [(0, 19), (32, 159)], false⟩,  -- RGL.HIST_SEL.SEL
  ⟨5, 0, 0, 0x068, 21, 16, 0, [], false⟩,  -- RGL.HIST_SEL.BIN
  ⟨8, 0, 0, 0x204, 2, 0, 0, [], false⟩,  -- PAT.CHK_SEL.SEL
  ⟨8, 0, 0, 0x100, 5, 0, 0, [], false⟩,  -- PAT.LANE_IDX.LANE
  ⟨8, 0, 0, 0x110, 3, 0, 0, [(0, 8)], false⟩,  -- PAT.LANE_CNT_SEL.SEL
  ⟨8, 0, 0, 0x120, 7, 0, 0, [], false⟩,  -- PAT.RACK_IDX.ENTRY
  ⟨8, 0, 0, 0x044, 11, 0, 0, [], false⟩,  -- PAT.PAT_IDX.SLOT
  ⟨8, 0, 0, 0x044, 22, 16, 0, [], false⟩,  -- PAT.PAT_IDX.OWNER
  ⟨8, 0, 0, 0x068, 6, 0, 0, [], false⟩,  -- PAT.OWN_SEL.TENANT
  ⟨0x13, 0, 15, 0x04C, 2, 0, 0, [], false⟩,  -- MEDIAn.ERR_SEL.SEL
  ⟨0x13, 0, 15, 0x054, 15, 0, 64, [], false⟩,  -- MEDIAn.CE_THR.WARN
  ⟨0x13, 0, 15, 0x054, 31, 16, 1024, [], false⟩,  -- MEDIAn.CE_THR.ADVISE
  ⟨0x13, 0, 0, 0x108, 15, 0, 8800, [], false⟩,  -- MEDIAn.RATE_CAP.MTS
  ⟨0x13, 0, 0, 0x100, 7, 0, 24, [], false⟩,  -- MEDIAn.SCRUB_CTL.HOURS
  ⟨0x13, 0, 0, 0x10C, 9, 0, 0, [], false⟩,  -- MEDIAn.RET_IDX.IDX
  ⟨0x13, 0, 0, 0x110, 31, 0, 0, [], false⟩,  -- MEDIAn.RET_LO
  ⟨0x13, 0, 0, 0x114, 31, 0, 0, [], false⟩,  -- MEDIAn.RET_HI
  ⟨0x13, 0, 0, 0x120, 2, 0, 0, [(0, 5)], false⟩,  -- MEDIAn.FC_CNT_SEL.SEL
  ⟨0x13, 16, 47, 0x050, 2, 0, 0, [], false⟩,  -- MEDIAn.ERR_SEL.SEL
  ⟨0x13, 16, 16, 0x100, 5, 0, 7, [], false⟩  -- MEDIAn.SHELF_CTL.OP_PCT
  ]

/-- Rows 96 to 119 of the register tables. -/
def regFields4 : List RegField := [
  ⟨0x13, 16, 16, 0x100, 15, 8, 64, [(1, 255)], false⟩,  -- MEDIAn.SHELF_CTL.FLUSH
  ⟨0x13, 16, 16, 0x100, 19, 16, 4, [], false⟩,  -- MEDIAn.SHELF_CTL.SUSP_MAX
  ⟨0x13, 16, 16, 0x104, 7, 0, 8, [], false⟩,  -- MEDIAn.SORT_CTL.LOW
  ⟨0x13, 16, 16, 0x104, 15, 8, 16, [], false⟩,  -- MEDIAn.SORT_CTL.HIGH
  ⟨0x13, 16, 16, 0x104, 31, 16, 1000, [(1, 65535)], false⟩,  -- MEDIAn.SORT_CTL.WL_SPREAD
  ⟨0x13, 16, 16, 0x108, 3, 0, 5, [(1, 8)], false⟩,  -- MEDIAn.RETRY_CTL.RETIRE_LVL
  ⟨0x13, 16, 16, 0x10C, 7, 0, 128, [(0, 128)], false⟩,  -- MEDIAn.LOG_IDX.LOG
  ⟨0x13, 16, 16, 0x11C, 4, 0, 0, [], false⟩,  -- MEDIAn.SRET_SEL.CHANNEL
  ⟨0x13, 16, 16, 0x11C, 10, 8, 0, [], false⟩,  -- MEDIAn.SRET_SEL.CE
  ⟨0x13, 16, 16, 0x11C, 13, 12, 0, [], false⟩,  -- MEDIAn.SRET_SEL.LUN
  ⟨0x13, 16, 16, 0x11C, 18, 16, 0, [], false⟩,  -- MEDIAn.SRET_SEL.PLANE
  ⟨0x13, 16, 16, 0x11C, 19, 19, 0, [], false⟩,  -- MEDIAn.SRET_SEL.WHOLE
  ⟨0x13, 16, 16, 0x128, 15, 0, 60000, [(1, 65535)], false⟩,  -- MEDIAn.INV_CTL.SCENES
  ⟨1, 0, 0, 0x300, 4, 0, 0, [], false⟩,  -- SYS.CUE_IDX.ENGINE
  ⟨1, 0, 0, 0x310, 2, 0, 0, [(0, 6)], false⟩,  -- SYS.CUE_CNT_SEL.SEL
  ⟨0x14, 0, 287, 0x060, 3, 0, 0, [(0, 8)], false⟩,  -- PRESSn.CNT_SEL.SEL
  ⟨0x14, 0, 287, 0x080, 1, 0, 0, [], false⟩,  -- PRESSn.JOB_IDX.CTX
  ⟨0x14, 0, 287, 0x090, 2, 0, 0, [(0, 5)], false⟩,  -- PRESSn.JOB_CNT_SEL.SEL
  ⟨0x14, 0, 287, 0x0A0, 2, 0, 0, [], false⟩,  -- PRESSn.CELL_IDX.ARRAY
  ⟨0x14, 0, 287, 0x0A0, 5, 4, 0, [], false⟩,  -- PRESSn.CELL_IDX.DECK
  ⟨0x14, 0, 287, 0x0B4, 2, 0, 0, [], false⟩,  -- PRESSn.CAL_CNT_SEL.SEL
  ⟨0x14, 0, 0, 0x0C0, 11, 0, 2400, [], false⟩,  -- PRESS0.VPROG_CTL.HOLD_MV
  ⟨0x14, 0, 0, 0x0C0, 27, 16, 2450, [], false⟩,  -- PRESS0.VPROG_CTL.RELEASE_MV
  ⟨0x14, 0, 0, 0x0C8, 4, 0, 16, [(4, 31)], false⟩  -- PRESS0.LAY_CTL.MAX_PULSES
  ]

/-- Rows 120 to 143 of the register tables. -/
def regFields5 : List RegField := [
  ⟨0x14, 0, 0, 0x0C8, 23, 8, 100, [(1, 65535)], false⟩,  -- PRESS0.LAY_CTL.HOLD_MAX
  ⟨0x14, 0, 0, 0x0CC, 15, 0, 8000, [(1, 65535)], false⟩,  -- PRESS0.CAL_CTL.PERIOD
  ⟨0x14, 0, 0, 0x0CC, 23, 16, 5, [(1, 255)], false⟩,  -- PRESS0.CAL_CTL.DTEMP
  ⟨0x14, 0, 0, 0x0D0, 15, 0, 3600, [(1, 65535)], false⟩,  -- PRESS0.STORE_CTL.PERIOD
  ⟨0x14, 0, 0, 0x0D0, 31, 16, 600, [(1, 65535)], false⟩,  -- PRESS0.STORE_CTL.MIN
  ⟨0x11, 0, 7, 0x048, 0, 0, 0, [], false⟩,  -- FPORTn.SEC_CTL.PLAIN_OK
  ⟨0x11, 0, 7, 0x04C, 2, 0, 0, [], false⟩,  -- FPORTn.ERR_SEL.SEL
  ⟨0x11, 0, 7, 0x058, 2, 0, 0, [], false⟩,  -- FPORTn.CRED_IDX.VC
  ⟨0x11, 0, 0, 0x100, 11, 0, 0, [], false⟩,  -- FPORT0.NODE.ID
  ⟨0x11, 0, 0, 0x100, 15, 15, 0, [], false⟩,  -- FPORT0.NODE.VALID
  ⟨0x11, 0, 0, 0x104, 11, 0, 0, [], false⟩,  -- FPORT0.RT_IDX.NODE
  ⟨0x11, 0, 0, 0x10C, 3, 0, 8, [(1, 15)], false⟩,  -- FPORT0.FAB_CTL.MAX_HOPS
  ⟨0x11, 0, 0, 0x10C, 23, 8, 125, [(1, 65535)], false⟩,  -- FPORT0.FAB_CTL.RSP_TIMEOUT
  ⟨0x11, 0, 0, 0x110, 7, 0, 16, [], false⟩,  -- FPORT0.PEER_CTL.DEADLINE
  ⟨0x11, 0, 0, 0x114, 9, 0, 0, [], false⟩,  -- FPORT0.PEER_IDX.IDX
  ⟨0x11, 0, 0, 0x118, 0, 0, 0, [], false⟩,  -- FPORT0.PEER_DATA.VALID
  ⟨0x11, 0, 0, 0x118, 15, 4, 0, [], false⟩,  -- FPORT0.PEER_DATA.NODE
  ⟨0x11, 0, 0, 0x118, 22, 16, 0, [], false⟩,  -- FPORT0.PEER_DATA.STEN
  ⟨0x11, 0, 0, 0x118, 30, 24, 0, [], false⟩,  -- FPORT0.PEER_DATA.TENANT
  ⟨0x11, 0, 0, 0x120, 11, 0, 0, [], false⟩,  -- FPORT0.MGMT_SRC0–1.NODEA
  ⟨0x11, 0, 0, 0x124, 11, 0, 0, [], false⟩,  -- FPORT0.MGMT_SRC0–1.NODEA
  ⟨0x11, 0, 0, 0x120, 15, 15, 0, [], false⟩,  -- FPORT0.MGMT_SRCk.VALIDA
  ⟨0x11, 0, 0, 0x124, 15, 15, 0, [], false⟩,  -- FPORT0.MGMT_SRCk.VALIDA
  ⟨0x11, 0, 0, 0x120, 27, 16, 0, [], false⟩  -- FPORT0.MGMT_SRCk.NODEB
  ]

/-- Rows 144 to 167 of the register tables. -/
def regFields6 : List RegField := [
  ⟨0x11, 0, 0, 0x124, 27, 16, 0, [], false⟩,  -- FPORT0.MGMT_SRCk.NODEB
  ⟨0x11, 0, 0, 0x120, 31, 31, 0, [], false⟩,  -- FPORT0.MGMT_SRCk.VALIDB
  ⟨0x11, 0, 0, 0x124, 31, 31, 0, [], false⟩,  -- FPORT0.MGMT_SRCk.VALIDB
  ⟨0x11, 0, 0, 0x128, 2, 0, 0, [], false⟩,  -- FPORT0.CNT_SEL.SEL
  ⟨9, 0, 0, 0x040, 5, 0, 0, [], false⟩,  -- COLL.COLL_IDX.ENTRY
  ⟨9, 0, 0, 0x070, 15, 0, 250, [(1, 65535)], false⟩,  -- COLL.PULL_TO.FRAMES
  ⟨9, 0, 0, 0x074, 2, 0, 0, [(0, 6)], false⟩,  -- COLL.CNT_SEL.SEL
  ⟨1, 0, 0, 0x340, 3, 0, 0, [(0, 8)], false⟩,  -- SYS.ESC_SEL.SEL
  ⟨1, 0, 0, 0x340, 10, 8, 0, [], false⟩,  -- SYS.ESC_SEL.PORT
  ⟨1, 0, 0, 0x34C, 15, 0, 1000, [(1, 65535)], false⟩,  -- SYS.WEDGE.FRAMES
  ⟨1, 0, 0, 0x360, 7, 0, 8, [(1, 255)], false⟩,  -- SYS.SVC_CTL.SHADOW_REELS
  ⟨1, 0, 0, 0x360, 25, 16, 64, [(1, 1023)], false⟩,  -- SYS.SVC_CTL.SHADOW_MIN
  ⟨1, 0, 0, 0x364, 23, 0, 60000, [(1, 16777215)], false⟩,  -- SYS.SVC_CTL2.QUAR_TO
  ⟨1, 0, 0, 0x368, 2, 0, 0, [(0, 6)], false⟩,  -- SYS.QUAR_SEL.KIND
  ⟨1, 0, 0, 0x368, 16, 8, 0, [], false⟩,  -- SYS.QUAR_SEL.INST
  ⟨1, 0, 0, 0x378, 6, 0, 0, [], false⟩,  -- SYS.SVC_ENA
  ⟨6, 0, 0, 0x040, 2, 0, 3, [(0, 5)], false⟩,  -- CLOG.CTL.INT_SEV
  ⟨6, 0, 0, 0x040, 4, 4, 0, [], false⟩,  -- CLOG.CTL.CXL_INFO
  ⟨6, 0, 0, 0x04C, 31, 0, 0, [], false⟩,  -- CLOG.RD_SEQ.SEQ
  ⟨1, 0, 0, 0x064, 7, 0, 0, [], false⟩,  -- SYS.SUM_IDX.FAMILY
  ⟨1, 0, 0, 0x064, 19, 16, 0, [(0, 8)], false⟩,  -- SYS.SUM_IDX.WORD
  ⟨1, 0, 0, 0x070, 13, 0, 0, [], false⟩,  -- SYS.VMAP_IDX.PAGE
  ⟨1, 0, 0, 0x078, 1, 0, 0, [], false⟩,  -- SYS.MGMT_CNT_SEL.SEL
  ⟨1, 0, 0, 0x090, 31, 0, 0, [], false⟩  -- SYS.DAILY_SEL.REEL
  ]

/-- Rows 168 to 174 of the register tables. -/
def regFields7 : List RegField := [
  ⟨0x14, 0, 0, 0x100, 1, 0, 0, [], false⟩,  -- PRESS0.PWR_REQ.STATE
  ⟨0x14, 0, 0, 0x100, 4, 4, 1, [], false⟩,  -- PRESS0.PWR_REQ.AUTO_WAKE
  ⟨0x14, 0, 0, 0x108, 7, 0, 95, [], false⟩,  -- PRESS0.THERM_CTL.T_HI
  ⟨0x14, 0, 0, 0x108, 15, 8, 88, [], false⟩,  -- PRESS0.THERM_CTL.T_LO
  ⟨0x14, 0, 0, 0x108, 23, 16, 103, [], false⟩,  -- PRESS0.THERM_CTL.T_EMERG
  ⟨0x14, 0, 0, 0x10C, 9, 0, 560, [], false⟩,  -- PRESS0.PWR_LIMIT.W
  ⟨0x14, 0, 0, 0x110, 2, 0, 0, [], false⟩  -- PRESS0.THERM_SEL.SENSOR
  ]

/-- Every plain read-write field. -/
def regFields : List RegField := regFields0 ++ regFields1 ++ regFields2 ++ regFields3 ++ regFields4 ++ regFields5 ++ regFields6 ++ regFields7

/-- The page family code and instance of a page number (Table — Page map, R887); none where unpopulated. -/
def pageFamily (p : Nat) : Option (Nat × Nat) :=
  if p < 9 then some (p + 1, 0)
  else if 16 ≤ p ∧ p < 24 then some (0x10, p - 16)
  else if 24 ≤ p ∧ p < 32 then some (0x11, p - 24)
  else if 32 ≤ p ∧ p < 161 then some (0x12, p - 32)
  else if 256 ≤ p ∧ p < 304 then some (0x13, p - 256)
  else if 512 ≤ p ∧ p < 800 then some (0x14, p - 512)
  else none

/-- The plain fields of the register at a register-space offset. -/
def fieldsAt (ofs : Nat) : List RegField :=
  match pageFamily (ofs / 4096) with
  | none => []
  | some (fam, inst) => regFields.filter fun f => f.fam == fam && f.ofs == ofs % 4096 && f.i0 ≤ inst && inst ≤ f.i1

/-- What the register at an offset reads as right after reset. -/
def regReset (ofs : Nat) : Word32 :=
  (fieldsAt ofs).foldl (fun w f => w ||| place f.rst (f.hi + 1 - f.lo) f.lo) 0#32

/-- A value is legal for a field unless the table reserves it (R13). -/
def RegField.ok (f : RegField) (v : Nat) : Bool :=
  f.legal.isEmpty || f.legal.any fun (a, b) => a ≤ v && v ≤ b

/-- The mask of a field within its word. -/
def RegField.mask (f : RegField) : Word32 := place (2 ^ (f.hi + 1 - f.lo) - 1) (f.hi + 1 - f.lo) f.lo

/-- A write of `v` over the old word `w`: each field takes its bits, unless the value is reserved (R13) or the field
is locked (R902); bits of no field read 0 (R12). -/
def regMerge (fs : List RegField) (locked : Bool) (w v : Word32) : Word32 :=
  fs.foldl (fun acc f =>
    if f.ok (field v f.hi f.lo) && !(f.rwl && locked) then acc ||| (v &&& f.mask) else acc ||| (w &&& f.mask)) 0#32

end Sys2Proof.Machine
end

