-- ==== Sys2Proof/Machine/OpsBase.lean ====
section
/-!
DEFINITION. The operations every family shares: registers and counters, events and their roll-up (ch. 22), the
continuity log (ch. 21), the slate, the takes and their charges (ch. 01), free values, outputs.
-/

namespace Sys2Proof.Machine

open Sys2Proof

/-! ### Outputs and free values -/

/-- Send one output (log entry 4). -/
def State.emit (o : Output) (s : State) : State := { s with out := s.out ++ [o] }

/-- A fresh free value (log entry 3): nothing constrains it. -/
def State.draw (s : State) : Nat × State := (Config.freeNat s.freeIx, { s with freeIx := s.freeIx + 1 })

/-! ### Registers and counters -/

/-- Register-space offset of register `r` of page `p` (R886). -/
def ofsOf (p r : Nat) : Nat := 4096 * p + r

/-- A plain register as it stands. -/
def State.reg (s : State) (ofs : Nat) : Word32 := mapGet regReset s.regs ofs

/-- A field of a plain register of page `p`. -/
def State.regF (s : State) (p r hi lo : Nat) : Nat := field (s.reg (ofsOf p r)) hi lo

/-- Store a plain register. -/
def State.setReg (ofs : Nat) (v : Word32) (s : State) : State :=
  { s with regs := mapPut regReset ofs v s.regs }

/-- Key of one selected count of a count register. -/
def ctrKey (ofs sel : Nat) : Nat := ofs * 8192 + sel

/-- One selected count. -/
def State.ctr (s : State) (ofs sel : Nat) : Nat := mapGet (fun _ => 0) s.ctrs (ctrKey ofs sel)

/-- Add to a selected count, saturating at 32 bits. -/
def State.bump (ofs sel n : Nat) (s : State) : State :=
  { s with ctrs := mapUpd (fun _ => 0) (ctrKey ofs sel) (fun c => satAdd 32 c n) s.ctrs }

/-- Clear a selected count (R903). -/
def State.clearCtr (ofs sel : Nat) (s : State) : State :=
  { s with ctrs := mapPut (fun _ => 0) (ctrKey ofs sel) 0 s.ctrs }

/-! ### Register pages by name (Table — Page map) -/

def pgSYS : Nat := 0
def pgFRAME : Nat := 1
def pgTIER : Nat := 2
def pgDIR : Nat := 3
def pgRGL : Nat := 4
def pgCLOG : Nat := 5
def pgKEY : Nat := 6
def pgPAT : Nat := 7
def pgCOLL : Nat := 8
def pgHPORT (p : Nat) : Nat := 16 + p
def pgFPORT (f : Nat) : Nat := 24 + f
def pgTEN (t : Nat) : Nat := 32 + t
def pgTEN128 : Nat := 160
def pgMEDIA (m : Nat) : Nat := 256 + m
def pgPRESS (n : Nat) : Nat := 512 + n

/-- Page of the unit of a kind and instance. -/
def unitPage : UnitKind → Nat → Nat
  | .hport, i => pgHPORT i
  | .fport, i => pgFPORT i
  | .dram, i => pgMEDIA i
  | .shelf, i => pgMEDIA (16 + i)
  | .lane, _ => pgPAT
  | .engine, _ => pgSYS
  | .press, i => pgPRESS i

/-! ### Events and their roll-up (R892 to R894, R908) -/

/-- Header of a page. -/
def State.hdr (s : State) (p : Nat) : PageHdr := mapGet (fun _ => {}) s.hdrs p

/-- Change the header of a page. -/
def State.updHdr (p : Nat) (f : PageHdr → PageHdr) (s : State) : State :=
  { s with hdrs := mapUpd (fun _ => {}) p f s.hdrs }

/-- Vector-map entry in force for a page (R908, R919). -/
def State.vmapOf (s : State) (p : Nat) : Nat × Bool := (s.hdr p).vmap.getD (p + 2, true)

/-- Add a number to a list once. -/
def addOnce (n : Nat) (l : List Nat) : List Nat := if n ∈ l then l else l ++ [n]

/-- A cause for a vector of the management function (R269, R270): its message is due in the next frame. -/
def State.mgmtCause (vec : Nat) (s : State) : State :=
  { s with mfn := { s.mfn with now := addOnce vec s.mfn.now } }

/-- A cause for the vector-map entry of a page (R908); an entry that names vector 0 or 1 acts as 2 (R269). -/
def State.pageCause (p : Nat) (s : State) : State :=
  let e := s.vmapOf p
  if e.2 then s.mgmtCause (if e.1 < 2 then 2 else e.1) else s

/-- One-bit mask. -/
def bit32 (b : Nat) : Word32 := BitVec.ofNat 32 (2 ^ b)

/-- The header after its bit `b` is set in frame `f` (R893, R894). -/
def PageHdr.set (h : PageHdr) (b f : Nat) : PageHdr :=
  { h with
    first := match h.first with
      | none => some b
      | some x => if h.firstNow && b < x then some b else some x
    firstNow := h.firstNow || h.first.isNone
    stat := h.stat ||| bit32 b
    now := h.now ||| bit32 b
    stamp := f }

/-- An event sets bit `b` of a page's EVT_STAT, and is a cause when its enable is 1 (R892 to R894, R908). -/
def State.setEvt (p b : Nat) (s : State) : State :=
  let s1 := s.updHdr p (fun h => h.set b s.frame.num)
  if (s.hdr p).ena.getLsbD b then s1.pageCause p else s1

/-! ### The continuity log (R865 to R876) -/

/-- Saturate at 16 bits. -/
def sat16 (n : Nat) : Nat := min n 65535

/-- A value marked ×2: its low and high half, saturating at 32 bits (R868). -/
def x2 (n : Nat) : List Nat := let m := min n (2 ^ 32 - 1); [m % 65536, m / 65536]

/-- DETAIL from the values of the event table: value k in bits [16k+15:16k] (R868). -/
def packDetail : List Nat → Nat
  | [] => 0
  | v :: r => sat16 v + 65536 * packDetail r

/-- R872: whether an entry of this severity is one that repeats within a reel suppress. -/
def suppressible (ev sev : Nat) : Bool := sev ≤ 2 && ev != 0x1010

/-- R870: whether the on-chip ring has room for an entry of severity `sev`. -/
def logRoom (l : List LogEntry) (sev : Nat) : Bool :=
  l.length < 256 && (2 ≤ sev || (l.filter fun e => e.sev ≤ 1).length < 224)

/-- R870: drop the newest entry of the lowest severity present, for a FATAL entry. -/
def logReplace (l : List LogEntry) : List LogEntry :=
  let low := l.foldl (fun m e => min m e.sev) 5
  match (l.reverse.findIdx? fun e => e.sev == low) with
  | none => l
  | some k => (l.reverse.eraseIdx k).reverse

/-- R867: sequence numbers wrap from 0xFFFF_FFFF to 1. -/
def nextSeq (n : Nat) : Nat := if n ≥ 0xFFFFFFFF then 1 else n + 1

/-- R874: the CXL event log an entry goes to; none where it is not recorded. -/
def cxlLogOf (sev : Nat) (info : Bool) : Option Nat :=
  match sev with
  | 0 | 1 => if info then some 0 else none
  | 2 | 3 => some 2
  | 4 => some 1
  | _ => some 3

/-- Keep an entry: it takes its sequence number, goes to the on-chip ring and the event records, and marks its page
(R866, R867, R869, R874, R876). -/
def State.keepEntry (e : LogEntry) (s : State) : State :=
  let full := !logRoom s.log.onchip e.sev
  let oc := if full then logReplace s.log.onchip else s.log.onchip
  let l := s.log
  let cxl := match cxlLogOf e.sev (bitOf (s.reg (ofsOf pgCLOG 0x40)) 4) with
    | some k => l.records ++ [(k, e)]
    | none => l.records
  let recent := (l.ring ++ oc ++ [e]).reverse.take 16
  let s1 := { s with log := { l with
    next := nextSeq e.seq
    onchip := oc ++ [e]
    dropped := if full then l.dropped + 1 else l.dropped
    seen := (e.event, e.page, e.addr) :: l.seen
    records := cxl
    reelKept := l.reelKept + 1
    fatalNew := l.fatalNew || e.sev == 5
    post := if e.sev == 5 then some recent.reverse else l.post } }
  let s2 := if full then (s1.bump (ofsOf pgCLOG 0x78) 0 1).setEvt pgCLOG 1 else s1
  let s3 := s2.updHdr e.page fun h => { h with seq := e.seq }
  let s4 := if s.regF pgCLOG 0x40 2 0 ≤ e.sev then s3.setEvt pgCLOG 0 else s3
  -- R269, R874: a new event record, where the interrupt policy of its log asks for it
  let s5 := if l.records.length < cxl.length && s.mfn.policy.testBit ((cxl.getLast?.map (·.1)).getD 0) then s4.mgmtCause 1 else s4
  if e.sev == 5 then (s5.setEvt pgCLOG 2).setEvt pgSYS 1 else s5

/-- A decided event: suppressed (R872), dropped for want of room (R870) or kept (R869). -/
def State.logE (ev sev : Nat) (tenant : Option Nat) (page addr : Nat) (vals : List Nat) (s : State) : State :=
  if suppressible ev sev && (ev, page, addr) ∈ s.log.seen then s.bump (ofsOf pgCLOG 0x7C) 0 1
  else if logRoom s.log.onchip sev || sev == 5 then
    s.keepEntry { seq := s.log.next, event := ev, sev := sev, tenant := tenant, frame := s.frame.num, page := page,
                  addr := addr, detail := packDetail vals }
  else
    let s1 := { s with log := { s.log with dropped := s.log.dropped + 1 } }
    (s1.bump (ofsOf pgCLOG 0x78) 0 1).setEvt pgCLOG 1

/-- A RETIRE_ADVISED entry (R878): kind, reason, locator, page of the unit. -/
def State.retireAdvice (kind reason locator page : Nat) (s : State) : State :=
  s.logE 0x0F02 4 none page locator [kind, reason]

/-! ### Frame arithmetic (R17 to R20) -/

/-- W of R20: frames before the number wraps. -/
def frameWrap : Nat := 0xFA0000000000

def reelOf (f : Nat) : Nat := f / 125
def sceneOf (f : Nat) : Nat := f / 1000

/-- Frames from `a` to `b`, modulo the wrap (R20). -/
def framesSince (a b : Nat) : Nat := (frameWrap + b - a % frameWrap) % frameWrap

/-- R20: scene `n` lies ahead of scene `s`. -/
def sceneAhead (n s : Nat) : Bool := (2 ^ 38 + n - s % 2 ^ 38) % 2 ^ 38 < 2 ^ 37

/-! ### Service states (R836, R839) -/

/-- Key of a unit in the service table. -/
def UnitKind.code : UnitKind → Nat
  | .hport => 0 | .fport => 1 | .dram => 2 | .shelf => 3 | .lane => 4 | .engine => 5 | .press => 6

def svcKey (k : UnitKind) (i : Nat) : Nat := k.code * 512 + i

/-- What an unlisted unit's record is: MEDIA channels start OUT, every other unit IN (ch. 11, ch. 12 registers). -/
def svcInit (key : Nat) : UnitSvc :=
  if key / 512 = 2 ∨ key / 512 = 3 then { st := .out } else {}

def State.unit (s : State) (k : UnitKind) (i : Nat) : UnitSvc := mapGet svcInit s.svc (svcKey k i)

def State.updUnit (k : UnitKind) (i : Nat) (f : UnitSvc → UnitSvc) (s : State) : State :=
  { s with svc := mapUpd svcInit (svcKey k i) f s.svc }

/-- The unit is IN. -/
def State.isIn (s : State) (k : UnitKind) (i : Nat) : Bool := (s.unit k i).st == .inn

def SvcState.code : SvcState → Nat
  | .inn => 0 | .drain => 1 | .out => 2 | .quar => 3 | .rejoin => 4

/-- Set bit `b` of SYS.SVC_EVT; enabled bits roll up as the SYS page (R906, R908). -/
def State.setSvcEvt (b : Nat) (s : State) : State :=
  let s1 := { s with svcEvt := s.svcEvt ||| bit32 b }
  if bitOf (s.reg (ofsOf pgSYS 0x378)) b then s1.pageCause pgSYS else s1

/-- A fault rule names DRAIN (R837, R851): it applies at the next step 5. -/
def State.faultDrain (k : UnitKind) (i : Nat) (s : State) : State :=
  s.updUnit k i fun u => if u.st = .inn then { u with req := some 1 } else
    if u.st = .quar ∨ u.st = .rejoin then { u with fail := some 0 } else u

/-- A fatal fault of a unit sends it OUT at once (R837). -/
def State.fatalOut (k : UnitKind) (i : Nat) (s : State) : State :=
  (s.updUnit k i fun u => { u with st := .out, req := none, fail := none }).setSvcEvt 1

/-! ### The slate (R27 to R32) -/

/-- Slate groups other than the host ports' (Table — Slate groups). -/
def gDIR : Nat := 8
def gLANE : Nat := 9
def gDRAM : Nat := 10
def gSHELF : Nat := 11
def gCUE : Nat := 12
def gFPORT : Nat := 13
def gPRESS : Nat := 14
def gTIER : Nat := 15

/-- Owner codes that are no tenant. -/
def ownOpen : Nat := 0x80
def ownMnt : Nat := 0x81

def slateKey (row group slot : Nat) : Nat := (row * 16 + group) * 16 + slot

/-- The reset slate (R78). -/
def slateReset (key : Nat) : BitVec 8 :=
  if key % 16 = 15 ∧ (key / 16 % 16 = 10 ∨ key / 16 % 16 = 11) then 0x81#8 else 0x80#8

def State.slateOf (s : State) (row group slot : Nat) : Nat :=
  (mapGet slateReset s.slate.act (slateKey row group slot)).toNat

/-- Owner code of a slot in the row in force. -/
def State.slotOwner (s : State) (group slot : Nat) : Nat := s.slateOf (s.frame.num % 125) group slot

/-! ### Takes and charges (R23 to R25, R38 to R44) -/

/-- Take per frame of a unit (Table — Takes per frame); `sub` 1 is the second take of a unit that has two. -/
def State.takeOf (s : State) (g i sub : Nat) : Nat :=
  if g < 8 then 1888
  else if g = gDIR then (if i = 0 then (if sub = 0 then 8000 else 512) else 32000)
  else if g = gLANE then 2000
  else if g = gDRAM then s.dramRate i / 8
  else if g = gSHELF then s.shelfRate i
  else if g = gCUE then (if sub = 0 then 16384 else 4)
  else if g = gFPORT then 100000
  else if g = gPRESS then (if sub = 0 then 10 else 1000)
  else 256

/-- Issue opportunities of a take at position `k` in frame `f`: the j below `take` with (take × f + j) mod 16 = k
(R25). -/
def slotCount (take f k : Nat) : Nat :=
  let d := (k + 16 - (take * f) % 16) % 16
  if d < take then (take - 1 - d) / 16 + 1 else 0

/-- The opportunities slot `k` holds on a unit in this frame; strike k of a press is slot k (R25), and cycle c of its prologue
or epilogue belongs to slot c / 100 (R661). -/
def State.slotTake (s : State) (g i sub k : Nat) : Nat :=
  if g = gPRESS then (if k < 10 then (if sub = 0 then 1 else 100) else 0) else slotCount (s.takeOf g i sub) s.frame.num k

/-- Opportunities of the slots whose owner code is `code` in the row in force. -/
def State.codeShare (s : State) (g i sub code : Nat) : Nat :=
  (List.range 16).foldl (fun n k => if s.slotOwner g k = code then n + s.slotTake g i sub k else n) 0

/-- Key of what an owner has charged on a unit's take. -/
def useKey (g i sub owner : Nat) : Nat := ((g * 1024 + i) * 2 + sub) * 256 + owner

def State.usedOf (s : State) (g i sub owner : Nat) : Nat :=
  mapGet (fun _ => 0) s.slate.used (useKey g i sub owner)

/-- The service-state unit of a slate unit; none where the unit has no service state. -/
def unitOfGroup (g i : Nat) : Option (UnitKind × Nat) :=
  if g < 8 then some (.hport, g)
  else if g = gLANE then some (.lane, i)
  else if g = gDRAM then some (.dram, i)
  else if g = gSHELF then some (.shelf, i)
  else if g = gCUE then some (.engine, i)
  else if g = gFPORT then some (.fport, i)
  else if g = gPRESS then some (.press, i % 288)
  else none

/-- Whether a unit admits new work of an owner in this frame: it is IN (R839), the part is not in FATAL (R875), the
frame is no re-seat frame (R59) and no dropped frame of the owner on the unit (R42). -/
def State.admits (s : State) (g i owner : Nat) : Bool :=
  (match unitOfGroup g i with
   | some (k, n) => s.isIn k n
   | none => true)
  && !s.log.fatal && !s.frame.reseatNow
  && (mapGet (fun _ => 0) s.slate.ovr (useKey g i 0 owner) == 0)

/-- What is left of an owner's share (R29 to R32): a sealed tenant has its own slots; open and maintenance work share
the open and the maintenance slots. -/
def State.availOf (s : State) (g i sub owner : Nat) : Nat :=
  if owner < 0x80 then s.codeShare g i sub owner - s.usedOf g i sub owner
  else s.codeShare g i sub ownOpen + s.codeShare g i sub ownMnt
    - (s.usedOf g i sub ownOpen + s.usedOf g i sub ownMnt)

/-- Take units of a take. -/
def State.useTake (g i sub owner c : Nat) (s : State) : State :=
  { s with slate := { s.slate with used := mapUpd (fun _ => 0) (useKey g i sub owner) (· + c) s.slate.used } }

/-- Charge work on a take; line accesses of a DRAM channel count in the dailies record (R910). -/
def State.charge (g i sub owner c : Nat) (s : State) : State :=
  let s1 := s.useTake g i sub owner c
  if g = gDRAM then { s1 with daily := { s1.daily with acc := { s1.daily.acc with dram := satAdd 32 s1.daily.acc.dram c } } } else s1

/-- R24: the piece fits in what is left and the unit admits it. -/
def State.fits (s : State) (g i sub owner c : Nat) : Bool := s.admits g i owner && c ≤ s.availOf g i sub owner

/-- R839, R846: a unit in DRAIN finishes what it has received, within its owner's share. -/
def State.finishes (s : State) (g i owner c : Nat) : Bool :=
  (match unitOfGroup g i with
   | some (k, n) => (s.unit k n).st == .inn || (s.unit k n).st == .drain
   | none => true)
  && !s.log.fatal && !s.frame.reseatNow
  && (mapGet (fun _ => 0) s.slate.ovr (useKey g i 0 owner) == 0)
  && c ≤ s.availOf g i 0 owner

/-- Charge a piece that may be split: what fits now, the rest carried to the owner's later shares (R38). -/
def State.chargeSplit (g i sub owner c : Nat) (s : State) : State :=
  let now := min c (s.availOf g i sub owner)
  let s1 := s.charge g i sub owner now
  if now = c then s1 else
    { s1 with slate := { s1.slate with carry := mapUpd (fun _ => 0) (useKey g i sub owner) (· + (c - now)) s1.slate.carry } }

/-- Work carried over on a unit for an owner. -/
def State.carryOf (s : State) (g i sub owner : Nat) : Nat := mapGet (fun _ => 0) s.slate.carry (useKey g i sub owner)

/-- A piece turned out dearer than its charge and still runs at the next edge (R41): the excess. -/
def State.overrun (g i owner excess : Nat) (s : State) : State :=
  { s with slate := { s.slate with ovrNext := mapUpd (fun _ => 0) (useKey g i 0 owner) (· + excess) s.slate.ovrNext } }

end Sys2Proof.Machine
end

