-- ==== Sys2Proof/Machine/Frame.lean ====
section
/-!
DEFINITION. The frame, the slate and frame sync (ch. 01): the operations behind the commands of this family and the
parts of the frame edge that belong to it.
-/

namespace Sys2Proof.Machine

open Sys2Proof

/-! ### Sync roles and sources (R47, R57) -/

def State.role (s : State) : Nat := s.regF pgFRAME 0x48 1 0
def State.syncSrc (s : State) : Nat := s.regF pgFRAME 0x48 7 4
def State.reseatAuto (s : State) : Bool := bitOf (s.reg (ofsOf pgFRAME 0x48)) 8
def State.lossReels (s : State) : Nat := s.regF pgFRAME 0x48 19 16
def State.takeoverReels (s : State) : Nat := s.regF pgFRAME 0x48 23 20
def roleStandalone : Nat := 0
def roleFollower : Nat := 1
def roleClock : Nat := 2
def roleStandby : Nat := 3

def SyncState.code : SyncState → Nat
  | .free => 0 | .acquire => 1 | .locked => 2 | .coast => 3 | .lost => 4

/-- R55: in sync while LOCKED or COAST. -/
def State.inSync (s : State) : Bool := s.frame.sync == .locked || s.frame.sync == .coast

/-- R57: the port with the lowest hop count, then the lowest number, among those heard in the last reel. -/
def bestSource (l : List (Nat × Nat)) : Option Nat :=
  (l.foldl (fun (b : Option (Nat × Nat)) (x : Nat × Nat) =>
    match b with
    | none => some x
    | some y => if x.2 < y.2 ∨ (x.2 = y.2 ∧ x.1 < y.1) then some x else some y) none).map (·.1)

/-- The selected fabric source; none under FRAME_IN or when AUTO has heard no port. -/
def State.selectedPort (s : State) : Option Nat :=
  if s.syncSrc = 0 then bestSource s.frame.heardLast
  else if 8 ≤ s.syncSrc then some (s.syncSrc - 8)
  else none

/-- 0.125 ns units. -/
def ns (n : Int) : Int := 8 * n

/-- SYNC_OFFSET saturates at 16 bits two's complement. -/
def satOfs (o : Int) : Int := max (-32768) (min 32767 o)

/-- R66, its part within the frame: enter LOST, keep free-running with integ, log. The collectives are left by the
caller. -/
def State.syncLost (s : State) : State :=
  let o := (satOfs s.frame.ofs).natAbs
  let s1 := { s with frame := { s.frame with sync := .lost, slew := -s.frame.integ, inSyncReel := false } }
  (s1.setEvt pgFRAME 0).logE 0x0101 3 none pgFRAME 0 (x2 o ++ [s.frame.sync.code])

/-- Step 3 at a reel boundary: the loop of R52 and the reel-counted transitions of R54. The answer says whether the
node entered LOST (R66). -/
def State.syncLoop (s : State) : State × Bool :=
  let f := s.frame
  let f0 := { f with heardLast := f.heard, heard := [], mark := none, inSyncReel := f.sync == SyncState.locked || f.sync == SyncState.coast }
  if s.role = roleStandalone ∨ s.role = roleClock then ({ s with frame := { f0 with slew := 0 } }, false)
  else match f.mark with
  | some m =>
    let integ := f.integ + m.ofs
    let good := if m.ofs.natAbs ≤ (ns 20).natAbs then f.good + 1 else 0
    let bad := if m.ofs.natAbs > (ns 100).natAbs then f.bad + 1 else 0
    let s1 := { s with frame := { f0 with integ := integ, slew := -(16 * m.ofs + integ), good := good, bad := bad, silent := 0 } }
    if f.sync = .acquire ∧ 8 ≤ good then
      (({ s1 with frame := { s1.frame with sync := .locked } }).setEvt pgFRAME 1, false)
    else if (f.sync = .locked ∨ f.sync = .coast) ∧ 2 ≤ bad then (s1.syncLost, true)
    else (s1, false)
  | none =>
    let sync := if f.sync = .locked then SyncState.coast else f.sync
    ({ s with frame := { f0 with slew := -f.integ, good := 0, bad := 0, silent := f.silent + 1, sync := sync } }, false)

/-- R52: the slew of one frame is at most 0.5 ns, 256 units of 1/512 ns. -/
def slewOf (left : Int) : Int := max (-256) (min 256 left)

/-- Step 3: apply the slew of the coming frame. -/
def State.applySlew (s : State) : State :=
  let d := slewOf s.frame.slew
  { s with frame := { s.frame with phase := s.frame.phase + d, slew := s.frame.slew - d } }

/-! ### Markers (R51, R54, R56 to R59, R73) -/

/-- R56: the epoch is equal to or newer than the last accepted one. -/
def epochOk (last : Option Nat) (e : Nat) : Bool :=
  match last with
  | none => true
  | some l => (e + 256 - l) % 256 ≤ 127

/-- Stamp wrap, in units of 0.125 ns (R20). -/
def stampWrap : Nat := 8000 * frameWrap

/-- Signed difference a − b modulo the stamp wrap. -/
def stampDiff (a b : Nat) : Int :=
  let d := (a % stampWrap + stampWrap - b % stampWrap) % stampWrap
  if d < stampWrap / 2 then (d : Int) else (d : Int) - (stampWrap : Int)

/-- R51: own edge time for the marker's frame minus the marker's reference edge. -/
def markerOffset (mframe rx corr dly : Nat) : Int :=
  stampDiff (8000 * mframe) ((rx + 2 * stampWrap - corr - dly) % stampWrap)

/-- The pool's frame number when the marker is received (R58). -/
def poolFrame (mframe corr dly : Nat) : Nat := (mframe + (corr + dly) / 8000) % frameWrap

/-- What a valid marker of the selected source (or the FRAME_IN reference) does to the sync state (R54, R58, R59). -/
def State.acceptRef (m : MarkerRec) (poolNum : Nat) (s : State) : State :=
  let f := s.frame
  let abs := m.ofs.natAbs
  let join := (f.sync = .free ∨ f.sync = .acquire) ∧ f.hostSeen = false ∧ f.joined = false
  let sync := match f.sync with
    | .free => SyncState.acquire
    | .coast => if abs ≤ (ns 100).natAbs then SyncState.locked else SyncState.coast
    | .lost => if abs ≤ (ns 500).natAbs then SyncState.acquire else SyncState.lost
    | x => x
  let reseatArm := f.sync = .lost ∧ abs > (ns 500).natAbs ∧ (f.reseat = true ∨ s.reseatAuto = true)
  let s1 := { s with frame := { f with
    sync := sync
    mark := some (if join then { m with ofs := 0 } else m)
    ofs := if join then 0 else m.ofs
    hops := m.hops
    epoch := some m.epoch
    clockNode := m.node
    srcAct := m.port
    num := if join then poolNum else f.num
    joined := f.joined || join
    reseatTo := if reseatArm then some (poolNum, m.ofs) else f.reseatTo } }
  let s2 := if f.sync = .coast ∧ sync = .locked then s1.setEvt pgFRAME 1 else s1
  if f.sync = .locked ∧ abs > (ns 50).natAbs then s2.setEvt pgFRAME 8 else s2

/-- Own node number (FPORT0.NODE.ID). -/
def State.ownNode (s : State) : Nat := s.regF (pgFPORT 0) 0x100 11 0

/-- A marker as received on a fabric port, before forwarding. The Bool says whether it was accepted from the selected
source (and so is forwarded, R49). -/
def State.markerIn (port node epoch hops mframe corr rx dly : Nat) (s : State) : State × Bool :=
  if !(epochOk s.frame.epoch epoch && mframe % 125 == 0 && hops ≤ 8) then (s, false)
  else if s.role = roleStandalone then (s, false)
  else if s.role = roleClock then
    -- R73: another clock node; an older epoch has been refused above
    if s.frame.epoch = some epoch ∧ node ≠ s.ownNode then
      let s1 := s.setEvt pgFRAME 2
      if node < s.ownNode then
        (s1.setReg (ofsOf pgFRAME 0x48) ((s1.reg (ofsOf pgFRAME 0x48) &&& ~~~3#32) ||| 1#32), false)
      else (s1, false)
    else (s, false)
  else if s.frame.epoch = some epoch ∧ s.frame.clockNode < node ∧ s.frame.joined then (s, false)
  else
    let s1 := { s with frame := { s.frame with heard := (port, hops) :: s.frame.heard.filter (fun x => x.1 != port) } }
    let selected := s1.selectedPort = some port
    if selected then
      let o := markerOffset mframe rx corr dly
      (s1.acceptRef ⟨8 + port, hops, epoch, node, o⟩ (poolFrame mframe corr dly), true)
    else (s1, false)

/-- R65: a FRAME_IN rising edge `t` after the own edge (0.125 ns units), of a width in ns. -/
def State.frameIn (t : Int) (width : Nat) (s : State) : State :=
  if s.syncSrc ≠ 1 ∨ s.role = roleStandalone ∨ s.role = roleClock then s
  else
    let dly := s.regF pgFRAME 0x58 11 0
    let set := (s.reg (ofsOf pgFRAME 0x5C)).toNat + 2 ^ 32 * s.regF pgFRAME 0x60 15 0
    let base := if s.frame.joined then s.frame.num else set % frameWrap
    let pos := if width = 40 then base - base % 1000 else if width = 24 then base - base % 125 else base
    s.acceptRef ⟨1, s.frame.hops, s.frame.epoch.getD 0, s.frame.clockNode, -(t + (dly : Int))⟩ pos

/-! ### The slate (R33 to R36) -/

/-- Store four owner codes in the shadow bank, reserved codes included (R13). -/
def State.slateStore (row group word : Nat) (v : Word32) (s : State) : State :=
  forEach (List.range 4) (fun k s =>
    { s with slate := { s.slate with
      shadow := mapPut slateReset (slateKey row group (4 * word + k)) (BitVec.ofNat 8 (v.toNat / 2 ^ (8 * k))) s.slate.shadow } }) s

/-- R34: whether one row of one group may be swapped in. -/
def slateRowOk (m : Map (BitVec 8)) (row g : Nat) : Bool :=
  let code := fun k => (mapGet slateReset m (slateKey row g k)).toNat
  let free := fun k => code k == 0x80 || code k == 0x81
  let all := List.range 16
  all.all (fun k => code k ≤ 0x81)
  && 2 ≤ (all.filter free).length
  && (g != 14 || ((List.range 6).all (fun k => code (10 + k) == 0x80) && 2 ≤ ((List.range 10).filter free).length))

/-- R34: the first failing entry, lowest row first and then lowest group. -/
def slateBad (m : Map (BitVec 8)) : Option (Nat × Nat) :=
  ((List.range 2000).find? fun n => !slateRowOk m (n / 16) (n % 16)).map fun n => (n / 16, n % 16)

/-- Step 4 at a reel boundary: perform or reject a pending swap (R33 to R36). -/
def State.slateSwap (s : State) : State :=
  if !s.slate.pend then s
  else match slateBad s.slate.shadow with
  | none => ({ s with slate := { s.slate with act := s.slate.shadow, bank := !s.slate.bank, pend := false, err := false } }).setEvt pgFRAME 5
  | some (r, g) => ({ s with slate := { s.slate with pend := false, err := true, errRow := r, errGroup := g } }).setEvt pgFRAME 6

/-! ### Dropped frames and opening the takes (R41 to R44, R69, R76) -/

/-- Parts of a use key. -/
def keyGroup (k : Nat) : Nat := k / 524288
def keyInst (k : Nat) : Nat := k / 512 % 1024
def keySub (k : Nat) : Nat := k / 256 % 2
def keyOwner (k : Nat) : Nat := k % 256

/-- Register page of a slate unit. -/
def groupPage (g i : Nat) : Nat :=
  if g < 8 then pgHPORT g
  else if g = gDIR then (if i = 0 then pgDIR else pgMEDIA 0)
  else if g = gLANE then pgPAT
  else if g = gDRAM then pgMEDIA i
  else if g = gSHELF then pgMEDIA (16 + i)
  else if g = gCUE then pgSYS
  else if g = gFPORT then pgFPORT i
  else if g = gPRESS then pgPRESS (i % 288)
  else pgTIER

/-- R44, R76: count one dropped frame of a unit. -/
def State.dropFrame (g i : Nat) (s : State) : State :=
  let n := mapGet (fun _ => 0) s.slate.reelDrops (g * 512 + i) + 1
  let s1 := { s with
    slate := { s.slate with dropTotal := (s.slate.dropTotal + 1) % 2 ^ 32
                            reelDrops := mapPut (fun _ => 0) (g * 512 + i) n s.slate.reelDrops }
    daily := { s.daily with acc := { s.daily.acc with dropped := satAdd 32 s.daily.acc.dropped 1 } } }
  let s2 := (s1.bump (ofsOf pgFRAME 0x74) (g * 512 + i) 1).setEvt pgFRAME 4
  if n = 17 then s2.retireAdvice 13 0 (g + 16 * i) (groupPage g i) else s2

/-- The share that overrunning work continues in: the owner's slots, or the row's maintenance slots, or its open slots
(R42, R69). -/
def State.overShare (s : State) (g i owner : Nat) : Nat :=
  let own := s.codeShare g i 0 (if owner < 0x80 then owner else ownOpen)
  if 0 < own then own
  else if 0 < s.codeShare g i 0 ownMnt then s.codeShare g i 0 ownMnt
  else s.codeShare g i 0 ownOpen

/-- Step 7: open the takes. Work that overran makes this a dropped frame for its owner on its unit; split work goes on
first (R38, R42). -/
def State.openTakes (s : State) : State :=
  let pend := s.slate.ovrNext
  let s0 := { s with slate := { s.slate with used := [], ovr := [], ovrNext := [] } }
  let s1 := pend.foldl (fun s e =>
    let g := keyGroup e.1; let i := keyInst e.1; let o := keyOwner e.1
    let sh := s.overShare g i o
    let s' := s.dropFrame g i
    { s' with slate := { s'.slate with
        ovr := mapPut (fun _ => 0) e.1 e.2 s'.slate.ovr
        used := mapUpd (fun _ => 0) e.1 (· + min e.2 sh) s'.slate.used
        ovrNext := mapPut (fun _ => 0) e.1 (e.2 - sh) s'.slate.ovrNext } }) s0
  s1.slate.carry.foldl (fun s e =>
    let n := min e.2 (s.availOf (keyGroup e.1) (keyInst e.1) (keySub e.1) (keyOwner e.1))
    let s' := s.charge (keyGroup e.1) (keyInst e.1) (keySub e.1) (keyOwner e.1) n
    { s' with slate := { s'.slate with carry := mapPut (fun _ => 0) e.1 (e.2 - n) s'.slate.carry } }) s1

/-! ### Re-seat (R59) -/

/-- The frame number a re-seat adopts at an own reel boundary, and how far the frame is lengthened: pool time is own
time plus the offset. -/
def reseatNum (num : Nat) (ofs : Int) : Nat :=
  let p := (8000 * (num : Int) + ofs) % (stampWrap : Int)
  ((p.toNat + 7999) / 8000) % frameWrap

/-- Whether a re-seat happens at this reel boundary. -/
def State.reseatDue (s : State) : Bool := s.frame.reseatTo.isSome && s.frame.sync == .lost

/-- R59: adopt the pool's number; no new work in this frame; enter ACQUIRE. -/
def State.doReseat (s : State) : State :=
  match s.frame.reseatTo with
  | none => s
  | some (_, o) =>
    ({ s with frame := { s.frame with num := reseatNum s.frame.num o, sync := .acquire, reseat := false, reseatTo := none,
                                       reseatNow := true, ofs := 0, good := 0, bad := 0, integ := 0 } }).setEvt pgFRAME 7

/-! ### Reading the FRAME page -/

/-- Read-only registers of the FRAME page. -/
def State.readFrame (s : State) (r : Nat) : Option Word32 :=
  let f := s.frame
  if r = 0x40 then some (word32 f.num 0)
  else if r = 0x44 then some (word32 f.num 1)
  else if r = 0x48 then some (s.reg (ofsOf pgFRAME 0x48) ||| placeB f.reseat 9)
  else if r = 0x4C then some (place f.sync.code 3 0 ||| place f.srcAct 4 4 ||| place f.hops 4 8 ||| place (f.epoch.getD 0) 8 16)
  else if r = 0x50 then some (place (satOfs f.ofs % 65536).toNat 16 0)
  else if r = 0x54 then some (place f.clockNode 12 0)
  else if r = 0x64 then
    some (placeB s.slate.bank 0 ||| placeB s.slate.pend 1 ||| placeB s.slate.pend 2 ||| placeB s.slate.err 3 ||| placeB s.slate.wrDrop 4
      ||| place s.slate.errRow 7 8 ||| place s.slate.errGroup 4 16)
  else if r = 0x6C then
    let row := s.regF pgFRAME 0x68 6 0; let g := s.regF pgFRAME 0x68 11 8; let w := s.regF pgFRAME 0x68 13 12
    let m := if bitOf (s.reg (ofsOf pgFRAME 0x68)) 16 then s.slate.act else s.slate.shadow
    some ((List.range 4).foldl (fun acc k => acc ||| place (mapGet slateReset m (slateKey row g (4 * w + k))).toNat 8 (8 * k)) 0#32)
  else if r = 0x78 then some (word32 s.slate.dropTotal 0)
  else none

/-- The selector of the FRAME page's read-to-clear count OVR_CNT: group and instance as one number. -/
def State.ovrSel (s : State) : Nat := s.regF pgFRAME 0x70 3 0 * 512 + s.regF pgFRAME 0x70 12 4

end Sys2Proof.Machine
end

