-- ==== Sys2Proof/Machine/Tenants.lean ====
section
/-!
DEFINITION. Tenants, identities, the range table, keys and the access check (ch. 03), and the capacity figures of the
range (ch. 02): the operations the other families share, and the table commands as they take effect at step 2.
-/

namespace Sys2Proof.Machine

open Sys2Proof

/-! ### The tables -/

def State.ten (s : State) (t : Nat) : Tenant := mapGet (fun _ => {}) s.tenants t
def State.updTen (t : Nat) (f : Tenant → Tenant) (s : State) : State :=
  { s with tenants := mapUpd (fun _ => {}) t f s.tenants }

def State.ident (s : State) (h : Nat) : Identity := mapGet (fun _ => {}) s.tables.ids h
def State.updId (h : Nat) (f : Identity → Identity) (s : State) : State :=
  { s with tables := { s.tables with ids := mapUpd (fun _ => {}) h f s.tables.ids } }

def State.rgn (s : State) (r : Nat) : Range := mapGet (fun _ => {}) s.tables.ranges r
def State.updRgn (r : Nat) (f : Range → Range) (s : State) : State :=
  { s with tables := { s.tables with ranges := mapUpd (fun _ => {}) r f s.tables.ranges } }

def State.hport (s : State) (p : Nat) : HPort := mapGet (fun _ => {}) s.hports p
def State.updPort (p : Nat) (f : HPort → HPort) (s : State) : State :=
  { s with hports := mapUpd (fun _ => {}) p f s.hports }

/-- Owner code of a tenant's work (R32, R162). -/
def State.ownerCode (s : State) (t : Nat) : Nat := if (s.ten t).sealed then t else ownOpen

/-- Sealed tenants, ascending. -/
def State.sealedList (s : State) : List Nat := (s.tenants.filter fun e => e.2.sealed).map (·.1)

/-! ### Words of the entries -/

/-- R137: the LO and HI words of an identity entry. -/
def Identity.lo (i : Identity) : Word32 := placeB i.valid 0 ||| place i.port 3 1 ||| place i.mode 2 4 ||| place i.src 12 16
def Identity.hi (i : Identity) : Word32 :=
  place i.tenant 7 0 ||| place i.cls 3 8 ||| placeB (i.lost != 0) 16 ||| placeB i.releasing 17

/-- An identity entry as staged words give it. -/
def Identity.ofWords (lo hi : Word32) : Identity :=
  { valid := bitOf lo 0, port := field lo 3 1, mode := field lo 5 4, src := field lo 27 16, tenant := field hi 6 0, cls := field hi 10 8 }

/-- R142: word k of a range entry. -/
def Range.word (r : Range) (k : Nat) : Word32 :=
  if k = 0 then placeB (r.valid && !r.unbinding) 0 ||| place r.kind 3 1 ||| placeB r.remote 4 ||| place r.owner 7 8 ||| place r.node 12 16
  else if k = 1 then place r.base 18 0
  else if k = 2 then place r.size 19 0
  else if k = 3 then 0#32
  else word32 r.sharers (k - 4)

/-- A range entry as eight staged words give it. -/
def Range.ofWords (w : List Word32) : Range :=
  let g := fun k => w.getD k 0#32
  { valid := bitOf (g 0) 0, kind := field (g 0) 3 1, remote := bitOf (g 0) 4, owner := field (g 0) 14 8, node := field (g 0) 27 16
    base := field (g 1) 17 0, size := field (g 2) 18 0
    sharers := (g 4).toNat + 2 ^ 32 * (g 5).toNat + 2 ^ 64 * (g 6).toNat + 2 ^ 96 * (g 7).toNat }

/-! ### Region kinds and lookups -/

def kPrivate : Nat := 0
def kShared : Nat := 1
def kCollective : Nat := 2
def kPress : Nat := 3
def kReserve : Nat := 4

/-- Granules per region span: the granule of a line number (64 B lines in 1 GiB). -/
def granuleOfLine (line : Nat) : Nat := line / 2 ^ 24
/-- The page of a line. -/
def pageOfLine (line : Nat) : Nat := line / 64
/-- The granule of a page. -/
def granuleOfPage (p : Nat) : Nat := p / 2 ^ 18

/-- The region whose granules include `g`, bound or still unbinding: index and entry. -/
def State.rgnAt (s : State) (g : Nat) : Option (Nat × Range) :=
  s.tables.ranges.find? fun e => e.2.valid && e.2.base ≤ g && g < e.2.base + e.2.size

/-- The bound region (not unbinding, not failed) of a granule. -/
def State.boundAt (s : State) (g : Nat) : Option (Nat × Range) :=
  match s.rgnAt g with
  | some (i, r) => if r.unbinding || r.fault then none else some (i, r)
  | none => none

/-- R149: tenant `t` passes for region `r`. -/
def Range.passes (r : Range) (t : Nat) : Bool :=
  (r.owner == t && r.kind != kReserve) || (r.kind == kShared && r.sharers.testBit t)

/-- R149 to R151: the region a tenant reaches at a granule. -/
def State.reach (s : State) (t g : Nat) : Option (Nat × Range) :=
  match s.boundAt g with
  | some (i, r) => if r.passes t then some (i, r) else none
  | none => none

/-! ### Identity match (R137, R138, R195, R200) -/

/-- The identification mode of a port (ID_CFG.MODE) and its LDS. -/
def State.idMode (s : State) (p : Nat) : Nat := s.regF (pgHPORT p) 0x4C 1 0
def State.lds (s : State) (p : Nat) : Nat := s.regF (pgHPORT p) 0x4C 12 8

/-- The identity source a request names: link 1 of a bifurcated port adds 8 in LD mode (R195). -/
def State.idSource (s : State) (p link src : Nat) : Nat :=
  if s.idMode p = 0 ∧ (s.hport p).bifurc ∧ link = 1 then src + 8 else src

/-- The one valid entry that matches, if any. -/
def State.matchId (s : State) (p link src : Nat) : Option Nat :=
  let m := s.idMode p
  let ldOk := m ≠ 0 ∨ (src < s.lds p ∧ ((s.hport p).bifurc = false ∨ src < 8))
  if ldOk then
    (s.tables.ids.find? fun e =>
      e.2.valid && e.2.port == p && e.2.mode == m && (m == 2 || e.2.src == s.idSource p link src)).map (·.1)
  else none

/-! ### Capacity figures (R81, R91, R104, R105) -/

/-- Tenants whose registers or pages may be nonzero: every listed tenant and every owner. -/
def allTenants : List Nat := List.range 128

def State.chan (s : State) (c : Nat) : DramCh := mapGet (fun _ => {}) s.chans c

/-- Capacity of the DRAM channels that are IN, GiB. -/
def State.inGiB (s : State) : Nat :=
  (List.range 16).foldl (fun n c => if s.isIn .dram c then n + (s.chan c).capGiB else n) 0

/-! Retirement entries (R509) lie in the DRAM state; their share of P is needed here. -/

def retChan (lo : Word32) : Nat := field lo 7 4
/-- Bank of an entry. -/
def retBank (lo : Word32) : Nat := field lo 17 8
def retKind (lo : Word32) : Nat := field lo 2 1

/-- Rows of a bank of a channel: capacity over two subchannels, the ranks, 32 banks and 8 KiB rows. -/
def DramCh.rows (c : DramCh) : Nat := c.capGiB * 1048576 / (2 * c.ranks * 32 * 8)

/-- R510: the named row lies inside an already retired bank. -/
def State.inRetiredBank (s : State) (i : Nat) (lo : Word32) : Bool :=
  retKind lo == 0 && s.dram.ret.any fun x => x.1 != i && x.2.valid && retKind x.2.lo == 1 && retChan x.2.lo == retChan lo && retBank x.2.lo == retBank lo

/-- KiB that an entry takes out of P: a row's 8 KiB, or its bank. -/
def State.retKiB (s : State) (e : RetEntry) : Nat :=
  if retKind e.lo = 1 then (s.chan (retChan e.lo)).rows * 8 else 8

/-- KiB retired on a channel by entries in force; a row inside a retired bank adds nothing. -/
def State.chanRetKiB (s : State) (c : Nat) : Nat :=
  s.dram.ret.foldl (fun n x => if x.2.valid && x.2.active && retChan x.2.lo == c && !s.inRetiredBank x.1 x.2.lo then n + s.retKiB x.2 else n) 0

/-- DRAM retired on the channels that are IN, MiB, rounded up (R91). -/
def State.retiredMiB (s : State) : Nat :=
  ((List.range 16).foldl (fun n c => if s.isIn .dram c then n + s.chanRetKiB c else n) 0 + 1023) / 1024

/-- P in MiB (R91): capacity of the channels that are IN, less the reserve D / 32, less retired DRAM. -/
def State.poolMiB (s : State) : Nat := s.inGiB * 1024 - s.sys.dGiB * 32 - s.retiredMiB

/-- BIND_MAX in granules (R81), with a pool of `p` MiB and a shelf of `sh` GiB. -/
def bindMaxOf (d p sh : Nat) : Nat := min 262144 (min (64 * d) (min (64 * d - 2048) (sh + p / 1024)))

def State.bindMax (s : State) : Nat := bindMaxOf s.sys.dGiB s.poolMiB s.shelfGiB

/-- Bound, locally backed granules (BOUND.GRANULES). -/
def State.boundGranules (s : State) : Nat :=
  s.tables.ranges.foldl (fun n e => if e.2.valid && !e.2.remote then n + e.2.size else n) 0

/-- Bound granules of any kind (R82, R86). -/
def State.allGranules (s : State) : Nat :=
  s.tables.ranges.foldl (fun n e => if e.2.valid then n + e.2.size else n) 0

/-- Declared slips per page of a tenant (S_t). -/
def State.declSlips (s : State) (t : Nat) : Nat := s.regF (pgTEN t) 0x10C 4 0

/-- The region owner of a page: whom its storage is charged to (R104, R157). -/
def State.pageOwner (s : State) (p : Nat) : Option Nat := (s.rgnAt (granuleOfPage p)).map (·.2.owner)

/-- States in which a page holds an open frame. -/
def PageRec.hasFrame (r : PageRec) : Bool :=
  match r.st with
  | .opened | .folding | .unfolding | .fetching => true
  | .shelving => r.spill
  | _ => false

/-- States in which a page holds slips. -/
def PageRec.hasSlips (r : PageRec) : Bool :=
  match r.st with
  | .folded | .unfolding => true
  | .shelving => !r.spill
  | _ => false

def PageRec.slips (r : PageRec) : Nat := (r.stored.map (·.slips)).getD 0

/-- O_t in bytes (R104). -/
def State.openBytes (s : State) (t : Nat) : Nat :=
  s.tier.pages.foldl (fun n e => if e.2.hasFrame && s.pageOwner e.1 == some t then n + 4096 else n) 0

/-- V_t in bytes (R104); a sealed tenant's folds in progress count S_t slips each (log entry 13). -/
def State.foldBytes (s : State) (t : Nat) : Nat :=
  s.tier.pages.foldl (fun n e =>
    if s.pageOwner e.1 == some t then
      if (s.ten t).sealed then (if e.2.hasSlips || e.2.st == .folding then n + 256 * s.declSlips t else n)
      else (if e.2.hasSlips then n + 256 * e.2.slips else n)
    else n) 0

/-- Slips a tenant's folded pages physically occupy, in bytes (R109). -/
def State.physFold (s : State) (t : Nat) : Nat :=
  s.tier.pages.foldl (fun n e => if e.2.hasSlips && s.pageOwner e.1 == some t then n + 256 * e.2.slips else n) 0

def mib : Nat := 1048576

/-- Written floors in MiB. -/
def State.ofReg (s : State) (t : Nat) : Nat := s.regF (pgTEN t) 0x100 22 0
def State.ffReg (s : State) (t : Nat) : Nat := s.regF (pgTEN t) 0x104 22 0

/-- Sum of the floors in effect, MiB (R105). -/
def State.floorSum (s : State) : Nat := s.tenants.foldl (fun n e => n + e.2.ofEff + e.2.ffEff) 0

/-- U_t in bytes (R104, R107). -/
def State.ovfUse (s : State) (t : Nat) : Nat :=
  if (s.ten t).sealed then 0
  else (s.openBytes t - (s.ten t).ofEff * mib) + (s.foldBytes t - (s.ten t).ffEff * mib)

/-- OVF_FREE in bytes (R105). -/
def State.ovfFree (s : State) : Nat :=
  (s.poolMiB - s.floorSum) * mib - allTenants.foldl (fun n t => n + s.ovfUse t) 0

/-- C_t in bytes (R108). -/
def State.ceiling (s : State) (t : Nat) : Nat :=
  max (s.regF (pgTEN t) 0x108 22 0) ((s.ten t).ofEff + (s.ten t).ffEff) * mib

/-! ### Table commands (R139 to R147, R159) -/

/-- HID_CMD.STAT codes. -/
def hidOk : Nat := 0
def hidBadField : Nat := 1
def hidDuplicate : Nat := 2
def hidTenantChange : Nat := 3
def hidBusyCode : Nat := 4

/-- R139: why a WRITE of an identity entry is refused; 0 where it is not. -/
def State.hidWriteStat (s : State) (idx : Nat) (lo hi : Word32) : Nat :=
  let n := Identity.ofWords lo hi
  let cur := s.ident idx
  let bad := !n.valid || n.mode == 3 || (n.mode == 0 && 16 ≤ n.src) || (n.mode == 2 && n.src != 0)
  let dup := s.tables.ids.any fun e => e.1 != idx && e.2.valid && e.2.port == n.port &&
    ((e.2.mode == 2 || n.mode == 2) || (e.2.mode == n.mode && e.2.src == n.src))
  if cur.releasing then hidBusyCode
  else if bad then hidBadField
  else if dup then hidDuplicate
  else if cur.valid && cur.tenant != n.tenant then hidTenantChange
  else hidOk

/-- Finish a HID command with a status. -/
def State.hidDone (st : Nat) (s : State) : State :=
  let s1 := { s with tables := { s.tables with hidBusy := false, hidStat := st } }
  if st = 0 then s1 else s1.setEvt pgTEN128 0

def rgnBadField : Nat := 1
def rgnInUse : Nat := 2
def rgnOverlap : Nat := 3
def rgnSealed : Nat := 4
def rgnNotReady : Nat := 5
def rgnCapacity : Nat := 6
def rgnNotBound : Nat := 7
def rgnFault : Nat := 8

def State.rgnDone (st : Nat) (s : State) : State :=
  let s1 := { s with tables := { s.tables with rgnBusy := false, rgnStat := st } }
  let s2 := if st = 0 then s1 else s1.setEvt pgTEN128 1
  if st = rgnCapacity then s2.setEvt pgTIER 5 else s2

/-- R143: reserved bits of the staged words: bytes 12 to 15 and the unlisted bits of bytes 0 to 3. -/
def rgnReservedBits (w : List Word32) : Bool :=
  (w.getD 3 0#32 != 0#32) || ((w.getD 0 0#32 &&& 0xF00080E0#32) != 0#32)

/-- Tenant `t` is sealed or its seal is pending (R143). -/
def State.sealedOrPending (s : State) (t : Nat) : Bool := (s.ten t).sealed || (s.ten t).reqSeal

/-- R143 with R82 and R85: why a BIND is refused; 0 where it is not. -/
def State.bindStat (s : State) (idx : Nat) (w : List Word32) : Nat :=
  let n := Range.ofWords w
  let cur := s.rgn idx
  let bad := 5 ≤ n.kind || rgnReservedBits w || (n.node != 0 && !n.remote) || !n.valid || n.size == 0 || 262144 < n.size
    || 262144 < n.base + n.size || (n.sharers != 0 && n.kind != kShared) || (n.remote && n.kind != kPrivate && n.kind != kShared)
  let overlap := s.tables.ranges.any fun e => e.2.valid && n.base < e.2.base + e.2.size && e.2.base < n.base + n.size
  let sealed := n.kind == kShared && allTenants.any fun t => (t == n.owner || n.sharers.testBit t) && s.sealedOrPending t
  let coll := s.tables.ranges.foldl (fun a e => if e.2.valid && e.2.kind == kCollective && e.2.owner == n.owner then a + e.2.size else a) 0
  let cap := 262144 < s.allGranules + n.size
    || (!n.remote && s.bindMax < s.boundGranules + n.size)
    || (n.kind == kCollective && (s.ten n.owner).ofEff + (s.ten n.owner).ffEff < (coll + n.size) * 1024)
  if cur.fault then rgnFault
  else if bad then rgnBadField
  else if cur.valid then rgnInUse
  else if overlap then rgnOverlap
  else if sealed then rgnSealed
  else if !s.sys.memActive then rgnNotReady
  else if cap then rgnCapacity
  else 0

/-- R159: the tenant owns a bound or unbinding local region. -/
def State.ownsLocal (s : State) (t : Nat) : Bool := s.tables.ranges.any fun e => e.2.valid && !e.2.remote && e.2.owner == t

/-- The two 256-bit halves of a 512-bit key are equal (R159). -/
def keyHalvesEqual (k : Nat) : Bool := k % 2 ^ 256 == k / 2 ^ 256 % 2 ^ 256

/-- Install a key in a slot (R155, R159, R186). -/
def State.installKey (t : Nat) (k : Option Nat) (s : State) : State :=
  s.updTen t fun x => { x with key := k, keyFault := false, keyGen := (x.keyGen + 1) % 65536, keyBusy := false }

/-- R145: the forced release of every extent of a region (R208) is part of the unbind. -/
def State.dropExtents (rgn : Nat) (s : State) : State :=
  { s with extents := s.extents.filter fun e => e.rgn != rgn }

end Sys2Proof.Machine
end

