-- ==== Sys2Proof/Machine/Ops.lean ====
section
/-!
DEFINITION. The named operations over the device's memory: bytes, lines and pages of the DPA range, poison marks and the
poison list, and the records of the pages (ch. 02, ch. 21).
-/

namespace Sys2Proof.Machine

open Sys2Proof

/-! ### Bytes and lines of DPA memory -/

/-- What a byte of memory that nothing has written reads as: zero (R97, R144). -/
def memDefault : Nat → Byte := fun _ => 0#8

/-- Read one byte at a DPA. -/
def State.readByte (s : State) (a : Nat) : Byte := mapGet memDefault s.mem a

/-- Write one byte at a DPA. -/
def State.writeByte (a : Nat) (b : Byte) (s : State) : State := { s with mem := mapPut memDefault a b s.mem }

/-- Read `n` bytes from `a` on. -/
def State.readBytes (s : State) (a n : Nat) : List Byte := (List.range n).map fun i => s.readByte (a + i)

/-- Write bytes from `a` on. -/
def State.writeBytes (a : Nat) : List Byte → State → State
  | [], s => s
  | b :: r, s => State.writeBytes (a + 1) r (s.writeByte a b)

/-- The 64 bytes of a line. -/
def State.readLine (s : State) (line : Nat) : List Byte := s.readBytes (64 * line) 64

/-- The 64 bytes of a line after a write of the enabled bytes. -/
def mergeLine (old new : List Byte) (be : Nat) : List Byte :=
  (List.range 64).map fun i => if be.testBit i then new.getD i 0#8 else old.getD i 0#8

def State.writeLine (line : Nat) (data : List Byte) (s : State) : State := s.writeBytes (64 * line) (data.take 64)

/-! ### Poison marks and the poison list (R861, R862, R864) -/

def State.isPoison (s : State) (line : Nat) : Bool := mapGet (fun _ => false) s.poison line

/-- Set or clear the mark of a line. -/
def State.setPoison (line : Nat) (b : Bool) (s : State) : State :=
  { s with poison := mapPut (fun _ => false) line b s.poison }

/-- R864: enter a line in the poison list; the full list drops its oldest entry and indicates overflow. -/
def State.plistAdd (line : Nat) (s : State) : State :=
  if line ∈ s.log.plist then s
  else
    let full := 65536 ≤ s.log.plist.length
    { s with log := { s.log with plist := (if full then s.log.plist.drop 1 else s.log.plist) ++ [line]
                                 plistOvf := s.log.plistOvf || full } }

/-- A line leaves the poison list; the overflow indication ends when the list is empty. -/
def State.plistDrop (line : Nat) (s : State) : State :=
  let l := s.log.plist.filter (· != line)
  { s with log := { s.log with plist := l, plistOvf := s.log.plistOvf && !l.isEmpty } }

/-- A line becomes poison at an origin that the poison list records. -/
def State.originPoison (line : Nat) (s : State) : State := (s.setPoison line true).plistAdd line

/-- All byte enables of a line. -/
def fullBe : Nat := 2 ^ 64 - 1

/-- R217, R497, R862: a write of a line in memory. A poisoned write marks the line; a full-line write without poison
clears the mark; a narrow write keeps it. -/
def State.applyWrite (line : Nat) (data : List Byte) (be : Nat) (poison : Bool) (s : State) : State :=
  let s1 := s.writeLine line (mergeLine (s.readLine line) data be)
  if poison then s1.setPoison line true
  else if be = fullBe then (s1.setPoison line false).plistDrop line
  else s1

/-- The poison mask of a page: bit i for line i. -/
def State.pagePoison (s : State) (p : Nat) : Nat :=
  (List.range 64).foldl (fun m i => if s.isPoison (64 * p + i) then m + 2 ^ i else m) 0

/-- Set the poison marks of a page to a mask. -/
def State.setPagePoison (p mask : Nat) (s : State) : State :=
  forEach (List.range 64) (fun i s => s.setPoison (64 * p + i) (mask.testBit i)) s

/-- The 4,096 bytes of a page. -/
def State.readPage (s : State) (p : Nat) : List Byte := s.readBytes (4096 * p) 4096

/-- Write a whole page. -/
def State.writePage (p : Nat) (bytes : List Byte) (s : State) : State := s.writeBytes (4096 * p) (bytes.take 4096)

/-- The open frame of a page is freed: its bytes live on in the stored form, its poison marks stay. -/
def State.clearFrame (p : Nat) (s : State) : State := { s with mem := s.mem.filter (fun e => e.1 / 4096 != p) }

/-- Merge a decoded form's poison mask into a page's marks (R862). -/
def State.orPagePoison (p mask : Nat) (s : State) : State :=
  forEach (List.range 64) (fun i s => if mask.testBit i then s.setPoison (64 * p + i) true else s) s

/-- A page's memory, poison and list entries go back to zeros (transition 13; the frame of a folded page). -/
def State.clearPage (p : Nat) (s : State) : State :=
  { s with mem := s.mem.filter (fun e => e.1 / 4096 != p)
           poison := s.poison.filter (fun e => e.1 / 64 != p) }

/-! ### Page records (R92, R102) -/

def State.page (s : State) (p : Nat) : PageRec := mapGet (fun _ => {}) s.tier.pages p

def State.updPage (p : Nat) (f : PageRec → PageRec) (s : State) : State :=
  { s with tier := { s.tier with pages := mapUpd (fun _ => {}) p f s.tier.pages } }

/-- R102, R103: an access sets the age to 0 and is seen by transitions 5 and 10. -/
def State.touch (p : Nat) (s : State) : State :=
  let r := s.page p
  if r.st = .zero then s else s.updPage p fun r => { r with age := 0, touched := true }

/-- R102: whether a counter of value `v` steps at the reel boundary of reel `r`. -/
def ageSteps (r v : Nat) : Bool := v < 255 && r % 2 ^ (min (v / 8) 24) == 0

/-- The aged counter. -/
def ageStep (r v : Nat) : Nat := if ageSteps r v then v + 1 else v

/-- Ageing at a reel boundary. -/
def State.ageAll (s : State) : State :=
  { s with tier := { s.tier with pages := mapAll (fun _ => {}) (fun _ r => { r with age := ageStep (reelOf s.frame.num) r.age }) s.tier.pages } }

/-- R134: the sheet of a page. -/
def sheetOf (p : Nat) : Nat := p / 16

/-- A page covered by an active call (R119). -/
def State.onCall (s : State) (p : Nat) : Bool :=
  s.tier.calls.any fun c => !c.2.released && c.2.ranges.any fun r => r.1 ≤ p && p < r.1 + r.2

/-! ### Classes (R345, R384) -/

/-- Class registers in force. -/
def classReset (c : Nat) : ClassS :=
  if c < 8 then { lat := 450, tiers := 1, guar := 20, max := 1024, ways := 0xFFFF, cap := 96, lane := 4, weight := 4 }
  else if c < 16 then { lat := 1000, tiers := 1, guar := 4, max := 512, ways := 0xFFFF, cap := 32, lane := 1, weight := 2 }
  else if c = 16 then { lat := 8000, tiers := 7, guar := 12, max := 1024, ways := 0xFFFF, cap := 32, lane := 8, weight := 2 }
  else if c = 17 then { lat := 50000, tiers := 7, guar := 8, max := 512, ways := 0, cap := 0, lane := 8, weight := 1 }
  else if c = 18 then { lat := 4000, tiers := 7, guar := 8, max := 512, ways := 0xFFFF, cap := 16, lane := 4, weight := 2 }
  else if c = 19 then { lat := 200000, tiers := 7, guar := 4, max := 256, ways := 0, cap := 0, lane := 4, weight := 1 }
  else {}

def State.cls (s : State) (c : Nat) : ClassS := mapGet classReset s.rgl.cls c
def State.clsNext (s : State) (c : Nat) : ClassS := mapGet classReset s.rgl.next c
def State.clsRun (s : State) (c : Nat) : ClassRun := mapGet (fun _ => {}) s.rgl.run c
def State.updRun (c : Nat) (f : ClassRun → ClassRun) (s : State) : State :=
  { s with rgl := { s.rgl with run := mapUpd (fun _ => {}) c f s.rgl.run } }

/-! ### Tenant interrupt causes (R254) -/

/-- Set cause `c` on every tenant function of an identity: its function key is port, link, LD. -/
def fnKey (port link ld : Nat) : Nat := (port * 2 + link) * 16 + ld

def State.fn (s : State) (k : Nat) : Fn := mapGet (fun _ => {}) s.fns k
def State.updFn (k : Nat) (f : Fn → Fn) (s : State) : State := { s with fns := mapUpd (fun _ => {}) k f s.fns }

/-- INT_MAP entry of a cause; at reset cause c maps to vector c (R296). -/
def Fn.vecOf (f : Fn) (c : Nat) : Nat := mapGet (fun c => c) f.map c

/-- A cause occurs on a function: INT_STAT sets; when enabled its vector's message is due in the next frame
(R254, R268 to R270). -/
def Fn.cause (f : Fn) (c : Nat) : Fn :=
  { f with stat := f.stat ||| bit32 c
           seen := f.seen ||| bit32 c
           now := if f.ena.getLsbD c then addOnce (f.vecOf c) f.now else f.now }

def State.fnCause (k c : Nat) (s : State) : State := s.updFn k (fun f => f.cause c)

/-- The function that serves an identity: port, link and LD of its entry (R246). -/
def State.fnOfId (s : State) (h : Nat) : Nat :=
  let i := s.ident h
  let bi := (s.hport i.port).bifurc
  if i.mode = 0 then (if bi && 8 ≤ i.src then fnKey i.port 1 (i.src - 8) else fnKey i.port 0 i.src)
  else fnKey i.port 0 0

/-- Raise a cause on the function of an identity; in SPID mode there is none (R247). -/
def State.idCause (h c : Nat) (s : State) : State := if (s.ident h).mode = 1 then s else s.fnCause (s.fnOfId h) c

/-- Raise a cause on every function whose identity is of tenant `t`. -/
def State.tenCause (t c : Nat) (s : State) : State :=
  (s.tables.ids.filter fun e => e.2.valid && e.2.tenant == t).foldl (fun s e => s.idCause e.1 c) s

end Sys2Proof.Machine
end

