-- ==== Sys2Proof/Machine/ShelfBase.lean ====
section
/-!
DEFINITION. The shelf's tables and figures (ch. 12): targets, LUNs, blocks and records, logs, usable capacity and what
admits a shelve.
-/

namespace Sys2Proof.Machine

open Sys2Proof

def State.shTarget (s : State) (n : Nat) : ShTarget := mapGet (fun _ => {}) s.shelf.targets n
def State.shLun (s : State) (k : Nat) : ShLun := mapGet (fun _ => {}) s.shelf.luns k
def State.updLun (k : Nat) (f : ShLun → ShLun) (s : State) : State :=
  { s with shelf := { s.shelf with luns := mapUpd (fun _ => {}) k f s.shelf.luns } }
def State.shRec (s : State) (n : Nat) : ShelfRec := mapGet (fun _ => {}) s.shelf.recs n
def State.updRec (n : Nat) (f : ShelfRec → ShelfRec) (s : State) : State :=
  { s with shelf := { s.shelf with recs := mapUpd (fun _ => {}) n f s.shelf.recs } }

/-- LUN key 4 × target + LUN; its target and channel. -/
def lunTarget (k : Nat) : Nat := k / 4
def lunChan (k : Nat) : Nat := k / 32

/-- Block key. -/
def blkKey (lun b : Nat) : Nat := lun * 2 ^ 20 + b
def State.shBlock (s : State) (lun b : Nat) : ShBlock := mapGet (fun _ => {}) s.shelf.blocks (blkKey lun b)
def State.updBlock (lun b : Nat) (f : ShBlock → ShBlock) (s : State) : State :=
  { s with shelf := { s.shelf with blocks := mapUpd (fun _ => {}) (blkKey lun b) f s.shelf.blocks } }

/-- Blocks of a LUN. -/
def ShTarget.blocks (t : ShTarget) : Nat := t.planes * t.bpp

/-- LUNs in use, ascending: targets in use on channels that are IN or in DRAIN, not faulted. -/
def State.lunKeys (s : State) : List Nat :=
  s.shelf.targets.foldl (fun l e => if e.2.used then l ++ (List.range e.2.luns).map fun u => 4 * e.1 + u else l) []

/-- A block's plane is retired by software. -/
def State.planeGone (s : State) (k b : Nat) : Bool := (s.shLun k).retPlanes.testBit (b % max 1 (s.shTarget (lunTarget k)).planes)

/-- New data may be placed on a LUN. -/
def State.lunOpen (s : State) (k : Nat) : Bool := s.isIn .shelf (lunChan k) && !(s.shLun k).fault

/-- A tenant's shelf-target masks as one number: bit 8c + b is chip enable b of channel c (R168). -/
def State.shelfMask (s : State) (t : Nat) : Nat :=
  (List.range 8).foldl (fun n k => n + (s.reg (ofsOf (pgTEN t) (0x60 + 4 * k))).toNat * 2 ^ (32 * k)) 0

/-- The log a LUN belongs to: a sealed tenant's, or 128 the shared log (R537). -/
def State.logOfLun (s : State) (k : Nat) : Nat := (s.sealedList.find? fun t => (s.shelfMask t).testBit (lunTarget k)).getD 128

/-- The log of a page owner's records. -/
def State.logOfOwner (s : State) (t : Nat) : Nat := if (s.ten t).sealed then t else 128

/-- Blocks a LUN has in one of two uses, outside retired planes. A block not listed is free. -/
def State.blocksIn (s : State) (k : Nat) (p : Nat → Bool) : List Nat :=
  (List.range (s.shTarget (lunTarget k)).blocks).filter fun b => p (s.shBlock k b).use && !s.planeGone k b

/-- Free blocks, erased or not. -/
def State.freeBlks (s : State) (k : Nat) : List Nat := s.blocksIn k fun u => u ≤ 1

/-- R546: blocks of the last-erase reserve of a LUN. -/
def State.lunReserve (s : State) (k : Nat) : Nat := 2 * (s.shTarget (lunTarget k)).planes

/-- R548, R555: OP_PCT in force. -/
def State.opPct (s : State) : Nat := max 7 (min 50 (s.regF (pgMEDIA 16) 0x100 5 0))

/-- R554: usable bytes of a LUN that counts. -/
def State.lunBytes (s : State) (k : Nat) : Nat :=
  let t := s.shTarget (lunTarget k)
  let good := (s.blocksIn k fun u => u != 4).length
  let copies := (s.blocksIn k fun u => u == 5).length
  let planes := t.planes - ((List.range t.planes).filter (s.shLun k).retPlanes.testBit).length
  (good - copies - 2 * planes) * t.ppb * 16384

/-- R554: usable bytes of the LUNs of a set. -/
def State.usable (s : State) (p : Nat → Bool) : Nat :=
  s.lunKeys.foldl (fun n k => if p k && s.isIn .shelf (lunChan k) then n + s.lunBytes k else n) 0

/-- S anew. -/
def State.recalcShelf (s : State) : State :=
  { s with shelf := { s.shelf with gib := s.usable (fun _ => true) * (100 - s.opPct) / 100 / 2 ^ 30 } }

/-- Live slips of a log. -/
def State.liveSlips (s : State) (log : Nat) : Nat :=
  s.shelf.recs.foldl (fun n e => if e.2.live && s.logOfOwner e.2.owner == log then n + e.2.slips else n) 0

/-- R547, R548, R818: a log admits a shelve of `slips` more. -/
def State.logAdmits (s : State) (log slips : Nat) : Bool :=
  let mine := s.lunKeys.filter fun k => s.logOfLun k == log && s.lunOpen k
  (mine.any fun k => s.lunReserve k < (s.freeBlks k).length || (s.shLun k).used + slips ≤ 64 && (s.shLun k).opened.isSome)
  && (s.liveSlips log + slips) * 256 * 100 ≤ s.usable (fun k => s.logOfLun k == log) * (100 - s.opPct)

/-- Slips of a page's record (R532). -/
def recSlips (f : Stored) : Nat := if f.raw then 17 else f.slips

/-- The live record of a page. -/
def State.recOf (s : State) (p : Nat) : Option (Nat × ShelfRec) := s.shelf.recs.find? fun e => e.2.live && e.2.page == p && e.2.copyOf.isNone

end Sys2Proof.Machine
end

