-- ==== Sys2Proof/Machine/Tier.lean ====
section
/-!
DEFINITION. The tier manager (ch. 02): make_room, the page transitions of step 2 and background eviction.
-/

namespace Sys2Proof.Machine

open Sys2Proof

/-! ### Submitting work to the lanes and the shelf -/

/-- Queue a piece of lane work (R425 dispatches it). -/
def State.submitLane (w : LaneWork) (s : State) : State :=
  { s with lanes := { s.lanes with waiting := s.lanes.waiting ++ [{ w with id := s.lanes.serial }], serial := s.lanes.serial + 1 } }

/-- Drop what is left to pay of a piece that ends (R432: what it has used stays charged). -/
def State.dropCarry (g n code : Nat) (s : State) : State :=
  { s with slate := { s.slate with carry := mapPut (fun _ => 0) (useKey g n 0 code) 0 s.slate.carry } }

/-- Drop the pieces of a page that have not finished (transition 5, R94, R446). -/
def State.dropLane (p : Nat) (s0 : State) : State :=
  let gone := s0.lanes.lanes.foldl (fun l e => l ++ (e.2.busy.filter fun w => w.2.page == p && w.2.kind != .transient).map fun w => (e.1, w.1)) []
  let s := gone.foldl (fun s x => s.dropCarry gLANE x.1 x.2) s0
  { s with lanes := { s.lanes with
      waiting := s.lanes.waiting.filter fun w => w.page != p || w.kind == .transient
      lanes := mapAll (fun _ => {}) (fun _ (l : Lane) => { l with queue := l.queue.filter fun w => w.page != p || w.kind == .transient
                                                                  busy := l.busy.filter fun w => w.2.page != p || w.2.kind == .transient }) s.lanes.lanes } }

/-- A decode of the page is waiting or running (R427). -/
def State.decoding (s : State) (p : Nat) : Bool :=
  let hit := fun (w : LaneWork) => w.page == p && w.kind != .fold
  s.lanes.waiting.any hit || (s.lanes.lanes.any fun l => l.2.queue.any hit || l.2.busy.any fun w => hit w.2)

/-- Queue a shelf read of a page's record. -/
def State.submitShelfRead (p owner cls : Nat) (transient : Bool) (s : State) : State :=
  { s with shelf := { s.shelf with toRead := s.shelf.toRead ++ [{ page := p, owner := owner, cls := cls, transient := transient }] } }

/-- Hand a page's folded form to a write point. -/
def State.submitShelfProgram (p owner : Nat) (s : State) : State :=
  { s with shelf := { s.shelf with toProg := s.shelf.toProg ++ [{ page := p, owner := owner, cls := 17, transient := false }] } }

/-- A page's shelf copy becomes stale (transitions 9 on, 10, 12, 13). -/
def State.staleRecord (p : Nat) (s : State) : State :=
  { s with shelf := { s.shelf with
      toProg := s.shelf.toProg.filter (fun w => w.page != p)
      recs := mapAll (fun _ => {}) (fun _ (r : ShelfRec) => if r.page == p && r.live then { r with live := false } else r) s.shelf.recs } }

/-! ### Kinds, eligibility and victims (R112, R113) -/

def State.pageKind (s : State) (p : Nat) : Option Nat := (s.rgnAt (granuleOfPage p)).map (·.2.kind)

/-- A sealed tenant without shelf targets has no page eligible to shelve (R168). -/
def State.hasTargets (s : State) (t : Nat) : Bool := !(s.ten t).sealed || s.shelfMask t != 0

/-- R112: eligible for eviction. -/
def State.eligible (s : State) (p : Nat) (r : PageRec) : Bool :=
  (r.st == .opened || r.st == .folded) && !s.onCall p && r.pins == 0 && !r.want && !r.lift && r.held.isEmpty && !r.release
  && (r.st == .opened || (match s.rgnAt (granuleOfPage p) with
      | some (_, g) => g.kind != kCollective && s.hasTargets g.owner && s.shelfGiB != 0 && s.logAdmits (s.logOfOwner g.owner) r.slips
      | none => false))

/-- R113: the order of `oldest`: larger age, then larger U of the owner, then open over folded, then lower DPA. -/
def olderThan (a b : Nat × PageRec × Nat) : Bool :=
  if a.2.1.age ≠ b.2.1.age then b.2.1.age < a.2.1.age
  else if a.2.2 ≠ b.2.2 then b.2.2 < a.2.2
  else if a.2.1.st ≠ b.2.1.st then a.2.1.st == .opened
  else a.1 < b.1

/-- The oldest eligible page of a set. -/
def State.oldest (s : State) (inSet : Nat → PageRec → Nat → Bool) : Option Nat :=
  let best := s.tier.pages.foldl (fun (b : Option (Nat × PageRec × Nat)) e =>
    match s.pageOwner e.1 with
    | none => b
    | some t =>
      if inSet e.1 e.2 t && s.eligible e.1 e.2 then
        let c := (e.1, e.2, s.ovfUse t)
        match b with
        | none => some c
        | some d => if olderThan c d then some c else some d
      else b) none
  best.map (·.1)

/-! ### Charging the tier manager (R93, R96) -/

/-- Charge one transition to the owner's share of the tier manager's take; none where it does not fit. -/
def State.tierCharge (t : Nat) (s : State) : Option State :=
  if s.fits gTIER 0 0 (s.ownerCode t) 1 then some (s.charge gTIER 0 0 (s.ownerCode t) 1) else none

/-- Pages in a transition: each holds a MIG guaranteed entry (R816, R828). -/
def State.migUsed (s : State) : Nat :=
  (s.tier.pages.filter fun e => e.2.st == .folding || e.2.st == .unfolding || e.2.st == .shelving || e.2.st == .fetching).length

/-- Begin a transition that lasts: a MIG entry and a tier-manager charge; none where either is missing (R96, R828). -/
def State.tierBegin (t : Nat) (s : State) : Option State :=
  if s.migUsed < (s.clsRun 17).ent then s.tierCharge t else none

/-- FULL_STAT.MIG_FULL (R828). -/
def State.migNote (s : State) : State :=
  if (s.clsRun 17).ent ≠ 0 ∧ (s.clsRun 17).ent ≤ s.migUsed then { s with sys := { s.sys with full := s.sys.full ||| 4#32 } } else s

/-! ### Starting evictions (transitions 2 and 8) -/

/-- Transition 2: the victim goes to FOLDING and its fold to a lane. -/
def State.beginFold (p t : Nat) (s : State) : State :=
  match s.tierBegin t with
  | none => s.migNote
  | some s1 =>
    (s1.updPage p fun r => { r with st := .folding, touched := false, done := none, excl := none }).submitLane
      { id := 0, kind := .fold, page := p, owner := t, cls := 17, excl := (s.page p).excl }

/-- Transition 8: a FOLDED victim goes to SHELVING. -/
def State.beginShelve (p t : Nat) (s : State) : State :=
  match s.tierBegin t with
  | none => s.migNote
  | some s1 => (s1.updPage p fun r => { r with st := .shelving, touched := false, done := none, spill := false, stored := r.fix.orElse fun _ => r.stored, fix := none }).submitShelfProgram p t

/-- R113: what make_room decides for `amount` bytes of a tier (`fold` for folded room): grant, or the set the victim
comes from. -/
inductive Room where
  | grant
  | fromOwn      -- pages of t
  | fromTier     -- pages of t in the tier
  | fromOverflow -- pages of every shared tenant with overflow use
  deriving DecidableEq, Repr

def State.roomFor (s : State) (t : Nat) (fold : Bool) (amount : Nat) : Room :=
  let use := if fold then s.foldBytes t else s.openBytes t
  let floor := (if fold then (s.ten t).ffEff else (s.ten t).ofEff) * mib
  if use + amount ≤ floor then .grant
  else if (s.ten t).sealed then .fromTier
  else if s.ceiling t < s.openBytes t + s.foldBytes t + amount then .fromOwn
  else if amount ≤ s.ovfFree then .grant
  else .fromOverflow

/-- The victim of a decision. -/
def State.victimOf (s : State) (t : Nat) (fold : Bool) : Room → Option Nat
  | .grant => none
  | .fromOwn => s.oldest fun _ _ o => o == t
  | .fromTier => s.oldest fun _ r o => o == t && (r.st == (if fold then PageState.folded else PageState.opened))
  | .fromOverflow => s.oldest fun _ _ o => !(s.ten o).sealed && 0 < s.ovfUse o

/-- R115: no victim: the allocation waits. -/
def State.roomWait (t : Nat) (fold : Bool) (s : State) : State :=
  let k := t * 2 + (if fold then 1 else 0)
  let s1 := { s with tier := { s.tier with waits := mapUpd (fun _ => 0) k (· + 1) s.tier.waits } }
  if mapGet (fun _ => 0) s.tier.waits k = 0 then (s1.bump (ofsOf pgTIER 0xA4) 6 1).setEvt pgTIER 2 else s1

def State.roomGot (t : Nat) (fold : Bool) (s : State) : State :=
  let k := t * 2 + (if fold then 1 else 0)
  { s with tier := { s.tier with waits := mapPut (fun _ => 0) k 0 s.tier.waits, expired := s.tier.expired.filter (· != k) } }

/-- R113, R115: one run of make_room; `fuel` bounds the chain fold → folded room → shelve. -/
def State.makeRoom (fuel : Nat) (t : Nat) (fold : Bool) (amount : Nat) (s : State) : Bool × State :=
  match s.roomFor t fold amount with
  | .grant => (true, s.roomGot t fold)
  | d =>
    match s.victimOf t fold d with
    | none => (false, s.roomWait t fold)
    | some v =>
      match fuel with
      | 0 => (false, s)
      | fuel + 1 =>
        let o := (s.pageOwner v).getD t
        if (s.page v).st = .folded then (false, s.beginShelve v o)
        else if (s.ten o).sealed then
          let (g, s1) := State.makeRoom fuel o true (256 * s.declSlips o) s
          (false, if g then s1.beginFold v o else s1)
        else (false, s.beginFold v o)

/-! ### Step 2: abandonments and releases (R95 item 1; transitions 5, 10, 13) -/

/-- Why a page in FOLDING or SHELVING is abandoned: an access, a covering call, a lane fault or a program failure. -/
def State.abandonDue (s : State) (p : Nat) (r : PageRec) : Bool :=
  match r.st with
  | .folding => r.touched || s.onCall p || r.pins != 0 || r.done == some .laneFault || !r.held.isEmpty || r.want
  | .shelving => r.touched || s.onCall p || r.pins != 0 || r.done == some .progFail || !r.held.isEmpty || r.want
  | _ => false

/-- Transition 5 or 10. -/
def State.abandon (p : Nat) (s : State) : State :=
  let r := s.page p
  match s.tierCharge ((s.pageOwner p).getD 0) with
  | none => s
  | some s1 =>
    if r.st = .folding then
      ((s1.updPage p fun r => { r with st := .opened, done := none, touched := false }).dropLane p).bump (ofsOf pgTIER 0xA4) 1 1
    else if r.spill then
      (s1.updPage p fun r => { r with st := .opened, done := none, spill := false, stored := none, touched := false }).staleRecord p
    else (s1.updPage p fun r => { r with st := .folded, done := none, touched := false }).staleRecord p

/-- Transition 13: the page is a ZERO page; held writes and attached reads go to the orphans, which complete normally
(R127). -/
def State.releasePage (p : Nat) (s : State) : State :=
  match s.tierCharge ((s.pageOwner p).getD 0) with
  | none => s
  | some s1 =>
    let r := s1.page p
    let s2 := { s1 with tier := { s1.tier with orphanW := s1.tier.orphanW ++ r.held, orphanR := s1.tier.orphanR ++ r.reads } }
    let gone := (List.range 64).foldl (fun (s : State) i => s.plistDrop (64 * p + i)) s2
    ((gone.staleRecord p).clearPage p).updPage p fun _ => {}

/-- R94: a page in a migration is released only once its transition has committed or been abandoned. -/
def settled (st : PageState) : Bool := st == .opened || st == .folded || st == .shelved || st == .zero

/-- The pages listed, in ascending order, as a snapshot for one pass. -/
def State.pageKeys (s : State) : List Nat := s.tier.pages.map (·.1)

def State.tierAbandons (s : State) : State :=
  forEach s.pageKeys (fun p s => if s.abandonDue p (s.page p) then s.abandon p else s) s

def State.tierReleases (s : State) : State :=
  forEach s.pageKeys (fun p s => if (s.page p).release && settled (s.page p).st then s.releasePage p else s) s

/-! ### Step 2: completions (R95 item 2; transitions 3, 4, 7, 9, 12) -/

/-- Count a tier counter (CNT_SEL) and the dailies. -/
def State.tierCount (sel : Nat) (s : State) : State := s.bump (ofsOf pgTIER 0xA4) sel 1

def State.completePage (p : Nat) (s : State) : State :=
  let r := s.page p
  let t := (s.pageOwner p).getD 0
  match r.st, r.done with
  | .folding, some (.foldOut f) =>
    if (s.ten t).sealed then
      if s.physFold t + 256 * f.slips ≤ (s.ten t).ffEff * mib then
        match s.tierCharge t with
        | none => s
        | some s1 => ((s1.clearFrame p).updPage p fun r => { r with st := .folded, stored := some f, done := none }).tierCount 0
      else if s.hasTargets t then
        match s.tierCharge t with
        | none => s
        | some s1 =>
          ((((s1.updPage p fun r => { r with st := .shelving, stored := some f, done := none, spill := true, touched := false }).submitShelfProgram p t).setEvt pgTIER 4).tierCount 8).tierCount 0
      else s
    else
      let (g, s0) := s.makeRoom 3 t true (256 * f.slips)
      if g then
        match s0.tierCharge t with
        | none => s0
        | some s1 => ((s1.clearFrame p).updPage p fun r => { r with st := .folded, stored := some f, done := none }).tierCount 0
      else s0
  | .unfolding, some (.decoded b m) =>
    match s.tierCharge t with
    | none => s
    | some s1 => (((s1.updPage p fun r => { r with st := .opened, stored := none, done := none, want := false, refold := false }).writePage p b).orPagePoison p m).tierCount 2
  | .shelving, some .progOk =>
    match s.tierCharge t with
    | none => s
    | some s1 =>
      let s2 := if r.spill then s1.clearFrame p else s1
      (s2.updPage p fun r => { r with st := .shelved, done := none, spill := false }).tierCount 4
  | .fetching, some (.decoded b m) =>
    match s.tierCharge t with
    | none => s
    | some s1 => ((((s1.updPage p fun r => { r with st := .opened, stored := none, done := none, want := false, refold := false }).staleRecord p).writePage p b).orPagePoison p m).tierCount 5
  | _, _ => s

def State.tierCompletes (s : State) : State := forEach s.pageKeys (fun p s => s.completePage p) s

/-! ### Step 2: promotions (R95 items 3 and 4; transitions 1, 6, 11) -/

/-- Start the promotion of one page: a ZERO page becomes OPEN at once. `evict` false asks for a grant that starts no
eviction (R98). -/
def State.promote (evict : Bool) (p : Nat) (s : State) : State :=
  let r := s.page p
  match s.pageOwner p with
  | none => s
  | some t =>
    if r.st = .zero ∨ r.st = .folded ∨ r.st = .shelved then
      let (g, s0) := if evict then s.makeRoom 3 t false 4096 else (s.roomFor t false 4096 == .grant, s)
      if g then
        match (if r.st = .zero then s0.tierCharge t else s0.tierBegin t) with
        | none => s0.migNote
        | some s1 =>
          if r.st = .zero then s1.updPage p fun r => { r with st := .opened, want := false }
          else if r.st = .folded then
            -- a decode already started or finished for a read serves the transition (R98)
            let s2 := s1.updPage p fun r => { r with st := .unfolding, lift := false, age := 0 }
            if r.lift || s.decoding p then s2 else (s2.updPage p fun r => { r with done := none }).submitLane
              { id := 0, kind := .unfold, page := p, owner := t, cls := 17 }
          else
            let s2 := s1.updPage p fun r => { r with st := .fetching, lift := false, age := 0 }
            if r.lift || s.decoding p || s.shelf.reads.any (fun w => w.page == p) || s.shelf.toRead.any (fun w => w.page == p) then s2 else (s2.updPage p fun r => { r with done := none }).submitShelfRead p t 17 false
      else s0
    else s

/-- Item 3: promotions that a host request or cue waits on, in ascending page order. -/
def State.tierHostPromotes (s : State) : State :=
  forEach s.pageKeys (fun p s =>
    let r := s.page p
    if (r.want || !r.held.isEmpty) && !r.release then s.promote true p else s) s

/-- Item 3, for pages a read asked for: promoted when room still grants without an eviction, else the decode was
transient and its output is discarded (R98, R99). -/
def State.tierLifts (s : State) : State :=
  forEach s.pageKeys (fun p s =>
    if (s.page p).lift then
      let s1 := s.promote false p
      if (s1.page p).lift then s1.updPage p fun r => { r with lift := false, done := none } else s1
    else s) s

/-- R95 item 4: active calls, earliest deadline first, then in order of acceptance. -/
def callBefore (a b : Nat × Call) : Bool :=
  if a.2.deadline ≠ b.2.deadline then a.2.deadline < b.2.deadline else a.2.serial ≤ b.2.serial

/-- Item 4: covered pages that are not OPEN, in entry order and then ascending DPA; a ZERO page is not allocated
(R120). Only listed pages can be other than ZERO. -/
def State.tierCallPromotes (s : State) : State :=
  (sortBy callBefore (s.tier.calls.filter fun c => !c.2.released)).foldl (fun s c =>
    c.2.ranges.foldl (fun s g =>
      forEach (s.pageKeys.filter fun p => g.1 ≤ p && p < g.1 + g.2) (fun p s =>
        if (s.page p).st == .folded || (s.page p).st == .shelved then s.promote true p else s) s) s) s

/-- R776: pages pinned by a collective are promoted with the priority of a call's. -/
def State.tierPinPromotes (s : State) : State :=
  forEach s.pageKeys (fun p s =>
    let r := s.page p
    if r.pins != 0 && r.st != .opened && !r.release then s.promote true p else s) s

/-- R473: pages whose pattern carries a refold mark are promoted when room grants without an eviction. -/
def State.tierRefolds (s : State) : State :=
  forEach s.pageKeys (fun p s => if (s.page p).refold then s.promote false p else s) s

/-! ### Background eviction (R114) -/

def State.wmLow (s : State) : Nat := s.regF pgTIER 0x54 7 0 * 1024 * mib
def State.wmHigh (s : State) : Nat := max (s.regF pgTIER 0x54 15 8) (s.regF pgTIER 0x54 7 0) * 1024 * mib
def State.foldMin (s : State) : Nat := s.regF pgTIER 0x58 7 0
def State.shelveMin (s : State) : Nat := s.regF pgTIER 0x58 15 8
def State.headroom (s : State) : Nat := s.regF pgTIER 0x58 23 16 * 64 * mib

/-- A floor increase waits for OVF_FREE (R111). -/
def State.floorPend (s : State) (t : Nat) : Bool := (s.ten t).ofEff < s.ofReg t || (s.ten t).ffEff < s.ffReg t

def State.ageOk (s : State) (r : PageRec) : Bool := if r.st == .opened then s.foldMin ≤ r.age else s.shelveMin ≤ r.age

/-- One eviction of a victim set, if there is one. -/
def State.evictOne (inSet : Nat → PageRec → Nat → Bool) (s : State) : State :=
  match s.oldest fun p r o => inSet p r o && s.ageOk r with
  | none => s
  | some v =>
    let o := (s.pageOwner v).getD 0
    if (s.page v).st = .folded then s.beginShelve v o
    else if (s.ten o).sealed then
      let (g, s1) := s.makeRoom 2 o true (256 * s.declSlips o)
      if g then s1.beginFold v o else s1
    else s.beginFold v o

/-- R114: at most one eviction start per listed page in a frame. -/
def State.background (s : State) : State :=
  let low := decide (s.ovfFree < s.wmLow) || allTenants.any fun t => s.floorPend t
  let refill := low || (s.tier.refill && decide (s.ovfFree < s.wmHigh))
  let s0 := { s with tier := { s.tier with refill := refill, ovfLow := decide (s.ovfFree < s.wmLow) } }
  let s1 := if s.ovfFree < s.wmLow ∧ s.tier.ovfLow = false ∧ s.sys.memActive then s0.setEvt pgTIER 6 else s0
  let s2 := if refill then forEach s1.pageKeys (fun _ s => s.evictOne fun _ _ o => !(s.ten o).sealed && 0 < s.ovfUse o) s1 else s1
  forEach allTenants (fun t s =>
    if 0 < (s.ten t).ofEff ∧ (s.ten t).ofEff * mib < s.openBytes t + s.headroom then
      s.evictOne fun _ r o => o == t && r.st == .opened
    else s) s2

/-! ### Floors in effect (R110, R111, R129) -/

/-- R111: a pending increase of one tenant takes effect once OVF_FREE covers it. -/
def State.floorEffect (t : Nat) (s : State) : State :=
  let o := s.ofReg t; let f := s.ffReg t
  let e := (s.ten t).ofEff + (s.ten t).ffEff
  if o + f ≤ e ∨ (o + f - e) * mib ≤ s.ovfFree then s.updTen t fun x => { x with ofEff := o, ffEff := f } else s

/-- Sum of the written floors of sealed or of shared tenants, MiB. -/
def State.writtenFloors (s : State) (sealed : Bool) : Nat :=
  allTenants.foldl (fun n t => if (s.ten t).sealed == sealed then n + s.ofReg t + s.ffReg t else n) 0

/-- R129: after P changed, scale the shared floors by one common factor, sealed floors first. The Bool says that the
sealed floors alone exceed P. -/
def State.poolChanged (s : State) : State :=
  let p := s.poolMiB
  let sl := s.writtenFloors true
  let sh := s.writtenFloors false
  let room := p - sl
  let short := decide (p < sl + sh)
  let s1 := forEach allTenants (fun t s =>
    s.updTen t fun x =>
      if x.sealed then { x with ofEff := s.ofReg t, ffEff := s.ffReg t }
      else if short then { x with ofEff := if sh = 0 then 0 else s.ofReg t * room / sh, ffEff := if sh = 0 then 0 else s.ffReg t * room / sh }
      else if s.tier.scaled then { x with ofEff := s.ofReg t, ffEff := s.ffReg t } else x) s
  let s1' := { s1 with tier := { s1.tier with scaled := short } }
  let s2 := if short && !s.tier.scaled then s1'.setEvt pgTIER 7 else s1'
  if p < sl ∧ s.tier.scaled = false then s2.logE 0x0203 3 none pgTIER p (x2 (sl / 1024)) else s2

/-! ### Reading the TIER page and the capacity blocks -/

def PageState.code : PageState → Nat
  | .zero => 0 | .opened => 1 | .folded => 2 | .shelved => 3 | .folding => 4 | .unfolding => 5 | .shelving => 6 | .fetching => 7

def CallState.code : CallState → Nat
  | .pending => 0 | .met => 1 | .missed => 2 | .inGrace => 3

/-- The 32-byte descriptor of a sheet as a number (R88); HOME is a free value (R89). -/
def State.descriptor (s : State) (sheet : Nat) : Nat :=
  match s.boundAt (sheet / 16384) with
  | none => 0
  | some (_, r) =>
    if r.remote || r.kind == kReserve then 0
    else
      (List.range 16).foldl (fun n i =>
        let p := sheet * 16 + i
        n + (s.page p).age * 2 ^ (8 * i) + ((s.page p).st.code + (if s.onCall p then 8 else 0)) * 2 ^ (128 + 4 * i)) 0
      + (Config.homeLocator sheet % 2 ^ 64) * 2 ^ 192

/-- Covered pages of a call not yet open (R121); ZERO counts as open. -/
def State.callRemain (s : State) (c : Call) : Nat :=
  s.tier.pages.foldl (fun n e =>
    if c.ranges.any (fun r => r.1 ≤ e.1 && e.1 < r.1 + r.2) && e.2.st != .opened && e.2.st != .zero then n + 1 else n) 0

def upMiB (n : Nat) : Nat := (n + mib - 1) / mib

def State.readTier (s : State) (r : Nat) : Option Word32 :=
  let call := (s.tier.calls.find? fun c => c.1 == s.regF pgTIER 0x60 7 0).map (·.2)
  if r = 0x40 then some (place s.bindMax 19 0)
  else if r = 0x44 then some (place s.boundGranules 19 0)
  else if r = 0x48 then some (place s.poolMiB 23 0)
  else if r = 0x4C then some (place (s.ovfFree / mib) 23 0)
  else if r = 0x50 then some (place s.shelfGiB 19 0)
  else if r = 0x64 then some (match call with
    | none => 0#32
    | some c => 1#32 ||| place c.st.code 3 1 ||| place c.tenant 7 8 ||| place c.callId 16 16)
  else if r = 0x68 then some (match call with | none => 0#32 | some c => place (s.callRemain c) 21 0)
  else if r = 0x6C then some (match call with | none => 0#32 | some c => word32 c.deadline 0)
  else if r = 0x70 then some (match call with | none => 0#32 | some c => place (c.deadline / 2 ^ 32) 6 0)
  else if 0x78 ≤ r ∧ r ≤ 0x94 then some (word32 (s.descriptor (s.reg (ofsOf pgTIER 0x74)).toNat) ((r - 0x78) / 4))
  else none

/-- Capacity block of a tenant page (read-only part). -/
def State.readCapacity (s : State) (t r : Nat) : Option Word32 :=
  if r = 0x110 then some (place (upMiB (s.openBytes t)) 23 0)
  else if r = 0x114 then some (place (upMiB (s.foldBytes t)) 23 0)
  else if r = 0x118 then some (place (upMiB (s.ovfUse t)) 23 0)
  else if r = 0x11C then some (placeB (s.floorPend t) 0)
  else none

end Sys2Proof.Machine
end

