-- ==== Sys2Proof/Machine/Dram.lean ====
section
/-!
DEFINITION. The DRAM channels and the front cache (ch. 11): line decode and its thresholds, placement, front-cache
allocation, retirement, refresh and the loss of a channel.
-/

namespace Sys2Proof.Machine

open Sys2Proof

def State.updChan (c : Nat) (f : DramCh → DramCh) (s : State) : State :=
  { s with chans := mapUpd (fun _ => {}) c f s.chans }

/-! ### Placement (R498) -/

/-- 4 KiB units in use on a channel: open frames and slip groups of the pages located there. -/
def State.unitsOn (s : State) (c : Nat) : Nat :=
  s.tier.pages.foldl (fun n e => n + (if e.2.frameCh = some c then 1 else 0) + (if e.2.slipCh = some c then 1 else 0)) 0
    + s.tier.lost.foldl (fun n e => n + (e.2.filter (· == c)).length) 0

/-- Free units of a channel. -/
def State.unitsFree (s : State) (c : Nat) : Nat := (s.chan c).capGiB * 262144 - s.unitsOn c

/-- R498: the IN channel with the most free units, and among equals the lowest number. -/
def State.pickChan (s : State) : Option Nat :=
  (List.range 16).foldl (fun (b : Option Nat) c =>
    if s.isIn .dram c then
      match b with
      | none => some c
      | some d => if s.unitsFree d < s.unitsFree c then some c else some d
    else b) none

/-- Locate the units that a page's state holds, freeing the others (R498). -/
def State.placePage (p : Nat) (s : State) : State :=
  let r := s.page p
  let s1 := if r.hasFrame && r.frameCh.isNone then (let c := s.pickChan; s.updPage p fun r => { r with frameCh := c })
    else if !r.hasFrame && r.frameCh.isSome then s.updPage p fun r => { r with frameCh := none } else s
  let r1 := s1.page p
  if r1.hasSlips && r1.slipCh.isNone then (let c := s1.pickChan; s1.updPage p fun r => { r with slipCh := c })
  else if !r1.hasSlips && r1.slipCh.isSome then s1.updPage p fun r => { r with slipCh := none } else s1

/-- Placement of every listed page, at the end of step 2. -/
def State.placeAll (s : State) : State := forEach s.pageKeys State.placePage s

/-- The channel an access to a page's open frame uses. -/
def State.frameChan (s : State) (p : Nat) : Nat := ((s.page p).frameCh).getD 0

/-! ### Error counts and thresholds (R492, R514) -/

/-- Bank key of a location: subchannel, rank, bank group, bank. -/
def locBankKey (l : Loc) : Nat := ((l.sub * 4 + l.rank) * 8 + l.bg) * 4 + l.bank
/-- Row key. -/
def locRowKey (l : Loc) : Nat := locBankKey l * 262144 + l.row

/-- LO word of a location, VALID 0 and KIND row or bank (R868, R878). -/
def locLo (l : Loc) (kind : Nat) : Nat :=
  kind * 2 + l.chan * 16 + l.sub * 256 + l.rank * 512 + l.bg * 4096 + l.bank * 65536
def locHi (l : Loc) : Nat := l.row
/-- The locator of a log entry, HI above LO. -/
def locLocator (l : Loc) (kind : Nat) : Nat := locLo l kind + 2 ^ 32 * locHi l

/-- DETAIL values of a DRAM entry: location ×4. -/
def locDetail (l : Loc) : List Nat := [locLo l 0 % 65536, locLo l 0 / 65536, locHi l % 65536, locHi l / 65536]

/-- Advise retiring a row, and its bank after four rows (R514). -/
def State.adviseRow (l : Loc) (s : State) : State :=
  let ch := s.chan l.chan
  if locRowKey l ∈ ch.advised then s
  else
    let s1 := (s.updChan l.chan fun c => { c with advised := locRowKey l :: c.advised }).retireAdvice 1 0 (locLocator l 0) (pgMEDIA l.chan)
    let inBank := ((locRowKey l :: ch.advised).filter fun k => k / 262144 == locBankKey l).length
    if 4 ≤ inBank ∧ locBankKey l ∉ ch.banksAdvised then
      (s1.updChan l.chan fun c => { c with banksAdvised := locBankKey l :: c.banksAdvised }).retireAdvice 2 0 (locLocator l 1) (pgMEDIA l.chan)
    else s1

/-- R514 on one corrected read. -/
def State.ceThresholds (l : Loc) (s : State) : State :=
  let ch := s.chan l.chan
  let n := ch.ceReel + 1
  let rowN := ((ch.ceRows.find? fun e => e.1 == locRowKey l).elim 0 (·.2)) + 1
  let db := addOnce (locBankKey l) ((ch.devBanks.filter fun e => e.1 == l.dev).map (·.2))
  let s1 := s.updChan l.chan fun c => { c with
    ceReel := n
    ceRows := (locRowKey l, rowN) :: c.ceRows.filter fun e => e.1 != locRowKey l
    devBanks := (l.dev, locBankKey l) :: c.devBanks.filter fun e => e != (l.dev, locBankKey l) }
  let s2 := if n = s.regF (pgMEDIA l.chan) 0x54 15 0 then s1.setEvt (pgMEDIA l.chan) 0 else s1
  let s3 := if n = s.regF (pgMEDIA l.chan) 0x54 31 16 then (s2.setEvt (pgMEDIA l.chan) 1).retireAdvice 3 0 l.chan (pgMEDIA l.chan) else s2
  let s4 := if rowN = 16 then s3.adviseRow l else s3
  if 3 ≤ db.length ∧ ch.failed.isNone then
    ((s4.updChan l.chan fun c => { c with failed := some (l.sub, l.rank, l.dev) }).setEvt (pgMEDIA l.chan) 3).retireAdvice 3 0x0801 l.chan (pgMEDIA l.chan)
  else s4

/-- A corrected read: CE counter, a CORRECTED entry at most once per row per reel, LAST_ERR, thresholds. -/
def State.dramCe (line : Nat) (ten : Option Nat) (l : Loc) (s : State) : State :=
  let s1 := (s.bump (ofsOf (pgMEDIA l.chan) 0x50) 0 1).updChan l.chan fun c => { c with lastErr := some (l, 1) }
  let s2 := if locRowKey l ∈ (s.chan l.chan).logRows then s1
    else (s1.updChan l.chan fun c => { c with logRows := locRowKey l :: c.logRows }).logE 0x0801 0 ten (pgMEDIA l.chan) (64 * line) (locDetail l)
  s2.ceThresholds l

/-- An uncorrectable read (R492): UE counter and event, a DEFERRED entry; the line stays stored and enters the list. -/
def State.dramUe (line : Nat) (ten : Option Nat) (l : Loc) (s : State) : State :=
  let s1 := ((s.bump (ofsOf (pgMEDIA l.chan) 0x50) 1 1).setEvt (pgMEDIA l.chan) 2).updChan l.chan fun c => { c with lastErr := some (l, 2) }
  (s1.logE 0x0802 2 ten (pgMEDIA l.chan) (64 * line) (locDetail l)).originPoison line

/-- R492: read one line from its channel. With a failed device, a further error in another device is uncorrectable
(R515). Answers whether the line is poison. -/
def State.dramRead (line : Nat) (ten : Option Nat) (env : ReadEnv) (owner : Nat) (s : State) : Bool × State :=
  let l := { env.loc with chan := s.frameChan (pageOfLine line) }
  let s2 := s.chargeSplit gDRAM l.chan 0 owner 1
  let worse := match (s.chan l.chan).failed with
    | some (sub, rank, dev) => sub == l.sub && rank == l.rank && dev != l.dev
    | none => false
  if s.isPoison line then
    if env.dec = .uncorrectable then (true, s2.dramUe line ten l)
    else
      let s3 := s2.bump (ofsOf (pgMEDIA l.chan) 0x50) 6 1
      (true, if env.dec = .poisonWord true then s3.dramCe line ten l else s3)
  else match env.dec with
    | .good => (false, s2)
    | .poisonWord _ => (false, s2)
    | .corrected => if worse then (true, s2.dramUe line ten l) else (false, s2.dramCe line ten l)
    | .uncorrectable => (true, s2.dramUe line ten l)

/-! ### The front cache (R360 to R362, R505 to R508, R519) -/

def State.fcLine (s : State) (line : Nat) : FcLine := mapGet (fun _ => {}) s.dram.fc line
def State.updFc (line : Nat) (f : FcLine → FcLine) (s : State) : State :=
  { s with dram := { s.dram with fc := mapUpd (fun _ => {}) line f s.dram.fc, fcClock := s.dram.fcClock + 1 } }

/-- Ways reserved for sealed tenants. -/
def State.fcReserved (s : State) : Nat :=
  s.sealedList.foldl (fun m t => m ||| s.regF (pgTEN t) 0x48 15 0) 0

/-- Ways a request may allocate in: a sealed tenant's own ways, else its class's ways less the reserved ones. -/
def State.fcWays (s : State) (t cls : Nat) : Nat :=
  if (s.ten t).sealed then s.regF (pgTEN t) 0x48 15 0
  else (s.cls cls).ways &&& (0xFFFF ^^^ s.fcReserved)

/-- Lines cached in the set of a line. -/
def State.fcSetLines (s : State) (line : Nat) : List (Nat × FcLine) :=
  s.dram.fc.filter fun e => e.2.valid && Config.fcSet e.1 == Config.fcSet line

/-- Take one line out of the cache, writing it back first when dirty. -/
def State.fcEvict (line : Nat) (s : State) : State :=
  let f := s.fcLine line
  let s1 := if f.dirty then
      (s.bump (ofsOf (pgMEDIA 0) 0x124) 2 1).chargeSplit gDRAM (s.frameChan (pageOfLine line)) 0 (f.sealedBy.getD ownOpen) 1
    else s
  let s2 := if f.sealedBy.isNone then s1.updRun f.cls fun r => { r with fcLines := r.fcLines - 1 } else s1
  { s2 with dram := { s2.dram with fc := mapPut (fun _ => {}) line {} s2.dram.fc } }

/-- R519: drop a page's lines without write-back. -/
def State.fcDropPage (p : Nat) (s : State) : State :=
  let gone := s.dram.fc.filter fun e => e.1 / 64 == p
  let s1 := gone.foldl (fun s e => if e.2.sealedBy.isNone then s.updRun e.2.cls fun r => { r with fcLines := r.fcLines - 1 } else s) s
  { s1 with dram := { s1.dram with fc := s1.dram.fc.filter fun e => e.1 / 64 != p } }

/-- R360 to R362: allocate a line for a request of tenant `t` and class `cls`; a request that may not allocate
bypasses. -/
def State.fcAlloc (line t cls : Nat) (dirty : Bool) (s : State) : State :=
  let ways := s.fcWays t cls
  let sealed := (s.ten t).sealed
  let inSet := s.fcSetLines line
  let free := (List.range 16).find? fun w => ways.testBit w && !(inSet.any fun e => e.2.way == w)
  let capped := !sealed && (min 96 (s.cls cls).cap) * 16384 ≤ (s.clsRun cls).fcLines
  let lru := fun (l : List (Nat × FcLine)) => l.foldl (fun (b : Option (Nat × FcLine)) e =>
    match b with
    | none => some e
    | some d => if e.2.used < d.2.used then some e else some d) none
  let put := fun (w : Nat) (s : State) =>
    let s1 := s.updFc line fun _ => { valid := true, way := w, cls := cls, sealedBy := if sealed then some t else none, dirty := dirty, used := s.dram.fcClock }
    if sealed then s1 else s1.updRun cls fun r => { r with fcLines := r.fcLines + 1 }
  if ways = 0 then s.bump (ofsOf (pgMEDIA 0) 0x124) 3 1
  else if capped then
    match lru (inSet.filter fun e => e.2.cls == cls && e.2.sealedBy.isNone && ways.testBit e.2.way) with
    | none => s.bump (ofsOf (pgMEDIA 0) 0x124) 3 1
    | some v => put v.2.way (s.fcEvict v.1)
  else match free with
    | some w => put w s
    | none =>
      match lru (inSet.filter fun e => ways.testBit e.2.way) with
      | none => s.bump (ofsOf (pgMEDIA 0) 0x124) 3 1
      | some v => put v.2.way (s.fcEvict v.1)

/-- Read a line of an OPEN or FOLDING page through the front cache. Answers whether it is poison. -/
def State.fcRead (line t cls : Nat) (env : ReadEnv) (s : State) : Bool × State :=
  let o := s.ownerCode t
  let s0 := s.chargeSplit gDIR 1 0 o 1
  let f := s.fcLine line
  if f.valid then
    let s1 := (s0.bump (ofsOf (pgMEDIA 0) 0x124) 0 1).updFc line fun f => { f with used := s0.dram.fcClock }
    match env.dec with
    | .corrected => (s.isPoison line, s1.bump (ofsOf (pgMEDIA 0) 0x124) 4 1)
    | .uncorrectable =>
      let s2 := s1.bump (ofsOf (pgMEDIA 0) 0x124) 5 1
      if f.dirty then
        -- R506: a dirty line becomes poison
        let set := Config.fcSet line
        (true, ((s2.setEvt (pgMEDIA 0) 9).logE 0x0803 2 (some t) (pgMEDIA 0) (64 * line) (x2 set ++ [f.way])).originPoison line)
      else
        -- R506: a clean line is read again from DRAM
        let (p, s3) := (s2.fcEvict line).dramRead line (some t) { env with dec := .good } o
        (p, s3)
    | _ => (s.isPoison line, s1)
  else
    let (p, s1) := (s0.bump (ofsOf (pgMEDIA 0) 0x124) 1 1).dramRead line (some t) env o
    (p, s1.fcAlloc line t cls false)

/-- Write a line of an OPEN page: a full line allocates, a narrow write merges into a hit or goes to a
read-modify-write (R496, R497, R505). -/
def State.fcWrite (line t cls : Nat) (data : List Byte) (be : Nat) (poison : Bool) (env : ReadEnv) (s : State) : State :=
  let o := s.ownerCode t
  let s0 := s.chargeSplit gDIR 1 0 o 1
  let hit := (s.fcLine line).valid
  let c := s.frameChan (pageOfLine line)
  if be = fullBe then
    let s1 := s0.applyWrite line data be poison
    if hit then (s1.bump (ofsOf (pgMEDIA 0) 0x124) 0 1).updFc line fun f => { f with dirty := true, used := s0.dram.fcClock }
    else (s1.bump (ofsOf (pgMEDIA 0) 0x124) 1 1).fcAlloc line t cls true
  else if hit then
    ((s0.applyWrite line data be poison).bump (ofsOf (pgMEDIA 0) 0x124) 0 1).updFc line fun f => { f with dirty := true, used := s0.dram.fcClock }
  else
    -- R496: the channel reads, merges and writes back; R497: poison stays and the merged bytes are discarded
    let s1 := (s0.bump (ofsOf (pgMEDIA 0) 0x124) 1 1).bump (ofsOf (pgMEDIA c) 0x50) 2 1
    let (bad, s2) := s1.dramRead line (some t) env o
    let s4 := s2.chargeSplit gDRAM c 0 o 1
    if bad then s4.setPoison line true else s4.applyWrite line data be poison

/-! ### Retirement (R509 to R513) -/

def State.retEntry (s : State) (i : Nat) : RetEntry := mapGet (fun _ => {}) s.dram.ret i
def State.updRet (i : Nat) (f : RetEntry → RetEntry) (s : State) : State :=
  { s with dram := { s.dram with ret := mapUpd (fun _ => {}) i f s.dram.ret } }

/-- R510: why a WRITE is refused: 1 BAD_FIELD, 2 DUPLICATE, 3 BUSY; 0 accepted. -/
def State.retWriteStat (s : State) (i : Nat) (lo hi : Word32) : Nat :=
  let e := s.retEntry i
  let c := s.chan (retChan lo)
  let row := field hi 17 0
  let bad := 2 ≤ retKind lo || !bitOf lo 0 || c.ranks ≤ field lo 10 9 || c.kind == 0 || (retKind lo == 0 && c.rows ≤ row)
  let dup := s.dram.ret.any fun x => x.1 != i && x.2.valid && retKind x.2.lo == retKind lo && retChan x.2.lo == retChan lo
    && retBank x.2.lo == retBank lo && (retKind lo == 1 || field x.2.hi 17 0 == row)
  if e.valid && !e.done then 3 else if bad then 1 else if dup then 2 else 0

/-- Apply a waiting retirement command at step 2 (R511, R512). -/
def State.retApply (s : State) : State :=
  match s.dram.retCmd with
  | none => s
  | some (i, op, lo, hi) =>
    let s0 := { s with dram := { s.dram with retCmd := none } }
    if op = 2 then
      let st := s0.retWriteStat i lo hi
      if st ≠ 0 then { s0 with dram := { s0.dram with retStat := st } }
      else
        let inBank := s0.inRetiredBank i lo
        let s1 := { s0 with dram := { s0.dram with retStat := 0 } }
        s1.updRet i fun _ => { valid := true, lo := lo, hi := hi &&& 0x3FFFF#32, done := inBank, active := true }
    else
      let e := s0.retEntry i
      let st := if !e.valid then 1 else if !e.done then 3 else 0
      let s1 := { s0 with dram := { s0.dram with retStat := st } }
      if st = 0 then s1.updRet i fun _ => {} else s1

/-! ### Reading the channel pages -/

def State.readMedia (s : State) (n r : Nat) : Option Word32 :=
  let c := s.chan n
  let dev := c.failed.getD (0, 0, 0)
  let loc := (c.lastErr.map (·.1)).getD ⟨0, 0, 0, 0, 0, 0, 0, 0⟩
  let k := (c.lastErr.map (·.2)).getD 0
  if r = 0x40 then some (place ((s.unit .dram n).st.code) 3 0 ||| place c.kind 2 4 ||| place c.rate 16 16)
  else if r = 0x44 then some (place c.capGiB 10 0)
  else if r = 0x58 then some (placeB c.failed.isSome 0 ||| place dev.1 1 1 ||| place dev.2.1 2 2 ||| place dev.2.2 4 4)
  else if r = 0x5C then some (place loc.row 18 0 ||| place loc.sub 1 20 ||| place loc.rank 2 22 ||| place loc.bg 3 24 ||| place loc.bank 2 28)
  else if r = 0x60 then some (place loc.col 11 0 ||| place (if k = 1 then loc.dev else 0) 4 16 ||| place k 2 24)
  else if r = 0x64 then some (place c.temp 8 0)
  else if r = 0x68 then some (place ((s.chanRetKiB n + 1023) / 1024) 14 0)
  else if n = 0 ∧ r = 0x104 then some (place s.dram.scrubPasses 16 0 ||| place s.dram.scrubPct 7 16)
  else if n = 0 ∧ r = 0x118 then some (placeB s.dram.retCmd.isSome 4 ||| place s.dram.retStat 4 8)
  else if n = 0 ∧ r = 0x128 then some (placeB s.dram.flush 0)
  else none

end Sys2Proof.Machine
end

