-- ==== Sys2Proof/Machine/Regulation.lean ====
section
/-!
DEFINITION. Classes, limits and latency targets (ch. 07): the division of the hub request queue, buckets, estimates and
escalation, samples and the per-reel check, the load index behind DevLoad, and the register writes of this family.
-/

namespace Sys2Proof.Machine

open Sys2Proof

/-! ### Classes (R345, R355) -/

def clsCUE : Nat := 16
def clsMIG : Nat := 17
def clsPRS : Nat := 18
def clsMNT : Nat := 19

/-- The twenty classes. -/
def allClasses : List Nat := List.range 20

/-- Σ RQ_RES over the sealed tenants. -/
def State.rqResSum (s : State) : Nat := s.sealedList.foldl (fun n t => n + s.regF (pgTEN t) 0x44 8 0) 0

/-- R355: entries of a class. -/
def State.entShare (s : State) (c : Nat) : Nat := (s.cls c).guar * (4096 - s.rqResSum) / 256

/-- R355: divide the hub request queue anew. -/
def State.divideQueue (s : State) : State :=
  let s1 := forEach allClasses (fun c st => st.updRun c fun r => { r with ent := s.entShare c }) s
  { s1 with rgl := { s1.rgl with common := 4096 - s.rqResSum - allClasses.foldl (fun n c => n + s.entShare c) 0, dirty := false } }

/-! ### Placement in the hub request queue (R357, R358, R374) -/

/-- Entries of a class that are guaranteed ones. -/
def ClassRun.guarUsed (r : ClassRun) : Nat := r.occ - r.occCommon

/-- Where a request of tenant `t` and class `c` would be placed: 1 guaranteed, 2 common, 3 reserved; 0 nowhere. -/
def State.placeFor (s : State) (t c : Nat) : Nat :=
  let r := s.clsRun c
  if (s.ten t).sealed then
    (if mapGet (fun _ => 0) s.rgl.resUsed t < s.regF (pgTEN t) 0x44 8 0 then 3 else 0)
  else if r.guarUsed < r.ent then 1
  else if s.rgl.commonUsed < s.rgl.common ∧ r.occ < max (s.cls c).max r.ent then 2
  else 0

/-- Take an entry. -/
def State.takeEntry (t c place : Nat) (s : State) : State :=
  if place = 3 then { s with rgl := { s.rgl with resUsed := mapUpd (fun _ => 0) t (· + 1) s.rgl.resUsed } }
  else
    let s1 := s.updRun c fun r => { r with occ := r.occ + 1, occCommon := if place = 2 then r.occCommon + 1 else r.occCommon }
    if place = 2 then { s1 with rgl := { s1.rgl with commonUsed := s1.rgl.commonUsed + 1 } } else s1

/-- Free an entry. -/
def State.freeEntry (t c place : Nat) (s : State) : State :=
  if place = 3 then { s with rgl := { s.rgl with resUsed := mapUpd (fun _ => 0) t (· - 1) s.rgl.resUsed } }
  else if place = 1 then s.updRun c fun r => { r with occ := r.occ - 1 }
  else if place = 2 then
    let s1 := s.updRun c fun r => { r with occ := r.occ - 1, occCommon := r.occCommon - 1 }
    { s1 with rgl := { s1.rgl with commonUsed := s1.rgl.commonUsed - 1 } }
  else s

/-! ### Token buckets (R363 to R366, R376, R381) -/

/-- R363: DEPTH in lines, at least 64. -/
def Tenant.depth (t : Tenant) : Nat := max 64 t.bktDepth

/-- The bucket covers a charge of `n` lines. -/
def Tenant.covers (t : Tenant) (n : Nat) : Bool := !t.bktOn || decide (16 * n ≤ t.level)

/-- Charge `n` lines to a bucket (R363, R364, R366). -/
def Tenant.pay (t : Tenant) (n : Nat) : Tenant := if t.bktOn then { t with level := t.level - 16 * n } else t

/-- Step 6: apply the waiting bucket and target writes (R366, R373, R376), then refill (R363). -/
def Tenant.bucketStep (t : Tenant) : Tenant :=
  let t1 := match t.bktNext with
    | none => t
    | some (rate, on, depth) =>
      let d := max 64 depth
      { t with bktRate := rate, bktOn := on, bktDepth := depth, bktNext := none
               level := if on && !t.bktOn then 16 * d else min t.level (16 * d) }
  let t2 := match t1.tgtNext with
    | none => t1
    | some w => { t1 with tgt := w, tgtNext := none }
  if t2.bktOn then { t2 with level := min (16 * t2.depth) (t2.level + t2.bktRate) } else t2

/-- R381: a bucket level that fails its storage check. -/
def State.bucketFault (t : Nat) (s : State) : State :=
  (s.updTen t fun x => { x with level := 16 * x.depth }).logE 0x0602 0 (some t) pgRGL 0 [32 + t]

/-! ### Samples (R347 to R349, R367, R368) -/

/-- R368: the bin of a latency in ns. -/
def binOf (lat : Nat) : Nat :=
  ((List.range 63).filter fun j => 256 * 2 ^ (j / 4) * (4 + j % 4) / 4 ≤ lat).length

/-- Count one sample in a histogram of 64 bins. -/
def histAdd (h : List Nat) (b : Nat) : List Nat :=
  let h0 := if h.isEmpty then List.replicate 64 0 else h
  listSet b (satAdd 32 (h0.getD b 0) 1) h0

/-- A latency of `d` frames: the ns within the last frame is no part of the model, a free value. -/
def State.latency (since : Nat) (s : State) : Nat × State :=
  let (v, s1) := s.draw
  (1000 * framesSince since s.frame.num + v % 1000, s1)

/-- A measured request of class `c` begins. -/
def State.sampleBegin (t c since : Nat) (s : State) : State :=
  if (s.ten t).sealed then s else s.updRun c fun r => { r with outst := r.outst ++ [since] }

/-- A measured request of class `c` and tenant `t` that began in frame `since` ends (R347 to R349, R367, R368). `isRead`
tells a host read, which tenant targets count. -/
def State.sampleEnd (t c since tier : Nat) (isRead : Bool) (s : State) : State :=
  let (lat, s0) := s.latency since
  let tieredOut := c ≠ clsMIG ∧ c ≠ clsMNT ∧ ((s.cls c).tiers.testBit tier) = false
  let s1 := if (s.ten t).sealed then s0 else s0.updRun c fun r =>
    { r with outst := r.outst.erase since
             sum := if tieredOut then r.sum else r.sum + lat
             cnt := if tieredOut then r.cnt else r.cnt + 1
             hist := if tieredOut then r.hist else histAdd r.hist (binOf lat)
             n := if tieredOut then r.n else satAdd 32 r.n 1
             x := if tieredOut ∨ lat ≤ (s.cls c).lat then r.x else satAdd 32 r.x 1 }
  let g := (s.ten t).tgt
  if isRead && bitOf g 31 && field g 19 0 != 0 && (field g 26 24).testBit tier then
    s1.updTen t fun x => { x with hist := histAdd x.hist (binOf lat), histN := satAdd 32 x.histN 1
                                  histX := if field g 19 0 < lat then satAdd 32 x.histX 1 else x.histX }
  else s1

/-! ### Estimates and escalation (R350, R351, R382, R383) -/

def State.alpha (s : State) : Nat := s.regF pgRGL 0x60 2 0

/-- R350 with 32 fraction bits, rounded toward minus infinity (log entry 21). -/
def ewma (e m a : Nat) : Nat := ((e : Int) + (((m * 2 ^ 32 : Nat) : Int) - (e : Int)) / (2 ^ a : Nat)).toNat

/-- R351 on an estimate with 32 fraction bits; T the target in ns, START in sixteenths. -/
def stepOf (e t start : Nat) : Nat :=
  let a := t * 2 ^ 32 * (min start 15) / 16
  if e < a then 0
  else min 7 (1 + 8 * (e - a) / (max 1 (t * 2 ^ 32 - a)))

/-- Step 6: the estimate and the step of one class. -/
def State.classStep (c : Nat) (s : State) : State :=
  let r := s.clsRun c
  let m := if 0 < r.cnt then r.sum / r.cnt
    else match r.outst.head? with
      | some f => 1000 * framesSince f s.frame.num
      | none => 0
  let e := ewma r.e m s.alpha
  let st := stepOf e (s.cls c).lat (s.cls c).start
  s.updRun c fun r => { r with e := e, step := st, sum := 0, cnt := 0, laneUsed := 0, top := r.top && st == 7 }

/-- R382: a failed estimate or histogram. -/
def State.estimateFault (c : Nat) (s : State) : State :=
  (s.updRun c fun r => { r with e := 0, hist := [], n := 0, x := 0, skip := true }).logE 0x0602 0 none pgRGL 0 [c]

/-! ### The per-reel check (R369, R370) -/

/-- Divisor of q: 100, 1,000 or 10,000. -/
def pctlDiv (p : Nat) : Nat := if p = 1 then 1000 else if p = 2 then 10000 else 100

/-- A target is missed. -/
def missedBy (n x p : Nat) : Bool := decide (n / pctlDiv p < x)

/-- A missed target counts in the dailies record (R910). -/
def State.noteMiss (s : State) : State := { s with daily := { s.daily with acc := { s.daily.acc with misses := satAdd 16 s.daily.acc.misses 1 } } }

/-- R369 for one class, and the reel turnover of its samples (R383). -/
def State.classCheck (c : Nat) (s : State) : State :=
  let r := s.clsRun c
  let s1 := if r.n ≠ 0 ∧ r.skip = false ∧ missedBy r.n r.x (s.cls c).pctl = true then
      ((s.noteMiss.setEvt pgRGL 0).bump (ofsOf pgRGL 0x78) c 1).logE 0x0601 0 none pgRGL r.n (c :: x2 r.x)
    else s
  let s2 := if r.top ∧ r.step = 7 then s1.setEvt pgRGL 4 else s1
  s2.updRun c fun r => { r with lastHist := r.hist, lastN := r.n, lastX := r.x, hist := [], n := 0, x := 0, skip := false, top := true }

/-- R369, R370 for one tenant. -/
def State.tenantCheck (t : Nat) (s : State) : State :=
  let x := s.ten t
  let on := bitOf x.tgt 31 && field x.tgt 19 0 != 0
  let s1 := if on && x.histN != 0 && missedBy x.histN x.histX (field x.tgt 21 20) then
      ((((s.noteMiss.setEvt pgRGL 1).bump (ofsOf pgRGL 0x78) (32 + t) 1).logE 0x0601 0 (some t) pgRGL x.histN ((32 + t) :: x2 x.histX)).updTen t
        fun x => { x with missed := true }).tenCause t 13
    else s
  s1.updTen t fun x => { x with lastHist := x.hist, lastN := x.histN, lastX := x.histX, hist := [], histN := 0, histX := 0
                                within := !x.waitedNow && !x.fullNow, waited := x.waitedNow, waitedNow := false, fullNow := false }

/-! ### DevLoad (R213, R214, R371, R372) -/

/-- Classes of a tenant's valid identities on a port. -/
def State.classesOn (s : State) (t p : Nat) : List Nat :=
  (s.tables.ids.filter fun e => e.2.valid && e.2.tenant == t && e.2.port == p).map (·.2.cls)

def Tenant.loadB (x : Tenant) : Nat := if x.bktOn then 255 * (16 * x.depth - x.level) / (16 * x.depth) else 0

/-- L_q of one class. -/
def ClassRun.loadQ (r : ClassRun) : Nat := if r.ent = 0 then (if 0 < r.occ then 255 else 0) else min 255 (255 * r.occ / r.ent)

/-- L(t,p). -/
def State.loadIndex (s : State) (t p : Nat) : Nat :=
  let lb := (s.ten t).loadB
  if (s.ten t).sealed then
    let res := s.regF (pgTEN t) 0x44 8 0
    if res = 0 then 255 else max lb (255 * mapGet (fun _ => 0) s.rgl.resUsed t / res)
  else (s.classesOn t p).foldl (fun m c => max m (max (s.clsRun c).loadQ (32 * (s.clsRun c).step))) lb

/-- R214: thresholds in ascending order. -/
def State.devThr (s : State) (p : Nat) : Nat × Nat × Nat :=
  let a := s.regF (pgHPORT p) 0x58 7 0
  let b := max a (s.regF (pgHPORT p) 0x58 15 8)
  (a, b, max b (s.regF (pgHPORT p) 0x58 23 16))

/-- R213: the DevLoad value of a load index. -/
def State.devOf (s : State) (p l : Nat) : Nat :=
  let t := s.devThr p
  if l < t.1 then 0 else if l < t.2.1 then 1 else if l < t.2.2 then 2 else 3

/-- DevLoad sent in this frame to a tenant on a port. -/
def State.devLoad (s : State) (p t : Nat) : Nat := s.devOf p (mapGet (fun _ => 0) (s.hport p).load t)

/-- Step 6: the load indices of every port. -/
def State.loadsStep (s : State) : State :=
  forEach (List.range 8) (fun p s =>
    s.updPort p fun h => { h with load := allTenants.foldl (fun m t => mapPut (fun _ => 0) t (s.loadIndex t p) m) [] }) s

/-! ### Step 6 -/

/-- The class registers as last written take effect (R373). -/
def State.classWritesApply (s : State) : State :=
  if s.rgl.next = s.rgl.cls then s
  else
    let changed := allClasses.any fun c => (s.clsNext c).guar != (s.cls c).guar
    { s with rgl := { s.rgl with cls := s.rgl.next, dirty := s.rgl.dirty || changed } }

/-- Regulation's part of step 6 (R350, R351, R355, R363, R369, R371): at a reel boundary the check comes first, on the
samples of the ended reel. -/
def State.regulate (reel : Bool) (s : State) : State :=
  let s1 := if reel then forEach allTenants State.tenantCheck (forEach allClasses State.classCheck s) else s
  let s2 := s1.classWritesApply
  let s3 := forEach allTenants (fun t s => s.updTen t Tenant.bucketStep) s2
  let s4 := forEach allClasses State.classStep s3
  let s5 := if s4.rgl.dirty then s4.divideQueue else s4
  s5.loadsStep

/-! ### Commands -/

/-- The class selected by RGL.CLS_IDX. -/
def State.clsIdx (s : State) : Nat := s.regF pgRGL 0x40 4 0

/-- A class as a write of one of its registers leaves it; none where a field holds a reserved value (R13, R898). -/
def ClassS.write (c : ClassS) (r : Nat) (w : Word32) : Option ClassS :=
  if r = 0x44 then some { c with
    lat := if field w 19 0 = 0 then c.lat else field w 19 0
    pctl := if field w 21 20 = 3 then c.pctl else field w 21 20
    tiers := field w 26 24 }
  else if r = 0x48 then some { c with guar := field w 7 0, max := if 4096 < field w 28 16 then c.max else field w 28 16 }
  else if r = 0x4C then some { c with ways := field w 15 0, cap := field w 22 16 }
  else if r = 0x50 then some { c with
    lane := if 64 < field w 6 0 then c.lane else field w 6 0
    weight := if field w 11 8 = 0 then c.weight else field w 11 8
    start := field w 19 16 }
  else none

/-- R356, judged against what is written so far (log entry 22). -/
def State.classSumsOk (s : State) (i : Nat) (c : ClassS) : Bool :=
  let at' := fun k => if k = i then c else s.clsNext k
  let g := allClasses.foldl (fun n k => n + (at' k).guar) 0
  let l := allClasses.foldl (fun n k => n + (at' k).lane) 0
  let g0 := allClasses.foldl (fun n k => n + (s.clsNext k).guar) 0
  let l0 := allClasses.foldl (fun n k => n + (s.clsNext k).lane) 0
  (g ≤ 256 || g ≤ g0) && (l ≤ 64 || l ≤ l0)

/-- RGL_CLASS_WRITE: a write of one of the four registers of the selected class. -/
def State.classWrite (r : Nat) (w : Word32) (s : State) : State :=
  let i := s.clsIdx
  if 20 ≤ i then s
  else match (s.clsNext i).write r w with
  | none => s
  | some c =>
    if s.classSumsOk i c then { s with rgl := { s.rgl with next := mapPut classReset i c s.rgl.next } }
    else s.setEvt pgRGL 2

/-- BUCKET_WRITE: a write of BKT_RATE, BKT_DEPTH or TGT of tenant `t` (R373). -/
def State.bucketWrite (t r : Nat) (w : Word32) (s : State) : State :=
  let x := s.ten t
  let cur := x.bktNext.getD (x.bktRate, x.bktOn, x.bktDepth)
  if r = 0x120 then s.updTen t fun x => { x with bktNext := some (field w 19 0, bitOf w 31, cur.2.2) }
  else if r = 0x124 then s.updTen t fun x => { x with bktNext := some (cur.1, cur.2.1, field w 19 0) }
  else if r = 0x12C then 
    let old := x.tgtNext.getD x.tgt
    let pctl := if field w 21 20 = 3 then field old 21 20 else field w 21 20
    s.updTen t fun x => { x with tgtNext := some ((w &&& 0x870FFFFF#32) ||| place pctl 2 20) }
  else s

/-! ### Reading -/

def ClassS.reg (c : ClassS) (r : Nat) : Option Word32 :=
  if r = 0x44 then some (place c.lat 20 0 ||| place c.pctl 2 20 ||| place c.tiers 3 24)
  else if r = 0x48 then some (place c.guar 8 0 ||| place c.max 13 16)
  else if r = 0x4C then some (place c.ways 16 0 ||| place c.cap 7 16)
  else if r = 0x50 then some (place c.lane 7 0 ||| place c.weight 4 8 ||| place c.start 4 16)
  else none

def State.readRgl (s : State) (r : Nat) : Option Word32 :=
  let i := s.clsIdx
  let run := s.clsRun i
  let sel := s.regF pgRGL 0x68 7 0
  let bin := s.regF pgRGL 0x68 21 16
  let h : List Nat × Nat × Nat := if sel < 20 then ((s.clsRun sel).lastHist, (s.clsRun sel).lastN, (s.clsRun sel).lastX)
    else ((s.ten (sel - 32)).lastHist, (s.ten (sel - 32)).lastN, (s.ten (sel - 32)).lastX)
  if 0x44 ≤ r ∧ r ≤ 0x50 then (s.clsNext i).reg r
  else if r = 0x54 then some (place (min (run.e / 2 ^ 32) 0xFFFFF) 20 0 ||| place run.step 3 24)
  else if r = 0x58 then some (place run.occ 13 0 ||| place run.ent 13 16)
  else if r = 0x5C then some (place ((run.fcLines + 16383) / 16384) 7 0)
  else if r = 0x64 then some (place s.rgl.common 13 0)
  else if r = 0x6C then some (place (h.1.getD bin 0) 32 0)
  else if r = 0x70 then some (place h.2.1 32 0)
  else if r = 0x74 then some (place h.2.2 32 0)
  else none

/-- Regulation block of a tenant page. -/
def State.readTenRgl (s : State) (t r : Nat) : Option Word32 :=
  let x := s.ten t
  let b := x.bktNext.getD (x.bktRate, x.bktOn, x.bktDepth)
  if r = 0x120 then some (place b.1 20 0 ||| placeB b.2.1 31)
  else if r = 0x124 then some (place b.2.2 20 0)
  else if r = 0x128 then some (place x.level 24 0)
  else if r = 0x12C then some (x.tgtNext.getD x.tgt)
  else if r = 0x130 then some (placeB x.missed 0 ||| placeB x.within 1 ||| placeB x.waited 2)
  else none

end Sys2Proof.Machine
end

