-- ==== Sys2Proof/Machine/Directory.lean ====
section
/-!
DEFINITION. The directory and the peer directory (ch. 06, R749 to R753): entries and their liveness, placement and
eviction, grants, the recalls a transaction needs, snoops and their answers, lost identities, the sweep.
-/

namespace Sys2Proof.Machine

open Sys2Proof

def noEnt : Nat → DirEnt := fun _ => {}
def noTrans : Nat → Option Trans := fun _ => none

def State.dirEnt (s : State) (line : Nat) : DirEnt := mapGet noEnt s.dir.ents line
def State.setEnt (line : Nat) (e : DirEnt) (s : State) : State := { s with dir := { s.dir with ents := mapPut noEnt line e s.dir.ents } }
def State.trans (s : State) (key : Nat) : Option Trans := mapGet noTrans s.dir.trans key
def State.setTrans (key : Nat) (t : Option Trans) (s : State) : State := { s with dir := { s.dir with trans := mapPut noTrans key t s.dir.trans } }
def State.updTrans (key : Nat) (f : Trans → Trans) (s : State) : State := s.setTrans key ((s.trans key).map f)

/-- Count a DIR counter (CNT_SEL). -/
def State.dirCount (sel n : Nat) (s : State) : State := s.bump (ofsOf pgDIR 0x78) sel n

/-! ### Slots (R310, R311) -/

/-- R310: a slot is live. -/
def State.slotLive (s : State) (x : Nat × Nat) : Bool :=
  (s.ident x.1).valid && (s.ident x.1).lost == 0 && (s.ident x.1).gen == x.2

/-- Live exact slots, in order. -/
def State.liveSlots (s : State) (e : DirEnt) : List (Nat × Nat) := if e.coarse then [] else e.slots.filter s.slotLive

/-- The M holder of an entry, if any: slot 0 of an exact M entry, while live. -/
def State.mHolder (s : State) (e : DirEnt) : Option Nat :=
  if e.valid && e.m && !e.coarse then
    match e.slots.head? with
    | some x => if s.slotLive x then some x.1 else none
    | none => none
  else none

/-- Identity `h` holds a grant recorded exactly. -/
def State.holds (s : State) (e : DirEnt) (h : Nat) : Bool := (s.liveSlots e).any fun x => x.1 == h

/-- Identities a coarse entry may mean (R312). -/
def State.coarseIds (s : State) (line groups : Nat) : List Nat :=
  (s.tables.ids.filter fun e =>
    e.2.valid && e.2.lost == 0 && groups.testBit (e.1 / 16)
    && (s.hport e.2.port).hold == .run && ((s.hport e.2.port).link0.flit == 2 || (s.hport e.2.port).link1.flit == 2)
    && (s.reach e.2.tenant (granuleOfLine line)).isSome).map (·.1)

/-- Identities a recall of every grant of an entry goes to. -/
def State.holdersOf (s : State) (line : Nat) (e : DirEnt) : List Nat :=
  if !e.valid then [] else if e.coarse then s.coarseIds line e.groups else (s.liveSlots e).map (·.1)

/-! ### Kinds of line (R204, R206, R297) -/

/-- Private or press region. -/
def Range.ownerOnly (r : Range) : Bool := r.kind == kPrivate || r.kind == kPress

/-- R297: the line lies in an HDM-DB extent: every shared or collective region, and a private or press region of which a
tagged extent covers the granule (per line, log entry 23). -/
def State.isDb (s : State) (line : Nat) : Bool :=
  match s.rgnAt (granuleOfLine line) with
  | none => false
  | some (i, r) =>
    if r.ownerOnly then s.extents.any fun e => e.rgn == i && e.tag != 0 && e.base ≤ granuleOfLine line && granuleOfLine line < e.base + e.count
    else true

/-- The identity itself holds an extent over the line. -/
def State.holdsExtent (s : State) (h line : Nat) : Bool :=
  s.extents.any fun e => e.hid == h && !e.offered && e.tag != 0 && e.base ≤ granuleOfLine line && granuleOfLine line < e.base + e.count

/-! ### Placement (R313 to R316) -/

/-- R313: the hash of a line. -/
def dirHash (line : Nat) : Nat := (line % 524288) ^^^ (line / 524288 % 524288)

/-- Blocks assigned to sealed tenants. -/
def State.takenBlocks (s : State) : List Nat := s.tenants.foldl (fun l e => l ++ e.2.dirBlocks) []

/-- The set a line's entry would be placed in; none where the owner has no blocks (R306, R314, R315). -/
def State.dirSet (s : State) (line : Nat) : Option Nat :=
  let h := dirHash line
  match s.rgnAt (granuleOfLine line) with
  | none => none
  | some (_, r) =>
    if (s.ten r.owner).sealed then
      let b := (s.ten r.owner).dirBlocks
      if b.isEmpty then none else some (256 * b.getD (h / 256 % b.length) 0 + h % 256)
    else if (h / 256) ∈ s.takenBlocks then some (h - 262144) else some h

/-- R306, R316, R340: reads of a sealed tenant's lines receive no grant. -/
def State.noGrants (s : State) (owner : Nat) : Bool :=
  (s.ten owner).sealed && ((s.ten owner).dirBlocks.isEmpty || (s.ten owner).dirDrain)

/-- Entries of a set. -/
def State.setEnts (s : State) (set : Nat) : List (Nat × DirEnt) := s.dir.ents.filter fun e => e.2.valid && e.2.set == set

/-- R318: the victim of a full set among lines with no transaction: least recently used; S before M; the lower way. -/
def State.dirVictim (s : State) (set : Nat) : Option Nat :=
  let before := fun (a b : Nat × DirEnt) =>
    if a.2.used ≠ b.2.used then decide (a.2.used < b.2.used)
    else if a.2.m ≠ b.2.m then b.2.m
    else decide (a.2.way < b.2.way)
  (((s.setEnts set).filter fun e => (s.trans e.1).isNone).foldl (fun (b : Option (Nat × DirEnt)) e =>
    match b with
    | none => some e
    | some d => if before e d then some e else some d) none).map (·.1)

/-- The lowest free way of a set. -/
def State.freeWay (s : State) (set : Nat) : Option Nat :=
  (List.range 16).find? fun w => !((s.setEnts set).any fun e => e.2.way == w)

/-! ### Recording grants (R302, R303, R311) -/

/-- Bits of the groups of some identities. -/
def groupsOf (l : List Nat) : Nat := l.foldl (fun m h => m ||| 2 ^ (h / 16)) 0

/-- Give identity `h` an S or an M grant on a line whose other grants allow it. The line has an entry or a free way. -/
def State.giveGrant (line h : Nat) (m : Bool) (s : State) : State :=
  let e := s.dirEnt line
  let live := s.liveSlots e
  let me := (h, (s.ident h).gen)
  let clock := s.dir.clock + 1
  let s0 := { s with dir := { s.dir with clock := clock } }
  if e.valid then
    if e.coarse then s0.setEnt line { e with groups := e.groups ||| 2 ^ (h / 16), used := clock }
    else
      let others := live.filter fun x => x.1 != h
      if 4 ≤ others.length then
        s0.setEnt line { e with coarse := true, m := false, slots := [], groups := groupsOf ((others.map (·.1)) ++ [h]), used := clock }
      else
        let slots := if live.any (fun x => x.1 == h) then live else live ++ [me]
        s0.setEnt line { e with m := m && others.isEmpty, slots := slots, used := clock }
  else
    match s.dirSet line with
    | none => s
    | some set =>
      match s.freeWay set with
      | none => s
      | some w =>
        let (own, resv) := match s.rgnAt (granuleOfLine line) with
          | some (_, r) => (r.owner, (s.ten r.owner).sealed)
          | none => (0, false)
        (s0.dirCount 1 1).setEnt line { valid := true, set := set, way := w, coarse := false, m := m, resv := resv, owner := own, slots := [me], used := clock }

/-- Take a grant away; an exact entry without live slot is freed (R311). -/
def State.dropGrant (line h : Nat) (s : State) : State :=
  let e := s.dirEnt line
  if !e.valid || e.coarse then s
  else
    let l := (s.liveSlots e).filter fun x => x.1 != h
    if l.isEmpty then s.setEnt line {} else s.setEnt line { e with slots := l, m := e.m && (e.slots.head?.map (·.1)) != some h }

/-- An M holder keeps S. -/
def State.downgrade (line : Nat) (s : State) : State := s.setEnt line { s.dirEnt line with m := false }

/-! ### Peers (R741, R749, R750) -/

def State.peer (s : State) (p : Nat) : Peer := mapGet (fun _ => {}) s.fab.peers p
def State.updPeer (p : Nat) (f : Peer → Peer) (s : State) : State :=
  { s with fab := { s.fab with peers := mapUpd (fun _ => {}) p f s.fab.peers } }
def noPent : Nat → PeerEnt := fun _ => {}
def State.peerEnt (s : State) (line : Nat) : PeerEnt := mapGet noPent s.fab.pdir line
def State.setPent (line : Nat) (e : PeerEnt) (s : State) : State := { s with fab := { s.fab with pdir := mapPut noPent line e s.fab.pdir } }

def State.peerLive (s : State) (x : Nat × Nat) : Bool := (s.peer x.1).valid && !(s.peer x.1).lost && (s.peer x.1).gen == x.2

def State.livePeers (s : State) (e : PeerEnt) : List (Nat × Nat) := if e.coarse then [] else e.slots.filter s.peerLive

/-- Peers a recall of every holding of a line goes to (R750 with R312). -/
def State.peersOf (s : State) (line : Nat) : List Nat :=
  let e := s.peerEnt line
  if !e.valid then []
  else if e.coarse then
    (s.fab.peers.filter fun p => p.2.valid && !p.2.lost && e.groups.testBit (p.1 / 16) && (s.reach p.2.tenant (granuleOfLine line)).isSome).map (·.1)
  else (s.livePeers e).map (·.1)

/-- The peer that holds M. -/
def State.mPeer (s : State) (line : Nat) : Option Nat :=
  let e := s.peerEnt line
  if e.valid && e.m && !e.coarse then (match e.slots.head? with | some x => if s.peerLive x then some x.1 else none | none => none) else none

/-- The least recently used peer entry with no transaction on its line. -/
def State.peerVictim (s : State) : Option Nat :=
  ((s.fab.pdir.filter fun e => (s.trans e.1).isNone).foldl (fun (b : Option (Nat × PeerEnt)) e =>
    match b with
    | none => some e
    | some d => if e.2.used < d.2.used then some e else some d) none).map (·.1)

/-- Record a peer's grant (R750). -/
def State.givePeer (line p : Nat) (m : Bool) (s : State) : State :=
  let e := s.peerEnt line
  let live := s.livePeers e
  let me := (p, (s.peer p).gen)
  let clock := s.dir.clock + 1
  let s0 := { s with dir := { s.dir with clock := clock } }
  if e.valid && e.coarse then s0.setPent line { e with groups := e.groups ||| 2 ^ (p / 16), used := clock }
  else
    let others := live.filter fun x => x.1 != p
    if 4 ≤ others.length then
      s0.setPent line { valid := true, m := false, coarse := true, slots := [], groups := groupsOf ((others.map (·.1)) ++ [p]), used := clock }
    else
      let slots := if live.any (fun x => x.1 == p) then live else live ++ [me]
      s0.setPent line { valid := true, m := m && others.isEmpty, coarse := false, slots := slots, groups := 0, used := clock }

/-- A peer no longer holds the line. -/
def State.dropPeer (line p : Nat) (s : State) : State :=
  let e := s.peerEnt line
  if !e.valid || e.coarse then s
  else
    let l := (s.livePeers e).filter fun x => x.1 != p
    if l.isEmpty then s.setPent line {} else s.setPent line { e with slots := l, m := e.m && (e.slots.head?.map (·.1)) != some p }

/-! ### What a transaction must recall (R302, R305, R319, R337) -/

/-- Snoop kinds. -/
def snInv : Nat := 0
def snData : Nat := 1
def snCur : Nat := 2

/-- Snoops to local identities: all of `l` with a kind, noting who held M. -/
def State.mkSnoops (s : State) (line kind : Nat) (l : List Nat) : List Snoop :=
  let m := s.mHolder (s.dirEnt line)
  l.map fun h => { hid := h, kind := kind, sent := none, hadM := m == some h, wb := false, needWb := false }

/-- RECALL kind of a snoop kind (R723: 0 Cur, 1 Data, 2 Inv). -/
def recallKind (k : Nat) : Nat := if k = snCur then 0 else if k = snData then 1 else 2

/-- The grant a request asks for, as it can be given: an identity without an extent, on 68-byte flits, or of a region
without grants reads with MetaValue I (R300, R306). -/
def State.canGrant (s : State) (h line : Nat) : Bool :=
  s.holdsExtent h line
  && (let p := s.hport (s.ident h).port
      p.link0.flit == 2 || p.link1.flit == 2)
  && (match s.rgnAt (granuleOfLine line) with | some (_, r) => !s.noGrants r.owner | none => false)

/-- MetaValue that a request acts as (R300, R306). -/
def State.metaOf (s : State) (r : Req) : Meta := if s.canGrant r.hid r.m.line then r.m.mval else .i

def ReqKind.isWrite : ReqKind → Bool
  | .wr | .wrPtl => true
  | _ => false

/-- Local snoops and peer recalls of a transaction about to start (R302, R305, R749). `except` is the peer that asks. -/
def State.needs (s : State) (line : Nat) (w : TransFor) : List Snoop × List (Nat × Nat) :=
  let e := s.dirEnt line
  let all := s.holdersOf line e
  let own := match s.rgnAt (granuleOfLine line) with | some (_, r) => r.ownerOnly | none => true
  let mh := (s.mHolder e).toList
  let peers := s.peersOf line
  let mp := (s.mPeer line).toList
  let inv := fun (l ps : List Nat) => (s.mkSnoops line snInv l, ps.map fun p => (p, recallKind snInv))
  let dev := fun (write : Bool) (ps mps : List Nat) =>
    if write then inv all ps else (s.mkSnoops line snCur mh, mps.map fun p => (p, recallKind snCur))
  match w with
  | .req r =>
    if !s.isDb line then ([], [])
    else
      let others := all.filter (· != r.hid)
      let mo := mh.filter (· != r.hid)
      if r.kind.isWrite then inv others peers
      else match s.metaOf r with
        | .i => (s.mkSnoops line snCur mo, mp.map fun p => (p, recallKind snCur))
        | .s => (s.mkSnoops line snData mo, mp.map fun p => (p, recallKind snData))
        | .a => if own then inv others peers else ([], [])
  | .peer j =>
    match (mapGet (fun _ => (none : Option PeerJob)) s.fab.jobs j) with
    | none => ([], [])
    | some job =>
      let ps := peers.filter (· != job.peer)
      let mps := mp.filter (· != job.peer)
      if job.write then inv all ps
      else if job.want = 0 then dev false ps mps
      else if job.want = 1 then (s.mkSnoops line snData mh, mps.map fun p => (p, recallKind snData))
      else if own then inv all ps else ([], [])
  | .device wr => if s.isDb line then dev wr peers mp else ([], [])
  | .free => inv all peers
  | .recall k _ _ _ _ =>
    if k = 2 then (s.mkSnoops line snInv all, [])
    else (s.mkSnoops line (if k = 1 then snData else snCur) mh, [])
  | .unshare t =>
    (s.mkSnoops line snInv (all.filter fun h => t.testBit (s.ident h).tenant || t.testBit (128 + (s.ident h).port)),
     (peers.filter fun p => t.testBit (s.peer p).tenant).map fun p => (p, recallKind snInv))

/-! ### Issuing and answering snoops (R320 to R324) -/

/-- A snoop's effect on the grant once answered (R323). -/
def State.snoopEffect (line : Nat) (n : Snoop) (s : State) : State :=
  if n.kind = snInv then s.dropGrant line n.hid
  else if n.kind = snData then (if s.mHolder (s.dirEnt line) = some n.hid then s.downgrade line else s)
  else s

/-- Key of the transaction of a backing node's recall: it runs beside the line's own (R760). -/
def recallKey (line : Nat) : Nat := line + 2 ^ 42
/-- Line of a transaction key. -/
def keyLine (k : Nat) : Nat := k % 2 ^ 42

/-- Remove a snoop from its transaction and apply its effect. -/
def State.answerSnoop (key hid : Nat) (s : State) : State :=
  match s.trans key with
  | none => s
  | some t =>
    match t.snoops.find? (fun n => n.hid == hid) with
    | none => s
    | some n => (s.snoopEffect (keyLine key) n).setTrans key (some { t with snoops := t.snoops.filter fun n => n.hid != hid })

/-- R324: no snoop goes to a LOST identity or one whose port is not in RUN. -/
def State.snoopable (s : State) (h : Nat) : Bool :=
  (s.ident h).valid && (s.ident h).lost == 0 && (s.hport (s.ident h).port).hold == .run

/-- Issue the queued snoops that fit the take, in order (R321). -/
def State.issueSnoops (s : State) : State :=
  s.dir.issue.foldl (fun (s : State) (x : Nat × Nat) =>
    let done := fun (s : State) => { s with dir := { s.dir with issue := s.dir.issue.filter fun y => y != x } }
    match (s.trans x.1).bind fun t => t.snoops.find? (fun n => n.hid == x.2) with
    | none => done s
    | some n =>
      if !s.snoopable x.2 then done (s.answerSnoop x.1 x.2)
      else
        let own := s.ownerCode (s.ident x.2).tenant
        if s.fits gDIR 0 1 own 1 then
          let s1 := (s.charge gDIR 0 1 own 1).updTrans x.1 fun t =>
            { t with snoops := t.snoops.map fun m => if m.hid == x.2 then { m with sent := some s.frame.num } else m }
          done ((s1.dirCount 3 1).emit (.bisnp (s.ident x.2).port x.2 (keyLine x.1) n.kind))
        else s) s

/-- Lines with recalls outstanding (R308). -/
def State.tracked (s : State) : Nat :=
  (s.dir.trans.filter fun e => match e.2 with | some t => t.phase == .recall | none => false).length

def State.notePeak (s : State) : State :=
  if s.dir.peak < s.tracked then { s with dir := { s.dir with peak := s.tracked } } else s

/-! ### Lost identities, generations and the sweep (R326 to R333) -/

/-- Lines on which an identity holds M. -/
def State.mLines (s : State) (h : Nat) : List Nat := (s.dir.ents.filter fun e => s.mHolder e.2 == some h).map (·.1)

/-- R327: the bulk clear of identity `h`, whose slots have just become dead or are about to: `m` are the lines it held
M. -/
def State.bulkClear (h : Nat) (m : List Nat) (s : State) : State :=
  let s1 := s.dir.trans.foldl (fun (s : State) e => s.answerSnoop e.1 h) s
  let s2 := m.foldl (fun (s : State) l => s.originPoison l) s1
  let s3 := if m.isEmpty then s2 else (s2.dirCount 5 m.length).setEvt pgDIR 1
  s3.updId h fun i => { i with clearing := some s.frame.num }

/-- R332: generations not yet retired. -/
def State.genFull (s : State) (h : Nat) : Bool := 15 ≤ (s.ident h).old.length

/-- Sweep passes that must have completed before a generation left now is retired. -/
def State.retireAt (s : State) : Nat := if s.dir.pos = 0 then s.dir.passes + 1 else s.dir.passes + 2

/-- Advance an identity's generation (R330). -/
def State.genAdvance (h : Nat) (s : State) : State :=
  s.updId h fun i => { i with old := i.old ++ [(i.gen, s.retireAt)], gen := (i.gen + 1) % 16, genWait := false }

/-- R330: leave LOST with a generation advance, or wait for one (R332). -/
def State.leaveLost (h : Nat) (s : State) : State :=
  if s.genFull h then (s.updId h fun i => { i with genWait := true }).setEvt pgDIR 4
  else (s.genAdvance h).updId h fun i => { i with lost := 0 }

/-- Declare an identity lost (R326): cause 1 DEADLINE, 2 HOLD. -/
def State.declareLost (h cause line : Nat) (s : State) : State :=
  let m := s.mLines h
  let s1 := s.updId h fun i => { i with lost := cause }
  let s2 := if cause = 1 then
      ((s1.dirCount 4 1).setEvt pgDIR 0).logE 0x0501 3 (some (s.ident h).tenant) pgDIR (64 * line) [h, cause]
    else s1
  s2.bulkClear h m

/-- R333: entries visited per frame. -/
def State.sweepRate (s : State) : Nat := max 256 (s.regF pgDIR 0x4C 10 0)

/-- The sweep of one frame: dead slots are cleared and entries without live slots freed; a completed pass retires
generations (R332, R333). -/
def State.sweep (s : State) : State :=
  let n := min s.sweepRate (s.availOf gDIR 0 0 ownMnt)
  let lo := s.dir.pos
  let hi := min 8388608 (lo + n)
  let s0 := s.charge gDIR 0 0 ownMnt n
  let ents := mapAll noEnt (fun line (e : DirEnt) =>
    if e.valid && !e.coarse && lo ≤ e.set * 16 + e.way && e.set * 16 + e.way < hi && (s.trans line).isNone then
      (let l := s.liveSlots e
       if l.isEmpty then {} else { e with slots := l, m := e.m && (s.mHolder e).isSome })
    else e) s.dir.ents
  let fin := hi == 8388608
  let passes := if fin then s.dir.passes + 1 else s.dir.passes
  let s1 := { s0 with dir := { s0.dir with ents := ents, pos := if fin then 0 else hi, passes := passes } }
  if fin then { s1 with tables := { s1.tables with ids := mapAll (fun _ => {}) (fun _ (i : Identity) => { i with old := i.old.filter fun g => passes < g.2 }) s1.tables.ids } }
  else s1

/-! ### Reading -/

/-- R309: the 128 bits of an entry, ECC 0. -/
def DirEnt.bits (e : DirEnt) (line : Nat) : Nat :=
  let h := dirHash line
  (if e.valid then 1 else 0) + (if e.coarse then 2 else 0) + (if e.m then 4 else 0) + (if e.resv then 8 else 0) + e.owner * 16
  + (line / 524288 % 2 ^ 23) * 2 ^ 12 + (h / 256 % 2 ^ 11) * 2 ^ 35
  + (if e.coarse then e.groups * 2 ^ 64
     else (List.range 4).foldl (fun n k => match e.slots[k]? with
       | some x => n + (x.1 + x.2 * 1024 + 32768) * 2 ^ (64 + 16 * k)
       | none => n) 0)

def State.readDir (s : State) (r : Nat) : Option Word32 :=
  let i := s.ident (s.regF pgDIR 0x54 9 0)
  let set := s.regF pgDIR 0x5C 18 0
  let way := s.regF pgDIR 0x5C 23 20
  if r = 0x40 then some 0x800000#32
  else if r = 0x44 then some (place s.dir.ents.length 24 0)
  else if r = 0x48 then some (place s.takenBlocks.length 11 0)
  else if r = 0x50 then some (place s.dir.passes 16 0)
  else if r = 0x58 then some (placeB (i.clearReq || (i.genWait && i.lost != 0)) 0 ||| placeB (i.lost != 0) 1 ||| place i.lost 2 4 ||| place i.gen 4 8)
  else if 0x60 ≤ r ∧ r ≤ 0x6C then
    some (match s.dir.ents.find? (fun e => e.2.valid && e.2.set == set && e.2.way == way) with
      | some e => word32 (e.2.bits e.1) ((r - 0x60) / 4)
      | none => 0#32)
  else if r = 0x70 then some (place s.tracked 12 0 ||| place s.dir.peak 12 16)
  else none

end Sys2Proof.Machine
end

