-- ==== Sys2Proof/Machine/FabricOps.lean ====
section
/-!
DEFINITION. Sending on the Filalnis fabric (ch. 17): routing, queues, sequence numbers, credits, replay and acknowledgement,
and the table of outstanding remote requests.
-/

namespace Sys2Proof.Machine

open Sys2Proof

def State.fport (s : State) (f : Nat) : FPort := mapGet (fun _ => {}) s.fab.ports f
def State.updFport (f : Nat) (g : FPort → FPort) (s : State) : State :=
  { s with fab := { s.fab with ports := mapUpd (fun _ => {}) f g s.fab.ports } }

/-- FPORTn.ERR_CNT counts (ERR_SEL). -/
def State.fErr (f sel n : Nat) (s : State) : State := s.bump (ofsOf (pgFPORT f) 0x50) sel n
/-- FPORT0.CNT counts (CNT_SEL). -/
def State.fabCount (sel n : Nat) (s : State) : State := s.bump (ofsOf (pgFPORT 0) 0x12C) sel n

/-! ### Bundle types and channels (R722, R723) -/

def tLINK : Nat := 0x00
def tDLYREQ : Nat := 0x01
def tDLYRSP : Nat := 0x02
def tMARKER : Nat := 0x03
def tRD : Nat := 0x10
def tWR : Nat := 0x11
def tRSP : Nat := 0x12
def tCMP : Nat := 0x13
def tRECALL : Nat := 0x14
def tRECALLRSP : Nat := 0x15
def tCUEFWD : Nat := 0x20
def tCUECPL : Nat := 0x21
def tCOLL : Nat := 0x30
def tCOLLCTL : Nat := 0x31
def tMGMT : Nat := 0x40

def vcREQ : Nat := 0
def vcRSP : Nat := 1
def vcSNP : Nat := 2
def vcCOLL : Nat := 3
def vcMGMT : Nat := 4

/-- Channel of a type (Table — Bundle types). -/
def vcOf (t : Nat) : Nat :=
  if t = tRSP ∨ t = tCMP ∨ t = tRECALLRSP ∨ t = tCUECPL then vcRSP
  else if t = tRECALL then vcSNP
  else if t = tCOLL ∨ t = tCOLLCTL then vcCOLL
  else if t = tMGMT then vcMGMT
  else vcREQ

/-- Sequenced types. -/
def sequenced (t : Nat) : Bool := 0x10 ≤ t

/-- A listed type (R723). -/
def listedType (t : Nat) : Bool :=
  t ∈ [tLINK, tDLYREQ, tDLYRSP, tMARKER, tRD, tWR, tRSP, tCMP, tRECALL, tRECALLRSP, tCUEFWD, tCUECPL, tCOLL, tCOLLCTL, tMGMT]

/-- A request, which is answered when it cannot be delivered. -/
def isRequest (t : Nat) : Bool := t == tRD || t == tWR || t == tCUEFWD

/-- L of R722. -/
def Bundle.len (b : Bundle) : Nat := b.payload.length + (if b.secure then 60 else 44)
/-- Credits of R728. -/
def Bundle.credit (b : Bundle) : Nat := (32 + b.payload.length + 255) / 256

/-- The four header words (Table — Bundle header). -/
def Bundle.words (b : Bundle) : List Nat :=
  [ b.typ + (if b.secure then 2 ^ 8 else 0) + (if b.poison then 2 ^ 9 else 0) + (if b.keyph then 2 ^ 10 else 0)
      + b.payload.length * 2 ^ 16 + b.seq * 2 ^ 32,
    b.ack + (if b.nak then 2 ^ 24 else 0) + b.crvc * 2 ^ 25 + b.credits * 2 ^ 32,
    b.dst + b.src * 2 ^ 12 + b.vc * 2 ^ 24 + b.hops * 2 ^ 27 + b.sten * 2 ^ 32 + b.tag * 2 ^ 40,
    b.dpa + b.arg * 2 ^ 48 ]

/-! ### Sending (R724, R728, R730, R732) -/

/-- Bytes in the replay buffer. -/
def FPort.replayBytes (p : FPort) : Nat := p.replay.foldl (fun n b => n + b.len) 0

/-- R730: order of the channels. -/
def vcRank (vc : Nat) : Nat := if vc = vcRSP then 0 else if vc = vcSNP then 1 else if vc = vcREQ then 2 else if vc = vcMGMT then 3 else 4

/-- A queued bundle may be sent now. -/
def State.sendable (s : State) (f : Nat) (q : Queued) : Bool :=
  let p := s.fport f
  let b := { q.b with secure := p.secure }
  p.link == 3 && p.replayBytes + b.len ≤ 1048576 && b.credit ≤ p.cred.getD b.vc 0
  && (match unitOfGroup gFPORT f with | some _ => s.finishes gFPORT f q.owner b.len | none => false)

/-- The next bundle of a port: first channel of R730, oldest first. -/
def State.nextSend (s : State) (f : Nat) : Option Queued :=
  ((s.fport f).queue.filter fun q => s.sendable f q).foldl (fun (b : Option Queued) q =>
    match b with
    | none => some q
    | some d => if vcRank q.b.vc < vcRank d.b.vc then some q else some d) none

/-- The channel whose credits are returned next and how many (R728). -/
def FPort.creditBack (p : FPort) : Nat × Nat :=
  match (List.range 5).find? fun v => 0 < p.back.getD v 0 with
  | some v => (v, min 65535 (p.back.getD v 0))
  | none => (0, 0)

/-- Transmit one queued bundle: it takes its sequence number, the current ACK and key phase, and stays in the replay
buffer until acknowledged (R724, R733). -/
def State.transmit (f : Nat) (q : Queued) (s : State) : State :=
  let p := s.fport f
  let cr := p.creditBack
  let b := { q.b with secure := p.secure, seq := p.txSeq, ack := p.rxSeq, keyph := p.keyph, crvc := cr.1, credits := cr.2 }
  let s1 := (s.charge gFPORT f 0 q.owner b.len).updFport f fun p => { p with
    txSeq := (p.txSeq + 1) % 2 ^ 24
    replay := p.replay ++ [b]
    ackAt := if p.replay.isEmpty then s.frame.num else p.ackAt
    cred := listSet b.vc (p.cred.getD b.vc 0 - b.credit) p.cred
    back := listSet cr.1 (p.back.getD cr.1 0 - cr.2) p.back
    owed := false
    keyCnt := p.keyCnt + 1
    rekey := p.rekey || p.keyCnt + 1 == 2 ^ 40
    queue := p.queue.erase q }
  ({ s1 with daily := { s1.daily with acc := { s1.daily.acc with fabB := s1.daily.acc.fabB + b.len } } }).emit (.bundle f b)

/-- Send what a port can. -/
def State.portSendN : Nat → Nat → State → State
  | 0, _, s => s
  | n + 1, f, s => match s.nextSend f with
    | none => s
    | some q => State.portSendN n f (s.transmit f q)

def State.portSend (f : Nat) (s : State) : State := s.portSendN (s.fport f).queue.length f

/-- An unsequenced bundle goes out at once on a port whose PCS is up (R727, R730, R732). -/
def State.sendRaw (f : Nat) (b : Bundle) (s : State) : State :=
  if 2 ≤ (s.fport f).link then
    let cr := (s.fport f).creditBack
    let s1 := s.updFport f fun p => { p with owed := false, back := listSet cr.1 (p.back.getD cr.1 0 - cr.2) p.back }
    (s1.chargeSplit gFPORT f 0 ownOpen b.len).emit (.bundle f { b with ack := (s.fport f).rxSeq, crvc := cr.1, credits := cr.2 })
  else s

/-! ### Routing (R738) -/

def routeDefault : Nat → Word32 := fun _ => 0#32
def State.routeOf (s : State) (node : Nat) : Word32 := mapGet routeDefault s.fab.route node

/-- Ports of an entry that are ACTIVE and in service. -/
def State.routePorts (s : State) (node : Nat) : List Nat :=
  let w := s.routeOf node
  if bitOf w 0 then
    (((List.range 4).filter fun k => k ≤ field w 2 1).map fun k => field w (6 + 4 * k) (4 + 4 * k)).filter fun f => (s.fport f).link == 3 && s.isIn .fport f
  else []

/-- H of R738. -/
def flowHash (dst src flow : Nat) : Nat := crcA (leBytes 8 dst ++ leBytes 8 src ++ leBytes 8 flow)

/-- The port chosen for a bundle. -/
def State.routePort (s : State) (dst src flow : Nat) : Option Nat :=
  let l := s.routePorts dst
  if l.isEmpty then none else l[flowHash dst src flow % l.length]?

/-- FLOW of a bundle: DPA[47:12] of the types that carry a DPA; `coll` for collective bundles. -/
def Bundle.flow (b : Bundle) (coll : Nat) : Nat :=
  if b.typ = tCOLL ∨ b.typ = tCOLLCTL then coll
  else if b.typ = tRD ∨ b.typ = tWR ∨ b.typ = tRSP ∨ b.typ = tCMP ∨ b.typ = tRECALL ∨ b.typ = tRECALLRSP then b.dpa / 4096
  else 0

/-- Queue a bundle towards its destination; the Bool says whether it was routed. A bundle for this node itself is kept
for local delivery. -/
def State.sendBundle (owner coll : Nat) (b : Bundle) (s : State) : Bool × State :=
  if b.dst = s.ownNode then (true, { s with fab := { s.fab with loop := s.fab.loop ++ [b] } })
  else match s.routePort b.dst b.src (b.flow coll) with
  | none => (false, s.setEvt (pgFPORT 0) 4)
  | some f => (true, (s.updFport f fun p => { p with queue := p.queue ++ [{ owner := owner, b := b }] }).portSend f)

/-- Queue a bundle whose loss is silent when there is no route. -/
def State.sendOrDrop (owner coll : Nat) (b : Bundle) (s : State) : State := (s.sendBundle owner coll b).2

/-! ### The remote request table (R744, R745) -/

def noReq : Nat → RemReq := fun _ => {}
def State.remReq (s : State) (i : Nat) : RemReq := mapGet noReq s.fab.reqs i
def State.setReq (i : Nat) (r : RemReq) (s : State) : State := { s with fab := { s.fab with reqs := mapPut noReq i r s.fab.reqs } }

/-- Entries in use. -/
def State.remUsed (s : State) : Nat := (s.fab.reqs.filter fun e => e.2.valid).length

/-- The request overlaps one outstanding (R745). -/
def State.remBusy (s : State) (line lines : Nat) : Bool :=
  s.fab.reqs.any fun e => e.2.valid && e.2.line < line + lines && line < e.2.line + e.2.lines

/-- The lowest free entry. -/
def State.remFree (s : State) : Option Nat := if s.remUsed < 4096 then (List.range 4096).find? fun i => !(s.remReq i).valid else none

/-- The RD or WR bundle of a request. -/
def RemReq.bundle (r : RemReq) (i src : Nat) : Bundle :=
  { typ := if r.write then tWR else tRD, poison := r.write && r.poison, dst := r.node, src := src, vc := vcREQ, sten := r.sten
    tag := i + 4096 * r.gen, dpa := 64 * r.line
    arg := if r.write then r.arg else r.arg + 4 * (r.lines - 1)
    payload := if r.write then r.data ++ leBytes 8 r.be ++ (if r.poison then leBytes 8 1 else []) else [] }

/-- Requests answered here for want of a route: index list handled by the caller. Issue a request if an entry is free
and no request for its lines is outstanding; the answer is the entry it took and whether it was routed. -/
def State.remIssue (r : RemReq) (s : State) : Option (Nat × Bool × State) :=
  if s.remBusy r.line r.lines then none
  else match s.remFree with
  | none => none
  | some i =>
    let g := ((s.remReq i).gen + 1) % 16
    let r1 := { r with valid := true, gen := g, since := s.frame.num }
    let s1 := (s.setReq i r1).fabCount (if r.write then 1 else 0) 1
    let s2 := { s1 with fab := { s1.fab with peak := max s1.fab.peak s1.remUsed } }
    let (ok, s3) := s2.sendBundle (s.ownerCode r.sten) 0 (r1.bundle i s.ownNode)
    some (i, ok, s3)

/-- Free an entry, keeping its generation. -/
def State.remDrop (i : Nat) (s : State) : State := s.setReq i { gen := (s.remReq i).gen }

/-- Lines delivered to device-side work are kept until it takes them. -/
def State.bufPut (key line : Nat) (b : List Byte) (poison : Bool) (s : State) : State :=
  { s with fab := { s.fab with buf := s.fab.buf.filter (fun e => !(e.1 == key && e.2.1 == line)) ++ [(key, line, b, poison)] } }

/-- Line number under which the acknowledgement of a device-side write of a line is kept in its buffer. -/
def ackOfs : Nat := 2 ^ 48

def State.bufGet (s : State) (key line : Nat) : Option (List Byte × Bool) :=
  (s.fab.buf.find? fun e => e.1 == key && e.2.1 == line).map fun e => e.2.2

def State.bufDrop (key : Nat) (s : State) : State := { s with fab := { s.fab with buf := s.fab.buf.filter fun e => e.1 != key } }

end Sys2Proof.Machine
end

