-- ==== Sys2Proof/Machine/HostMem.lean ====
section
/-!
DEFINITION. Requests for memory: a CXL.mem request from its receipt over identity match, access check and admission to its
response, a request served for a peer, and the directory's transactions that order them line by line (ch. 03, 04, 06, 07,
R746 to R751).
-/

namespace Sys2Proof.Machine

open Sys2Proof

/-! ### Responses of a host port (R209, R213, R215, R216, R824) -/

/-- Send a response that fits the credits held, else keep it in the response queue. -/
def State.sendResp (p : Nat) (o : Output) (s : State) : State :=
  let h := s.hport p
  match o with
  | .ndr .. => if h.respQ.isEmpty ∧ 0 < h.s2mNdr then (s.updPort p fun h => { h with s2mNdr := h.s2mNdr - 1, idle := 0 }).emit o
      else s.updPort p fun h => { h with respQ := h.respQ ++ [o] }
  | .drs .. => if h.respQ.isEmpty ∧ 0 < h.s2mDrs then (s.updPort p fun h => { h with s2mDrs := h.s2mDrs - 1, idle := 0 }).emit o
      else s.updPort p fun h => { h with respQ := h.respQ ++ [o] }
  | _ => s.emit o

/-- Responses that leave once credits have returned, in order. -/
def State.drainResp : Nat → Nat → State → State
  | 0, _, s => s
  | n + 1, p, s =>
    match (s.hport p).respQ with
    | [] => s
    | o :: rest =>
      let h := s.hport p
      match o with
      | .ndr .. => if 0 < h.s2mNdr then State.drainResp n p ((s.updPort p fun h => { h with s2mNdr := h.s2mNdr - 1, respQ := rest }).emit o) else s
      | .drs .. => if 0 < h.s2mDrs then State.drainResp n p ((s.updPort p fun h => { h with s2mDrs := h.s2mDrs - 1, respQ := rest }).emit o) else s
      | _ => State.drainResp n p ((s.updPort p fun h => { h with respQ := rest }).emit o)

/-- Zeros: the data of a line that is delivered as poison. -/
def zeroLine : List Byte := List.replicate 64 0#8

/-- The response to a read, or to a MemInv, which returns no data (R302). -/
def State.readResp (r : Req) (data : List Byte) (poison : Bool) (dev : Nat) (s : State) : State :=
  let s1 := if poison then s.bump (ofsOf (pgHPORT r.m.port) 0x6C) 5 1 else s
  if r.kind = .inv then s1.sendResp r.m.port (.ndr r.m.port r.m.tag 0 r.grant dev)
  else s1.sendResp r.m.port (.drs r.m.port r.m.tag (if poison then zeroLine else data) poison r.grant dev)

/-- The completion of a write. -/
def State.writeResp (r : Req) (dev : Nat) (s : State) : State := s.sendResp r.m.port (.ndr r.m.port r.m.tag 0 r.grant dev)

/-- R141, R151, R329, R242: a refused request: poison (raising cause 11 of a matched identity, R863) or a normal completion,
DevLoad 00b. -/
def State.refuse (r : Req) (s : State) : State :=
  if r.kind.isWrite then s.writeResp { r with grant := 0 } 0
  else
    let s1 := match s.matchId r.m.port r.m.link r.m.src with | some h => s.idCause h 11 | none => s
    s1.readResp { r with grant := 0 } zeroLine true 0

/-- The transaction on a line has been served. -/
def State.transDone (key : Nat) (s : State) : State := s.updTrans key fun t => { t with phase := .done }

/-- A host request ends: its entry is freed, its latency is sampled, its transaction is over. -/
def State.endReq (r : Req) (s : State) : State :=
  let s1 := s.freeEntry r.tenant r.cls r.place
  let s2 := if r.place = 1 ∨ r.place = 2 ∨ r.place = 3 then
      (if r.kind = .rd ∨ r.kind = .rdData then s1.sampleEnd r.tenant r.cls r.since r.tier true else s1)
    else s1
  if r.place = 4 then s2 else s2.transDone r.m.line

/-! ### Serving a peer (R746, R749) -/

def noJob : Nat → Option PeerJob := fun _ => none
def State.job (s : State) (j : Nat) : Option PeerJob := mapGet noJob s.fab.jobs j
def State.setJob (j : Nat) (x : Option PeerJob) (s : State) : State := { s with fab := { s.fab with jobs := mapPut noJob j x s.fab.jobs } }

/-- Status codes of R723. -/
def stOK : Nat := 0
def stACCESS : Nat := 1
def stNOPEER : Nat := 2
def stNOROUTE : Nat := 3
def stHOPLIMIT : Nat := 4
def stUNSUPPORTED : Nat := 5

/-- Answer a request of another node with a status alone. -/
def State.answerStatus (typ dst sten tag dpa status : Nat) (s : State) : State :=
  s.sendOrDrop ownOpen 0 { typ := typ, dst := dst, src := s.ownNode, vc := vcRSP, sten := sten, tag := tag, dpa := dpa, arg := status }

/-- Poison mask of lines in order. -/
def maskOf (l : List Bool) : Nat := (l.zipIdx).foldl (fun m x => if x.1 then m + 2 ^ x.2 else m) 0

/-- All lines of a job read: send the RSP. -/
def State.jobRsp (j : Nat) (x : PeerJob) (s : State) : State :=
  let got := (List.range x.lines).map fun i => (x.got.find? fun g => g.1 == x.line + i).elim (zeroLine, true) (·.2)
  let mask := maskOf (got.map (·.2))
  let b : Bundle := { typ := tRSP, poison := mask != 0, dst := x.node, src := s.ownNode, vc := vcRSP, sten := x.sten, tag := x.tag
                      dpa := 64 * x.line, arg := x.grant * 16
                      payload := (got.map (·.1)).flatten ++ (if mask = 0 then [] else leBytes 8 mask) }
  let s1 := (s.freeEntry x.tenant (8 + x.port) x.place).sampleEnd x.tenant (8 + x.port) x.since 0 false
  (s1.sendOrDrop (s.ownerCode x.tenant) 0 b).setJob j none

/-- A job's write has been applied: send the CMP (R746). -/
def State.jobCmp (j : Nat) (x : PeerJob) (s : State) : State :=
  let b : Bundle := { typ := tCMP, dst := x.node, src := s.ownNode, vc := vcRSP, sten := x.sten, tag := x.tag, dpa := 64 * x.line, arg := x.grant * 16 }
  ((s.freeEntry x.tenant (8 + x.port) x.place).sendOrDrop (s.ownerCode x.tenant) 0 b).setJob j none

/-- A line has been read for somebody. -/
def State.deliver (who : Who) (line : Nat) (data : List Byte) (poison : Bool) (s : State) : State :=
  match who with
  | .host r => ((if poison then s.idCause r.hid 11 else s).readResp r data poison (s.devLoad r.m.port r.tenant)).endReq r
  | .peer j l =>
    let s1 := s.transDone l
    match s1.job j with
    | none => s1
    | some x =>
      let x1 := { x with got := x.got ++ [(line, if poison then zeroLine else data, poison)] }
      if x1.got.length = x1.lines then s1.jobRsp j x1 else s1.setJob j (some x1)
  | .dev k l _ _ => s.bufPut k l (if poison then zeroLine else data) poison
  | .internal => s

/-- A line write has been applied (R304). -/
def State.applied (who : Who) (s : State) : State :=
  match who with
  | .host r => (s.writeResp r (s.devLoad r.m.port r.tenant)).endReq r
  | .peer j l =>
    let s1 := s.transDone l
    match s1.job j with
    | none => s1
    | some x => s1.jobCmp j x
  | .dev k l _ _ => s.bufPut k (l + ackOfs) [] false
  | .internal => s

/-- Deliver the reads attached to a page from its decoded bytes and mask (R98 to R100). -/
def State.deliverReads (p : Nat) (bytes : List Byte) (mask : Nat) (s : State) : State :=
  let l := (s.page p).reads
  let s1 := s.updPage p fun r => { r with reads := [] }
  l.foldl (fun s x =>
    let k := x.line % 64
    s.deliver x.who x.line ((bytes.drop (64 * k)).take 64) (mask.testBit k || s.isPoison x.line)) s1

/-! ### Sheets (R134) -/

/-- A sheet descriptor is lost: its pages restart as ZERO pages whose lines read as poison. -/
def State.loseSheet (sh : Nat) (s : State) : State :=
  let ps := (List.range 16).map (16 * sh + ·)
  let units := ps.foldl (fun l p => l ++ (s.page p).frameCh.toList ++ (s.page p).slipCh.toList) []
  let s1 := ps.foldl (fun s p =>
    let r := s.page p
    let s1 := ((s.dropLane p).staleRecord p).deliverReads p [] (2 ^ 64 - 1)
    let s2 := (s1.fcDropPage p).clearFrame p
    (s2.setPagePoison p (2 ^ 64 - 1)).updPage p fun _ => { held := r.held, want := !r.held.isEmpty, release := r.release }) s
  let s2 := { s1 with tier := { s1.tier with lost := s1.tier.lost ++ [(sh, units)] } }
  (s2.setEvt pgTIER 8).logE 0x0204 3 none pgTIER (sh * 65536) []

/-! ### Reads and writes of one line (R97 to R101, R134, R186) -/

/-- Whether accesses to a region are stopped by its owner's failed key slot (R186). -/
def State.keyBad (s : State) (line : Nat) : Bool :=
  match s.rgnAt (granuleOfLine line) with
  | some (_, r) => (s.ten r.owner).keyFault
  | none => false

/-- Start or join the decode of a FOLDED or SHELVED page for a read; promotion follows if room grants an open frame
without an eviction (R98, R99). -/
def State.startDecode (p t cls : Nat) (s : State) : State :=
  let r := s.page p
  if !r.reads.isEmpty || r.lift then s
  else
    let own := (s.pageOwner p).getD t
    let lift := s.roomFor own false 4096 == .grant
    let s1 := s.updPage p fun r => { r with lift := lift, done := none }
    if r.st = .folded then
      s1.submitLane { id := 0, kind := if lift then .unfold else .transient, page := p, owner := t, cls := cls }
    else s1.submitShelfRead p t cls (!lift)

/-- Read a line for somebody of tenant `t` and class `cls`. -/
def State.readFor (line t cls : Nat) (env : ReadEnv) (sheetBad : Bool) (who : Who) (s : State) : State :=
  let p := pageOfLine line
  if s.keyBad line then s.deliver who line zeroLine true
  else if sheetBad then (s.loseSheet (sheetOf p)).deliver who line zeroLine true
  else
    let s0 := s.touch p
    let r := s0.page p
    match r.st with
    | .zero => s0.deliver who line zeroLine (s0.isPoison line)
    | .opened | .folding =>
      let (bad, s1) := s0.fcRead line t cls env
      s1.deliver who line (s1.readLine line) bad
    | .folded | .shelved =>
      (s0.startDecode p t cls).updPage p fun r => { r with reads := r.reads ++ [{ line := line, who := who }] }
    | .shelving =>
      if r.spill then
        let (bad, s1) := s0.fcRead line t cls env
        s1.deliver who line (s1.readLine line) bad
      else
        ((if r.reads.isEmpty then s0.submitLane { id := 0, kind := .transient, page := p, owner := t, cls := cls } else s0)).updPage p
          fun r => { r with reads := r.reads ++ [{ line := line, who := who }] }
    | .unfolding | .fetching =>
      match r.done with
      | some (.decoded b m) =>
        let k := line % 64
        s0.deliver who line ((b.drop (64 * k)).take 64) (m.testBit k || s0.isPoison line)
      | _ => s0.updPage p fun r => { r with reads := r.reads ++ [{ line := line, who := who }] }

/-- Write a line for somebody: applied on an OPEN page, else held until it is OPEN (R101). -/
def State.writeFor (line t cls : Nat) (data : List Byte) (be : Nat) (poison : Bool) (env : ReadEnv) (sheetBad : Bool) (who : Who) (s : State) : State :=
  let p := pageOfLine line
  if s.keyBad line then s.applied who
  else
    let s0 := (if sheetBad then s.loseSheet (sheetOf p) else s).touch p
    let r := s0.page p
    if r.st = .opened ∧ r.held.isEmpty then (s0.fcWrite line t cls data be poison env).applied who
    else s0.updPage p fun r => { r with want := true, held := r.held ++ [{ line := line, data := data, be := be, poison := poison, env := env, who := who }] }

/-- Tenant and class of a held write. -/
def State.whoTenant (s : State) (w : LineWrite) : Nat × Nat :=
  match w.who with
  | .host r => (r.tenant, r.cls)
  | .peer j _ => ((s.job j).elim 0 (·.tenant), (s.job j).elim 8 fun x => 8 + x.port)
  | .dev _ _ t c => (t, c)
  | .internal => ((s.pageOwner (pageOfLine w.line)).getD 0, clsCUE)

/-- HELD_WRITE_APPLY: apply a page's held writes in the order they arrived once it is OPEN (R101). -/
def State.applyHeld (p : Nat) (s : State) : State :=
  let r := s.page p
  if r.st ≠ .opened then s
  else
    let s0 := s.updPage p fun r => { r with held := [], want := false, age := 0 }
    let s1 := { s0 with dir := { s0.dir with trans := mapAll noTrans (fun _ (x : Option Trans) => x.map fun t => { t with blocked := false }) s0.dir.trans } }
    r.held.foldl (fun s w =>
      let tc := s.whoTenant w
      (s.fcWrite w.line tc.1 tc.2 w.data w.be w.poison w.env).applied w.who) s1

/-! ### Transactions on a line (R307, R308) -/

/-- A new transaction, or one more that waits behind the one in progress. -/
def State.transStart (key : Nat) (w : TransFor) (s : State) : State :=
  match s.trans key with
  | none => s.setTrans key (some { what := w })
  | some t => s.setTrans key (some { t with wait := t.wait ++ [w] })

/-- Grant a request ends with: 0 none, 1 S, 2 M (Table — Grants for host requests). -/
def State.grantOf (s : State) (r : Req) : Nat :=
  let own := match s.rgnAt (granuleOfLine r.m.line) with | some (_, g) => g.ownerOnly | none => true
  if !s.isDb r.m.line then 0
  else match s.metaOf r with
    | .i => 0
    | .s => 1
    | .a => if own && (!r.kind.isWrite || s.mHolder (s.dirEnt r.m.line) == some r.hid) then 2 else 1

/-- A new directory entry is needed and its set has no free way. -/
def State.noRoom (s : State) (line g : Nat) : Bool :=
  g != 0 && !(s.dirEnt line).valid && (match s.dirSet line with | none => false | some set => (s.freeWay set).isNone)

/-- Evict for room in a set (R318, R319); without a victim the allocation waits. -/
def State.evictFor (line : Nat) (s : State) : State :=
  match (s.dirSet line).bind s.dirVictim with
  | none => s
  | some v => (s.dirCount 2 1).transStart v .free

/-- Set the grant of an identity as a served request leaves it. -/
def State.setGrant (line h g : Nat) (isWrite : Bool) (s : State) : State :=
  if g = 0 then (if isWrite then s.dropGrant line h else s) else s.giveGrant line h (g == 2)

/-- A coarse entry whose groups have all been recalled is freed (R311). -/
def State.freeCoarse (line : Nat) (s : State) : State :=
  let s1 := if (s.dirEnt line).coarse then s.setEnt line {} else s
  if (s1.peerEnt line).coarse then s1.setPent line {} else s1

/-- A remote request that could not be routed is answered NO_ROUTE at once (R738, R747). -/
def State.remFailed (i : Nat) (s : State) : State :=
  let q := s.remReq i
  let s1 := s.remDrop i
  match q.who with
  | .host r => if q.write then s1.applied (.host { r with grant := 0 }) else s1.deliver (.host { r with grant := 0 }) q.line zeroLine true
  | .dev k => if q.write then s1.bufPut k (q.line + ackOfs) [] false
    else (List.range q.lines).foldl (fun s n => s.bufPut k (q.line + n) zeroLine true) s1

/-- Issue the remote requests that waited, oldest first (R745). -/
def State.remPump (s : State) : State :=
  let l := s.fab.stalled
  l.foldl (fun s r =>
    match s.remIssue r with
    | none => { s with fab := { s.fab with stalled := s.fab.stalled ++ [r] } }
    | some (i, ok, s1) => if ok then s1 else s1.remFailed i) { s with fab := { s.fab with stalled := [] } }

/-- Start one remote request behind those that wait. -/
def State.remStart (r : RemReq) (s : State) : State :=
  ({ s with fab := { s.fab with stalled := s.fab.stalled ++ [r] } }).remPump

/-- Serve a transaction whose recalls are done. -/
def State.serve (key : Nat) (w : TransFor) (s : State) : State :=
  let line := keyLine key
  match w with
  | .req r =>
    match s.rgnAt (granuleOfLine line) with
    | none => (((s.setEvt pgTEN128 3).bump (ofsOf pgTEN128 0x7C) 0 1).refuse r).endReq r
    | some (_, g) =>
      let gr := s.grantOf r
      let tier := match (s.page (pageOfLine line)).st with
        | .zero | .opened | .folding => 0
        | .folded | .unfolding => 1
        | _ => 2
      let r1 := { r with grant := gr, tier := tier }
      if g.remote then
        s.remStart { write := r.kind.isWrite, node := g.node, line := line, lines := 1, arg := gr, sten := r.tenant, data := r.m.data
                     be := if r.kind = .wr then fullBe else r.m.be, poison := r.m.poison, who := .host { r1 with grant := 0 } }
      else
        let s1 := s.setGrant line r.hid gr r.kind.isWrite
        if r.kind.isWrite then
          s1.writeFor line r.tenant r.cls r.m.data (if r.kind = .wr then fullBe else r.m.be) r.m.poison r.m.env r.m.sheetBad (.host r1)
        else s1.readFor line r.tenant r.cls r.m.env r.m.sheetBad (.host r1)
  | .peer j =>
    match s.job j with
    | none => s.transDone key
    | some x =>
      let own := match s.rgnAt (granuleOfLine line) with | some (_, g) => g.ownerOnly && g.owner == x.tenant && g.kind == kPrivate | none => false
      let gr := if !s.isDb line then 0 else if x.want = 2 then (if own && (!x.write || s.mPeer line == some x.peer) then 2 else 1) else x.want
      let s1 := if gr = 0 then (if x.write then s.dropPeer line x.peer else s) else s.givePeer line x.peer (gr == 2)
      let s2 := s1.setJob j (some { x with grant := gr })
      if x.write then s2.writeFor line x.tenant (8 + x.port) x.data x.be x.poison x.env false (.peer j line)
      else s2.readFor line x.tenant (8 + x.port) x.env false (.peer j line)
  | .recall k _ node tag sten =>
    let wb := (s.trans key).bind (·.wbData)
    let kept := if k = 2 then 0 else if k = 1 then 1 else if (s.mHolder (s.dirEnt line)).isSome then 2 else if (s.dirEnt line).valid then 1 else 0
    let b : Bundle := { typ := tRECALLRSP, dst := node, src := s.ownNode, vc := vcRSP, sten := sten, tag := tag, dpa := 64 * line
                        arg := kept + (if wb.isSome then 4 else 0), payload := wb.getD [] }
    (s.sendOrDrop ownOpen 0 b).transDone key
  | .device _ => s.transDone key
  | .free => ((s.setEnt line {}).setPent line {}).transDone key
  | .unshare _ => s.transDone key

/-- Whether a transaction recalled every holding of its line. -/
def State.recallsAll (s : State) (line : Nat) : TransFor → Bool
  | .req r => r.kind.isWrite || (s.metaOf r == .a && (match s.rgnAt (granuleOfLine line) with | some (_, g) => g.ownerOnly | none => false))
  | .peer j => match s.job j with | some x => x.write || x.want == 2 | none => false
  | .device w => w
  | .free => true
  | .recall k _ _ _ _ => k == 2
  | .unshare _ => false

/-- R342: the directory entry of a line is uncorrectable: every identity that passes the check may hold the line. -/
def State.dirEcc (line : Nat) (s : State) : State :=
  let e := s.dirEnt line
  if !e.valid then s
  else
    let own := match s.rgnAt (granuleOfLine line) with | some (_, g) => g.ownerOnly | none => true
    let s1 := s.setEnt line { e with coarse := true, m := false, slots := [], groups := 2 ^ 64 - 1 }
    let s2 := if own then s1.originPoison line else s1
    (s2.setEvt pgDIR 5).logE 0x0502 3 (some e.owner) pgDIR (64 * line) (x2 e.set ++ [e.way])

/-- Advance one transaction by one phase. -/
def State.transAdvance (key : Nat) (t : Trans) (s : State) : State :=
  let line := keyLine key
  match t.phase with
  | .start =>
    let s0 := match t.what with
      | .req r => if r.m.dirBad then s.dirEcc line else s
      | _ => s
    let n := s0.needs line t.what
    if n.1.isEmpty && n.2.isEmpty then s0.updTrans key fun t => { t with phase := .ready }
    else if 2048 ≤ s0.tracked then (s0.updTrans key fun t => { t with blocked := true }).setEvt pgDIR 3
    else
      let s1 := s0.updTrans key fun t => { t with phase := .recall, snoops := n.1, peers := n.2.map fun x => { peer := x.1, kind := x.2, sent := s.frame.num } }
      let s2 := { s1 with dir := { s1.dir with issue := s1.dir.issue ++ n.1.map (fun (x : Snoop) => (key, x.hid)) } }
      let s3 := n.2.foldl (fun s x =>
        let p := s.peer x.1
        (s.fabCount 3 1).sendOrDrop ownOpen 0 { typ := tRECALL, dst := p.node, src := s.ownNode, vc := vcSNP, sten := p.sten, tag := x.1, dpa := 64 * line, arg := x.2 }) s2
      s3.notePeak
  | .recall => s.updTrans key fun t => { t with phase := .ready }
  | .ready =>
    let s0 := if s.recallsAll line t.what then s.freeCoarse line else s
    let g := match t.what with | .req r => s0.grantOf r | _ => 0
    let remote := match s0.rgnAt (granuleOfLine line) with | some (_, g) => g.remote | none => false
    let held := (s0.page (pageOfLine line)).held.any fun w => w.line == line
    if !remote && held && (match t.what with | .req _ | .peer _ => true | _ => false) then
      -- a write-back of the line still waits for its page (R101, R304)
      s.updTrans key fun t => { t with blocked := true }
    else if !remote && s0.noRoom line g then (s0.evictFor line).updTrans key fun t => { t with blocked := true }
    else (s0.updTrans key fun t => { t with phase := .serving }).serve key t.what
  | .serving => s
  | .done =>
    let wake := match t.what with | .free => true | _ => !t.blocked
    let s1 := if wake then { s with dir := { s.dir with trans := mapAll noTrans (fun _ (x : Option Trans) => x.map fun t => { t with blocked := false }) s.dir.trans } } else s
    match t.wait with
    | [] => s1.setTrans key none
    | w :: rest => s1.setTrans key (some { what := w, wait := rest })

/-- A transaction that can advance. -/
def Trans.movable (t : Trans) : Bool :=
  match t.phase with
  | .start | .ready => !t.blocked
  | .recall => t.snoops.isEmpty && t.peers.isEmpty
  | .serving => false
  | .done => true

/-- Advance transactions, the lowest line first, until none can. -/
def State.dirRun : Nat → State → State
  | 0, s => s
  | n + 1, s =>
    match s.dir.trans.find? (fun e => match e.2 with | some t => t.movable | none => false) with
    | some (k, some t) => State.dirRun n (s.transAdvance k t)
    | _ => s

/-- Steps that suffice for every transaction waiting. -/
def State.dirFuel (s : State) : Nat :=
  s.dir.trans.foldl (fun n e => n + match e.2 with | some t => 8 * (2 + t.wait.length) | none => 0) 32

/-- Run the directory: transactions and the snoops they queue. -/
def State.dirTick (s : State) : State :=
  let go := fun (s : State) => (s.dirRun s.dirFuel).issueSnoops
  let s1 := go (go s)
  s1.dirRun s1.dirFuel

/-! ### Device-side accesses (R305) -/

/-- A device-side access to some lines may proceed: no transaction is in progress on any and no recall is needed; else
the recalls it needs are started and the answer is no. -/
def State.deviceReady (lines : List Nat) (write : Bool) (s : State) : Bool × State :=
  lines.foldl (fun (a : Bool × State) l =>
    let s := a.2
    match s.trans l with
    | some _ => (false, s)
    | none =>
      let n := s.needs l (.device write)
      if n.1.isEmpty && n.2.isEmpty then (a.1, s) else (false, s.transStart l (.device write))) (true, s)

/-! ### Admission (R210, R357, R358, R363 to R365, R818) -/

/-- What became of a waiting request. -/
inductive Admit where
  | ok (place : Nat)
  /-- Waits on its bucket: in the bypass buffer. -/
  | bucket
  /-- No entry: the ingress waits behind it. -/
  | entry
  /-- Its share of the port's take is spent. -/
  | take
  deriving DecidableEq, Repr

def State.admitOf (s : State) (r : Req) : Admit :=
  if !(s.ten r.tenant).covers 1 then .bucket
  else
    let pl := s.placeFor r.tenant r.cls
    if pl = 0 then .entry
    else if !s.finishes r.m.port 0 (s.ownerCode r.tenant) 1 then .take
    else .ok pl

/-- Admit one request: charge its bucket, its port and the directory, and start its transaction. -/
def State.admitReq (r : Req) (place : Nat) (s : State) : State :=
  let o := s.ownerCode r.tenant
  let s1 := ((s.updTen r.tenant fun x => x.pay 1).takeEntry r.tenant r.cls place).charge r.m.port 0 0 o 1
  let s2 := ((s1.chargeSplit gDIR 0 0 o 1).dirCount 0 1).updPort r.m.port fun h => { h with reelUse := h.reelUse + 1, idle := 0 }
  let s3 := if r.kind = .rd ∨ r.kind = .rdData then s2.sampleBegin r.tenant r.cls r.since else s2
  ({ s3 with frame := { s3.frame with hostSeen := true } }).transStart r.m.line (.req { r with place := place })

/-- Admit what a port's waiting requests allow: requests that wait on a bucket are passed, up to 256 of them; one that
waits for an entry stops those behind it (R210, R365). -/
def State.admitPort (p : Nat) (s : State) : State :=
  let init : State × List Req × Nat × Bool := (s.updPort p fun h => { h with waiting := [] }, [], 0, false)
  let res := (s.hport p).waiting.foldl (fun (a : State × List Req × Nat × Bool) r =>
    let (s, kept, byp, stop) := a
    if stop then (s, kept ++ [r], byp, true)
    else match s.admitOf r with
      | .ok pl =>
        let s0 := if (s.ten r.tenant).sealed || pl == 1 then s else s.updTen r.tenant fun x => { x with fullNow := true }
        (s0.admitReq r pl, kept, byp, false)
      | .bucket =>
        let s0 := s.updTen r.tenant fun x => { x with waitedNow := true }
        if 255 ≤ byp then (s0.setEvt pgRGL 3, kept ++ [r], byp + 1, true) else (s0, kept ++ [r], byp + 1, false)
      | .entry => (s.updTen r.tenant fun x => { x with fullNow := true }, kept ++ [r], byp, true)
      | .take => (s, kept ++ [r], byp, false)) init
  res.1.updPort p fun h => { h with waiting := res.2.1 }

/-- Admit jobs served for peers (R741): class of the arrival port, no bucket. -/
def State.admitJobs (s : State) : State :=
  s.fab.waiting.foldl (fun s j =>
    match s.job j with
    | none => { s with fab := { s.fab with waiting := s.fab.waiting.erase j } }
    | some x =>
      let pl := s.placeFor x.tenant (8 + x.port)
      if pl = 0 then s
      else
        let s1 := ((s.takeEntry x.tenant (8 + x.port) pl).sampleBegin x.tenant (8 + x.port) x.since).setJob j (some { x with place := pl })
        let s2 := { s1 with fab := { s1.fab with waiting := s1.fab.waiting.erase j } }
        (List.range x.lines).foldl (fun s i => ((s.chargeSplit gDIR 0 0 (s.ownerCode x.tenant) 1).dirCount 0 1).transStart (x.line + i) (.peer j)) s2) s

/-- HUB_REQUEST_ADMIT on a port, and the directory's work that follows. -/
def State.hubAdmit (p : Nat) (s : State) : State := ((s.admitPort p).admitJobs).dirTick

/-! ### Receipt of a host request (R137, R149 to R152, R242, R329) -/

/-- Link of a port that a request names. -/
def HPort.linkOf (h : HPort) (l : Nat) : HLink := if l = 0 then h.link0 else h.link1

/-- The port accepts CXL.mem flits on that link. -/
def State.accepts (s : State) (p l : Nat) : Bool :=
  (s.hport p).hold == .run && ((s.hport p).linkOf l).up && ((s.hport p).linkOf l).proto == 2 && (s.isIn .hport p || (s.unit .hport p).st == .drain)

/-- A CXL.mem request is received, identified, checked and admitted or kept waiting. -/
def State.hostReceive (kind : ReqKind) (m : MemReq) (s : State) : State :=
  if !s.accepts m.port m.link then s
  else
    let r0 : Req := { m := m, kind := kind, hid := 0, tenant := 0, cls := 0, since := s.frame.num }
    let s0 := if kind.isWrite && m.poison then s.bump (ofsOf (pgHPORT m.port) 0x6C) 6 1 else s
    let acc := s0.daily.acc
    let s1 := { s0 with daily := { s0.daily with acc := if kind.isWrite then { acc with hostWr := satAdd 32 acc.hostWr 1 } else { acc with hostRd := satAdd 32 acc.hostRd 1 } } }
    if !s1.sys.memActive then s1.refuse r0
    else match s1.matchId m.port m.link m.src with
    | none => ((s1.setEvt pgTEN128 2).bump (ofsOf pgTEN128 0x78) 0 1).refuse r0
    | some h =>
      let i := s1.ident h
      let r := { r0 with hid := h, tenant := i.tenant, cls := i.cls }
      if i.lost ≠ 0 then (s1.dirCount 7 1).refuse r
      else
        let ok := match s1.reach i.tenant (granuleOfLine m.line) with
          | none => false
          | some (_, g) => ((s1.hport m.port).linkOf m.link).flit != 1 || g.kind == kPrivate
        if !ok then ((s1.setEvt pgTEN128 3).bump (ofsOf pgTEN128 0x7C) 0 1).refuse r
        else (s1.updPort m.port fun h => { h with waiting := h.waiting ++ [r] }).hubAdmit m.port

end Sys2Proof.Machine
end

