-- ==== Sys2Proof/Machine/Tables.lean ====
section
/-!
DEFINITION. Commands on the identity, range and key tables as they arrive and as they take effect at step 2, storage
faults of the tables, seals and unseals, and the voiding of guarantees (ch. 03).
-/

namespace Sys2Proof.Machine

open Sys2Proof

/-! ### Writing a command (R139 to R147, R905) -/

def State.queueCmd (c : TableCmd) (s : State) : State := { s with tables := { s.tables with cmds := s.tables.cmds ++ [c] } }

def State.hidIdx (s : State) : Nat := s.regF pgTEN128 0x40 9 0
def State.rgnIdx (s : State) : Nat := s.regF pgTEN128 0x50 11 0
def State.stagedRange (s : State) : List Word32 := (List.range 8).map fun k => s.reg (ofsOf pgTEN128 (0x54 + 4 * k))

/-- HID_READ: fill the staged words with the selected entry. -/
def State.hidRead (s : State) : State :=
  if s.tables.hidBusy then s
  else
    let i := s.ident s.hidIdx
    let s1 := (s.setReg (ofsOf pgTEN128 0x44) i.lo).setReg (ofsOf pgTEN128 0x48) i.hi
    { s1 with tables := { s1.tables with hidStat := 0 } }

/-- HID_WRITE and HID_INVALIDATE wait for step 2 (R140). -/
def State.hidCommand (inval : Bool) (s : State) : State :=
  if s.tables.hidBusy || !s.sys.cfgReady then s
  else
    let c := if inval then TableCmd.hidInval s.hidIdx else .hidWrite s.hidIdx (s.reg (ofsOf pgTEN128 0x44)) (s.reg (ofsOf pgTEN128 0x48))
    ({ s with tables := { s.tables with hidBusy := true } }).queueCmd c

/-- RGN_READ: a failed entry reads with STAT FAULT (R147). -/
def State.rgnRead (s : State) : State :=
  if s.tables.rgnBusy then s
  else
    let r := s.rgn s.rgnIdx
    let s1 := forEach (List.range 8) (fun k s => s.setReg (ofsOf pgTEN128 (0x54 + 4 * k)) (r.word k)) s
    { s1 with tables := { s1.tables with rgnStat := if r.fault then rgnFault else 0 } }

/-- RGN_BIND, RGN_UNBIND and SET_SHARERS wait for step 2. -/
def State.rgnCommand (op : Nat) (s : State) : State :=
  if s.tables.rgnBusy then s
  else
    let w := s.stagedRange
    let c := if op = 2 then TableCmd.rgnBind s.rgnIdx w else if op = 3 then .rgnUnbind s.rgnIdx else .rgnShare s.rgnIdx (Range.ofWords w).sharers
    ({ s with tables := { s.tables with rgnBusy := true } }).queueCmd c

/-- ROTATE for the selected tenant (R159, R187). -/
def State.rotateWrite (s : State) : State :=
  let t := s.regF pgKEY 0x40 6 0
  if s.tables.rngBad then s.setEvt pgKEY 1
  else (s.updTen t fun x => { x with keyBusy := true }).queueCmd (.rotate t)

/-! ### Effects at step 2 -/

/-- Release the state of an identity that has just become invalid (R140, R184, R285, R327). -/
def State.endIdentity (h : Nat) (s : State) : State :=
  let m := s.mLines h
  let s1 := s.updId h fun i => { i with valid := false, releasing := true, former := true }
  ({ s1 with tables := { s1.tables with ended := s1.tables.ended ++ [h] } }).bulkClear h m

/-- A WRITE of an identity entry takes effect (R139, R330). -/
def State.hidWriteApply (idx : Nat) (lo hi : Word32) (s : State) : State :=
  let st := s.hidWriteStat idx lo hi
  if st ≠ 0 then s.hidDone st
  else
    let cur := s.ident idx
    let n := Identity.ofWords lo hi
    let s1 := s.updId idx fun i => { i with valid := true, port := n.port, mode := n.mode, src := n.src, tenant := n.tenant, cls := n.cls
                                            lost := if cur.valid then i.lost else 0, former := false }
    (if cur.former then s1.genAdvance idx else s1).hidDone 0

/-- Pages listed in a region. -/
def State.regionPages (s : State) (r : Range) : List Nat :=
  s.pageKeys.filter fun p => r.base ≤ granuleOfPage p && granuleOfPage p < r.base + r.size

/-- Lines of a region in a list of keys. -/
def Range.hasLine (r : Range) (l : Nat) : Bool := r.base ≤ granuleOfLine l && granuleOfLine l < r.base + r.size

/-- A Dynamic Capacity event record for an identity's host (R208, cause 14): kind 0 add, 1 release, 2 forced release. -/
def State.dcRecord (h kind base count tag : Nat) (s : State) : State :=
  let k := s.fnOfId h
  ((s.updFn k fun f => { f with dcRecs := f.dcRecs ++ [(kind, base, count, tag)] }).emit (.dcEvent k kind base count tag)).idCause h 14

/-- The calls lose a range of pages (R128). -/
def State.leaveCalls (lo hi : Nat) (s : State) : State :=
  let cut := fun (r : Nat × Nat) =>
    let a := r.1; let b := r.1 + r.2
    [(a, min b lo - a), (max a hi, b - max a hi)].filter fun x => x.2 != 0
  { s with tier := { s.tier with calls := s.tier.calls.map fun c => (c.1, { c.2 with ranges := (c.2.ranges.map cut).flatten }) } }

/-- An UNBIND takes effect (R145, R208, R337): access is denied, and pages, cache lines, extents and directory state are
being released. -/
def State.unbindApply (idx : Nat) (s : State) : State :=
  let r := s.rgn idx
  if !r.valid then s.rgnDone rgnNotBound
  else if r.unbinding then s.rgnDone rgnInUse
  else
    let s1 := s.updRgn idx fun r => { r with unbinding := true }
    let s2 := (s1.regionPages r).foldl (fun s p => (s.fcDropPage p).updPage p fun x => { x with release := true }) s1
    let s3 := (s2.extents.filter fun e => e.rgn == idx).foldl (fun s e => s.dcRecord e.hid 2 e.base e.count e.tag) s2
    let s4 := s3.dropExtents idx
    let keys := (s4.dir.ents.map (·.1) ++ (s4.fab.pdir.map (·.1)).filter (fun l => !(s4.dirEnt l).valid)).filter r.hasLine
    let s5 := keys.foldl (fun s l => s.transStart l .free) s4
    (s5.leaveCalls (r.base * 262144) ((r.base + r.size) * 262144)).rgnDone 0

/-- SET_SHARERS takes effect (R146, R147, R337). -/
def State.shareApply (idx sharers : Nat) (s : State) : State :=
  let r := s.rgn idx
  if r.fault then s.rgnDone rgnFault
  else if !r.valid then s.rgnDone rgnNotBound
  else if r.unbinding then s.rgnDone rgnInUse
  else if r.kind ≠ kShared then s.rgnDone rgnBadField
  else if allTenants.any (fun t => sharers.testBit t && !r.sharers.testBit t && s.sealedOrPending t) then s.rgnDone rgnSealed
  else
    let gone := allTenants.foldl (fun m t => if r.sharers.testBit t && !sharers.testBit t then m + 2 ^ t else m) 0
    let s1 := s.updRgn idx fun r => { r with sharers := sharers }
    let keys := if gone = 0 then [] else (s1.dir.ents.map (·.1)).filter r.hasLine
    (keys.foldl (fun s l => s.transStart l (.unshare gone)) s1).rgnDone 0

/-- A waiting command takes effect or is refused (R140, R144 to R147, R159, R177, R184). -/
def State.tableApply (c : TableCmd) (s : State) : State :=
  match c with
  | .hidWrite i lo hi => s.hidWriteApply i lo hi
  | .hidInval i =>
    let x := s.ident i
    if x.releasing then s.hidDone hidBusyCode
    else if !x.valid then s.hidDone 0
    else (s.endIdentity i).hidDone 0
  | .hidFault i =>
    if (s.ident i).valid then
      ((s.endIdentity i).setEvt pgTEN128 7).logE 0x0302 3 (some (s.ident i).tenant) pgTEN128 0 [0, i]
    else s
  | .rgnBind i w =>
    let st := s.bindStat i w
    if st ≠ 0 then s.rgnDone st else (s.updRgn i fun _ => { Range.ofWords w with valid := true }).rgnDone 0
  | .rgnUnbind i => s.unbindApply i
  | .rgnShare i m => s.shareApply i m
  | .rotate t =>
    if s.ownsLocal t || s.tables.rngBad then (s.updTen t fun x => { x with keyBusy := false }).setEvt pgKEY 1
    else (s.installKey t none).setEvt pgKEY 0
  | .deliver t k =>
    if s.ownsLocal t || keyHalvesEqual k then (s.updTen t fun x => { x with keyBusy := false }).setEvt pgKEY 3
    else (s.installKey t (some k)).setEvt pgKEY 2

/-- The table commands of step 2, in the order received (R177), and the directory work they start. -/
def State.tablesStep (s : State) : State :=
  let cs := s.tables.cmds
  (cs.foldl (fun (s : State) c => s.tableApply c) { s with tables := { s.tables with cmds := [] } }).dirTick

/-! ### Faults of the tables (R184 to R186) and the end of an unbind -/

def State.rangeFault (i : Nat) (s : State) : State :=
  if (s.rgn i).valid && !(s.rgn i).fault then
    ((s.updRgn i fun r => { r with fault := true }).setEvt pgTEN128 7).logE 0x0302 3 (some (s.rgn i).owner) pgTEN128 0 [1, i]
  else s

def State.keyFault (t : Nat) (s : State) : State :=
  ((s.updTen t fun x => { x with keyFault := true }).setEvt pgKEY 4).logE 0x0303 3 (some t) pgKEY 0 [t]

/-- All release work of an unbinding region is done. -/
def State.unbound (s : State) (i : Nat) : Bool :=
  let r := s.rgn i
  r.valid && r.unbinding && (s.regionPages r).isEmpty
  && !(s.dir.ents.any fun e => e.2.valid && r.hasLine e.1) && !(s.fab.pdir.any fun e => e.2.valid && r.hasLine e.1)
  && !(s.dir.trans.any fun e => r.hasLine (keyLine e.1)) && !(s.extents.any fun e => e.rgn == i)
  && !(s.tier.orphanW.any fun w => r.hasLine w.line) && !(s.tier.orphanR.any fun w => r.hasLine w.line)

/-- UNBIND_DONE. -/
def State.unbindDone (i : Nat) (s : State) : State :=
  if s.unbound i then
    let r := s.rgn i
    let s1 := { s with tier := { s.tier with lost := s.tier.lost.filter fun x => !(r.base ≤ x.1 / 16384 && x.1 / 16384 < r.base + r.size) } }
    let s2 := { s1 with poison := s1.poison.filter fun e => !r.hasLine e.1, log := { s1.log with plist := s1.log.plist.filter fun l => !r.hasLine l } }
    (s2.updRgn i fun _ => {}).setEvt pgTEN128 4
  else s

/-! ### Bulk clears, lost identities and generations (R181, R327, R330, R332) -/

/-- BULK_CLEAR_DONE of an identity, two frames after it started. -/
def State.bulkClearDone (h : Nat) (s : State) : State :=
  match (s.ident h).clearing with
  | none => s
  | some e =>
    if framesSince e s.frame.num < 2 then s
    else
      let i := s.ident h
      let s1 := s.updId h fun i => { i with clearing := none, lost := if i.valid then i.lost else 0 }
      if !i.releasing then s1
      else if s.genFull h then (s1.updId h fun i => { i with genWait := true }).setEvt pgDIR 4
      else s1.updId h fun i => { i with releasing := false }

/-- GEN_ADVANCE: a waiting advance proceeds once the generations have been retired. -/
def State.genProceed (h : Nat) (s : State) : State :=
  let i := s.ident h
  if !i.genWait || s.genFull h then s
  else if i.releasing then s.updId h fun i => { i with genWait := false, releasing := false }
  else (s.genAdvance h).updId h fun i => { i with lost := 0 }

/-- LOST_CTL.CLEAR of the selected identity: only a DEADLINE loss is cleared, at the next edge (R330). -/
def State.lostClear (s : State) : State :=
  let h := s.regF pgDIR 0x54 9 0
  if (s.ident h).lost = 1 then s.updId h fun i => { i with clearReq := true } else s

/-- The waiting clears at the edge. -/
def State.lostClears (s : State) : State :=
  (s.tables.ids.filter fun e => e.2.clearReq).foldl (fun s e => (s.updId e.1 fun i => { i with clearReq := false }).leaveLost e.1) s

/-- RECALL_DEADLINE: a snoop unanswered at step 2 of the edge of frame F + 4 loses its identity (R322, R326, R338). -/
def State.recallDeadline (key hid : Nat) (s : State) : State :=
  match (s.trans key).bind fun t => t.snoops.find? (fun n => n.hid == hid) with
  | none => s
  | some n =>
    match n.sent with
    | none => s
    | some f =>
      if framesSince f s.frame.num < 4 || (s.ident hid).lost != 0 then s
      else
        let s1 := s.declareLost hid 1 (keyLine key)
        let mine := s1.dir.trans.filterMap fun e => match e.2 with
          | some t => match t.what with
            | .req r => if r.hid == hid && (t.phase == .recall || t.phase == .start || t.phase == .ready) then some (e.1, r) else none
            | _ => none
          | none => none
        let s2 := mine.foldl (fun s x => ((s.dirCount 7 1).refuse x.2).endReq x.2) s1
        s2.dirTick

/-- RES_DRAINED: the newly assigned blocks hold only the tenant's entries (R316). -/
def State.resDrained (t : Nat) (s : State) : State :=
  let x := s.ten t
  if x.dirDrain && !(s.dir.ents.any fun e => e.2.valid && (e.2.set / 256) ∈ x.dirBlocks && !(e.2.resv && e.2.owner == t)) then
    (s.updTen t fun x => { x with dirDrain := false }).setEvt pgDIR 2
  else s

/-! ### Seal and unseal (R163 to R168, R315 to R317, R374, R375, R378, R990) -/

/-- R165: a write of SEAL_CTL of tenant `t`. -/
def State.sealWrite (t : Nat) (w : Word32) (s : State) : State :=
  let s0 := s.updTen t fun x => { x with void := x.void &&& (31 ^^^ field w 20 16) }
  if bitOf w 0 && bitOf w 1 then s
  else if bitOf w 0 then (if s.sys.memActive then s0.updTen t fun x => { x with reqSeal := true, reqUnseal := false } else s0)
  else if bitOf w 1 then s0.updTen t fun x => { x with reqUnseal := true, reqSeal := false }
  else s0

/-- Bits set in a mask of `n` bits. -/
def popCount (n m : Nat) : Nat := ((List.range n).filter m.testBit).length

/-- A pattern's owner has patterns loaded beyond RACK_PIN is judged at load time (R168); the partition limits of a seal of
tenant `t` beside the sealed tenants `l`. -/
def State.partitionOk (s : State) (t : Nat) (l : List Nat) : Bool :=
  let all := t :: l
  let sum := fun (r hi : Nat) => all.foldl (fun n u => n + s.regF (pgTEN u) r hi 0) 0
  let ways := fun u => s.regF (pgTEN u) 0x48 15 0
  s.regF (pgTEN t) 0x44 8 0 ≤ 256 && sum 0x44 8 ≤ 2048
  && l.all (fun u => ways u &&& ways t == 0) && all.foldl (fun n u => n + popCount 16 (ways u)) 0 ≤ 8
  && sum 0x4C 10 * 4096 ≤ 4194304
  && s.regF (pgTEN t) 0x50 5 0 ≤ 32 && sum 0x50 5 ≤ 128
  && s.regF (pgTEN t) 0x54 6 0 ≤ 64 && sum 0x54 6 ≤ 128
  && l.all (fun u => s.shelfMask u &&& s.shelfMask t == 0) && all.foldl (fun n u => n + popCount 256 (s.shelfMask u)) 0 + 32 ≤ 256

/-- R163: why a seal is rejected: 0 accepted, 1 BOUND, 2 FLOORS, 3 PARTITION. -/
def State.sealErr (s : State) (t : Nat) : Nat :=
  let l := s.sealedList
  let bound := s.tables.ranges.any fun e => e.2.valid && (e.2.owner == t || e.2.sharers.testBit t)
  let floors := (t :: l).foldl (fun n u => n + s.ofReg u + s.ffReg u) 0
  if bound then 1 else if s.poolMiB < floors then 2 else if !s.partitionOk t l then 3 else 0

/-- The lowest `n` unassigned blocks of 1,024 to 2,047 (R314). -/
def State.freeBlocks (s : State) (n : Nat) : List Nat :=
  (((List.range 1024).map (1024 + ·)).filter fun b => b ∉ s.takenBlocks).take n

/-- Evict every entry of some blocks (R316, R317). -/
def State.drainBlocks (b : List Nat) (s : State) : State :=
  (s.dir.ents.filter fun e => e.2.valid && (e.2.set / 256) ∈ b).foldl (fun s e => s.transStart e.1 .free) s

/-- Evict the cache lines of some ways that are not tenant `t`'s (R168, R378). -/
def State.fcClearWays (mask : Nat) (s : State) : State :=
  (s.dram.fc.filter fun e => mask.testBit e.2.way).foldl (fun s e => s.fcEvict e.1) s

/-- The seal of a tenant. -/
def State.doSeal (t : Nat) (s : State) : State :=
  let b := s.freeBlocks (s.regF (pgTEN t) 0x4C 10 0)
  let s1 := s.updTen t fun x => { x with sealed := true, reqSeal := false, err := 0, dirBlocks := b, dirDrain := !b.isEmpty
                                         ofEff := s.ofReg t, ffEff := s.ffReg t }
  let s2 := { s1 with rgl := { s1.rgl with dirty := true } }
  (s2.drainBlocks b).fcClearWays (s.regF (pgTEN t) 0x48 15 0)

/-- The unseal of a tenant. -/
def State.doUnseal (t : Nat) (s : State) : State :=
  let b := (s.ten t).dirBlocks
  let s1 := (s.drainBlocks b).fcClearWays (s.regF (pgTEN t) 0x48 15 0)
  let s2 := s1.updTen t fun x => { x with sealed := false, reqUnseal := false, err := 0, dirBlocks := [], dirDrain := false }
  { s2 with rgl := { s2.rgl with dirty := true } }

/-- Step 4 of a reel boundary: every unseal due, then every seal due, in ascending tenant number (R990). -/
def State.sealStep (s : State) : State :=
  let s1 := forEach allTenants (fun t s =>
    if (s.ten t).reqUnseal then (if (s.ten t).sealed then s.doUnseal t else s.updTen t fun x => { x with reqUnseal := false, err := 0 }) else s) s
  (forEach allTenants (fun t s =>
    if (s.ten t).reqSeal then
      if (s.ten t).sealed then s.updTen t fun x => { x with reqSeal := false, err := 0 }
      else
        let e := s.sealErr t
        if e = 0 then s.doSeal t else (s.updTen t fun x => { x with reqSeal := false, err := e }).setEvt pgTEN128 5
    else s) s1).dirTick

/-! ### Void guarantees (R172, R174) -/

/-- A unit that exists for R172: a DRAM or shelf channel without devices is no unit (log entry 24). -/
def State.present (s : State) (g i : Nat) : Bool :=
  if g = gDRAM then (s.chan i).kind != 0 else if g = gSHELF then s.shelfRate i != 0 else true

/-- Instances of a group. -/
def groupSize (g : Nat) : Nat :=
  if g < 8 then 1 else if g = gLANE then 64 else if g = gDRAM then 16 else if g = gSHELF then 32 else if g = gCUE then 32
  else if g = gFPORT then 8 else if g = gPRESS then 288 else 0

/-- Tenant `t` holds a slot of a group in some row of the active slate. -/
def State.slotsIn (s : State) (t g : Nat) : Bool :=
  (List.range 125).any fun r => (List.range 16).any fun k => s.slateOf r g k == t

/-- A unit of a group the tenant holds slots in, or one of its targets' channels, is not IN. -/
def State.unitOutFor (s : State) (t : Nat) : Bool :=
  ((List.range 16).any fun g => s.slotsIn t g && (List.range (groupSize g)).any fun i =>
    match unitOfGroup g (if g < 8 then g else i) with
    | some (k, n) => s.present g n && (!s.isIn k n || (k == .press && (if s.power.st = 3 then s.power.before else s.power.st) != 0))
    | none => false)
  || (List.range 32).any fun c => (s.shelfMask t / 2 ^ (8 * c)) % 256 != 0 && s.present gSHELF c && !s.isIn .shelf c

/-- Every frame: note the conditions that fail for sealed tenants. -/
def State.voidNote (s : State) : State :=
  s.sealedList.foldl (fun s t =>
    if s.unitOutFor t then { s with tables := { s.tables with voidSeen := mapUpd (fun _ => 0) t (· ||| 16) s.tables.voidSeen } } else s) s

/-- Raise one cause for some tenants (R174). -/
def State.voidRaise (cause : Nat) (l : List Nat) (s : State) : State :=
  if l.isEmpty then s
  else
    let s1 := l.foldl (fun s t => (s.updTen t fun x => { x with void := x.void ||| 2 ^ cause }).tenCause t 13) s
    let s2 := (s1.logE 0x0301 3 (if l.length = 1 then l.head? else none) pgTEN128 0 [cause, l.length]).setEvt pgTEN128 6
    { s2 with daily := { s2.daily with acc := { s2.daily.acc with void := true } } }

/-- Reel boundary: raise every cause that applied in the ended reel; `floors` and `thermal` are the tenants of those
causes. -/
def State.voidStep (floors thermal : List Nat) (s : State) : State :=
  let out := s.sealedList.filter fun t => (mapGet (fun _ => 0) s.tables.voidSeen t).testBit 4
  let s1 := if s.sys.memActive && !s.sys.fwSigned then s.voidRaise 0 allTenants else s
  let s2 := if s.tables.debug then s1.voidRaise 1 allTenants else s1
  let s3 := ((s2.voidRaise 2 floors).voidRaise 3 thermal).voidRaise 4 out
  { s3 with tables := { s3.tables with voidSeen := [] } }

/-! ### Reading -/

def State.readTen (s : State) (t r : Nat) : Option Word32 :=
  let x := s.ten t
  if r = 0x40 then some (placeB x.reqSeal 0 ||| placeB x.reqUnseal 1 ||| placeB x.sealed 4 ||| place x.err 4 8 ||| place x.void 5 16)
  else if r = 0x58 then some (place (s.tables.ids.filter fun e => e.2.valid && e.2.tenant == t).length 11 0)
  else if r = 0x5C then some (place (s.tables.ranges.filter fun e => e.2.valid && e.2.owner == t).length 13 0)
  else none

def State.readTen128 (s : State) (r : Nat) : Option Word32 :=
  if r = 0x4C then some (placeB s.tables.hidBusy 4 ||| place s.tables.hidStat 4 8)
  else if r = 0x74 then some (placeB s.tables.rgnBusy 4 ||| place s.tables.rgnStat 4 8)
  else none

def State.readKey (s : State) (r : Nat) : Option Word32 :=
  let t := s.regF pgKEY 0x40 6 0
  let x := s.ten t
  if r = 0x44 then some (placeB x.keyBusy 0)
  else if r = 0x48 then some (placeB x.key.isSome 0 ||| placeB x.keyBusy 1 ||| placeB x.keyFault 2 ||| place x.keyGen 16 16)
  else none

end Sys2Proof.Machine
end

