-- ==== Sys2Proof/Machine/HostLink.lean ====
section
/-!
DEFINITION. Host ports: link training and errors, hold and its release, link power, Dynamic Capacity, back-invalidate
answers of hosts, credits (ch. 04, 05, 06, 19).
-/

namespace Sys2Proof.Machine

open Sys2Proof

/-! ### Functions of a port -/

/-- Function keys of a port. -/
def portFns (p : Nat) : List Nat := (List.range 32).map fun k => p * 32 + k

/-- Identities naming a port. -/
def State.idsOn (s : State) (p : Nat) : List Nat := (s.tables.ids.filter fun e => e.2.valid && e.2.port == p).map (·.1)

/-- An identity on the port holds an HDM-DB extent (R224). -/
def State.dbOn (s : State) (p : Nat) : Bool := s.extents.any fun e => !e.offered && e.tag != 0 && (s.ident e.hid).valid && (s.ident e.hid).port == p

/-! ### Hold (R224 to R228, R230, R238, R240, R825) -/

/-- A hold cause on a port. -/
def State.holdCause (p cause wedge : Nat) (s : State) : State :=
  let h := s.hport p
  let n := h.reelCauses + 1
  let s1 := (s.bump (ofsOf (pgHPORT p) 0x54) 0 1).updPort p fun h => { h with reelCauses := n }
  let s2 := if 16 < n ∧ h.advised = false then (s1.updPort p fun h => { h with advised := true }).retireAdvice 10 0x0401 p (pgHPORT p) else s1
  if h.hold = .run ∨ h.hold = .releasing then
    let s3 := ((s2.updPort p fun h => { h with hold := .freeze, cause := cause, frozen := true, release := false }).setEvt (pgHPORT p) 0).logE
      0x0401 3 none (pgHPORT p) 0 [p, cause, wedge]
    if s3.sys.mgmtEn ∧ s3.sys.mgmtPort = p ∧ s3.mgmt.lease = 1 then { s3 with mgmt := { s3.mgmt with lease := 0 } } else s3
  else s2

/-- A response is still transmitted while the port holds: link in L0 and IDE not failed (R225). -/
def State.canTransmit (s : State) (p link : Nat) : Bool := ((s.hport p).linkOf link).up && !(s.hport p).ideFail

/-- End one request of a frozen port: a read as poison, a write as applied (R225 steps 1 and 2). -/
def State.failHeld (apply : Bool) (r : Req) (s : State) : State :=
  let p := r.m.port
  let s0 := s.freeEntry r.tenant r.cls r.place
  let s1 := { s0 with rgl := { s0.rgl with run := mapUpd (fun _ => {}) r.cls (fun (c : ClassRun) => { c with outst := c.outst.erase r.since }) s0.rgl.run } }
  if r.kind.isWrite then
    let s2 := if !apply then s1 else
      match s1.rgnAt (granuleOfLine r.m.line) with
      | none => s1
      | some (_, g) =>
        if g.remote then s1.remStart { write := true, node := g.node, line := r.m.line, lines := 1, sten := r.tenant, data := r.m.data
                                       be := if r.kind = .wr then fullBe else r.m.be, poison := r.m.poison, who := .dev 0 }
        else s1.writeFor r.m.line r.tenant r.cls r.m.data (if r.kind = .wr then fullBe else r.m.be) r.m.poison r.m.env false .internal
    if s2.canTransmit p r.m.link then s2.writeResp { r with grant := 0 } 0 else s2
  else if s1.canTransmit p r.m.link then s1.readResp { r with grant := 0 } zeroLine true 0 else s1

/-- The request is of a port. -/
def TransFor.ofPort (p : Nat) : TransFor → Bool
  | .req r => r.m.port == p
  | _ => false

/-- Host requests of a port among line accesses. -/
def Who.ofPort (p : Nat) : Who → Option Req
  | .host r => if r.m.port = p then some r else none
  | _ => none

/-- R225, steps 1, 2 and 5, at the first step 2 in FREEZE. Tags and cues (steps 3 and 4) are the caller's. -/
def State.holdStep (p : Nat) (s : State) : State :=
  let waiting := (s.hport p).waiting
  let inTrans := s.dir.trans.foldl (fun l e => match e.2 with
    | some t =>
      let cur := match t.what with | .req r => if r.m.port = p ∧ t.phase ≠ .serving ∧ t.phase ≠ .done then [r] else [] | _ => []
      l ++ cur ++ t.wait.filterMap fun w => match w with | .req r => if r.m.port = p then some r else none | _ => none
    | none => l) []
  let serving := s.dir.trans.foldl (fun l e => match e.2 with
    | some t => (match t.what with | .req r => if r.m.port = p ∧ t.phase = .serving then l ++ [(e.1, r)] else l | _ => l)
    | none => l) []
  let attached := s.tier.pages.foldl (fun l e => l ++ e.2.reads.filterMap fun x => x.who.ofPort p) []
  let heldW := s.tier.pages.foldl (fun l e => l ++ e.2.held.filterMap fun x => x.who.ofPort p) []
  let remote := s.fab.reqs.filterMap fun e => match e.2.who with
    | .host r => if e.2.valid && r.m.port == p then some (e.1, r) else none
    | .dev _ => none
  -- forget them everywhere; a held write stays, as the device's own
  let pages := mapAll (fun _ => ({} : PageRec)) (fun _ (r : PageRec) => { r with
      reads := r.reads.filter fun x => (x.who.ofPort p).isNone
      held := r.held.map fun x => if (x.who.ofPort p).isSome then { x with who := .internal } else x }) s.tier.pages
  let trans := mapAll noTrans (fun _ (x : Option Trans) => x.map fun t => { t with
      phase := if t.what.ofPort p then .done else t.phase
      snoops := if t.what.ofPort p then [] else t.snoops
      peers := if t.what.ofPort p then [] else t.peers
      wait := t.wait.filter fun w => !w.ofPort p }) s.dir.trans
  let reqs := mapAll noReq (fun _ (r : RemReq) => match r.who with
    | .host q => if q.m.port = p then { r with who := .dev 0 } else r
    | .dev _ => r) s.fab.reqs
  let orphW := s.tier.orphanW.filterMap fun x => x.who.ofPort p
  let orphR := s.tier.orphanR.filterMap fun x => x.who.ofPort p
  let s1 := (({ s with
      tier := { s.tier with pages := pages, orphanW := s.tier.orphanW.filter (fun x => (x.who.ofPort p).isNone)
                            orphanR := s.tier.orphanR.filter (fun x => (x.who.ofPort p).isNone) }
      dir := { s.dir with trans := trans }
      fab := { s.fab with reqs := reqs, stalled := s.fab.stalled.filter fun r => match r.who with | .host q => q.m.port != p | .dev _ => true } }).updPort p
      fun h => { h with waiting := [], frozen := false, respQ := [] })
  let stalled := s.fab.stalled.filterMap fun r => match r.who with | .host q => if q.m.port = p then some q else none | .dev _ => none
  let s2 := (attached ++ orphR).foldl (fun s r => s.failHeld false r) s1
  let s3 := (heldW ++ orphW ++ remote.map (·.2)).foldl (fun s r => s.failHeld false r) s2
  -- what was being served without a home above is a read or write that waited in the table of remote requests
  let s4 := stalled.foldl (fun s r => s.failHeld true r) s3
  let s5 := (inTrans ++ waiting).foldl (fun s r => s.failHeld true r) s4
  let s6 := serving.foldl (fun s x => s.transDone x.1) s5
  let s7 := (s.idsOn p).foldl (fun s h => s.declareLost h 2 0) s6
  s7.dirTick

/-- PORT_HELD: every bulk clear of the port has completed (R226). -/
def State.portHeld (p : Nat) (s : State) : State :=
  let h := s.hport p
  if h.hold = .freeze ∧ h.frozen = false ∧ !(s.tables.ids.any fun e => e.2.port == p && e.2.clearing.isSome) then
    (s.updPort p fun h => { h with hold := .held }).setEvt (pgHPORT p) 1
  else s

/-- HOLD.RELEASE (R227). -/
def State.holdRelease (p : Nat) (s : State) : State :=
  if (s.hport p).hold = .held then s.updPort p fun h => { h with release := true } else s

/-- A waiting release at the edge: RELEASING, and LOST of cause HOLD cleared (R227, R228, R330). -/
def State.releaseStep (p : Nat) (s : State) : State :=
  let h := s.hport p
  if h.release ∧ h.hold = .held then
    let s1 := s.updPort p fun h => { h with hold := .releasing, release := false }
    (s1.idsOn p).foldl (fun s i => if (s.ident i).lost = 2 then s.leaveLost i else s) s1
  else s

/-- PORT_RUN (R228): on a bifurcated port one link in L0 with CXL suffices, the other stays unserved until it is up. -/
def State.portRun (p : Nat) (s : State) : State :=
  let h := s.hport p
  let ok := fun (l : HLink) => l.up && l.proto == 2
  let ready := if h.bifurc then ok h.link0 || ok h.link1 else ok h.link0
  if h.hold = .releasing ∧ ready then
    let s1 := ((s.updPort p fun h => { h with hold := .run, viralRx := false, ideFail := false }).setEvt (pgHPORT p) 2).logE 0x0402 0 none (pgHPORT p) 0 [p]
    (s1.idsOn p).foldl (fun s i => s.idCause i 12) s1
  else s

/-! ### Links (R191 to R196, R219, R221, R224, R236) -/

def State.updLink (p l : Nat) (f : HLink → HLink) (s : State) : State :=
  s.updPort p fun h => if l = 0 then { h with link0 := f h.link0 } else { h with link1 := f h.link1 }

/-- Flit mode of a training (R196): 0 none. -/
def State.flitFor (s : State) (p rate : Nat) (f256 : Bool) : Nat :=
  if f256 && 4 ≤ rate then 2 else if bitOf (s.reg (ofsOf (pgHPORT p) 0x40)) 8 && rate ≤ 4 then 1 else 0

/-- Rate and width within LINK_CTL's limits; a bifurcated port's links are at most ×8. -/
def State.linkFits (s : State) (p rate width : Nat) : Bool :=
  let w := s.regF (pgHPORT p) 0x40 6 4
  rate ≤ s.regF (pgHPORT p) 0x40 2 0 && width ≤ (if (s.hport p).bifurc then min 3 w else w)

/-- LINK_UP: a link trains into L0 (R191 to R196). The partner's offers (CXL, 256-byte flits) and its S2M credits are the
partner's. -/
def State.linkUp (p l rate width : Nat) (cxl f256 viral : Bool) (ndr drs : Nat) (s : State) : State :=
  let h := s.hport p
  if h.perst || !s.linkFits p rate width || (l != 0 && !h.bifurc) then s
  else
    let flit := s.flitFor p rate f256
    let ok := cxl && 2 ≤ rate && 2 ≤ width && flit != 0
    let s1 := (s.updLink p l fun _ => { up := true, proto := if ok then 2 else 1, flit := if ok then flit else 0, rate := rate, width := width }).updPort p
      fun h => { h with lstate := 0, retrain := false, l0p := 0, idle := 0, s2mNdr := ndr, s2mDrs := drs, quiesced := false, viralHost := viral }
    let s2 := (s1.setEvt (pgHPORT p) 3).emit (.linkAct p 0 l)
    if ok then s2 else s2.setEvt (pgHPORT p) 12

/-- LINK_DOWN: a link leaves L0 other than into a power state. It is no hold cause on a port that was put in DRAIN,
nor in OUT, QUAR or REJOIN (R224, R847). -/
def State.linkDown (p l : Nat) (s : State) : State :=
  let h := s.hport p
  if !(h.linkOf l).up then s
  else
    let s1 := ((s.updLink p l fun _ => {}).updPort p fun h => { h with lstate := 6 }).setEvt (pgHPORT p) 4
    if (s.unit .hport p).st ≠ .inn then s1 else s1.holdCause p 1 0

/-- UNCORR: an uncorrectable link error, or replay exhausted. -/
def State.linkUncorr (p : Nat) (s : State) : State := (s.bump (ofsOf (pgHPORT p) 0x6C) 2 1).holdCause p 2 0

/-- IDE_FAILURE on a port that had IDE active (R221). -/
def State.ideFailure (p : Nat) (s : State) : State :=
  let h := s.hport p
  if h.ideIo || h.ideMem || h.ideSel != 0 then
    (((s.updPort p fun h => { h with ideFail := true }).setEvt (pgHPORT p) 6).bump (ofsOf (pgHPORT p) 0x6C) 3 1).holdCause p 3 0
  else s

/-- VIRAL_RX (R219). -/
def State.viralRx (p : Nat) (s : State) : State := ((s.updPort p fun h => { h with viralRx := true }).setEvt (pgHPORT p) 7).holdCause p 4 0

/-- FLIT_DOWN: a retrain into 68-byte flits (R224). -/
def State.flitDown (p l rate width : Nat) (s : State) : State :=
  if !((s.hport p).linkOf l).up then s
  else
    let s1 := s.updLink p l fun k => { k with flit := 1, rate := rate, width := width }
    if s.dbOn p then s1.holdCause p 5 0 else s1

/-- RETRAIN (R191). -/
def State.retrainPort (p : Nat) (s : State) : State := (s.updPort p fun h => { h with retrain := true }).emit (.linkAct p 1 0)

/-- LINK_DEGRADED (R236). -/
def State.linkDegraded (p l rate width : Nat) (s : State) : State :=
  if ((s.hport p).linkOf l).up then (s.updLink p l fun k => { k with rate := rate, width := width }).setEvt (pgHPORT p) 5 else s

/-- ID_CFG_WRITE (R195, R198, R199). -/
def State.idCfgWrite (p : Nat) (w : Word32) (s : State) : State :=
  let old := s.reg (ofsOf (pgHPORT p) 0x4C)
  let mode := if field w 1 0 = 3 then field old 1 0 else field w 1 0
  let lds := if 1 ≤ field w 12 8 ∧ field w 12 8 ≤ 16 then field w 12 8 else field old 12 8
  let sum := (List.range 8).foldl (fun n q => n + if q = p then lds else s.lds q) 0
  if !(s.idsOn p).isEmpty || 128 < sum || (mode == 2 && (s.hport p).bifurc) then s.setEvt (pgHPORT p) 11
  else s.setReg (ofsOf (pgHPORT p) 0x4C) (place mode 2 0 ||| place lds 5 8)

/-- IDE_KM (R220): keys programmed or refreshed over SPDM. `kind` 0 the CXL.io link stream, 1 a selective stream, 2
CXL.mem; `on` false takes the stream down. -/
def State.ideKm (p kind : Nat) (on : Bool) (s : State) : State :=
  let h := s.hport p
  if !(h.link0.proto == 2 || h.link1.proto == 2) then s
  else s.updPort p fun h =>
    if kind = 0 then { h with ideIo := on, ideKey := h.ideKey + 1 }
    else if kind = 1 then { h with ideSel := if on then min 4 (h.ideSel + 1) else h.ideSel - 1, ideKey := h.ideKey + 1 }
    else { h with ideMem := on, ideKey := h.ideKey + 1 }

/-! ### Link power (R273 to R279) -/

/-- No work of a port is outstanding. -/
def State.portIdle (s : State) (p : Nat) : Bool :=
  (s.hport p).waiting.isEmpty && (s.hport p).respQ.isEmpty
  && !(s.dir.trans.any fun e => match e.2 with | some t => t.what.ofPort p || t.wait.any (fun w => w.ofPort p) || t.snoops.any (fun n => (s.ident n.hid).port == p && n.sent.isSome) | none => false)

/-- The directory holds no grant of an identity of the port. -/
def State.noGrantsOn (s : State) (p : Nat) : Bool :=
  !(s.dir.ents.any fun e => e.2.valid && (s.holdersOf e.1 e.2).any fun h => (s.ident h).port == p)

/-- L1_ENTRY (R276): `sub` 0 L1, 1 L1.1, 2 L1.2, as the host enabled. -/
def State.l1Entry (p sub : Nat) (s : State) : State :=
  let h := s.hport p
  if h.lstate = 0 ∧ h.link0.up ∧ h.l0p = 0 ∧ s.regF (pgHPORT p) 0x80 7 0 ≤ h.idle ∧ s.portIdle p ∧ s.noGrantsOn p ∧ sub ≤ 2 then
    (s.updPort p fun h => { h with lstate := 2 + sub }).emit (.linkAct p 2 sub)
  else s

/-- L1_EXIT (R277). -/
def State.l1Exit (p : Nat) (s : State) : State :=
  let h := s.hport p
  if 2 ≤ h.lstate ∧ h.lstate ≤ 4 then (s.updPort p fun h => { h with lstate := 0, idle := 0 }).emit (.linkAct p 3 0) else s

/-- L2_ENTRY after PME_TO_Ack (R274). -/
def State.l2Entry (p : Nat) (s : State) : State :=
  if (s.hport p).quiesced then s.updPort p fun h => { h with lstate := 5, link0 := { h.link0 with up := false }, link1 := { h.link1 with up := false } } else s

/-- A sealed tenant holds slots in the port's group of the active slate (R279). -/
def State.sealedOnPort (s : State) (p : Nat) : Bool := s.sealedList.any fun t => s.slotsIn t p

/-- L0P_WIDEN (R278): back to the full width when the backlog exceeds one frame of the narrowed link. -/
def State.l0pWiden (p : Nat) (backlog : Nat) (s : State) : State :=
  let h := s.hport p
  let per := 1888 * 2 ^ (h.l0p - 1) / 2 ^ h.link0.width
  if h.l0p ≠ 0 ∧ per < backlog then (s.updPort p fun h => { h with l0p := 0 }).emit (.linkAct p 4 h.link0.width) else s

/-- L0P_PARTNER_REQUEST (R279): a narrowing the partner asks for. -/
def State.l0pPartner (p width : Nat) (s : State) : State :=
  let h := s.hport p
  if s.sealedOnPort p then s.setEvt (pgHPORT p) 15
  else if h.link0.flit = 2 ∧ bitOf (s.reg (ofsOf (pgHPORT p) 0x80)) 8 ∧ s.regF (pgHPORT p) 0x80 14 12 ≤ width ∧ width < h.link0.width then
    (s.updPort p fun h => { h with l0p := width + 1 }).emit (.linkAct p 5 width)
  else s.setEvt (pgHPORT p) 15

/-- Reel boundary: widen for a sealed tenant's slots, else narrow after a reel of little use (R278, R279). -/
def State.l0pReel (p : Nat) (s : State) : State :=
  let h := s.hport p
  let s1 := s.updPort p fun h => { h with reelUse := 0, reelCauses := 0, advised := false }
  if h.l0p ≠ 0 ∧ s.sealedOnPort p then (s1.updPort p fun h => { h with l0p := 0 }).emit (.linkAct p 4 h.link0.width)
  else
    let min' := s.regF (pgHPORT p) 0x80 14 12
    if h.l0p = 0 ∧ h.link0.up ∧ h.lstate = 0 ∧ h.link0.flit = 2 ∧ bitOf (s.reg (ofsOf (pgHPORT p) 0x80)) 8 ∧ !s.sealedOnPort p
        ∧ h.reelUse * 100 < s.regF (pgHPORT p) 0x80 22 16 * 1888 * 125 ∧ min' < h.link0.width then
      (s1.updPort p fun h => { h with l0p := min' + 1 }).emit (.linkAct p 6 min')
    else s1

/-! ### Credits (R824, R825) -/

/-- CREDIT_RETURN. -/
def State.creditReturn (p ndr drs : Nat) (s : State) : State :=
  let s1 := s.updPort p fun h => { h with s2mNdr := h.s2mNdr + ndr, s2mDrs := h.s2mDrs + drs }
  let s2 := State.drainResp ((s1.hport p).respQ.length) p s1
  if (s2.hport p).respQ.isEmpty then s2.updPort p fun h => { h with wedge := 0 } else s2

/-- WEDGE: the credits have stayed exhausted for SYS.WEDGE.FRAMES frames. -/
def State.wedgeHold (p : Nat) (s : State) : State :=
  if s.regF pgSYS 0x34C 15 0 ≤ (s.hport p).wedge ∧ (s.hport p).wedge ≠ 0 ∧ (s.hport p).hold = .run then
    ({ s with sys := { s.sys with full := s.sys.full ||| 1#32 } }).holdCause p 6 1
  else s

/-- Every frame: count the frames of exhausted credits and of idleness. -/
def State.portFrame (p : Nat) (s : State) : State :=
  s.updPort p fun h => { h with wedge := if h.respQ.isEmpty then 0 else h.wedge + 1, idle := h.idle + 1 }

/-! ### A host's answers to snoops (R322, R323, R329, R334, R335, R343, R820) -/

/-- A response fits its snoop: 0 BIRspI, 1 BIRspS, 2 BIRspE. -/
def rspFits (kind rsp : Nat) : Bool := if kind = snInv then rsp == 0 else if kind = snData then rsp ≤ 1 else rsp ≤ 2

/-- The outstanding snoop of an identity in a transaction, before its deadline. -/
def State.openSnoop (s : State) (key h : Nat) : Option Snoop :=
  match (s.trans key).bind fun t => t.snoops.find? (fun n => n.hid == h) with
  | some n => (match n.sent with
    | some f => if framesSince f s.frame.num < 4 then some n else none
    | none => none)
  | none => none

/-- Record what arrived for a snoop and answer it when that is all (R322). -/
def State.noteSnoop (key h : Nat) (f : Snoop → Snoop) (s : State) : State :=
  let s1 := s.updTrans key fun t => { t with snoops := t.snoops.map fun n => if n.hid == h then f n else n }
  match s1.openSnoop key h with
  | some n => if n.resp && (!n.needWb || n.wb) then s1.answerSnoop key h else s1
  | none => s1

/-- BIRSP: `dirty` says that a write-back of the line belongs to the answer. -/
def State.birsp (p link src line rsp : Nat) (dirty : Bool) (s : State) : State :=
  match s.matchId p link src with
  | none => s
  | some h =>
    if !s.accepts p link || (s.ident h).lost != 0 then s
    else
      let go := fun (key : Nat) (s : State) =>
        match s.openSnoop key h with
        | none => s
        | some n =>
          if !rspFits n.kind rsp then s.dirCount 8 1
          else s.noteSnoop key h fun n => { n with resp := true, needWb := dirty && n.hadM }
      (go (recallKey line) (go line s)).dirTick

/-- RWD_WRITEBACK: a write-back under an outstanding recall takes a line of the write-back sink and is applied at level 2;
any other RwD is an ordinary write (R820). -/
def State.writeback (m : MemReq) (s : State) : State :=
  match s.matchId m.port m.link m.src with
  | none => s.hostReceive .wr m
  | some h =>
    if !s.accepts m.port m.link || (s.ident h).lost != 0 then s
    else
      let i := s.ident h
      let r : Req := { m := m, kind := .wr, hid := h, tenant := i.tenant, cls := i.cls, since := s.frame.num, place := 4 }
      let remote := match s.rgnAt (granuleOfLine m.line) with | some (_, g) => if g.remote then some g.node else none | none => none
      if (s.openSnoop (recallKey m.line) h).isSome then
        let s1 := s.updTrans (recallKey m.line) fun t => { t with wbData := some m.data }
        ((s1.writeResp r (s1.devLoad m.port i.tenant)).noteSnoop (recallKey m.line) h fun (n : Snoop) => { n with wb := true }).dirTick
      else if (s.openSnoop m.line h).isSome then
        let s1 := match remote with
          | some node => s.remStart { write := true, node := node, line := m.line, lines := 1, sten := i.tenant, data := m.data, be := fullBe, poison := m.poison, who := .host r }
          | none => s.writeFor m.line i.tenant i.cls m.data fullBe m.poison m.env m.sheetBad (.host r)
        (s1.noteSnoop m.line h fun (n : Snoop) => { n with wb := true }).dirTick
      else s.hostReceive .wr m

/-- BICONFLICT (R334): answered when a snoop is outstanding to the identity and a request of its own waits on the line. -/
def State.biconflict (p link src line tag : Nat) (s : State) : State :=
  match s.matchId p link src with
  | none => s
  | some h =>
    let own := match s.trans line with
      | some t => t.wait.any fun w => match w with | .req r => r.hid == h | _ => false
      | none => false
    let waiting := (s.hport p).waiting.any fun r => r.hid == h && r.m.line == line
    if (s.openSnoop line h).isSome && (own || waiting) then
      (s.dirCount 6 1).sendResp p (.ndr p tag 4 0 (s.devLoad p (s.ident h).tenant))
    else s

/-! ### Dynamic Capacity (R202 to R208, R232) -/

/-- R204: the region tag. -/
def State.regionTag (s : State) (rgn : Nat) : Nat := rgn + 65536 * s.ownNode

/-- Why an add is refused: 0 accepted, 1 ACCESS, 2 TAG, 3 HOLDER, 4 PORT_HELD. -/
def State.dcAddStat (s : State) (h base count tag : Nat) : Nat :=
  let i := s.ident h
  let flit256 := (s.hport i.port).link0.flit == 2 || (s.hport i.port).link1.flit == 2
  match s.boundAt base with
  | none => 1
  | some (rg, r) =>
    if !i.valid then 1
    else if (s.hport i.port).hold ≠ .run then 4
    else if count = 0 ∨ r.base + r.size < base + count ∨ r.passes i.tenant = false then 1
    else if r.ownerOnly then
      let held := s.extents.filter fun e => e.rgn == rg
      if tag ≠ 0 ∧ (!flit256) then 2
      else if (tag = 0 ∧ held.any (fun e => e.hid != h)) ∨ held.any (fun e => e.tag == 0 && e.hid != h) then 3
      else if held.any fun e => e.tag != tag then 2
      else 0
    else if tag ≠ s.regionTag rg ∨ !flit256 then 2
    else 0

/-- INITIATE_DC_ADD: the extent is offered to the LD's host. -/
def State.dcAdd (h base count tag : Nat) (s : State) : State :=
  let st := s.dcAddStat h base count tag
  if st ≠ 0 then (s.setEvt (pgHPORT (s.ident h).port) 10).emit (.fm st [])
  else match s.boundAt base with
    | none => s
    | some (rg, _) =>
      (({ s with extents := s.extents ++ [(⟨h, rg, base, count, tag, true⟩ : Extent)] }).dcRecord h 0 base count tag).emit (.fm 0 [])

/-- ADD_DC_RESPONSE: the host of the LD accepts an offered extent, or part of the offer is left out. -/
def State.dcAccept (h base count : Nat) (accept : Bool) (s : State) : State :=
  let mine := fun (e : Extent) => e.hid == h && e.offered && e.base == base && e.count == count
  if accept then { s with extents := s.extents.map fun e => if mine e then { e with offered := false } else e }
  else { s with extents := s.extents.filter fun e => !mine e }

/-- An identity's holding of some granules ends (R207): its grants there are recalled, and pages of a private or press
region that nobody holds any more are released. -/
def State.dcEnd (h base count : Nat) (s : State) : State :=
  let hit := fun (e : Extent) => e.hid == h && e.base == base && e.count == count
  match s.extents.find? hit with
  | none => s
  | some e =>
    let r := s.rgn e.rgn
    let inX := fun (l : Nat) => base ≤ granuleOfLine l && granuleOfLine l < base + count
    let s1 := { s with extents := s.extents.filter fun e => !hit e }
    let keys := (s1.dir.ents.filter fun x => inX x.1 && s1.holds x.2 h).map (·.1)
    let s2 := keys.foldl (fun s l => s.transStart l .free) s1
    let s3 :=
      if r.ownerOnly then
        (s2.pageKeys.filter fun p => base ≤ granuleOfPage p && granuleOfPage p < base + count
            && !(s2.extents.any fun e => e.base ≤ granuleOfPage p && granuleOfPage p < e.base + e.count)).foldl
          (fun s p => s.updPage p fun x => { x with release := true }) s2
      else s2
    let still := s2.extents.any fun x => x.base < base + count && base < x.base + x.count
    (if r.ownerOnly && !still then s3.leaveCalls (base * 262144) ((base + count) * 262144) else s3).dirTick

/-- INITIATE_DC_RELEASE: a request to the host, or a forced release, performed at once (R207, R232). -/
def State.dcRelease (h base count : Nat) (forced : Bool) (s : State) : State :=
  match s.extents.find? fun e => e.hid == h && e.base == base && e.count == count with
  | none => s.emit (.fm 1 [])
  | some e =>
    let s1 := (s.dcRecord h (if forced then 2 else 1) base count e.tag).emit (.fm 0 [])
    if forced then s1.dcEnd h base count else s1

/-! ### Reading -/

def HLink.word (l : HLink) : Word32 := placeB l.up 0 ||| place l.proto 2 1 ||| place l.flit 2 3 ||| place l.rate 3 8 ||| place l.width 3 12

def HoldState.code : HoldState → Nat
  | .run => 0 | .freeze => 1 | .held => 2 | .releasing => 3

def State.readHport (s : State) (p r : Nat) : Option Word32 :=
  let h := s.hport p
  if r = 0x40 then some (s.reg (ofsOf (pgHPORT p) 0x40) ||| placeB h.retrain 12)
  else if r = 0x44 then some (h.link0.word ||| placeB h.bifurc 16)
  else if r = 0x48 then some (if h.bifurc then h.link1.word else 0#32)
  else if r = 0x50 then some (place h.hold.code 2 0 ||| place h.cause 4 4)
  else if r = 0x60 then
    let t := s.regF (pgHPORT p) 0x5C 6 0
    some (place (mapGet (fun _ => 0) h.load t) 8 0 ||| place (s.devLoad p t) 2 8)
  else if r = 0x64 then some (place h.tagsUsed 10 0 ||| place h.tagPeak 10 16)
  else if r = 0x70 then some (s.reg (ofsOf (pgHPORT p) 0x70) ||| placeB h.viralTx 1 ||| placeB h.viralRx 2)
  else if r = 0x74 then some (placeB h.ideIo 0 ||| place h.ideSel 3 1 ||| placeB h.ideMem 4 ||| placeB h.ideFail 5)
  else if r = 0x84 then
    some (place (if h.lstate = 0 ∧ h.l0p ≠ 0 then 1 else h.lstate) 3 0 ||| place (if h.l0p = 0 then h.link0.width else h.l0p - 1) 3 4
      ||| placeB h.quiesced 8 ||| placeB h.d3cold 9)
  else none

end Sys2Proof.Machine
end

