-- ==== Sys2Proof/Machine/Patterns.lean ====
section
/-!
DEFINITION. Pattern files and the pattern store (ch. 10), and the rack (R436, R438, R455): slots and their owners,
loading, withdrawing, refolding, retiring, availability, persistence.
-/

namespace Sys2Proof.Machine

open Sys2Proof

/-! ### Slots (R461 to R464) -/

def State.pslot (s : State) (n : Nat) : PatSlot := mapGet (fun _ => {}) s.pats.slots n
def State.updSlot (n : Nat) (f : PatSlot → PatSlot) (s : State) : State :=
  { s with pats := { s.pats with slots := mapUpd (fun _ => {}) n f s.pats.slots } }

def psEMPTY : Nat := 0
def psSTAGING : Nat := 1
def psACTIVE : Nat := 2
def psWITHDRAWN : Nat := 3
def psFAULT : Nat := 4

/-- Slots 4,032 to 4,095 hold only COMMON files. -/
def commonSlot (n : Nat) : Bool := 4032 ≤ n

/-- ACTIVE or WITHDRAWN. -/
def PatSlot.held (x : PatSlot) : Bool := x.st == psACTIVE || x.st == psWITHDRAWN

/-- R175: the pattern of a slot is one that tenant `t` may fold with. -/
def State.mayUse (s : State) (n t : Nat) : Bool :=
  if commonSlot n then !(s.ten t).sealed else (s.pslot n).owner == t

/-- R440, R441: loaded, and usable by tenant `t`. -/
def State.foldable (s : State) (n t : Nat) : Bool := (s.pslot n).st == psACTIVE && s.mayUse n t

/-! ### The rack (R436, R438) -/

def State.rackEnt (s : State) (e : Nat) : RackEnt := mapGet (fun _ => {}) s.lanes.rack e
def State.updRack (e : Nat) (f : RackEnt → RackEnt) (s : State) : State :=
  { s with lanes := { s.lanes with rack := mapUpd (fun _ => {}) e f s.lanes.rack } }

/-- The entry that holds, or is being filled with, a slot. -/
def State.rackOf (s : State) (slot : Nat) : Option Nat :=
  (s.lanes.rack.find? fun e => (e.2.valid || e.2.filling) && e.2.slot == slot).map (·.1)

def State.inRack (s : State) (slot : Nat) : Bool := s.lanes.rack.any fun e => e.2.valid && e.2.slot == slot
def State.filling (s : State) : Nat := (s.lanes.rack.filter fun e => e.2.filling).length
def State.pinnedFor (s : State) (slot : Nat) : Bool := s.lanes.rack.any fun e => e.2.valid && e.2.pinned && e.2.slot == slot

/-- R463: the slot's pattern is available for decoding to tenant `t`. -/
def State.available (s : State) (t n : Nat) : Bool :=
  (s.pslot n).held && (if commonSlot n then !(s.ten t).sealed else (s.pslot n).owner == t && (!(s.ten t).sealed || s.pinnedFor n))

/-- The file of an available slot. -/
def State.availFile (s : State) (t n : Nat) : Option (List Byte) := if s.available t n then some (s.pslot n).file else none

/-- An entry a fill may take: a free one, else the least recently used that is neither pinned nor being filled. -/
def State.rackVictim (s : State) : Option Nat :=
  match (List.range 256).find? fun e => !(s.rackEnt e).valid && !(s.rackEnt e).filling with
  | some e => some e
  | none => (s.lanes.rack.foldl (fun (b : Option (Nat × RackEnt)) e =>
      if e.2.pinned || e.2.filling then b
      else match b with
        | none => some e
        | some d => if e.2.used < d.2.used then some e else some d) none).map (·.1)

/-- Start a fill: at most 8 at once; its 384 lines go to the DRAM takes in the share of the waiting work, spread over
the channels that are IN. The answer says whether the fill runs. -/
def State.rackFill (slot owner : Nat) (pin : Bool) (s : State) : Bool × State :=
  match s.rackOf slot with
  | some e => (true, if pin then s.updRack e fun x => { x with pinned := true } else s)
  | none =>
    if 8 ≤ s.filling then (false, s)
    else match s.rackVictim with
      | none => (false, s)
      | some e =>
        let chs := (List.range 16).filter fun c => s.isIn .dram c
        let s1 := s.updRack e fun _ => { slot := slot, filling := true, pinned := pin, used := s.lanes.clock }
        (true, chs.foldl (fun s c => s.chargeSplit gDRAM c 0 owner (384 / chs.length)) { s1 with lanes := { s1.lanes with clock := s1.lanes.clock + 1 } })

/-- The loaded patterns of a tenant in ascending order. -/
def State.loadedOf (s : State) (t : Nat) : List Nat :=
  (s.pats.slots.filter fun e => !commonSlot e.1 && e.2.held && e.2.owner == t).map (·.1)

/-- R438: at the seal of a tenant its loaded patterns are to be pinned, up to RACK_PIN.COUNT. -/
def State.pinTenant (t : Nat) (s : State) : State :=
  { s with lanes := { s.lanes with toPin := s.lanes.toPin ++ (s.loadedOf t).take (s.regF (pgTEN t) 0x50 5 0) } }

/-- At an unseal its pins are released. -/
def State.unpinTenant (t : Nat) (s : State) : State :=
  { s with lanes := { s.lanes with
      toPin := s.lanes.toPin.filter fun n => (s.pslot n).owner != t
      rack := mapAll (fun _ => {}) (fun _ (e : RackEnt) => if !commonSlot e.slot && (s.pslot e.slot).owner == t then { e with pinned := false } else e) s.lanes.rack } }

/-- Bring the patterns to be pinned into the rack, as fills allow. -/
def State.pinStep (s : State) : State :=
  let l := s.lanes.toPin
  l.foldl (fun s n =>
    let (ok, s1) := s.rackFill n (s.pslot n).owner true
    if ok then s1 else { s1 with lanes := { s1.lanes with toPin := s1.lanes.toPin ++ [n] } }) { s with lanes := { s.lanes with toPin := [] } }

/-- A slot's copies leave the lane caches and the rack (R450, R474). -/
def State.dropPattern (rack : Bool) (n : Nat) (s : State) : State :=
  { s with lanes := { s.lanes with
      lanes := mapAll (fun _ => {}) (fun _ (l : Lane) => { l with cache := l.cache.filter (· != n) }) s.lanes.lanes
      toPin := if rack then s.lanes.toPin.filter (· != n) else s.lanes.toPin
      rack := if rack then mapAll (fun _ => {}) (fun _ (e : RackEnt) => if e.slot = n then {} else e) s.lanes.rack else s.lanes.rack } }

/-! ### The file (R459, R460) -/

def patFileLen : Nat := 17068

/-- A little-endian field of the file. -/
def fileField (f : List Byte) (ofs n : Nat) : Nat := leNat ((f.drop ofs).take n)

def fileUid (f : List Byte) : Nat := fileField f 0x10 8
def fileCrc (f : List Byte) : Nat := fileField f 0x4240 4
def fileCommon (f : List Byte) : Bool := (fileField f 0x0A 2).testBit 0
def fileKey (f : List Byte) : Nat := fileField f 0x4248 4

/-- FORMAT: every fixed field as the table gives it, reserved fields 0. "JGBPATRN" as a little-endian number. -/
def fileFormatOk (f : List Byte) : Bool :=
  f.length == patFileLen && fileField f 0 8 == 0x4E52544150_42474A && fileField f 8 2 == 1 && fileField f 0x0A 2 < 2
  && fileField f 0x0C 4 == 17068 && fileField f 0x18 2 == 1024 && fileField f 0x1A 2 == 16 && fileField f 0x1C 2 == 1
  && fileField f 0x2A 22 == 0 && fileField f 0x4244 2 == 1 && fileField f 0x4246 2 == 96

/-- SIGNATURE: the key is permitted for the file's kind and the signature verifies (R460). -/
def fileSigOk (f : List Byte) : Bool :=
  (if fileKey f = 0 then fileCommon f else !fileCommon f && (Config.patSigner (fileKey f)).isSome) && Config.patSignatureOk f

/-! ### Status codes (Table — Command status codes) -/

def pcOK : Nat := 0
def pcFORMAT : Nat := 1
def pcCRC : Nat := 2
def pcSIGNATURE : Nat := 3
def pcOWNER : Nat := 4
def pcTABLE : Nat := 5
def pcKIND : Nat := 6
def pcDUPLICATE : Nat := 7
def pcPINLIMIT : Nat := 8
def pcSLOTBUSY : Nat := 9
def pcSTATE : Nat := 10
def pcREFS : Nat := 11
def pcNOTREADY : Nat := 12

/-- R467, R470: the first check that a staged file fails; 0 where it passes all. -/
def State.validate (s : State) (slot owner : Nat) (repair : Bool) (f : List Byte) (past : Bool) : Nat :=
  let lens := codeLens (patTable f)
  let mask := if fileKey f = 0 then 2 ^ 128 - 1 else (Config.patSigner (fileKey f)).getD 0
  let dup := s.pats.slots.any fun e => e.1 != slot && e.2.st != psEMPTY && e.2.st != psSTAGING && e.2.uid == fileUid f
    && commonSlot e.1 == commonSlot slot && (commonSlot slot || e.2.owner == owner)
  if past || !fileFormatOk f then pcFORMAT
  else if crcA (f.take 0x4240) ≠ fileCrc f then pcCRC
  else if !fileSigOk f then pcSIGNATURE
  else if !commonSlot slot && !mask.testBit owner then pcOWNER
  else if !tableValid lens then pcTABLE
  else if fileCommon f != commonSlot slot then pcKIND
  else if dup || (repair && (fileUid f != (s.pslot slot).uid || fileCrc f != (s.pslot slot).crc)) then pcDUPLICATE
  else if !commonSlot slot && (s.ten owner).sealed && s.regF (pgTEN owner) 0x50 5 0 ≤ (s.loadedOf owner).length then pcPINLIMIT
  else pcOK

/-! ### References (R464) -/

/-- Pattern named by a page's stored form or completed fold output. -/
def PageRec.patRef (r : PageRec) : Option Nat :=
  match r.done with
  | some (.foldOut f) => if f.raw then none else some f.pat
  | _ => if r.hasSlips || r.st == .shelved || r.st == .fetching || r.st == .shelving then
      (match r.stored with | some f => if f.raw then none else some f.pat | none => none)
    else none

/-- Pages whose header names a slot. -/
def State.pageRefs (s : State) (n : Nat) : Nat := (s.tier.pages.filter fun e => e.2.patRef == some n).length

/-! ### Commands (R465 to R474, R485) -/

def State.patStat (c : Nat) (s : State) : State := { s with pats := { s.pats with stat := c } }
def State.patIdx (s : State) : Nat := s.regF pgPAT 0x44 11 0
def State.patBusy (s : State) : Bool := s.pats.install.isSome || !s.pats.cmds.isEmpty

/-- Close the staging buffer: the slot returns to `st`. -/
def State.closeStaging (slot st : Nat) (s : State) : State :=
  (({ s with pats := { s.pats with staging := none, staged := [], past := false, install := none } }).updSlot slot fun x =>
    if st = psEMPTY then {} else { x with st := st })

/-- BEGIN or REPAIR. -/
def State.patOpen (repair : Bool) (s : State) : State :=
  let n := s.patIdx
  let x := s.pslot n
  if !s.sys.memActive then s.patStat pcNOTREADY
  else if s.pats.staging.isSome then s.patStat pcSLOTBUSY
  else if !repair && (x.st == psSTAGING || x.held) then s.patStat pcSLOTBUSY
  else if repair != (x.st == psFAULT) then s.patStat pcSTATE
  else
    let owner := if repair then x.owner else s.regF pgPAT 0x44 22 16
    let s1 := { s with pats := { s.pats with staging := some (n, repair, owner), staged := [], past := false, stat := pcOK } }
    s1.updSlot n fun x => { x with st := psSTAGING, preStage := x.st, owner := if commonSlot n then x.owner else owner }

/-- ABORT: the slot returns to its state before BEGIN. -/
def State.patAbortOp (s : State) : State :=
  if !s.sys.memActive then s.patStat pcNOTREADY
  else match s.pats.staging with
  | none => s.patStat pcSTATE
  | some (n, _, _) => if n ≠ s.patIdx then s.patStat pcSTATE else (s.closeStaging n (s.pslot n).preStage).patStat pcOK

/-- COMMIT: validation, and the wait for installation. -/
def State.patCommitOp (s : State) : State :=
  if !s.sys.memActive then s.patStat pcNOTREADY
  else match s.pats.staging with
  | none => s.patStat pcSTATE
  | some (n, rep, owner) =>
    if n ≠ s.patIdx then s.patStat pcSTATE
    else
      let c := s.validate n owner rep s.pats.staged s.pats.past
      if c = pcOK then { s with pats := { s.pats with install := some s.frame.num, stat := pcOK } }
      else ((s.closeStaging n (s.pslot n).preStage).setEvt pgPAT 1).patStat c

/-- WITHDRAW, RETIRE and REFOLD wait for step 2 (R471, R474, R479). -/
def State.patLater (op : Nat) (s : State) : State :=
  if !s.sys.memActive then s.patStat pcNOTREADY
  else { s with pats := { s.pats with cmds := s.pats.cmds ++ [(op, s.patIdx)] } }

/-- A write of PAT_CMD.OP: one written while BUSY is discarded. -/
def State.patCommand (op : Nat) (s : State) : State :=
  if s.patBusy then s
  else if op = 1 then s.patOpen false
  else if op = 2 then s.patCommitOp
  else if op = 3 then s.patAbortOp
  else if op = 7 then s.patOpen true
  else if op = 4 ∨ op = 5 ∨ op = 6 then s.patLater op
  else s

/-- LOAD_DATA: four more staged bytes (R466). -/
def State.loadData (w : Word32) (s : State) : State :=
  if s.pats.staging.isNone || s.pats.install.isSome then s
  else if patFileLen ≤ s.pats.staged.length then { s with pats := { s.pats with past := true } }
  else { s with pats := { s.pats with staged := s.pats.staged ++ leBytes 4 w.toNat } }

/-- Whether a node keeps persistent copies (R475, R476). -/
def State.markDirty (n : Nat) (s : State) : State :=
  s.updSlot n fun x => { x with dirty := if s.pats.hasStore then some s.frame.num else none, persisted := false, failed := 0 }

/-- PATTERN_INSTALL: the validated file is installed at a step 2 after its validation (R467, R469, R470). -/
def State.patInstall (s : State) : State :=
  match s.pats.staging, s.pats.install with
  | some (n, rep, owner), some f =>
    if s.frame.num = f then s
    else
      let file := s.pats.staged
      let s1 := { s with pats := { s.pats with staging := none, staged := [], past := false, install := none } }
      let s2 := s1.updSlot n fun x => { x with
        st := if rep then (if x.preFault = psWITHDRAWN then psWITHDRAWN else psACTIVE) else psACTIVE
        file := file, owner := if commonSlot n then 0 else owner, uid := fileUid file, crc := fileCrc file
        refold := rep && x.refold }
      let s3 := if !commonSlot n && (s.ten owner).sealed then { s2 with lanes := { s2.lanes with toPin := s2.lanes.toPin ++ [n] } } else s2
      ((s3.pinStep).setEvt pgPAT 0).markDirty n
  | _, _ => s

/-- WITHDRAW takes effect: selections that name the slot are cleared (R471), lane caches drop it (R450). -/
def State.withdrawApply (n : Nat) (s : State) : State :=
  if (s.pslot n).st ≠ psACTIVE then s.patStat pcSTATE
  else
    let hit := fun (w : Word32) (lo : Nat) => field w (lo + 11) lo == n && bitOf w (lo + 15)
    let any := (s.tenants.any fun e => hit e.2.foldPat 0 || hit e.2.foldPat 16) || (field s.lanes.commonDef 11 0 == n && bitOf s.lanes.commonDef 15)
    let clear := fun (w : Word32) => (if hit w 0 then w &&& ~~~(bit32 15) else w) &&& (if hit w 16 then ~~~(bit32 31) else 0xFFFFFFFF#32)
    let s1 := { s with
      tenants := mapAll (fun _ => {}) (fun _ (t : Tenant) => { t with foldPat := clear t.foldPat }) s.tenants
      lanes := { s.lanes with commonDef := if field s.lanes.commonDef 11 0 = n then s.lanes.commonDef &&& ~~~(bit32 15) else s.lanes.commonDef } }
    let s2 := ((s1.updSlot n fun x => { x with st := psWITHDRAWN }).dropPattern false n).markDirty n
    (if any then s2.setEvt pgPAT 2 else s2).patStat pcOK

/-- RETIRE takes effect (R474). `refs` counts pages and benches. -/
def State.retireApply (refs : Nat) (n : Nat) (s : State) : State :=
  let x := s.pslot n
  if x.st ≠ psWITHDRAWN ∧ x.st ≠ psFAULT then s.patStat pcSTATE
  else if refs ≠ 0 then s.patStat pcREFS
  else
    let s1 := (s.updSlot n fun _ => {}).dropPattern true n
    (({ s1 with pats := { s1.pats with store := mapPut (fun _ => {}) n {} s1.pats.store } }).setEvt pgPAT 3).patStat pcOK

/-- REFOLD takes effect (R473). -/
def State.refoldApply (n : Nat) (s : State) : State :=
  if (s.pslot n).st = psWITHDRAWN then (s.updSlot n fun x => { x with refold := true }).patStat pcOK else s.patStat pcSTATE

/-- The pattern commands of step 2, in order. -/
def State.patStep (refs : State → Nat → Nat) (s : State) : State :=
  let l := s.pats.cmds
  l.foldl (fun s c =>
    if c.1 = 4 then s.withdrawApply c.2 else if c.1 = 5 then s.retireApply (refs s c.2) c.2 else s.refoldApply c.2)
    { s with pats := { s.pats with cmds := [] } }

/-- Pages whose pattern carries a refold mark (R473). -/
def State.markRefolds (s : State) : State :=
  let marked := s.pats.slots.filterMap fun e => if e.2.refold && e.2.st == psWITHDRAWN then some e.1 else none
  if marked.isEmpty then s
  else forEach s.pageKeys (fun p s =>
    match (s.page p).patRef with
    | some n => if n ∈ marked then s.updPage p fun r => { r with refold := true } else s
    | none => s) s

/-! ### Faults and persistence (R455, R476, R482, R483) -/

/-- A damaged slot: restored from a valid persistent copy, else in FAULT. -/
def State.slotDamaged (n : Nat) (copyOk : Bool) (s : State) : State :=
  let r := mapGet (fun _ => ({} : PatRec)) s.pats.store n
  if copyOk && r.file.length == patFileLen then
    (s.updSlot n fun x => { x with file := r.file }).logE 0x0705 0 (if commonSlot n then none else some (s.pslot n).owner) pgPAT 0 [n]
  else
    ((((s.updSlot n fun x => { x with st := psFAULT, preFault := x.st }).dropPattern true n).setEvt pgPAT 4).logE 0x0706 3
      (if commonSlot n then none else some (s.pslot n).owner) pgPAT 0 [n]).markDirty n

/-- RACK_FILL_DONE: `ok` a read of the slot, the first or its retry, was good; else R455 and R482, `copyOk` saying whether
a persistent copy verifies. -/
def State.rackFillDone (slot : Nat) (ok copyOk : Bool) (s : State) : State :=
  match s.lanes.rack.find? fun e => e.2.filling && e.2.slot == slot with
  | none => s
  | some (e, _) =>
    if ok then s.updRack e fun x => { x with filling := false, valid := true }
    else
      let failW := fun (w : LaneWork) => if w.missed && w.pat == some slot then { w with failed := true } else w
      let s1 := { s with lanes := { s.lanes with
        rack := mapPut (fun _ => {}) e {} s.lanes.rack
        lanes := mapAll (fun _ => {}) (fun _ (l : Lane) => { l with queue := l.queue.map failW }) s.lanes.lanes } }
      (s1.setEvt pgPAT 24).slotDamaged slot copyOk

/-- PATTERN_PERSIST of a slot's record (R476, R483): `ok` both copies were written; `target` names the shelf target of
the copy that failed. -/
def State.patPersist (n : Nat) (ok : Bool) (target : Nat) (s : State) : State :=
  let x := s.pslot n
  if x.dirty.isNone || !s.pats.hasStore then s
  else if ok then
    let s1 := s.updSlot n fun x => { x with dirty := none, persisted := true, failed := 0 }
    { s1 with pats := { s1.pats with
        seq := s1.pats.seq + 1
        store := mapPut (fun _ => {}) n { st := x.st, owner := x.owner, file := x.file, seq := s1.pats.seq + 1 } s1.pats.store } }
  else
    let s1 := s.updSlot n fun x => { x with failed := x.failed + 1 }
    if x.failed + 1 = 8 then (s1.setEvt pgPAT 5).retireAdvice 5 0 target pgPAT else s1

/-- R484, R477 at start-up: `bad` lists the slots whose record does not verify. -/
def State.patRestore (bad : List Nat) (s : State) : State :=
  let recs := s.pats.store
  let s1 := recs.foldl (fun s e =>
    if e.1 ∈ bad then s.logE 0x0707 3 none pgPAT 0 [e.1]
    else if e.2.st = psACTIVE then
      s.updSlot e.1 fun _ => { st := psACTIVE, owner := e.2.owner, file := e.2.file, uid := fileUid e.2.file, crc := fileCrc e.2.file, persisted := true }
    else s) s
  (List.range 64).foldl (fun s k =>
    match Config.commonFile (4032 + k) with
    | some f => s.updSlot (4032 + k) fun _ => { st := psACTIVE, file := f, uid := fileUid f, crc := fileCrc f }
    | none => s) s1

/-! ### Selections (R439, R441) -/

/-- FOLD_PAT_WRITE of tenant `t`. -/
def State.foldPatWrite (t : Nat) (w : Word32) (s : State) : State :=
  let ok := (!bitOf w 15 || s.foldable (field w 11 0) t) && (!bitOf w 31 || s.foldable (field w 27 16) t)
  if ok then s.updTen t fun x => { x with foldPat := w &&& 0x8FFF8FFF#32 } else s.setEvt pgPAT 23

/-- COMMON_DEF_WRITE. -/
def State.commonDefWrite (w : Word32) (s : State) : State :=
  if bitOf w 15 && !(commonSlot (field w 11 0) && (s.pslot (field w 11 0)).st == psACTIVE) then s.setEvt pgPAT 23
  else { s with lanes := { s.lanes with commonDef := w &&& 0x8FFF#32 } }

/-- The pattern a fold of a page of owner `t` would use (R439); none where nothing is chosen. -/
def State.chosen (s : State) (p t : Nat) : Option Nat :=
  let w := (s.ten t).foldPat
  let weight := s.pageKind p == some kPress
  let en := if weight then bitOf w 31 else bitOf w 15
  if en then some (if weight then field w 27 16 else field w 11 0)
  else if !(s.ten t).sealed && bitOf s.lanes.commonDef 15 then some (field s.lanes.commonDef 11 0)
  else none

/-! ### Reading -/

/-- Registers 0x040 to 0x06C of the PAT page; `refs` counts the references of the selected slot. -/
def State.readStore (s : State) (refs : Nat) (r : Nat) : Option Word32 :=
  let n := s.patIdx
  let x := s.pslot n
  if r = 0x40 then some (place (s.pats.slots.filter fun e => e.2.held).length 13 0 ||| placeB s.pats.hasStore 16)
  else if r = 0x48 then some (placeB s.patBusy 4 ||| place s.pats.stat 4 8)
  else if r = 0x50 then some (place s.pats.staged.length 15 0)
  else if r = 0x54 then some (place x.st 3 0 ||| placeB (commonSlot n && x.st != psEMPTY) 3 ||| placeB x.persisted 4 ||| placeB x.refold 5
      ||| place (if commonSlot n then 0 else x.owner) 7 8)
  else if r = 0x58 then some (word32 (min refs (2 ^ 32 - 1)) 0)
  else if r = 0x5C then some (word32 x.uid 0)
  else if r = 0x60 then some (word32 x.uid 1)
  else if r = 0x64 then some (if x.st = psEMPTY ∨ x.st = psSTAGING then 0#32 else place (fileField x.file 0x28 2) 16 0 ||| place (fileField x.file 0x1E 2) 4 16)
  else if r = 0x6C then
    let t := s.regF pgPAT 0x68 6 0
    some (place (s.pats.slots.filter fun e => !commonSlot e.1 && e.2.st != psEMPTY && e.2.owner == t).length 13 0)
  else none

end Sys2Proof.Machine
end

