-- ==== Sys2Proof/Machine/Lanes.lean ====
section
/-!
DEFINITION. Folder lanes and the hamper queues (ch. 09): dispatch, starts and their charges, completions with the decode
outcomes of ch. 08, faults, and lane work that a cue, a segment or a press asks for in place.
-/

namespace Sys2Proof.Machine

open Sys2Proof

def State.lane (s : State) (n : Nat) : Lane := mapGet (fun _ => {}) s.lanes.lanes n
def State.updLane (n : Nat) (f : Lane → Lane) (s : State) : State :=
  { s with lanes := { s.lanes with lanes := mapUpd (fun _ => {}) n f s.lanes.lanes } }

/-- LANE_CNT counts (LANE_CNT_SEL). -/
def State.laneCount (lane sel n : Nat) (s : State) : State := s.bump (ofsOf pgPAT 0x114) (lane * 16 + sel) n
/-- CHK_CNT counts (CHK_SEL). -/
def State.chkCount (sel : Nat) (s : State) : State := s.bump (ofsOf pgPAT 0x208) sel 1

/-- Owner code of a piece of lane work (R424). -/
def State.workCode (s : State) (w : LaneWork) : Nat :=
  if (s.ten w.owner).sealed then w.owner else if w.cls = 19 then ownMnt else ownOpen

/-! ### The hamper (R433 to R435, R449) -/

/-- Part of a hamper a piece of work uses beside the escrow: a sealed partition or the common part (128). -/
def State.partOf (s : State) (w : LaneWork) : Nat := if (s.ten w.owner).sealed then w.owner else 128

/-- Units of a part, of 64 in all: a sealed tenant's partition, the escrow of 16 KiB (129), the rest. -/
def State.partSize (s : State) (part : Nat) : Nat :=
  if part = 129 then 4
  else if part < 128 then s.regF (pgTEN part) 0x54 6 0 / 4
  else 60 - s.sealedList.foldl (fun n t => n + s.regF (pgTEN t) 0x54 6 0 / 4) 0

/-- Units of a part in use on a lane. -/
def State.partUsed (s : State) (l : Lane) (part : Nat) : Nat :=
  let held := fun (w : LaneWork) => if part = 129 then w.escU else if s.partOf w = part then w.partU else 0
  l.queue.foldl (fun n w => n + held w) 0 + l.busy.foldl (fun n w => n + held w.2) 0 + (l.outs.filter fun o => o.2 == part).length

/-- Free units that a piece of work may take on a lane: of the escrow, and of its part. -/
def State.freeFor (s : State) (w : LaneWork) (n : Nat) : Nat × Nat :=
  let l := s.lane n
  let part := s.partOf w
  (if w.cls = 17 ∧ part = 128 then s.partSize 129 - s.partUsed l 129 else 0, s.partSize part - s.partUsed l part)

/-- Lanes a piece may go to: those that are IN other than the one that faulted under it; where no other is IN, that lane
while IN or in DRAIN (R131). -/
def State.lanesFor (s : State) (w : LaneWork) : List Nat :=
  let inn := (List.range 64).filter fun n => s.isIn .lane n && w.excl != some n
  if !inn.isEmpty then inn
  else match w.excl with
    | some n => if (s.unit .lane n).st = .inn ∨ (s.unit .lane n).st = .drain then [n] else []
    | none => []

/-- R425: the lane with the most free space for `units`, the lowest number among equals. -/
def State.pickLane (s : State) (w : LaneWork) (units : Nat) : Option Nat :=
  ((s.lanesFor w).foldl (fun (b : Option (Nat × Nat)) n =>
    let f := s.freeFor w n
    let free := f.1 + f.2
    if free < units then b
    else match b with
      | none => some (n, free)
      | some d => if d.2 < free then some (n, free) else some d) none).map (·.1)

/-! ### Dispatch (R425, R435) -/

/-- Put a piece on a lane, its input read from DRAM: a page's 64 lines, or the lines of its slips. -/
def State.dispatch (w : LaneWork) (n : Nat) (s : State) : State :=
  let f := s.freeFor w n
  let e := min 2 f.1
  let r := s.page w.page
  let o := s.workCode w
  let s1 := s.updLane n fun l => { l with queue := l.queue ++ [{ w with escU := e, partU := 2 - e }] }
  if w.kind = .fold then s1.chargeSplit gDRAM (s.frameChan w.page) 0 o 64
  else if w.kind = .fetched then s1
  else s1.chargeSplit gDRAM (r.slipCh.getD 0) 0 o (4 * r.slips)

/-- PAGE_DISPATCH: the oldest waiting piece for which some lane has room. -/
def State.pageDispatch (s : State) : State :=
  match s.lanes.waiting.find? fun w => (s.pickLane w 2).isSome with
  | none => s
  | some w =>
    match s.pickLane w 2 with
    | none => s
    | some n => ({ s with lanes := { s.lanes with waiting := s.lanes.waiting.erase w } }).dispatch w n

/-! ### Starting a page (R424, R426, R428, R430, R440) -/

/-- Lane cycles of the open slots of a lane in this frame. -/
def State.openCycles (s : State) (n : Nat) : Nat := s.codeShare gLANE n 0 ownOpen

/-- A class is below its guaranteed share (R353). -/
def State.belowLane (s : State) (n c : Nat) : Bool := (s.clsRun c).laneUsed < (s.cls c).lane * s.openCycles n / 64

/-- R353, then R352: the next piece of open work on a lane. -/
def State.nextOpen (s : State) (n : Nat) (l : List LaneWork) : Option LaneWork :=
  let below := l.filter fun w => s.belowLane n w.cls
  let l1 := if below.isEmpty then l else below
  let top := l1.foldl (fun m w => max m (s.clsRun w.cls).step) 0
  let l2 := l1.filter fun w => (s.clsRun w.cls).step == top
  let cr := fun (c : Nat) => mapGet (fun _ => 0) (s.lane n).credit c
  match l2.find? fun w => 0 < cr w.cls with
  | some w => some w
  | none => l2.head?

/-- One grant of the weighted round (R352). -/
def State.grantRound (n c : Nat) (s : State) : State :=
  s.updLane n fun l =>
    let have' := mapGet (fun _ => 0) l.credit c
    if 0 < have' then { l with credit := mapPut (fun _ => 0) c (have' - 1) l.credit }
    else { l with credit := (List.range 20).foldl (fun m k => mapPut (fun _ => 0) k ((s.cls k).weight - (if k = c then 1 else 0)) m) [] }

/-- The work of an owner code that a lane would start next. -/
def State.nextWork (s : State) (n code : Nat) : Option LaneWork :=
  let mine := (s.lane n).queue.filter fun w => s.workCode w == code && !(w.missed && !w.failed && (match w.pat with | some p => !s.inRack p | none => false))
  if code = ownOpen then s.nextOpen n mine else mine.head?

/-- The pattern case of a piece at its start: the pattern, whether a decode's is available, and (for a fold) that R440
refused. -/
def State.patternCase (s : State) (w : LaneWork) : Option Nat × Bool × Bool :=
  let o := (s.pageOwner w.page).getD w.owner
  if w.failed then (none, false, w.kind == .fold)
  else if w.kind = .fold then
    match s.chosen w.page o with
    | some p => if s.foldable p o then (some p, true, false) else (none, true, true)
    | none => (none, true, true)
  else match (s.page w.page).stored with
    | some f => if f.raw then (none, true, false) else if s.available o f.pat then (some f.pat, true, false) else (none, false, false)
    | none => (none, true, false)

/-- Touch or fill a lane cache entry (R437). -/
def Lane.useCache (l : Lane) (p : Nat) : Lane := { l with cache := (l.cache.filter (· != p) ++ [p]).drop (if p ∈ l.cache then 0 else l.cache.length - 3) }

/-- A piece as it starts, its case fixed: its charge, and the fill cycles it spends beside its base cycles (R428 to R430). -/
def LaneWork.starts (w : LaneWork) (pat : Option Nat) (avail isSealed cached : Bool) : LaneWork :=
  { w with
    pat := pat
    avail := avail
    charge := if isSealed then 390 else if cached && !w.missed then 342 else if w.missed then 486 else 390
    extra := (if isSealed || !cached then 48 else 0) + (if w.missed && !w.failed then 96 else 0) }

/-- A waiting piece of a lane becomes the one in progress of an owner code. -/
def State.toBusy (n code : Nat) (w : LaneWork) (s : State) : State :=
  s.updLane n fun l => { l with queue := l.queue.filter (fun x => x.id != w.id), busy := l.busy ++ [(code, w)] }

/-- The lane cache holds the pattern used, most recently used. -/
def State.usePattern (n : Nat) (pat : Option Nat) (s : State) : State :=
  match pat with
  | some p => s.updLane n fun l => l.useCache p
  | none => s

/-- The rack entry of the pattern used is the most recently used. -/
def State.useRack (pat : Option Nat) (s : State) : State :=
  match pat.bind s.rackOf with
  | some e => ({ s with lanes := { s.lanes with clock := s.lanes.clock + 1 } }).updRack e fun x => { x with used := s.lanes.clock }
  | none => s

/-- A lane starts a piece whose case is fixed. -/
def State.startPage (n code : Nat) (w : LaneWork) (cached refused : Bool) (s : State) : State :=
  let s2 := (s.toBusy n code w).usePattern n w.pat
  let s3 := if cached then s2 else s2.laneCount n 3 1
  let s4 := if w.missed then s3.laneCount n 4 1 else s3
  let s5 := if refused then (s4.laneCount n 8 1).setEvt pgPAT 22 else s4
  let s6 := if code = ownOpen then (s5.grantRound n w.cls).updRun w.cls fun r => { r with laneUsed := r.laneUsed + w.charge } else s5
  (s6.useRack w.pat).chargeSplit gLANE n 0 code w.charge

/-- R436: a piece whose pattern misses the rack waits where it is. -/
def State.waitFill (n code : Nat) (w : LaneWork) (pat : Option Nat) (s : State) : State :=
  (s.rackFill (pat.getD 0) code false).2.updLane n fun l =>
    { l with queue := l.queue.map fun x => if x.id = w.id then { x with missed := true, pat := pat } else x }

/-- LANE_PAGE_START: lane `n` starts the next page of an owner code, or starts the rack fill that it waits on. -/
def State.lanePageStart (n code : Nat) (s : State) : State :=
  if (s.lane n).busy.any (fun b => b.1 == code) || !s.isIn .lane n || !s.fits gLANE n 0 code 1 then s
  else match s.nextWork n code with
  | none => s
  | some w =>
    let (pat, avail, refused) := s.patternCase w
    let cached := pat.all fun p => decide (p ∈ (s.lane n).cache)
    let racked := pat.all s.inRack
    if !cached && !racked then s.waitFill n code w pat
    else s.startPage n code (w.starts pat avail (s.ten w.owner).sealed cached) cached refused

/-! ### Decisions on decoded data (R405 to R407, R412) -/

/-- Log and count the decision on a stored page, once per page and reel (R407). `lane` is 64 + press for an operand
unfolder. -/
def State.decided (p lane : Nat) (d : DecodeOut) (s : State) : State :=
  let ten := s.pageOwner p
  let s0 := s.chkCount 0
  let once := fun (k : Nat) (f : State → State) (s : State) =>
    if 2 * p + k ∈ s.lanes.logged then s else f { s with lanes := { s.lanes with logged := (2 * p + k) :: s.lanes.logged } }
  match d.outcome with
  | .good => s0
  | .checkA => once 0 (fun s => s.logE 0x0701 1 ten pgPAT (4096 * p) [0, lane]) ((s0.chkCount 1).setEvt pgPAT 16)
  | .checkB => once 0 (fun s => s.logE 0x0701 1 ten pgPAT (4096 * p) [1, lane]) ((s0.chkCount 2).setEvt pgPAT 16)
  | o =>
    let s1 := if o = .checks then s0.chkCount 3 else if o = .uncorrectable then s0 else s0.chkCount 4
    let s2 := s1.setEvt pgPAT 17
    let s3 := if o = .noPattern then ({ s2 with lanes := { s2.lanes with missSlot := d.pat } }).setEvt pgPAT 19 else s2
    let row := if o = .uncorrectable then 1 else if o = .checks then 5 else 2
    let s4 := once 1 (fun s => s.logE 0x0702 2 ten pgPAT (4096 * p) [row, d.pat]) s3
    forEach (List.range 64) (fun k s => s.plistAdd (64 * p + k)) s4

/-- A decode of a stored page: the environment's flips and errors, the decision, and the rewrite it makes due (R406). -/
def State.decodePage (p lane : Nat) (avail : Bool) (ue : Bool) (flips : List (Nat × Byte)) (s : State) : DecodeOut × State :=
  let st := ((s.page p).stored).getD (rawForm (List.replicate 4096 0#8) 0)
  let st1 := { st with bytes := flipBytes st.bytes flips }
  let d := decodeStored (ue || st1.bytes.isEmpty) (fun n => if avail then some (s.pslot n).file else none) st1
  let s1 := s.updPage p fun r => { r with stored := r.stored.map fun _ => st1 }
  let s2 := s1.decided p lane d
  let onSlips := (s.page p).st = .folded ∨ (s.page p).st = .unfolding
  let s3 := if (d.outcome = .checkA ∨ d.outcome = .checkB) ∧ onSlips ∧ lane < 64 then
      s2.updPage p fun r => { r with fix := some (rewriteCheck (d.outcome == .checkB) d.bytes d.mask st1) }
    else s2
  (d, s3)

/-- CHECK_REWRITE at step 2: a FOLDED page's check is rewritten by a class MNT write of its owner; where the slips have
gone it is abandoned (R406, R415 to R417). -/
def State.checkRewrites (s : State) : State :=
  forEach s.pageKeys (fun p s =>
    let r := s.page p
    match r.fix with
    | none => s
    | some f =>
      let o := (s.pageOwner p).getD 0
      if r.st = .folded ∨ r.st = .unfolding then
        (s.updPage p fun r => { r with stored := some f, fix := none }).chargeSplit gDRAM (r.slipCh.getD 0) 0 (if (s.ten o).sealed then o else ownMnt) 1
      else s.updPage p fun r => { r with fix := none }) s

/-- R412: a segment is refused. -/
def State.wireRefused (fport : Nat) (host : Bool) (e : Nat × Nat) (s : State) : State :=
  let s1 := ({ s with lanes := { s.lanes with wireErr := (e.1, if host then 0 else fport, host, e.2) } }).setEvt pgPAT 18
  let s2 := s1.chkCount 6
  -- R421: from a link, after its replay, a sender fault
  if host then s2 else s2.logE 0x0703 3 none pgPAT 0 [fport, e.1]

/-! ### Finishing a page (R429, R431) -/

/-- Cycles beyond the charge: paid now, or the page has overrun. The Bool says that the page can finish. -/
def State.payLane (n code : Nat) (w : LaneWork) (actual : Nat) (s : State) : Bool × State :=
  if w.overran || actual ≤ w.charge then (true, s)
  else
    let need := actual - w.charge
    let have' := s.availOf gLANE n 0 code
    if need ≤ have' then (true, s.charge gLANE n 0 code need)
    else
      let s1 := (s.charge gLANE n 0 code have').overrun gLANE n code (need - have')
      (false, (s1.updLane n fun l => { l with busy := l.busy.map fun b => if b.2.id = w.id then (b.1, { b.2 with overran := true }) else b }).laneCount n 5 1)

/-- The piece leaves the lane; where its result waits for a consumer its output unit stays in use. -/
def State.leaveLane (n : Nat) (w : LaneWork) (waits : Bool) (s : State) : State :=
  let part := if w.escU = 2 then 129 else s.partOf w
  s.updLane n fun l => { l with busy := l.busy.filter (fun b => b.2.id != w.id), outs := if waits then l.outs ++ [(w.page, part)] else l.outs }

/-- Output units whose data has been taken are free again (R433). -/
def State.freeOuts (s : State) : State :=
  { s with lanes := { s.lanes with lanes := mapAll (fun _ => {}) (fun _ (l : Lane) => { l with outs := l.outs.filter fun o => (s.page o.1).done.isSome }) s.lanes.lanes } }

/-- A finished fold. -/
def State.finishFold (n : Nat) (w : LaneWork) (s : State) : State :=
  let p := w.page
  let pat := w.pat.map fun k => (k, (s.pslot k).file)
  let f := foldPage pat (s.readPage p) (s.pagePoison p)
  let s1 := (s.laneCount n 1 1).leaveLane n w true
  let s2 := if f.form.raw then s1.chkCount 7 else s1
  let s3 := if f.form.raw && w.pat.isSome then s2.laneCount n 6 1 else s2
  let s4 := { s3 with daily := { s3.daily with acc := { s3.daily.acc with folds := satAdd 32 s3.daily.acc.folds 1 } } }
  if (s.page p).st = .folding then s4.updPage p fun r => { r with done := some (.foldOut f.form) } else s4

/-- A finished decode, its lines delivered to whoever waits (R403); a promotion takes it as its output (R98, R447). -/
def State.finishDecode (n : Nat) (w : LaneWork) (d : DecodeOut) (s : State) : State :=
  let p := w.page
  let r := s.page p
  let keep := r.st == .unfolding || r.st == .fetching || ((r.st == .folded || r.st == .shelved) && r.lift)
  let s1 := (s.laneCount n 0 1).leaveLane n w keep
  let s2 := { s1 with daily := { s1.daily with acc := { s1.daily.acc with unfolds := satAdd 32 s1.daily.acc.unfolds 1 } } }
  let s3 := if keep then s2.updPage p fun r => { r with done := some (.decoded d.bytes d.mask) } else s2
  s3.deliverReads p d.bytes d.mask

/-- LANE_PAGE_DONE: lane `n` finishes the page in progress of an owner code; `ue` and `flips` are what storage did to the
stored form. -/
def State.lanePageDone (n code : Nat) (ue : Bool) (flips : List (Nat × Byte)) (s : State) : State :=
  match (s.lane n).busy.find? fun b => b.1 == code with
  | none => s
  | some (_, w) =>
    if s.carryOf gLANE n 0 code ≠ 0 ∨ mapGet (fun _ => 0) s.slate.ovrNext (useKey gLANE n 0 code) ≠ 0 then s
    else if w.kind = .fold then
      let base := (foldPage (w.pat.map fun k => (k, (s.pslot k).file)) (s.readPage w.page) (s.pagePoison w.page)).base
      let (ok, s1) := s.payLane n code w (base + w.extra)
      if ok then (s1.finishFold n w).laneCount n 2 (base + w.extra) else s1
    else
      let (d, s1) := s.decodePage w.page n w.avail (ue || w.ue) flips
      let (ok, s2) := s1.payLane n code w (d.base + w.extra)
      if ok then ((s2.finishDecode n w d).laneCount n 2 (d.base + w.extra)).dirTick
      else (s.payLane n code w (d.base + w.extra)).2

/-! ### Lane faults (R131, R420, R453, R454) -/

/-- LANE_FAULT of kind 1 shadow, 2 ECC, 3 parity, on the page in progress of an owner code. -/
def State.laneFault (n code kind : Nat) (s : State) : State :=
  let s1 := (((s.logE 0x0704 0 none pgPAT 0 [n, kind]).setEvt pgPAT 20).laneCount n 7 1).updUnit .lane n fun u => { u with faults := u.faults + 1 }
  let s2 := match (s.lane n).busy.find? fun b => b.1 == code with
    | none => s1
    | some (_, w) =>
      let s2 := (s1.updLane n fun l => { l with busy := l.busy.filter fun b => b.2.id != w.id }).dropCarry gLANE n code
      if w.kind = .fold then s2.updPage w.page fun r => { r with done := some .laneFault, excl := some n }
      else { s2 with lanes := { s2.lanes with waiting := s2.lanes.waiting ++ [{ w with excl := some n, overran := false, missed := false, escU := 0, partU := 0 }] } }
  if (s.unit .lane n).faults + 1 = 2 then (s2.faultDrain .lane n).retireAdvice 6 0x0704 n pgPAT else s2

/-- A lane in DRAIN: its waiting pages are dispatched again (R454). -/
def State.laneDrain (n : Nat) (s : State) : State :=
  if (s.unit .lane n).st = .inn then s
  else
    let q := (s.lane n).queue
    let s1 := s.updLane n fun l => { l with queue := [] }
    { s1 with lanes := { s1.lanes with waiting := s1.lanes.waiting ++ q.map fun w => { w with escU := 0, partU := 0 } } }

/-! ### Lane work in place: cues, segments, operands, sort (R423, R445; log entry 26) -/

/-- One page of work for tenant `t` in a class, done whole on the lane R425 picks: its cycles are charged there; none
where no lane has room (R435). -/
def State.laneServe (t cls actual : Nat) (pat : Option Nat) (fold : Bool) (s : State) : Option State :=
  let w : LaneWork := { id := 0, kind := if fold then .fold else .transient, page := 0, owner := t, cls := cls }
  match s.pickLane w 2 with
  | none => none
  | some n =>
    let code := s.workCode w
    let cached := match pat with | some p => decide (p ∈ (s.lane n).cache) | none => true
    let extra := if cached && !(s.ten t).sealed then 0 else 48
    let s1 := match pat with | some p => s.updLane n fun l => l.useCache p | none => s
    let s2 := if cached then s1 else s1.laneCount n 3 1
    some (((s2.laneCount n (if fold then 1 else 0) 1).laneCount n 2 (actual + extra)).chargeSplit gLANE n 0 code (max actual (if (s.ten t).sealed then 390 else 342)))

/-! ### Reading the lane registers (0x100 to 0x12C, 0x200 to 0x210) -/

def State.readLanes (s : State) (r : Nat) : Option Word32 :=
  let n := s.regF pgPAT 0x100 5 0
  let l := s.lane n
  let occ := (List.range 130).foldl (fun a p => a + s.partUsed l p) 0
  let c : Nat → Word32 := fun k => match l.cache[k]? with | some p => place p 12 0 ||| placeB true 15 | none => 0#32
  let e := s.rackEnt (s.regF pgPAT 0x120 7 0)
  if r = 0x104 then some (place (s.unit .lane n).st.code 3 0 ||| place (min 15 (s.unit .lane n).faults) 4 4 ||| place (4 * occ) 9 16)
  else if r = 0x108 then some (c 0 ||| (c 1 <<< 16))
  else if r = 0x10C then some (c 2 ||| (c 3 <<< 16))
  else if r = 0x11C then some (place (s.lanes.rack.filter fun e => e.2.valid).length 9 0 ||| place (s.lanes.rack.filter fun e => e.2.valid && e.2.pinned).length 9 16
      ||| place s.filling 4 28)
  else if r = 0x124 then some (place e.slot 12 0 ||| placeB e.valid 12 ||| placeB e.pinned 13 ||| placeB (e.valid && commonSlot e.slot) 14
      ||| place (if commonSlot e.slot then 0 else (s.pslot e.slot).owner) 7 16)
  else if r = 0x128 then some s.lanes.commonDef
  else if r = 0x12C then some 16#32
  else if r = 0x200 then some (1#32 ||| place 3828 12 16)
  else if r = 0x20C then
    let x := s.lanes.wireErr
    some (place x.1 3 0 ||| place x.2.1 3 4 ||| placeB x.2.2.1 7 ||| place x.2.2.2 13 16)
  else if r = 0x210 then some (place s.lanes.missSlot 12 0)
  else none

end Sys2Proof.Machine
end

