-- ==== Sys2Proof/Machine/Shelf.lean ====
section
/-!
DEFINITION. The shelf at work (ch. 12): write points, reads with LDPC on demand, sort, retirement, the inventory record,
and its start-up.
-/

namespace Sys2Proof.Machine

open Sys2Proof

def pgSH (c : Nat) : Nat := pgMEDIA (16 + c)
/-- MEDIAn.ERR_CNT counts of a shelf channel (ERR_SEL). -/
def State.shErr (lun sel n : Nat) (s : State) : State := s.bump (ofsOf (pgSH (lunChan lun)) 0x54) sel n

/-- SRET_SEL value of a location (kind 4 locator): a plane, or the whole LUN. -/
def sretLocator (lun plane : Nat) (whole : Bool) : Nat :=
  lunChan lun + (lunTarget lun % 8) * 2 ^ 8 + (lun % 4) * 2 ^ 12 + (if whole then 2 ^ 19 else plane * 2 ^ 16)

/-- Slate owner of a log's writes, and of its sort (Table — Shelf operation owners). -/
def logOwner (log : Nat) (mnt : Bool) : Nat := if log < 128 then log else if mnt then ownMnt else ownOpen

def State.noteLast (lun block : Nat) (s : State) : State :=
  let t := s.shTarget (lunTarget lun)
  { s with shelf := { s.shelf with chans := mapUpd (fun _ => {}) (lunChan lun) (fun (c : ShCh) => { c with last := (lunTarget lun % 8, lun % 4, block % max 1 t.planes, block) }) s.shelf.chans } }

def State.shFlush (s : State) : Nat := s.regF (pgMEDIA 16) 0x100 15 8
def State.suspMax (s : State) : Nat := s.regF (pgMEDIA 16) 0x100 19 16
def State.sortLow (s : State) : Nat := s.regF (pgMEDIA 16) 0x104 7 0
def State.sortHigh (s : State) : Nat := max (s.regF (pgMEDIA 16) 0x104 15 8) s.sortLow
def State.wlSpread (s : State) : Nat := s.regF (pgMEDIA 16) 0x104 31 16
def State.retireLvl (s : State) : Nat := s.regF (pgMEDIA 16) 0x108 3 0

/-! ### Block retirement (R550, R551) -/

/-- Advise a LUN or plane of which more than 2 percent of the blocks are retired. -/
def State.adviseLun (k : Nat) (s : State) : State :=
  let t := s.shTarget (lunTarget k)
  let bad := (List.range t.blocks).filter fun b => (s.shBlock k b).use == 4
  let one := fun (bit plane : Nat) (whole : Bool) (due : Bool) (s : State) =>
    if due && !(s.shLun k).advised.testBit bit then
      ((s.updLun k fun l => { l with advised := l.advised ||| 2 ^ bit }).setEvt (pgSH (lunChan k)) 5).retireAdvice 4 0 (sretLocator k plane whole) (pgSH (lunChan k))
    else s
  let s1 := one 8 0 true (decide (t.blocks * 2 < bad.length * 100)) s
  forEach (List.range t.planes) (fun p s => one p p false (decide (t.bpp * 2 < (bad.filter fun b => b % t.planes == p).length * 100)) s) s1

def State.retireBlock (k b : Nat) (s : State) : State :=
  if (s.shBlock k b).use = 4 then s
  else
    let s1 := (((s.updBlock k b fun x => { x with use := 4 }).shErr k 7 1).setEvt (pgSH (lunChan k)) 3).updLun k fun l => if l.opened = some b then { l with opened := none, nextPg := 0 } else l
    s1.adviseLun k

/-! ### Write points (R538 to R540, R546, R547) -/

/-- The free block of a LUN with the lowest erase count, erased ones first. Sort may take the reserve when nothing else
is free; other work leaves it. -/
def State.nextBlock (s : State) (k : Nat) (sort : Bool) : Option Nat :=
  let free := s.freeBlks k
  if !sort && free.length ≤ s.lunReserve k then none
  else
    (free.foldl (fun (b : Option Nat) x =>
      match b with
      | none => some x
      | some y =>
        let ex := (s.shBlock k x); let ey := (s.shBlock k y)
        if ex.erases < ey.erases then some x else some y) none)

/-- A write point has room for a record. -/
def State.hasRoom (s : State) (k slips : Nat) (sort : Bool) : Bool :=
  s.lunOpen k && (s.shLun k).used + slips ≤ 64 && ((s.shLun k).opened.isSome || (s.nextBlock k sort).isSome)

/-- R538: the write point of a log with room and the most free positions; the lowest target and LUN among equals. -/
def State.writePoint (s : State) (log slips : Nat) (sort : Bool) (okLun : Nat → Bool) : Option Nat :=
  s.lunKeys.foldl (fun (b : Option Nat) k =>
    if s.logOfLun k == log && okLun k && s.hasRoom k slips sort then
      match b with
      | none => some k
      | some d => if (s.shLun k).used < (s.shLun d).used then some k else some d
    else b) none

/-- Put a record in a write point's buffer. -/
def State.bufferRec (k : Nat) (r : ShelfRec) (s : State) : State :=
  let n := s.shelf.serial
  let l := s.shLun k
  let s1 := { s with shelf := { s.shelf with serial := n + 1, recs := mapPut (fun _ => {}) n { r with lun := k, first := l.used, st := 0 } s.shelf.recs } }
  s1.updLun k fun l => { l with buf := l.buf ++ [n], used := l.used + r.slips, oldest := if l.buf.isEmpty then s.frame.num else l.oldest }

/-- Shelves that wait for a write point, in order. -/
def State.placeShelves (s : State) : State :=
  let l := s.shelf.toProg
  l.foldl (fun s w =>
    let r := s.page w.page
    match r.stored with
    | none => s
    | some f =>
      match s.writePoint (s.logOfOwner w.owner) (recSlips f) false (fun _ => true) with
      | none => { s with shelf := { s.shelf with toProg := s.shelf.toProg ++ [w] } }
      | some k => s.bufferRec k { page := w.page, live := true, slips := recSlips f, owner := w.owner, raw := f.raw })
    { s with shelf := { s.shelf with toProg := [] } }

/-- Some record of a log finds no room at any write point (R539, first case). -/
def State.noFit (s : State) (log : Nat) : Bool :=
  s.shelf.toProg.any fun w => s.logOfOwner w.owner == log && (match (s.page w.page).stored with
    | some f => (s.writePoint log (recSlips f) false fun _ => true).isNone
    | none => false)

/-- WRITE_POINT_FLUSH of a LUN: program the buffer as one flash page of its open block. -/
def State.writePointFlush (k : Nat) (s : State) : State :=
  let l := s.shLun k
  let log := s.logOfLun k
  let full := s.noFit log || l.used == 64 || (s.lunKeys.any fun x => s.logOfLun x == log && (s.shLun x).victim.isSome && 47 < l.used)
  if l.buf.isEmpty || l.prog.isSome || l.erasing.isSome || !s.lunOpen k || !(full || s.shFlush ≤ framesSince l.oldest s.frame.num) then s
  else
    match l.opened.orElse fun _ => s.nextBlock k (l.buf.any fun n => (s.shRec n).copyOf.isSome) with
    | none => s.setEvt (pgMEDIA 16) 9
    | some b =>
      let t := s.shTarget (lunTarget k)
      let pg := if l.opened = some b then l.nextPg else 0
      let last := pg + 1 = t.ppb
      let s1 := s.updBlock k b fun x => { x with use := if last then 3 else 2 }
      let s2 := s1.updLun k fun l => { l with prog := some l.buf, progBlk := b, susp := 0, buf := [], used := 0
                                              opened := if last then none else some b, nextPg := if last then 0 else pg + 1 }
      let s3 := l.buf.foldl (fun s n => s.updRec n fun r => { r with st := 1, block := b, pg := pg }) s2
      let o := logOwner log false
      ({ s3 with daily := { s3.daily with acc := { s3.daily.acc with shelfB := s3.daily.acc.shelfB + 16384 } } }).chargeSplit gSHELF (lunChan k) 0 o (16384 + 2048 + 7)

/-- FLASH_PROGRAM_DONE (R539, R544, R559, R561). -/
def State.flashProgramDone (k : Nat) (ok : Bool) (s : State) : State :=
  match (s.shLun k).prog with
  | none => s
  | some ns =>
    let b := (s.shLun k).progBlk
    let s1 := s.updLun k fun l => { l with prog := none }
    if ok then
      ns.foldl (fun s n =>
        let r := s.shRec n
        match r.copyOf with
        | none => (s.updRec n fun r => { r with st := 2 }).updPage r.page fun x => if r.live && x.st == .shelving then { x with done := some .progOk } else x
        | some old =>
          let o := s.shRec old
          if o.live then
            ((s.updRec old fun x => { x with live := false }).updRec n fun x => { x with st := 2, live := true, copyOf := none, fixed := none }).updPage r.page
              fun x => { x with stored := r.fixed.orElse fun _ => x.stored }
          else s.updRec n fun x => { x with st := 2, live := false, copyOf := none }) s1
    else
      let s2 := ((s1.shErr k 4 1).setEvt (pgSH (lunChan k)) 0).noteLast k b
      let s3 := ns.foldl (fun s n =>
        let r := s.shRec n
        let s' := s.updRec n fun x => { x with live := false, copyOf := none }
        if r.copyOf.isNone && r.live then s'.updPage r.page fun x => if x.st == .shelving then { x with done := some .progFail } else x else s') s2
      s3.retireBlock k b

/-! ### Erases (R540, R544) -/

/-- Live records of a block. -/
def State.liveIn (s : State) (k b : Nat) : List (Nat × ShelfRec) :=
  s.shelf.recs.filter fun e => e.2.lun == k && e.2.st == 2 && e.2.block == b && e.2.live && e.2.copyOf.isNone

/-- A read of a block is outstanding. -/
def State.readIn (s : State) (k b : Nat) : Bool :=
  s.shelf.reads.any fun r => (s.shRec r.rec').lun == k && (s.shRec r.rec').block == b

/-- Start an erase on an idle LUN: an emptied victim, or a free block ahead of need. -/
def State.startErase (k : Nat) (s : State) : State :=
  let l := s.shLun k
  if l.prog.isSome || l.erasing.isSome || !s.lunOpen k then s
  else
    let emptied := match l.victim with
      | some b => if (s.liveIn k b).isEmpty && !s.readIn k b then some b else none
      | none => none
    let ahead := if 2 ≤ (s.blocksIn k fun u => u == 1).length then none
      else (s.blocksIn k fun u => u == 0).foldl (fun (b : Option Nat) x => match b with
        | none => some x
        | some y => if (s.shBlock k x).erases < (s.shBlock k y).erases then some x else some y) none
    match emptied with
    | some b =>
      let s1 := s.updLun k fun l => { l with victim := none }
      if (s.shBlock k b).use = 4 then s1
      else (s1.updLun k fun l => { l with erasing := some b, susp := 0 }).chargeSplit gSHELF (lunChan k) 0 (logOwner (s.logOfLun k) false) 5
    | none => match ahead with
      | some b => (s.updLun k fun l => { l with erasing := some b, susp := 0 }).chargeSplit gSHELF (lunChan k) 0 (logOwner (s.logOfLun k) false) 5
      | none => s

/-- FLASH_ERASE_DONE. -/
def State.flashEraseDone (k : Nat) (ok : Bool) (s : State) : State :=
  match (s.shLun k).erasing with
  | none => s
  | some b =>
    let s1 := s.updLun k fun l => { l with erasing := none }
    let s2 := { s1 with shelf := { s1.shelf with recs := s1.shelf.recs.filter fun e => !(e.2.lun == k && e.2.st == 2 && e.2.block == b) } }
    if ok then s2.updBlock k b fun x => { x with use := 1, erases := x.erases + 1 }
    else (((s2.shErr k 5 1).setEvt (pgSH (lunChan k)) 1).noteLast k b).retireBlock k b

/-! ### Reads (R530, R531, R541, R542, R557, R560) -/

/-- Hand a fetched record to the lanes. -/
def State.fetchedTo (page owner cls : Nat) (ue : Bool) (s : State) : State :=
  s.submitLane { id := 0, kind := .fetched, page := page, owner := owner, cls := cls, ue := ue }

/-- FLASH_READ_ISSUE of the waiting read of a page. -/
def State.flashReadIssue (page : Nat) (s : State) : State :=
  match s.shelf.toRead.find? fun w => w.page == page with
  | none => s
  | some w =>
    let s0 := { s with shelf := { s.shelf with toRead := s.shelf.toRead.erase w } }
    match s.recOf page with
    | none => s0.fetchedTo page w.owner w.cls true
    | some (n, r) =>
      let l := s.shLun r.lun
      let o := s.ownerCode w.owner
      let planes := max 1 (s.shTarget (lunTarget r.lun)).planes
      if r.damaged || l.fault || (s.unit .shelf (lunChan r.lun)).st == .out then s0.fetchedTo page w.owner w.cls true
      else if s.shelf.reads.any (fun x => (s.shRec x.rec').lun == r.lun && (s.shRec x.rec').block % planes == r.block % planes) then s
      else
        let busy := l.prog.isSome || l.erasing.isSome
        let can := !busy || ((s.shTarget (lunTarget r.lun)).suspend && l.susp < s.suspMax)
        if !can || !s.fits gSHELF (lunChan r.lun) 0 o 7 then s
        else
          let s1 := s0.charge gSHELF (lunChan r.lun) 0 o 7
          let s2 := if busy then (s1.updLun r.lun fun l => { l with susp := l.susp + 1 }).shErr r.lun 6 1 else s1
          { s2 with shelf := { s2.shelf with reads := s2.shelf.reads ++ [{ page := page, owner := w.owner, cls := w.cls, transient := w.transient, rec' := n, since := s.frame.num }] } }

/-- FLASH_READ_DONE: the array read of a page's record is over. `good` says that the first decision is good; else the
codewords are fetched and corrected, by hard decision (`level` 0), at a retry level 1 to 8, or not at all (9). -/
def State.flashReadDone (page : Nat) (good : Bool) (level : Nat) (s : State) : State :=
  match s.shelf.reads.find? fun r => r.page == page with
  | none => s
  | some w =>
    let r := s.shRec w.rec'
    let o := s.ownerCode w.owner
    let ch := lunChan r.lun
    let s1 := ({ s with shelf := { s.shelf with reads := s.shelf.reads.erase w } }).chargeSplit gSHELF ch 0 o (256 * r.slips + 4)
    let s1 := { s1 with daily := { s1.daily with acc := { s1.daily.acc with shelfB := s1.daily.acc.shelfB + 256 * r.slips } } }
    if good then s1.fetchedTo page w.owner w.cls r.damaged
    else
      let cw := (r.first + r.slips - 1) / 16 - r.first / 16 + 1
      let s2 := ((s1.chargeSplit gSHELF ch 0 o (cw * (4 + 4096 + 4 + 352))).shErr r.lun 0 1).noteLast r.lun r.block
      let s3 := if 0 < level then s2.shErr r.lun 2 (min level 8) else s2
      let s4 := if level < 9 then s3.shErr r.lun 1 cw else (s3.shErr r.lun 3 1).setEvt (pgSH ch) 2
      let s5 := if (s.shBlock r.lun r.block).logged then s4
        else (s4.updBlock r.lun r.block fun b => { b with logged := true }).logE 0x0901 0 (some w.owner) (pgSH ch) 0 [ch, lunTarget r.lun, r.block]
      let s6 := if s.retireLvl ≤ level then s5.retireBlock r.lun r.block else s5
      s6.fetchedTo page w.owner w.cls (level == 9 || r.damaged)

/-! ### Sort (R543 to R545, R549, R550, R553, R564) -/

/-- A location that must be emptied: a retired plane, or a channel in DRAIN. -/
def State.mustLeave (s : State) (k b : Nat) : Bool := s.planeGone k b || (s.unit .shelf (lunChan k)).st == .drain

/-- Full blocks of a LUN. -/
def State.fullBlocks (s : State) (k : Nat) : List Nat :=
  (List.range (s.shTarget (lunTarget k)).blocks).filter fun b => (s.shBlock k b).use == 3

def State.blockLive (s : State) (k b : Nat) : Nat := (s.liveIn k b).foldl (fun n e => n + e.2.slips) 0

/-- Choose a LUN's next victim. -/
def State.pickVictim (k : Nat) (s : State) : State :=
  let l := s.shLun k
  if l.victim.isSome || l.fault then s
  else
    let blocks := List.range (s.shTarget (lunTarget k)).blocks
    let retired := blocks.find? fun b => (s.shBlock k b).use == 4 && !(s.liveIn k b).isEmpty
    let leave := blocks.find? fun b => s.mustLeave k b && !(s.liveIn k b).isEmpty
    let full := s.fullBlocks k
    let least := full.foldl (fun (b : Option Nat) x => match b with
      | none => some x
      | some y =>
        let lx := s.blockLive k x; let ly := s.blockLive k y
        if lx < ly ∨ (lx = ly ∧ (s.shBlock k x).erases < (s.shBlock k y).erases) then some x else some y) none
    let es := blocks.map fun b => (s.shBlock k b).erases
    let spread := es.foldl max 0 - es.foldl min (es.headD 0)
    let cold := full.foldl (fun (b : Option Nat) x => match b with
      | none => some x
      | some y => if (s.shBlock k x).erases < (s.shBlock k y).erases then some x else some y) none
    let wl := s.wlSpread < spread && !l.wlDone && cold.isSome
    match (retired.orElse fun _ => leave) with
    | some b => s.updLun k fun l => { l with victim := some b }
    | none =>
      if wl then s.updLun k fun l => { l with victim := cold, wlDone := true }
      else if l.sorting then s.updLun k fun l => { l with victim := least }
      else s

/-- Each frame: sort starts and stops, victims are chosen, erases start, stalls are shown (R543, R547). -/
def State.shelfStep (s : State) : State :=
  let s1 := forEach s.lunKeys (fun k s =>
    let free := (s.freeBlks k).length - s.lunReserve k
    let l := s.shLun k
    let sorting := if free < s.sortLow then true else if s.sortHigh ≤ free then false else l.sorting
    ((s.updLun k fun l => { l with sorting := sorting }).pickVictim k).startErase k) s
  let stalled := (128 :: s1.sealedList).any fun g =>
    (s1.lunKeys.any fun k => s1.logOfLun k == g) && !s1.logAdmits g 1 && s1.tier.pages.any fun e => e.2.st == .folded && s1.logOfOwner ((s1.pageOwner e.1).getD 0) == g
  if stalled then s1.setEvt (pgMEDIA 16) 9 else s1

/-- SORT_RELOCATE: the next live record of a LUN's victim is read, decided and buffered for a write point of its log. -/
def State.sortRelocate (k : Nat) (ue : Bool) (flips : List (Nat × Byte)) (s : State) : State :=
  match (s.shLun k).victim with
  | none => s
  | some b =>
    let moving := fun (n : Nat) => s.shelf.recs.any fun e => e.2.copyOf == some n
    match (s.liveIn k b).find? fun e => !moving e.1 with
    | none => s
    | some (n, r) =>
      let log := s.logOfOwner r.owner
      let leaving := s.mustLeave k b
      match s.writePoint log r.slips true (fun x => !leaving || !(x == k || (s.unit .shelf (lunChan x)).st == .drain)) with
      | none => s
      | some dst =>
        match s.laneServe r.owner 19 400 none false with
        | none => s
        | some s1 =>
          let o := logOwner log true
          let lane := (s.pickLane { id := 0, kind := .transient, page := 0, owner := r.owner, cls := 19 } 2).getD 0
          let (d, s2) := (s1.chargeSplit gSHELF (lunChan k) 0 o (7 + 256 * r.slips + 4)).decodePage r.page lane true (ue || r.damaged) flips
          let fixed := if d.outcome = .checkA ∨ d.outcome = .checkB then ((s2.page r.page).stored).map (rewriteCheck (d.outcome == .checkB) d.bytes d.mask) else none
          s2.bufferRec dst { page := r.page, live := false, slips := r.slips, owner := r.owner, raw := r.raw, damaged := d.outcome.damaged, copyOf := some n, fixed := fixed }

/-! ### Faults (R551, R563) -/

/-- Everything on some LUNs is lost to its readers; what was being written there is abandoned. -/
def State.loseLuns (p : Nat → Bool) (s : State) : State :=
  let hit := s.shelf.recs.filter fun e => p e.2.lun
  let s1 := hit.foldl (fun s e =>
    if e.2.st = 2 then s.updRec e.1 fun r => { r with damaged := true }
    else if e.2.copyOf.isSome then s.updRec e.1 fun r => { r with live := false, copyOf := none }
    else if e.2.live then (s.updRec e.1 fun r => { r with live := false }).updPage e.2.page fun x => if x.st == .shelving then { x with done := some .progFail } else x
    else s) s
  let gone := s1.shelf.reads.filter fun r => p (s1.shRec r.rec').lun
  let s2 := { s1 with shelf := { s1.shelf with
    reads := s1.shelf.reads.filter fun r => !p (s1.shRec r.rec').lun
    luns := mapAll (fun _ => {}) (fun k (l : ShLun) => if p k then { l with prog := none, erasing := none, buf := [], used := 0 } else l) s1.shelf.luns } }
  gone.foldl (fun s r => s.fetchedTo r.page r.owner r.cls true) s2

/-- LUN_TIMEOUT. -/
def State.lunTimeout (k : Nat) (s : State) : State :=
  if (s.shLun k).fault || k ∉ s.lunKeys then s
  else
    let ch := lunChan k
    let s1 := (((s.loseLuns (· == k)).updLun k fun l => { l with fault := true }).setEvt (pgSH ch) 4).logE 0x0902 3 none (pgSH ch) 0 [ch, lunTarget k, k % 4]
    s1.retireAdvice 4 0x0902 (sretLocator k 0 true) (pgSH ch)

/-- SCH_FATAL. -/
def State.schFatal (ch : Nat) (s : State) : State :=
  if (s.unit .shelf ch).st = .out then s
  else ((((s.loseLuns fun k => lunChan k == ch).fatalOut .shelf ch).recalcShelf).setEvt (pgSH ch) 6).logE 0x0903 3 none (pgSH ch) 0 [ch]

/-! ### Software retirement (R552, R553) -/

/-- LUN and planes of an SRET_SEL value. -/
def State.sretLoc (s : State) (w : Word32) : Nat × Nat :=
  let k := 4 * (8 * field w 4 0 + field w 10 8) + field w 13 12
  (k, if bitOf w 19 then 2 ^ (s.shTarget (lunTarget k)).planes - 1 else 2 ^ field w 18 16)

def State.retirePlanes (k m : Nat) (s : State) : State :=
  (s.updLun k fun l => { l with retPlanes := l.retPlanes ||| m, opened := match l.opened with
    | some b => if m.testBit (b % max 1 (s.shTarget (lunTarget k)).planes) then none else some b
    | none => none }).recalcShelf

/-- R552: why a RETIRE is refused: 1 BAD_FIELD, 2 DUPLICATE, 3 CAPACITY, 4 NOT_READY; 0 accepted. -/
def State.sretStatOf (s : State) (w : Word32) : Nat :=
  let (k, m) := s.sretLoc w
  let t := s.shTarget (lunTarget k)
  let bad := w &&& 0xFFF0C8E0#32 != 0#32 || !t.used || t.luns ≤ k % 4 || t.planes ≤ (if bitOf w 19 then 0 else field w 18 16)
  let s1 := s.retirePlanes k m
  let log := s.logOfLun k
  if bad then 1
  else if (s.shLun k).retPlanes &&& m = m then 2
  else if s1.bindMax < s1.boundGranules ∨ (log < 128 ∧ s1.usable (fun x => s1.logOfLun x == log) * (100 - s1.opPct) < s1.liveSlips log * 25600) then 3
  else if !s.sys.memActive then 4 else 0

/-- SRET_RETIRE waits for step 2. -/
def State.sretRetire (s : State) : State :=
  if s.shelf.sretCmd.isSome then s else { s with shelf := { s.shelf with sretCmd := some (s.reg (ofsOf (pgMEDIA 16) 0x11C)) } }

/-- SRET_READ: status of the selected location is shown in SRET_STAT. -/
def State.sretRead (s : State) : State :=
  if s.shelf.sretCmd.isSome then s
  else
    let w := s.reg (ofsOf (pgMEDIA 16) 0x11C)
    let (k, _) := s.sretLoc w
    { s with shelf := { s.shelf with sretStat := if (s.shTarget (lunTarget k)).used && k % 4 < (s.shTarget (lunTarget k)).luns then 0 else 1 } }

/-- A waiting RETIRE at step 2. -/
def State.sretStep (s : State) : State :=
  match s.shelf.sretCmd with
  | none => s
  | some w =>
    let st := s.sretStatOf w
    let s1 := { s with shelf := { s.shelf with sretCmd := none, sretStat := st } }
    if st ≠ 0 then s1
    else
      let (k, m) := s.sretLoc w
      let s2 := s1.retirePlanes k m
      -- a persistent copy there moves to another target
      if lunTarget k ∈ s.shelf.copies then
        let other := s2.shelf.targets.find? fun e => e.2.used && e.1 ∉ s.shelf.copies && !(s.shelf.copies.any fun c => c != lunTarget k && c / 8 == e.1 / 8) && (s2.shLun (4 * e.1)).retPlanes == 0
        { s2 with shelf := { s2.shelf with copies := (s2.shelf.copies.filter (· != lunTarget k)) ++ (other.map (·.1)).toList } }
      else s2

/-- Live records, buffered or on flash, on retired planes of a LUN. -/
def State.onPlanes (s : State) (k m : Nat) : Bool :=
  s.shelf.recs.any fun e => e.2.lun == k && e.2.st == 2 && (e.2.live || e.2.copyOf.isSome) && m.testBit (e.2.block % max 1 (s.shTarget (lunTarget k)).planes)

/-- SRET_DONE of a LUN: its retired planes hold no live record. -/
def State.sretDone (k : Nat) (s : State) : State :=
  let l := s.shLun k
  let due := l.retPlanes &&& (255 ^^^ l.retDone)
  if due ≠ 0 ∧ !s.onPlanes k due then (s.updLun k fun l => { l with retDone := l.retPlanes }).setEvt (pgMEDIA 16) 10 else s

/-! ### The inventory record (R556, R565) -/

/-- INVENTORY_WRITE: due every SCENES scenes, and at OFF. -/
def State.inventoryWrite (ok : Bool) (target : Nat) (s : State) : State :=
  if s.shelf.invScenes < s.regF (pgMEDIA 16) 0x128 15 0 ∧ s.shelf.invFailed = 0 then s
  else if ok then
    let inv : Inventory := {
      seq := s.shelf.inv.seq + 1
      blocks := mapAll (fun _ => {}) (fun _ (b : ShBlock) => ({ use := if b.use = 4 then 4 else 0, erases := b.erases } : ShBlock)) s.shelf.blocks
      planes := (s.shelf.luns.filter fun e => e.2.retPlanes != 0).map fun e => (e.1, e.2.retPlanes) }
    { s with shelf := { s.shelf with invScenes := 0, invFailed := 0, inv := inv } }
  else
    let n := s.shelf.invFailed + 1
    let s1 := { s with shelf := { s.shelf with invFailed := n } }
    if n = 8 then (s1.setEvt (pgMEDIA 16) 11).retireAdvice 5 0 target (pgMEDIA 16) else s1

/-! ### Start-up (R526 to R529, R554, R566) -/

/-- Class of a target: 1 A, 2 B, 0 neither (Table — Supported flash). -/
def FlashPar.cls (p : FlashPar) : Nat :=
  let both := p.main == 16384 && 2048 ≤ p.spare && 256 ≤ p.ppb && p.ppb ≤ 4096 && 1 ≤ p.luns && p.luns ≤ 4 && 1 ≤ p.planes && p.planes ≤ 6
    && 8 ≤ p.retry && 800 ≤ p.rate
  if both && p.tR ≤ 30 && p.tProg ≤ 200 && p.tBers ≤ 5 && p.suspend && p.fastSuspend then 1
  else if both && p.tR ≤ 600 && p.tProg ≤ 2000 && p.tBers ≤ 20 then 2 else 0

def FlashPar.meets (p : FlashPar) (c : Nat) : Bool := p.cls == c || (c == 2 && p.cls == 1)

/-- Raw bytes of a target, in units of 16 KiB pages. -/
def FlashPar.pages (p : FlashPar) : Nat := p.luns * p.planes * p.bpp * p.ppb

/-- SHELF_INVENTORY: classes, capacity limit, rates, inventory record, persistent copies, S. -/
def State.shelfInventory (l : List FlashPar) (s : State) : State :=
  let ps := sortBy (fun (a b : FlashPar) => a.target ≤ b.target) l
  let c := match ps.head? with | some p => p.cls | none => 0
  let limit := (if c = 1 then 64 else 256) * 2 ^ 26
  let (s1, _) := ps.foldl (fun (a : State × Nat) p =>
    let s := a.1
    let fits := c != 0 && p.meets c && a.2 + p.pages ≤ limit
    let s1 := if c != 0 && p.meets c then s else s.setEvt (pgSH (p.target / 8)) 7
    let t : ShTarget := { luns := p.luns, planes := p.planes, ppb := p.ppb, bpp := p.bpp, cls := p.cls, rate := min 3600 p.rate, suspend := p.suspend, used := fits }
    let s2 := { s1 with shelf := { s1.shelf with targets := mapPut (fun _ => {}) p.target t s1.shelf.targets } }
    let s3 := p.bad.foldl (fun s x => s.updBlock (4 * p.target + x.1) x.2 fun b => { b with use := 4 }) s2
    (s3, if fits then a.2 + p.pages else a.2)) ({ s with shelf := { s.shelf with cls := c } }, 0)
  let s2 := forEach (List.range 32) (fun ch s =>
    let used := s.shelf.targets.filter fun e => e.1 / 8 == ch && e.2.used
    match used.head? with
    | none => s
    | some e =>
      let r := used.foldl (fun m x => min m x.2.rate) e.2.rate
      ({ s with shelf := { s.shelf with chans := mapPut (fun _ => {}) ch { rate := r } s.shelf.chans } }).updUnit .shelf ch fun u => { u with st := .inn }) s1
  let s3 := { s2 with shelf := { s2.shelf with
    blocks := s.shelf.inv.blocks.foldl (fun m (e : Nat × ShBlock) => mapUpd (fun _ => {}) e.1 (fun (b : ShBlock) => { b with erases := e.2.erases, use := if e.2.use = 4 then 4 else b.use }) m) s2.shelf.blocks
    luns := s.shelf.inv.planes.foldl (fun m (e : Nat × Nat) => mapUpd (fun _ => {}) e.1 (fun (x : ShLun) => { x with retPlanes := e.2, retDone := e.2 }) m) s2.shelf.luns } }
  let used : List (Nat × ShTarget) := s3.shelf.targets.filter fun e => e.2.used
  let a := used.head?
  let b := match a with | some x => used.find? fun e => e.1 / 8 != x.1 / 8 | none => none
  match a, b with
  | some x, some y =>
    -- two copies of 4,096 slots of 24 KiB and the inventory record (the number of blocks is the model's, log entry 27)
    let put : State → Nat × ShTarget → State := fun s e =>
      let need := (4096 * 24 / 16 + e.2.ppb - 1) / e.2.ppb + 1
      let good := ((List.range e.2.blocks).filter fun b => (s.shBlock (4 * e.1) b).use != 4).take need
      good.foldl (fun s b => s.updBlock (4 * e.1) b fun z => { z with use := 5 }) s
    let s4 := put (put s3 x) y
    ({ s4 with shelf := { s4.shelf with copies := [x.1, y.1] }, pats := { s4.pats with hasStore := true } }).recalcShelf
  | _, _ => ({ s3 with pats := { s3.pats with hasStore := false } }).recalcShelf

/-! ### Reading the shelf pages -/

def State.readShelf (s : State) (ch r : Nat) : Option Word32 :=
  let tg := s.shelf.targets.filter fun e => e.1 / 8 == ch
  let mask := fun (p : Nat × ShTarget → Bool) => tg.foldl (fun m e => if p e then m ||| 2 ^ (e.1 % 8) else m) 0
  let c := mapGet (fun _ => ({} : ShCh)) s.shelf.chans ch
  let log := s.regF (pgMEDIA 16) 0x10C 7 0
  let w := s.reg (ofsOf (pgMEDIA 16) 0x11C)
  if r = 0x40 then some (place (s.unit .shelf ch).st.code 3 0 ||| place (if tg.any (fun e => e.2.used) then s.shelf.cls else 0) 2 4 ||| place c.rate 16 16)
  else if r = 0x44 then some (place (mask fun _ => true) 8 0 ||| place (mask fun e => e.2.used) 8 8
      ||| place (mask fun e => (List.range 4).any fun u => (s.shLun (4 * e.1 + u)).fault) 8 16)
  else if r = 0x48 then some (place (tg.foldl (fun n e => if e.2.used then n + e.2.luns * e.2.blocks * e.2.ppb else n) 0 / 65536) 16 0)
  else if r = 0x58 then some (place c.last.1 3 0 ||| place c.last.2.1 2 4 ||| place c.last.2.2.1 3 8 ||| place c.last.2.2.2 16 16)
  else if ch ≠ 0 then none
  else if r = 0x110 then some (place (s.usable (fun k => s.logOfLun k == log) * (100 - s.opPct) / 100 / 2 ^ 30) 19 0)
  else if r = 0x114 then some (place ((s.liveSlips log * 256 + 2 ^ 30 - 1) / 2 ^ 30) 19 0)
  else if r = 0x118 then some (place (s.lunKeys.foldl (fun n k => if s.logOfLun k == log then n + ((s.freeBlks k).length - s.lunReserve k) else n) 0) 24 0)
  else if r = 0x120 then some (placeB s.shelf.sretCmd.isSome 4 ||| place s.shelf.sretStat 4 8)
  else if r = 0x124 then
    let (k, m) := s.sretLoc w
    let ret := (s.shLun k).retPlanes &&& m == m
    some (placeB (ret && !s.onPlanes k m) 0 ||| placeB (ret && s.onPlanes k m) 1)
  else if r = 0x12C then some (word32 s.shelf.inv.seq 0)
  else none

end Sys2Proof.Machine
end

