-- ==== Sys2Proof/Machine/DevAccess.lean ====
section
/-!
DEFINITION. Accesses of the part's own engines to DPA, line by line (R305, R581, R663): what a cue, a press, a lay or a
collective does to read or write a line, and the buffer its lines and acknowledgements arrive in.
-/

namespace Sys2Proof.Machine

open Sys2Proof

/-- A line that decodes as good. -/
def goodEnv : ReadEnv := { dec := .good, loc := ⟨0, 0, 0, 0, 0, 0, 0, 0⟩ }

/-- What a line decodes as, where a command lists exceptions. -/
def envAt (env : List (Nat × ReadEnv)) (line : Nat) : ReadEnv := ((env.find? fun e => e.1 == line).map (·.2)).getD goodEnv

/-- Buffer keys of the engines' work. -/
def cueKey (n : Nat) : Nat := 4 * n + 1
def pressKey (n : Nat) : Nat := 4 * n + 2
def layKey (n : Nat) : Nat := 4 * n + 3
/-- Key 0 is nobody's: what comes for it is discarded. -/
def collKey (n : Nat) : Nat := 4 * n + 4

/-- Host lines are kept in a cue's buffer above every DPA line. -/
def hostOfs : Nat := 2 ^ 50

/-- Charge a device-side access: the tenant's bucket for a cue's (R364), and the directory. -/
def State.payDev (t cls : Nat) (s : State) : State :=
  let s1 := if cls = clsCUE then s.updTen t fun x => x.pay 1 else s
  (s1.chargeSplit gDIR 0 0 (s1.ownerCode t) 1).dirCount 0 1

/-- A device-side access may enter the hub: its bucket covers it and its class has an entry (R357, R365). -/
def State.devAdmits (s : State) (t cls : Nat) : Bool := (cls != clsCUE || (s.ten t).covers 1) && s.placeFor t cls != 0

/-- Start the read of a line that tenant `t` reaches; the answer says whether it started. The line arrives in the buffer
of the key (at once where its page is open). -/
def State.devRead (key line t cls : Nat) (env : ReadEnv) (s : State) : Bool × State :=
  if !s.devAdmits t cls then (false, s)
  else match s.reach t (granuleOfLine line) with
  | none => (false, s)
  | some (_, g) =>
    if g.remote then (true, (s.payDev t cls).remStart { node := g.node, line := line, lines := 1, sten := t, who := .dev key })
    else
      let x := s.deviceReady [line] false
      if x.1 then (true, (x.2.payDev t cls).readFor line t cls env false (.dev key line t cls)) else (false, x.2.dirTick)

/-- Start the write of a line. Its acknowledgement arrives in the buffer under `line + ackOfs`. -/
def State.devWrite (key line t cls : Nat) (data : List Byte) (be : Nat) (poison : Bool) (env : ReadEnv) (s : State) : Bool × State :=
  if !s.devAdmits t cls then (false, s)
  else match s.reach t (granuleOfLine line) with
  | none => (false, s)
  | some (_, g) =>
    if g.remote then
      (true, (s.payDev t cls).remStart { write := true, node := g.node, line := line, lines := 1, sten := t, data := data, be := be, poison := poison, who := .dev key })
    else
      let x := s.deviceReady [line] true
      if x.1 then (true, (x.2.payDev t cls).writeFor line t cls data be poison env false (.dev key line t cls)) else (false, x.2.dirTick)

/-- An entry has arrived in the buffer of a key. -/
def State.arrived (s : State) (key k : Nat) : Bool := (s.bufGet key k).isSome

/-- Drop the entries of a key that `gone` picks. -/
def State.bufPrune (key : Nat) (gone : Nat → Bool) (s : State) : State :=
  { s with fab := { s.fab with buf := s.fab.buf.filter fun e => e.1 != key || !gone e.2.1 } }

/-- Lines of `n` bytes from byte address `a` on. -/
def linesOf (a n : Nat) : List Nat := if n = 0 then [] else (List.range ((a + n - 1) / 64 + 1 - a / 64)).map (a / 64 + ·)

/-- Bytes `a` to `a + n − 1` from the buffer of a key, whose lines all have arrived, with whether any comes from a
poisoned line. -/
def State.bufBytes (s : State) (key ofs a n : Nat) : List Byte × Bool :=
  let ls := (linesOf a n).map fun l => (s.bufGet key (ofs + l)).getD (zeroLine, true)
  ((((ls.map (·.1)).flatten).drop (a % 64)).take n, ls.any (·.2))

/-- A line with some bytes placed from position `p` on, and their byte enables. -/
def placeBytes (p : Nat) (l : List Byte) : List Byte × Nat :=
  ((List.replicate p 0#8 ++ l ++ List.replicate 64 0#8).take 64, (2 ^ l.length - 1) * 2 ^ p)

/-- The bound region that holds `n` bytes from `a` on whole, where tenant `t` reaches it. -/
def State.wholeRegion (s : State) (t a n : Nat) : Option (Nat × Range) :=
  match s.reach t (a / 2 ^ 30) with
  | some (i, g) => if (a + n - 1) / 2 ^ 30 < g.base + g.size then some (i, g) else none
  | none => none

/-- R942: a wake begins from TRIM or IDLE. -/
def State.beginWake (s : State) : State :=
  let g := if s.power.st = 3 then s.power.before else s.power.st
  let w := if s.power.want = some 1 ∨ s.power.want = some 2 then none else s.power.want
  if g = 1 ∨ g = 2 then { s with power := { s.power with wake := s.power.wake.orElse (fun _ => some s.frame.num), want := w } }
  else { s with power := { s.power with want := w } }

/-- A change to TRIM or IDLE waits for jobs and lays to end (R939): new ones wait. -/
def State.powerWaits (s : State) : Bool := s.power.want == some 1 || s.power.want == some 2

/-- The presses are gated (R940). -/
def State.gated (s : State) : Bool := (if s.power.st = 3 then s.power.before else s.power.st) != 0

end Sys2Proof.Machine
end

