-- ==== Sys2Proof/Machine/Cues.lean ====
section
/-!
DEFINITION. Cues (ch. 13): rings and doorbells, the start and validation of a cue, host memory and its tags, and the end of
a cue with its completion record.
-/

namespace Sys2Proof.Machine

open Sys2Proof

/-! ### Rings and running cues -/

def State.ring (s : State) (r : Nat) : Ring := mapGet (fun _ => {}) s.cues.rings r
def State.updRing (r : Nat) (f : Ring → Ring) (s : State) : State :=
  { s with cues := { s.cues with rings := mapUpd (fun _ => {}) r f s.cues.rings } }

def State.run (s : State) (n : Nat) : Option CueRun := (s.cues.runs.find? fun e => e.1 == n).map (·.2)
def State.updRunOf (n : Nat) (f : CueRun → CueRun) (s : State) : State :=
  { s with cues := { s.cues with runs := s.cues.runs.map fun e => if e.1 = n then (n, f e.2) else e } }

/-- Cues of a ring that hold a context (R578). -/
def State.runsOf (s : State) (r : Nat) : List (Nat × CueRun) := s.cues.runs.filter fun e => e.2.ring == r

/-- The partner engine (R608). -/
def partner (e : Nat) : Nat := if e < 16 then e + 16 else e - 16

/-- R567, R608, R848: the engine that serves a ring's next cue: its own while it is IN, else the partner. -/
def State.engOf (s : State) (r : Nat) : Nat :=
  let e := r % 32
  if s.isIn .engine e then e else partner e

/-- R578, R608: contexts of a ring. -/
def State.ctxLimit (s : State) (r : Nat) : Nat :=
  let e := r % 32
  -- R848: cues of the partner's rings that still run on this engine
  let guests := s.cues.runs.any fun c => c.2.ring < 512 && c.2.ring % 32 == partner e && c.2.eng == e
  if s.isIn .engine e && s.isIn .engine (partner e) && !guests then 4 else 2

/-- Count an engine counter (CUE_CNT). -/
def State.cueCount (e sel n : Nat) (s : State) : State := s.bump (ofsOf pgSYS 0x314) (8 * e + sel) n

/-- Port of a function key. -/
def fnPort (k : Nat) : Nat := k / 32

/-- A ring's register window takes a write from a function (R568): it is not bound to another one. -/
def Ring.openTo (r : Ring) (fn : Nat) : Bool := match r.fn with | none => true | some f => f == fn

/-! ### Fields of a cue (R575, R576) -/

def CueRun.num (c : CueRun) (o n : Nat) : Nat := leNat ((c.bytes.drop o).take n)
def CueRun.op (c : CueRun) : Nat := c.num 0 1
def CueRun.flagInt (c : CueRun) : Bool := (c.num 1 1).testBit 0
def CueRun.srcHost (c : CueRun) : Bool := (c.num 4 1).testBit 0
def CueRun.dstHost (c : CueRun) : Bool := (c.num 4 1).testBit 1
def CueRun.cplHost (c : CueRun) : Bool := (c.num 4 1).testBit 2
def CueRun.cpl (c : CueRun) : Nat := c.num 8 8

def opFILL : Nat := 0x01
def opCOPY : Nat := 0x02
def opCOMPARE : Nat := 0x03
def opREDUCE : Nat := 0x04
def opCALL : Nat := 0x10
def opPRESS : Nat := 0x20
def opLAY : Nat := 0x21
def opCOLLECT : Nat := 0x30

/-- MODE of COPY or COMPARE. -/
def CueRun.mode (c : CueRun) : Nat := if c.op = opCOPY then c.num 0x24 1 % 4 else c.num 0x18 1 % 4

/-- Element size of REDUCE's TYPE. -/
def CueRun.elSize (c : CueRun) : Nat := match c.num 0x24 2 / 4096 % 4 with | 0 => 4 | 1 => 2 | 2 => 4 | _ => 8

/-- The bytes at `o .. o + n − 1` are zero. -/
def CueRun.zero (c : CueRun) (o n : Nat) : Bool := c.num o n == 0

/-- A DPA operand: bits [63:48] are 0 (R576). -/
def CueRun.isDpa (c : CueRun) (o : Nat) : Bool := c.num (o + 6) 2 == 0

/-- Validation of the body, field by field in the order of their offsets. -/
def CueRun.bodyChecks (c : CueRun) : List (Nat × Bool) :=
  let o := c.op
  let len32 := fun o => c.num o 4
  if o = opFILL then
    [(0x10, c.isDpa 0x10), (0x18, len32 0x18 != 0), (0x1C, c.zero 0x1C 4), (0x28, c.zero 0x28 24)]
  else if o = opCOPY then
    let m := c.mode
    let a := c.num 0x10 8; let d := c.num 0x18 8
    [ (0x10, (c.srcHost || c.isDpa 0x10) && (m != 1 || a % 4096 == 0) && (m != 2 || a % 8 == 0)),
      (0x18, (c.dstHost || c.isDpa 0x18) && (m != 1 || d % 8 == 0) && (m != 2 || d % 4096 == 0)),
      (0x20, len32 0x20 != 0 && (m != 1 || len32 0x20 % 4096 == 0)),
      (0x24, m != 3 && len32 0x24 == m), (0x28, c.zero 0x28 24) ]
  else if o = opCOMPARE then
    let m := c.mode
    let big := (c.num 0x18 1).testBit 4
    let sz := if big then 16 else 8
    [ (0x10, c.isDpa 0x10 && (m != 2 || c.num 0x10 8 % sz == 0)),
      (0x18, m != 3 && len32 0x18 == m + (if m = 2 ∧ big then 16 else 0)),
      (0x1C, if m = 2 then len32 0x1C == 0 else len32 0x1C != 0) ]
    ++ (if m = 2 then (if big then [] else [(0x28, c.zero 0x28 8), (0x38, c.zero 0x38 8)])
        else [(0x20, c.srcHost || c.isDpa 0x20), (0x28, c.zero 0x28 24)])
  else if o = opREDUCE then
    let w := len32 0x24
    [ (0x10, c.isDpa 0x10 && c.num 0x10 8 % 8 == 0), (0x18, c.isDpa 0x18 && c.num 0x18 8 % c.elSize == 0),
      (0x20, len32 0x20 % c.elSize == 0),
      (0x24, 1 ≤ w % 32 && w % 32 ≤ 16 && w / 32 % 8 == 0 && w / 256 % 4 != 3 && w / 1024 % 4 == 0 && w / 16384 == 0),
      (0x28, c.zero 0x28 24) ]
  else if o = opCALL then [(0x10, (c.srcHost || c.isDpa 0x10) && c.num 0x10 8 % 8 == 0), (0x18, c.zero 0x18 40)]
  else if o = opPRESS then [(0x10, c.isDpa 0x10), (0x18, c.num 0x18 2 == 128), (0x1A, c.zero 0x1A 38)]
  else if o = opLAY then
    let w := len32 0x1C
    [ (0x10, c.isDpa 0x10), (0x1C, w % 512 < 288 && w / 512 % 128 == 0 && w / 2 ^ 26 % 4 == 0 && w / 2 ^ 29 == 0),
      (0x22, c.zero 0x22 30) ]
  else
    [(0x10, c.isDpa 0x10), (0x18, c.isDpa 0x18), (0x26, c.zero 0x26 2), (0x28, c.num 0x28 8 / 2 ^ 38 == 0), (0x30, c.zero 0x30 16)]

/-- Space bits an opcode permits, and those it requires (R576, R587 to R589): allowed SRC_HOST, allowed DST_HOST. -/
def CueRun.spaceOk (c : CueRun) : Bool :=
  let o := c.op
  if o = opCOPY then
    (match c.mode with
     | 0 => !(c.srcHost && c.dstHost)
     | 1 => !c.srcHost && c.dstHost
     | 2 => c.srcHost && !c.dstHost
     | _ => true)
  else if o = opCOMPARE then !c.dstHost && (c.mode != 2 || !c.srcHost)
  else if o = opCALL then !c.dstHost
  else !c.srcHost && !c.dstHost

def opcodes : List Nat := [opFILL, opCOPY, opCOMPARE, opREDUCE, opCALL, opPRESS, opLAY, opCOLLECT]

/-- R577: the byte offset of the first failing field. Bytes that no field of the opcode names count as reserved. -/
def CueRun.badField (c : CueRun) : Option Nat :=
  let head : List (Nat × Bool) :=
    [ (0x00, decide (c.op ∈ opcodes)), (0x01, c.num 1 1 / 8 == 0), (0x04, c.num 4 4 / 8 == 0 && c.spaceOk),
      (0x08, c.cpl % 32 == 0 && (c.cplHost || c.isDpa 0x08)) ]
  ((head ++ c.bodyChecks).find? fun x => !x.2).map (·.1)

/-- Bytes that an EQUAL, FIRST_DIFF, FILL, COPY or REDUCE covers. -/
def CueRun.len (c : CueRun) : Nat :=
  if c.op = opFILL then c.num 0x18 4 else if c.op = opCOMPARE then c.num 0x1C 4 else c.num 0x20 4

/-- CAS operand size. -/
def CueRun.casSize (c : CueRun) : Nat := if (c.num 0x18 1).testBit 4 then 16 else 8

/-- DPA operands of FILL, COPY, COMPARE and REDUCE, with their lengths (an UNFOLD's pages are checked one by one). -/
def CueRun.operands (c : CueRun) : List (Nat × Nat) :=
  let o := c.op
  if o = opFILL then [(c.num 0x10 8, c.len)]
  else if o = opCOPY then
    (if c.srcHost then [] else [(c.num 0x10 8, c.len)]) ++ (if c.dstHost then [] else [(c.num 0x18 8, if c.mode = 2 then 1 else c.len)])
  else if o = opCOMPARE then
    (if c.mode = 2 then [(c.num 0x10 8, c.casSize)] else (c.num 0x10 8, c.len) :: (if c.srcHost then [] else [(c.num 0x20 8, c.len)]))
  else if o = opREDUCE then [(c.num 0x10 8, 8 * (c.num 0x24 1 % 32)), (c.num 0x18 8, c.len)]
  else []

/-! ### The end of a cue (R596, R597) -/

def csOK : Nat := 0
def csBAD : Nat := 1
def csACCESS : Nat := 2
def csHOST : Nat := 3
def csPOISONED : Nat := 4
def csCANCELLED : Nat := 5
def csREJECTED : Nat := 6
def csWIRE : Nat := 7
def csFAULT : Nat := 8
def csDOORBELL : Nat := 9

/-- A ring stops with an error (R597). An error that stopped it before is kept. -/
def State.ringStop (r status idx fn : Nat) (s : State) : State :=
  if 512 ≤ r then s
  else
    (s.updRing r fun x => if x.st = 1 ∨ x.st = 0 then { x with st := if x.st = 0 then 0 else 2, err := status, errIdx := idx } else x).fnCause fn (4 + r % 4)

/-- A result field the spec gives no value for is a free value. -/
def State.resultOf (v : Option Nat) (s : State) : Nat × State :=
  match v with
  | some n => (n, s)
  | none => ((s.draw).1 % 2 ^ 64, (s.draw).2)

/-- A cue ends: status, results and flags are fixed, and its ring stops unless the status is OK (R596 to R598). -/
def State.cueEnd (n status : Nat) (r0 r1 : Option Nat) (s : State) : State :=
  match s.run n with
  | none => s
  | some c =>
    if 2 ≤ c.phase then s
    else
      let a := s.resultOf r0
      let b := a.2.resultOf r1
      let s1 := b.2.updRunOf n fun c => { c with
        phase := 2, status := status, r0 := a.1, r1 := b.1, ended := s.cues.ends, endAt := s.frame.num
        -- reads still outstanding are no longer waited for; writes are
        asked := c.asked.filter fun k => k / ackOfs == 1 }
      let s2 := { s1 with cues := { s1.cues with ends := s1.cues.ends + 1 } }
      if status = csOK then s2
      else (((s2.ringStop c.ring status c.idx c.fn).cueCount c.eng 2 1).cueCount c.eng 3 (if status = csCANCELLED then 1 else 0))

/-- Everything a cue asked for has arrived. -/
def State.cueQuiet (s : State) (n : Nat) (c : CueRun) : Bool := c.asked.all fun k => s.arrived (cueKey n) k

/-- Note that a cue asked for a line or an acknowledgement. -/
def State.cueAsk (n k : Nat) (s : State) : State := s.updRunOf n fun c => { c with asked := c.asked ++ [k] }

/-- Forget arrived acknowledgements, and lines that are not in `keep`. -/
def State.cueSettle (n : Nat) (keep : List Nat) (s : State) : State :=
  let key := cueKey n
  let gone := fun (k : Nat) => s.arrived key k && decide (k ∉ keep)
  (s.updRunOf n fun c => { c with asked := c.asked.filter fun k => !gone k }).bufPrune key gone

/-! ### Host memory (R583 to R586, R211) -/

/-- Tags a ring may hold of its own on a port, and the common ones of its engine (R585, R608). -/
def State.tagsOf (s : State) (e : Nat) : Nat := mapGet (fun _ => 24) s.cues.tags e
def State.tagShare (s : State) (e : Nat) : Nat × Nat :=
  if s.isIn .engine e && s.isIn .engine (partner e) then (s.tagsOf e / 16, s.tagsOf e % 16)
  else let t := s.tagsOf e + s.tagsOf (partner e); (t / 32, t % 32)

/-- Tags a ring holds on a port. -/
def State.tagsHeld (s : State) (p r : Nat) : Nat := (s.cues.reads.filter fun x => x.port == p && x.ring == r).length

/-- A tag is left for a ring of engine `e` on port `p`. -/
def State.tagFree (s : State) (p e r : Nat) (sealed : Bool) : Bool :=
  let sh := s.tagShare e
  if s.tagsHeld p r < sh.1 then true
  else if sealed then false
  else
    let rings := ((s.cues.reads.filter fun x => x.port == p && x.eng == e).map (·.ring)).dedup
    (rings.foldl (fun n r => n + (s.tagsHeld p r - sh.1)) 0) < sh.2

/-- The lowest tag not in use on a port. -/
def State.tagPick (s : State) (p : Nat) : Option Nat := (List.range 768).find? fun t => !s.cues.reads.any fun x => x.port == p && x.tag == t

/-- The port can carry host-memory requests of a function. -/
def State.hostReady (s : State) (fn : Nat) : Bool :=
  let p := fnPort fn
  (s.hport p).hold == .run && ((s.hport p).linkOf (fn / 16 % 2)).up && (s.isIn .hport p || (s.unit .hport p).st == .drain)

/-- Issue a read of one host line for a cue; the answer says whether the cue may go on asking. With Bus Master Enable 0
the cue ends with HOST_ERR (R583). -/
def State.hostAsk (n : Nat) (c : CueRun) (line : Nat) (s : State) : State :=
  let p := fnPort c.fn
  if !(s.fn c.fn).busMaster then s.cueEnd n csHOST (some (64 * line)) none
  else if !s.hostReady c.fn then s
  else if !s.tagFree p c.eng c.ring (s.ten c.tenant).sealed then (s.setEvt (pgHPORT p) 9).cueCount c.eng 5 1
  else if !s.finishes p 0 (s.ownerCode c.tenant) 1 then s
  else match s.tagPick p with
  | none => (s.setEvt (pgHPORT p) 9).cueCount c.eng 5 1
  | some t =>
    let s1 := (s.charge p 0 0 (s.ownerCode c.tenant) 1).updPort p fun h => { h with tagsUsed := h.tagsUsed + 1, tagPeak := max h.tagPeak (h.tagsUsed + 1), reelUse := h.reelUse + 1, idle := 0 }
    let x : HostRead := { port := p, tag := t, ring := c.ring, eng := c.eng, cue := n, line := line, since := s.frame.num }
    let s2 := { s1 with cues := { s1.cues with reads := s1.cues.reads ++ [x] } }
    (s2.cueAsk n (hostOfs + line)).emit (.hostRead p (64 * line) 64 t)

/-- Send posted writes of a cue; false where they cannot go now. -/
def State.hostSend (n : Nat) (c : CueRun) (addr : Nat) (data : List Byte) (poison : Bool) (s : State) : Bool × State :=
  let p := fnPort c.fn
  if !(s.fn c.fn).busMaster then (false, s.cueEnd n csHOST (some addr) none)
  else if !s.hostReady c.fn || s.availOf p 0 0 (s.ownerCode c.tenant) == 0 then (false, s)
  else
    let k := (data.length + 63) / 64
    (true, ((s.chargeSplit p 0 0 (s.ownerCode c.tenant) k).updPort p fun h => { h with reelUse := h.reelUse + k, idle := 0 }).emit (.hostWrite p addr data poison))

/-- A host read ends: its tag returns. -/
def State.hostDone (x : HostRead) (s : State) : State :=
  ({ s with cues := { s.cues with reads := s.cues.reads.filter (· != x) } }).updPort x.port fun h => { h with tagsUsed := h.tagsUsed - 1 }

/-- HOST_READ_COMPLETION (R586, R599). -/
def State.hostCompletion (port tag : Nat) (data : List Byte) (poison error : Bool) (s : State) : State :=
  match s.cues.reads.find? fun x => x.port == port && x.tag == tag with
  | none => s
  | some x =>
    let s1 := s.hostDone x
    if error then (s1.updRunOf x.cue fun c => { c with asked := c.asked.filter (· != hostOfs + x.line) }).cueEnd x.cue csHOST (some (64 * x.line)) none
    else if (s.run x.cue).isSome then s1.bufPut (cueKey x.cue) (hostOfs + x.line) data poison else s1

/-- COMPLETION_TIMEOUT (R212, R586). -/
def State.hostTimeout (port tag : Nat) (s : State) : State := s.hostCompletion port tag [] false true

/-! ### Asking for source lines -/

/-- Owner code of a cue's work. -/
def State.cueOwner (s : State) (c : CueRun) : Nat := s.ownerCode c.tenant

/-- Something is left of the engine's byte take (R579). -/
def State.cueRoom (s : State) (c : CueRun) : Bool := 0 < s.availOf gCUE c.eng 0 (s.cueOwner c) && !s.frame.reseatNow

/-- Charge bytes on the engine. -/
def State.cuePay (c : CueRun) (k : Nat) (s : State) : State := (s.chargeSplit gCUE c.eng 0 (s.cueOwner c) k).cueCount c.eng 1 k

/-- Ask for the lines of `len` bytes from `a` on that have not been asked for; the answer says that all have arrived. An
access check that fails ends the cue with ACCESS (R581, R603). -/
def State.needLines (n : Nat) (host : Bool) (a len : Nat) (env : List (Nat × ReadEnv)) (s : State) : Bool × State :=
  let ofs := if host then hostOfs else 0
  let ls := linesOf a len
  let s1 := ls.foldl (fun (s : State) l =>
    match s.run n with
    | none => s
    | some c =>
      if c.phase ≠ 0 || decide (ofs + l ∈ c.asked) then s
      else if host then s.hostAsk n c l
      else if (s.reach c.tenant (granuleOfLine l)).isNone then s.cueEnd n csACCESS (some (max a (64 * l))) none
      else
        let x := (s.cueAsk n l).devRead (cueKey n) l c.tenant clsCUE (envAt env l)
        if x.1 then x.2 else x.2.updRunOf n fun c => { c with asked := c.asked.filter (· != l) }) s
  (ls.all fun l => s1.arrived (cueKey n) (ofs + l), s1)

/-- Write part of a line for a cue; false where it cannot start now. -/
def State.cueWrite (n : Nat) (c : CueRun) (a : Nat) (data : List Byte) (poison : Bool) (env : List (Nat × ReadEnv)) (s : State) : Bool × State :=
  let l := a / 64
  if (s.reach c.tenant (granuleOfLine l)).isNone then (false, s.cueEnd n csACCESS (some a) none)
  else
    let x := placeBytes (a % 64) data
    let y := (s.cueAsk n (l + ackOfs)).devWrite (cueKey n) l c.tenant clsCUE x.1 x.2 poison (envAt env l)
    if y.1 then y else (false, y.2.updRunOf n fun c => { c with asked := c.asked.filter (· != l + ackOfs) })

/-! ### Starting a cue (R572, R573, R579, R582, R754) -/

/-- The node that backs every DPA operand of a cue, where it has one (R582). -/
def State.forwardNode (s : State) (c : CueRun) : Option Nat :=
  if c.srcHost || c.dstHost || !(decide (c.op ∈ [opFILL, opCOMPARE, opREDUCE]) || (c.op == opCOPY && c.mode == 0)) then none
  else
    let nodes := c.operands.map fun o => match s.reach c.tenant (o.1 / 2 ^ 30) with | some (_, g) => if g.remote then some g.node else none | none => none
    match nodes with
    | some n :: r => if r.all (· == some n) then some n else none
    | _ => none

/-- Validate a started cue: BAD_CUE, ACCESS, or it is forwarded or goes on. -/
def State.cueCheck (n : Nat) (c : CueRun) (s : State) : State :=
  match c.badField with
  | some o => s.cueEnd n csBAD (some o) none
  | none =>
    match c.operands.find? fun o => o.2 != 0 && (s.wholeRegion c.tenant o.1 o.2).isNone with
    | some o => s.cueEnd n csACCESS (some o.1) none
    | none =>
      let wake := (c.op == opPRESS || c.op == opLAY) && bitOf (s.reg (ofsOf (pgPRESS 0) 0x100)) 4
      let s1 := if wake then s.beginWake else s
      match s1.forwardNode c with
      | none => s1
      | some node =>
        let x := s1.sendBundle (s1.cueOwner c) 0 { typ := tCUEFWD, dst := node, src := s1.ownNode, vc := vcREQ, sten := c.tenant, tag := n % 65536, payload := c.bytes }
        if x.1 then x.2.updRunOf n fun c => { c with phase := 1 }
        else x.2.cueEnd n csACCESS ((c.operands.head?).map (·.1)) none

/-- Address of the cue at HEAD (R570). -/
def Ring.slot (r : Ring) : Nat := r.base + 64 * (r.head % 2 ^ r.size)

/-- CUE_START: the next cue of a ring starts. For a ring in host memory `fetched` is the completion of the read of its 64
bytes (its data, poisoned or not; none for an error status); a ring in DPA is read through the hub. -/
def State.cueStart (r : Nat) (fetched : Option (List Byte × Bool)) (env : List (Nat × ReadEnv)) (s : State) : State :=
  let x := s.ring r
  let t := r / 4
  let e := s.engOf r
  match x.fn with
  | none => s
  | some fn =>
    let own := s.ownerCode t
    if x.st ≠ 1 || x.disabling || x.head == x.ready || s.ctxLimit r ≤ (s.runsOf r).length
        || !s.fits gCUE e 1 own 1 || !s.isIn .hport (fnPort fn) || (s.fn fn).pm != .d0 then s
    else
      let l := x.slot / 64
      -- the line of a ring in DPA
      let k := cueKey (2 ^ 32 + r)
      let go : Option (Option (List Byte × Bool) × State) :=
        if !x.loc then
          if !(s.fn fn).busMaster then some (none, s)
          else if !s.hostReady fn || !s.tagFree (fnPort fn) e r (s.ten t).sealed || !s.fits (fnPort fn) 0 0 own 1 then none
          else some (fetched.map (fun d => ((d.1 ++ zeroLine).take 64, d.2)), s.charge (fnPort fn) 0 0 own 1)
        else if (s.reach t (granuleOfLine l)).isNone then some (none, s)
        else match s.bufGet k l with
          | some d => some (some d, s.bufDrop k)
          | none => none
      match go with
      | none =>
        if x.loc && !(s.fab.buf.any fun b => b.1 == k) then
          let y := s.devRead k l t clsCUE (envAt env l)
          match y.2.bufGet k l with
          | none => y.2
          | some _ => y.2
        else s
      | some (d, s0) =>
        let bytes := (d.map (·.1)).getD []
        let fence := (bytes.getD 1 0#8).getLsbD 1
        if fence && !(s.runsOf r).isEmpty then s
        else
          let n := s0.cues.serial
          let c : CueRun := { ring := r, eng := e, idx := x.head, tenant := t, fn := fn, bytes := bytes }
          let s1 := ((s0.charge gCUE e 1 own 1).cueCount e 0 1).updRing r fun y => { y with head := (y.head + 1) % 65536 }
          let s2 := { s1 with cues := { s1.cues with serial := n + 1, runs := s1.cues.runs ++ [(n, c)] } }
          match d with
          | none => if x.loc then s2.cueEnd n csACCESS (some x.slot) none else s2.cueEnd n csHOST (some x.slot) none
          | some (_, true) => s2.cueEnd n csPOISONED none none
          | some (_, false) => s2.cueCheck n c

/-! ### Completion (R596 to R598) -/

/-- The completion record (Table — Completion record). -/
def CueRun.record (c : CueRun) (frame : Nat) : List Byte :=
  leBytes 2 (c.num 2 2) ++ leBytes 1 c.status
    ++ leBytes 1 ((if c.poison then 1 else 0) + (if c.mismatch then 2 else 0) + (if c.overflow then 4 else 0) + 128)
    ++ leBytes 4 0 ++ leBytes 8 frame ++ leBytes 8 c.r0 ++ leBytes 8 c.r1

/-- A ring whose ENABLE was written 0 is DISABLED once none of its cues runs (R574). -/
def State.ringSettle (r : Nat) (s : State) : State :=
  if (s.ring r).disabling && (s.runsOf r).isEmpty then s.updRing r fun x => { x with st := 0, disabling := false, fn := none } else s

/-- A cue leaves its context. -/
def State.cueDrop (n : Nat) (c : CueRun) (s : State) : State :=
  let s1 := ({ s with cues := { s.cues with runs := s.cues.runs.filter fun e => e.1 != n } }).bufDrop (cueKey n)
  if c.ring < 512 then s1.ringSettle c.ring else s1

/-- The record is written: interrupt, and the context is free. -/
def State.cueRetire (n : Nat) (c : CueRun) (s : State) : State :=
  let s1 := if c.ring < 512 && c.flagInt && c.status == csOK then s.fnCause c.fn (c.ring % 4) else s
  s1.cueDrop n c

/-- CUE_COMPLETE: a finished cue writes its record. Records of a ring are written in the order their cues ended; a record in
DPA waits for every DPA write of the cue. The command continues a record whose write is not yet applied. -/
def State.cueComplete (n : Nat) (env : List (Nat × ReadEnv)) (s : State) : State :=
  match s.run n with
  | none => s
  | some c =>
    if c.phase = 3 then (if s.cueQuiet n c then s.cueRetire n c else s)
    else if c.phase ≠ 2 || !s.cueQuiet n c || (s.runsOf c.ring).any (fun x => 2 ≤ x.2.phase && x.2.ended < c.ended) then s
    else
      let s0 := s.cueSettle n []
      let rec' := c.reply.getD (c.record s.frame.num)
      match c.origin with
      | some (node, sten, tag, _) =>
        (s0.sendOrDrop (s.cueOwner c) 0 { typ := tCUECPL, dst := node, src := s.ownNode, vc := vcRSP, sten := sten, tag := tag, payload := rec' }).cueDrop n c
      | none =>
        if c.cpl = 0 ∨ c.cpl % 32 ≠ 0 then s0.cueRetire n c
        else if c.cplHost then
          if (s.fn c.fn).busMaster && s.hostReady c.fn then
            ((s0.chargeSplit (fnPort c.fn) 0 0 (s.cueOwner c) 1).emit (.hostWrite (fnPort c.fn) c.cpl rec' false)).cueRetire n c
          else s0.cueRetire n c
        else if !c.isDpa 0x08 || (s.reach c.tenant (c.cpl / 2 ^ 30)).isNone then s0.cueRetire n c
        else
          let l := c.cpl / 64
          let d := placeBytes (c.cpl % 64) rec'
          let y := (s0.cueAsk n (l + ackOfs)).devWrite (cueKey n) l c.tenant clsCUE d.1 d.2 false (envAt env l)
          if y.1 then
            let s1 := y.2.updRunOf n fun c => { c with phase := 3 }
            match s1.run n with
            | some c1 => if s1.cueQuiet n c1 then s1.cueRetire n c1 else s1
            | none => s1
          else y.2.updRunOf n fun c => { c with asked := [] }

/-! ### Cancellation (R225, R234, R285, R602) -/

/-- Cancel the running cues of the rings bound to some functions; their rings stop. -/
def State.cancelRings (hit : Nat → Bool) (s : State) : State :=
  let gone := s.cues.runs.filter fun e => e.2.ring < 512 && hit e.2.fn && e.2.phase < 2
  let s1 := gone.foldl (fun (s : State) e => s.cueEnd e.1 csCANCELLED none none) s
  let s2 := { s1 with tier := { s1.tier with taken := s1.tier.taken.filter fun c => !gone.any fun e => e.1 == c.cue } }
  s2.cues.rings.foldl (fun (s : State) r =>
    match r.2.fn with
    | some f => if hit f && (s.ring r.1).st == 1 then (s.draw).2.ringStop r.1 csCANCELLED ((s.draw).1 % 65536) f else s
    | none => s) s2

/-! ### Register commands of a ring (R568 to R574, R597, R605) -/

/-- The function may reach its tenant page now (R272, R286). -/
def State.pageReach (s : State) (fn : Nat) : Bool :=
  (s.fn fn).pm == .d0 && (s.fn fn).memSpace && s.hostReady fn && s.sys.memActive

/-- The tenant of a function: that of the identity it serves. -/
def State.fnTenant (s : State) (fn : Nat) : Option Nat :=
  let p := fnPort fn
  if s.idMode p = 1 then none else (s.matchId p (fn / 16 % 2) (fn % 16)).map fun h => (s.ident h).tenant

/-- DOORBELL (R571, R605). -/
def State.doorbell (fn k tail : Nat) (s : State) : State :=
  match s.fnTenant fn with
  | none => s
  | some t =>
    let r := 4 * t + k % 4
    let x := s.ring r
    if x.fn ≠ some fn ∨ x.st = 0 then s
    else if (tail % 65536 + 65536 - x.head) % 65536 ≤ 2 ^ x.size then s.updRing r fun x => { x with tail := tail % 65536 }
    else (s.draw).2.ringStop r csDOORBELL ((s.draw).1 % 65536) fn

/-- CTL.ENABLE ← 1 (R568, R569). -/
def State.ringEnable (fn k : Nat) (s : State) : State :=
  match s.fnTenant fn with
  | none => s
  | some t =>
    let r := 4 * t + k % 4
    let x := s.ring r
    if x.st ≠ 0 || x.fn.isSome || !s.sys.memActive then s
    else s.updRing r fun x => { x with st := 1, fn := some fn, head := 0, tail := 0, ready := 0, err := 0, errIdx := 0, disabling := false }

/-- CTL.ENABLE ← 0 (R574). -/
def State.ringDisable (fn k : Nat) (s : State) : State :=
  match s.fnTenant fn with
  | none => s
  | some t =>
    let r := 4 * t + k % 4
    if (s.ring r).fn ≠ some fn ∨ (s.ring r).st = 0 then s
    else (s.updRing r fun x => { x with disabling := true }).ringSettle r

/-- CTL.RESUME ← 1 (R597). -/
def State.ringResume (fn k : Nat) (s : State) : State :=
  match s.fnTenant fn with
  | none => s
  | some t =>
    let r := 4 * t + k % 4
    if (s.ring r).fn = some fn ∧ (s.ring r).st = 2 then s.updRing r fun x => { x with st := 1 } else s

/-- BASE_LO, BASE_HI, SIZE and LOC, while the ring is DISABLED (R569). -/
def State.ringSet (fn k o : Nat) (v : Word32) (s : State) : State :=
  match s.fnTenant fn with
  | none => s
  | some t =>
    let r := 4 * t + k % 4
    let x := s.ring r
    if x.st ≠ 0 || !x.openTo fn then s
    else if o = 0x08 then s.updRing r fun x => { x with base := x.base / 2 ^ 32 * 2 ^ 32 + field v 31 12 * 4096 }
    else if o = 0x0C then s.updRing r fun x => { x with base := v.toNat * 2 ^ 32 + x.base % 2 ^ 32 }
    else
      let z := field v 3 0
      let s1 := if 4 ≤ z ∧ z ≤ 12 then s.updRing r fun x => { x with size := z } else s
      s1.updRing r fun x => { x with loc := bitOf v 4 }

/-- A write of CTL: its fields act in the order SIZE and LOC, ENABLE, RESUME. -/
def State.ringCtl (fn k : Nat) (v : Word32) (s : State) : State :=
  let s1 := s.ringSet fn k 0x10 v
  let s2 := if bitOf v 8 then s1.ringEnable fn k else s1.ringDisable fn k
  if bitOf v 9 then s2.ringResume fn k else s2

/-- One register of a ring window as function `fn` reads it. -/
def State.readRing (s : State) (fn t k o : Nat) : Word32 :=
  let r := 4 * t + k
  let x := s.ring r
  if o = 0x04 then place x.head 16 0
  else if o = 0x08 then place (x.base / 4096) 20 12
  else if o = 0x0C then word32 x.base 1
  else if o = 0x10 then place x.size 4 0 ||| placeB x.loc 4 ||| placeB (x.st != 0 && !x.disabling) 8
  else if o = 0x14 then
    place x.st 2 0 ||| placeB (x.fn == some fn) 4 ||| place (s.runsOf r).length 3 5 ||| place x.err 4 8 ||| place x.errIdx 16 16
  else 0#32

/-! ### Engines (R585, R607) -/

/-- CUE_TAG_WRITE: refused if the shares would exceed 768. -/
def State.cueTagWrite (v : Nat) (s : State) : State :=
  let e := s.regF pgSYS 0x300 4 0
  let sum := (List.range 32).foldl (fun n i => n + (if i = e then v % 1024 else s.tagsOf i)) 0
  if v % 1024 ≤ 768 ∧ sum ≤ 768 then { s with cues := { s.cues with tags := mapPut (fun _ => 24) e (v % 1024) s.cues.tags } } else s

/-- ENGINE_FAULT: the affected cue ends, and a second fault in the reel drains the engine. -/
def State.engineFault (e : Nat) (cue : Option Nat) (s : State) : State :=
  if 32 ≤ e ∨ (s.unit .engine e).st = .out then s
  else
    let s1 := match cue.bind fun n => (s.run n).map fun c => (n, c) with
      | some (n, c) => if c.eng = e then s.cueEnd n csFAULT none none else s
      | none => s
    let c := cue.bind fun n => s.run n
    let s2 : State := ((s1.cueCount e 6 1).updUnit .engine e fun u => { u with faults := u.faults + 1 }).logE 0x0A01 0 (c.map (·.tenant)) pgSYS 0 [e, (c.map fun c => c.num 2 2).getD 0]
    if 2 ≤ (s2.unit .engine e).faults ∧ (s.unit .engine e).faults < 2 then (s2.faultDrain .engine e).retireAdvice 7 0x0A01 e pgSYS else s2

/-- Contexts of an engine in use (CUE_STAT.CTX). -/
def State.ctxUsed (s : State) (e : Nat) : Nat := (s.cues.runs.filter fun c => c.2.eng == e && c.2.ring < 512).length

/-- SYS cue-engine registers. -/
def State.readCues (s : State) (r : Nat) : Option Word32 :=
  let e := s.regF pgSYS 0x300 4 0
  if r = 0x304 then some (place (s.unit .engine e).st.code 3 0 ||| place (s.ctxUsed e) 7 8 ||| place (min 15 (s.unit .engine e).faults) 4 16
      ||| place (if s.isIn .engine e then e else partner e) 5 24)
  else if r = 0x308 then some 0#32
  else if r = 0x30C then some (place (s.tagsOf e) 10 0)
  else if r = 0x314 then some (BitVec.ofNat 32 (s.ctr (ofsOf pgSYS 0x314) (8 * e + s.regF pgSYS 0x310 2 0)))
  else none

end Sys2Proof.Machine
end

