-- ==== Sys2Proof/Machine/CueOps.lean ====
section
/-!
DEFINITION. What each cue opcode does (ch. 13): FILL, COPY, COMPARE and REDUCE line by line on the cue's engine, and the sheet
of a CALL. A command runs as much of its cue as the engine's take, the hub and the host allow, and the next one goes on.
-/

namespace Sys2Proof.Machine

open Sys2Proof

/-- The cue of number `n`, while it runs on its engine. -/
def State.running (s : State) (n : Nat) : Option CueRun :=
  match s.run n with
  | some c => if c.phase = 0 && !s.log.fatal then some c else none
  | none => none

/-- Repeat a step until it makes no further progress (none), at most `fuel` times. -/
def loopN (step : State → Option State) : Nat → State → State
  | 0, s => s
  | f + 1, s => match step s with
    | none => s
    | some s1 => loopN step f s1

/-! ### Writing a chunk to its destination -/

/-- Poisoned lines counted in RESULT1 and POISON (R596, R599). -/
def State.cueLine (n k : Nat) (poison : Bool) (s : State) : State :=
  s.updRunOf n fun c => { c with ofs := c.ofs + k, poison := c.poison || poison, r1 := c.r1 + (if poison then 1 else 0) }

/-- Deliver a chunk that lies in one destination line; none where it cannot go now. -/
def State.chunkOut (n : Nat) (c : CueRun) (d : Nat) (data : List Byte) (poison : Bool) (env : List (Nat × ReadEnv)) (s : State) : Option State :=
  let x := if c.dstHost then s.hostSend n c d data poison else s.cueWrite n c d data poison env
  if x.1 then some (((x.2.cuePay c data.length).cueCount c.eng 4 (if poison then 1 else 0)).cueLine n data.length poison)
  else if (x.2.running n).isNone then some x.2 else none

/-- A FILL, PLAIN COPY or REDUCE whose writes have all been applied ends OK. -/
def State.moveDone (n : Nat) (s : State) : Option State :=
  match s.running n with
  | none => none
  | some c => if s.cueQuiet n c then some (s.cueEnd n csOK (some c.ofs) (some c.r1)) else none

/-! ### FILL -/

/-- Bytes `k` to `k + m − 1` of a fill. -/
def fillBytes (value : List Byte) (k m : Nat) : List Byte := (List.range m).map fun i => value.getD ((k + i) % 8) 0#8

def State.fillStep (n : Nat) (env : List (Nat × ReadEnv)) (s : State) : Option State :=
  match s.running n with
  | none => none
  | some c =>
    if c.ofs ≥ c.len then s.moveDone n
    else if !s.cueRoom c then none
    else
      let d := c.num 0x10 8 + c.ofs
      let m := min (64 - d % 64) (c.len - c.ofs)
      s.chunkOut n c d (fillBytes ((c.bytes.drop 0x20).take 8) c.ofs m) false env

def State.cueFill (n : Nat) (env : List (Nat × ReadEnv)) (s : State) : State :=
  match s.running n with
  | some c => if c.op = opFILL then loopN (fun (s : State) => s.fillStep n env) 20000 s else s
  | none => s

/-! ### COPY, PLAIN -/

def State.copyStep (n : Nat) (env : List (Nat × ReadEnv)) (s : State) : Option State :=
  match s.running n with
  | none => none
  | some c =>
    if c.ofs ≥ c.len then s.moveDone n
    else if !s.cueRoom c then none
    else
      let a := c.num 0x10 8 + c.ofs
      let d := c.num 0x18 8 + c.ofs
      let m := min (64 - d % 64) (c.len - c.ofs)
      let x := s.needLines n c.srcHost a m env
      if !x.1 then (if (x.2.running n).isNone then some x.2 else none)
      else
        let ofs := if c.srcHost then hostOfs else 0
        let b := x.2.bufBytes (cueKey n) ofs a m
        match x.2.chunkOut n c d b.1 b.2 env with
        | none => none
        | some s1 => some (s1.cueSettle n [ofs + (a + m) / 64])

/-- The lines a copy needs are asked for even where the chunk cannot finish: the requests stay. -/
def State.copyAsk (n : Nat) (env : List (Nat × ReadEnv)) (s : State) : State :=
  match s.running n with
  | none => s
  | some c =>
    if c.ofs < c.len ∧ s.cueRoom c then
      let a := c.num 0x10 8 + c.ofs
      (s.needLines n c.srcHost a (min (c.len - c.ofs) (s.availOf gCUE c.eng 0 (s.cueOwner c))) env).2
    else s

def State.cueCopy (n : Nat) (env : List (Nat × ReadEnv)) (s : State) : State :=
  match s.running n with
  | some c =>
    if c.op = opCOPY ∧ c.mode = 0 then (loopN (fun (s : State) => s.copyStep n env) 20000 (s.copyAsk n env)) else s
  | none => s

/-! ### COMPARE -/

/-- The first index at which two byte lists differ, or at which a poisoned byte is reached (true). -/
def firstStop : Nat → List (Byte × Bool) → List (Byte × Bool) → Option (Nat × Bool)
  | i, (a, pa) :: l, (b, pb) :: r => if pa || pb then some (i, true) else if a ≠ b then some (i, false) else firstStop (i + 1) l r
  | _, _, _ => none

/-- Bytes with the poison mark of the line each comes from. -/
def State.markedBytes (s : State) (key ofs a m : Nat) : List (Byte × Bool) :=
  (List.range m).map fun i =>
    let l := (s.bufGet key (ofs + (a + i) / 64)).getD (zeroLine, true)
    (l.1.getD ((a + i) % 64) 0#8, l.2)

def State.compareStep (n : Nat) (env : List (Nat × ReadEnv)) (s : State) : Option State :=
  match s.running n with
  | none => none
  | some c =>
    let fd := c.mode == 1
    if c.ofs ≥ c.len then some (s.cueEnd n csOK (some (if fd then c.len else 0)) none)
    else if !s.cueRoom c then none
    else
      let a := c.num 0x10 8 + c.ofs
      let b := c.num 0x20 8 + c.ofs
      let m := min (64 - a % 64) (c.len - c.ofs)
      let x := s.needLines n false a m env
      let y := x.2.needLines n c.srcHost b m env
      if !(x.1 && y.1) then (if (y.2.running n).isNone then some y.2 else none)
      else
        let ofs := if c.srcHost then hostOfs else 0
        let s1 := y.2.cuePay c (2 * m)
        match firstStop 0 (s1.markedBytes (cueKey n) 0 a m) (s1.markedBytes (cueKey n) ofs b m) with
        | some (i, true) => some (s1.cueEnd n csPOISONED (some (c.ofs + i)) none)
        | some (i, false) => some ((s1.updRunOf n fun c => { c with mismatch := true }).cueEnd n csOK (some (if fd then c.ofs + i else 0)) none)
        | none => some ((s1.updRunOf n fun c => { c with ofs := c.ofs + m }).cueSettle n [(a + m) / 64, ofs + (b + m) / 64])

/-- Ask for the lines of a comparison that fit in what is left of the take. -/
def State.compareAsk (n : Nat) (env : List (Nat × ReadEnv)) (s : State) : State :=
  match s.running n with
  | none => s
  | some c =>
    if c.ofs < c.len ∧ s.cueRoom c then
      let m := min (c.len - c.ofs) (s.availOf gCUE c.eng 0 (s.cueOwner c))
      ((s.needLines n false (c.num 0x10 8 + c.ofs) m env).2.needLines n c.srcHost (c.num 0x20 8 + c.ofs) m env).2
    else s

def State.cueCompare (mode n : Nat) (env : List (Nat × ReadEnv)) (s : State) : State :=
  match s.running n with
  | some c =>
    if c.op = opCOMPARE ∧ c.mode = mode then loopN (fun (s : State) => s.compareStep n env) 20000 (s.compareAsk n env) else s
  | none => s

/-- CAS (R591, R600): the line is read, compared and written in one, once every other holding of it has been recalled and
its page is OPEN. A ZERO page holds zeros: where they differ from CMP nothing is written and no page is allocated. -/
def State.cueCas (n : Nat) (env : ReadEnv) (s : State) : State :=
  match s.running n with
  | none => s
  | some c =>
    let a := c.num 0x10 8
    let l := a / 64
    let k := c.casSize
    if c.op ≠ opCOMPARE || c.mode ≠ 2 || !s.cueRoom c || !s.devAdmits c.tenant clsCUE then s
    else match s.reach c.tenant (granuleOfLine l) with
    | none => s.cueEnd n csACCESS (some a) none
    | some _ =>
      let x := s.deviceReady [l] true
      if !x.1 then x.2.dirTick
      else
        let p := pageOfLine l
        let pg := x.2.page p
        let cmp := (c.bytes.drop 0x20).take k
        let swap := (c.bytes.drop 0x30).take k
        let finish := fun (old : List Byte) (hit : Bool) (s : State) =>
          let r1 := if k = 16 then some (leNat (old.drop 8)) else none
          (s.updRunOf n fun c => { c with mismatch := !hit }).cueEnd n csOK (some (leNat (old.take 8))) r1
        let zeros := List.replicate k 0#8
        if x.2.keyBad l || (pg.st == .zero && x.2.isPoison l) then ((x.2.payDev c.tenant clsCUE).cuePay c k).cueEnd n csPOISONED (some 0) none
        else if pg.st == .zero && cmp != zeros then finish zeros false ((x.2.payDev c.tenant clsCUE).cuePay c k)
        else if pg.st != .opened || !pg.held.isEmpty then (x.2.touch p).updPage p fun r => { r with want := true }
        else
          let y := (((x.2.payDev c.tenant clsCUE).touch p).cuePay c k).fcRead l c.tenant clsCUE env
          if y.1 then y.2.cueEnd n csPOISONED (some 0) none
          else
            let old := ((y.2.readLine l).drop (a % 64)).take k
            if old = cmp then
              let d := placeBytes (a % 64) swap
              finish old true ((y.2.cuePay c k).fcWrite l c.tenant clsCUE d.1 d.2 false goodEnv)
            else finish old false y.2

/-! ### REDUCE (R592, R593) -/

/-- The element types of REDUCE. -/
def redFmt (ty : Nat) : Option FpFmt := if ty = 0 then some fp32 else if ty = 1 then some bf16 else none

/-- Order of MIN and MAX on codes of a float format, −0 below +0: sign and magnitude as an integer. -/
def FpFmt.key (f : FpFmt) (code : Nat) : Int :=
  if code / f.signBit % 2 = 1 then -((code % f.signBit : Nat) : Int) - 1 else ((code % f.signBit : Nat) : Int)

def FpFmt.isNan (f : FpFmt) (code : Nat) : Bool := f.decode code == .nan

/-- A number of `w` bits read as two's complement. -/
def signedOf (w v : Nat) : Int := if 2 ^ (w - 1) ≤ v % 2 ^ w then ((v % 2 ^ w : Nat) : Int) - (2 ^ w : Nat) else ((v % 2 ^ w : Nat) : Int)

/-- One element of a reduction: its code, and whether it wrapped. -/
def reduceEl (ty op : Nat) (l : List Nat) : Nat × Bool :=
  match redFmt ty with
  | some f =>
    if l.any f.isNan then (f.nanCode, false)
    else if op = 0 then ((f.round (Fv.sum (l.map f.decode))).1, false)
    else match l with
      | [] => (0, false)
      | a :: r => (r.foldl (fun m x => if (if op = 1 then decide (f.key x < f.key m) else decide (f.key m < f.key x)) then x else m) a, false)
  | none =>
    let w := if ty = 2 then 32 else 64
    let v := l.map (signedOf w)
    if op = 0 then
      let sum : Int := v.foldl (· + ·) 0
      let half : Int := ((2 ^ (w - 1) : Nat) : Int)
      ((sum % (2 * half)).toNat, decide (sum < -half) || decide (half ≤ sum))
    else match v with
      | [] => (0, false)
      | a :: r =>
        let m : Int := r.foldl (fun (m x : Int) => if op = 1 then min m x else max m x) a
        ((m % ((2 ^ w : Nat) : Int)).toNat, false)

/-- Elements of `sz` bytes. -/
def splitEls (sz : Nat) : Nat → List Byte → List Nat
  | 0, _ => []
  | n + 1, l => leNat (l.take sz) :: splitEls sz n (l.drop sz)

/-- The reduction of some sources, element by element: bytes and overflow. -/
def reduceBytes (ty op sz m : Nat) (srcs : List (List Byte)) : List Byte × Bool :=
  let cols := srcs.map (splitEls sz (m / sz))
  let els := (List.range (m / sz)).map fun i => reduceEl ty op (cols.map fun c => c.getD i 0)
  ((els.map fun e => leBytes sz e.1).flatten, els.any (·.2))

/-- Ask for the lines of every source from the list on. -/
def State.needAll (n : Nat) (as : List Nat) (m : Nat) (env : List (Nat × ReadEnv)) (s : State) : Bool × State :=
  as.foldl (fun (x : Bool × State) a => let y := x.2.needLines n false a m env; (x.1 && y.1, y.2)) (true, s)

def State.reduceStep (n : Nat) (env : List (Nat × ReadEnv)) (s : State) : Option State :=
  match s.running n with
  | none => none
  | some c =>
    let w := c.num 0x24 2
    let cnt := w % 32
    let la := c.num 0x10 8
    match c.recs with
    | [] =>
      -- the list of sources
      let x := s.needLines n false la (8 * cnt) env
      if !x.1 then (if (x.2.running n).isNone then some x.2 else none)
      else
        let b := x.2.bufBytes (cueKey n) 0 la (8 * cnt)
        let srcs := splitEls 8 cnt b.1
        if b.2 then some (x.2.cueEnd n csPOISONED none none)
        else if srcs.any fun a => a / 2 ^ 48 ≠ 0 ∨ a % c.elSize ≠ 0 then some (x.2.cueEnd n csBAD (some 0x10) none)
        else match srcs.find? fun a => c.len != 0 && (x.2.wholeRegion c.tenant a c.len).isNone with
          | some a => some (x.2.cueEnd n csACCESS (some a) none)
          | none => some ((x.2.updRunOf n fun c => { c with recs := [b.1] }).cueSettle n [])
    | lst :: _ =>
      if c.ofs ≥ c.len then s.moveDone n
      else if !s.cueRoom c then none
      else
        let d := c.num 0x18 8 + c.ofs
        let m := min (64 - d % 64) (c.len - c.ofs)
        let as := (splitEls 8 cnt lst).map (· + c.ofs)
        let x := s.needAll n as m env
        if !x.1 then (if (x.2.running n).isNone then some x.2 else none)
        else
          let bs := as.map fun a => x.2.bufBytes (cueKey n) 0 a m
          let r := reduceBytes (w / 4096 % 4) (w / 256 % 4) c.elSize m (bs.map (·.1))
          match (x.2.cuePay c (cnt * m)).chunkOut n c d r.1 (bs.any (·.2)) env with
          | none => none
          | some s1 => some ((s1.updRunOf n fun c => { c with overflow := c.overflow || r.2 }).cueSettle n (as.map fun a => (a + m) / 64))

/-- Ask for what a step needs, keeping the requests made. -/
def State.reduceAsk (n : Nat) (env : List (Nat × ReadEnv)) (s : State) : State :=
  match s.running n with
  | none => s
  | some c =>
    let cnt := c.num 0x24 1 % 32
    match c.recs with
    | [] => (s.needLines n false (c.num 0x10 8) (8 * cnt) env).2
    | lst :: _ => if c.ofs < c.len ∧ s.cueRoom c then (s.needAll n ((splitEls 8 cnt lst).map (· + c.ofs)) (min 1024 (c.len - c.ofs)) env).2 else s

def State.cueReduce (n : Nat) (env : List (Nat × ReadEnv)) (s : State) : State :=
  match s.running n with
  | some c =>
    if c.op = opREDUCE then
      let s1 := s.reduceAsk n env
      let s2 := (s1.reduceStep n env).getD s1
      loopN (fun (s : State) => s.reduceStep n env) 20000 (s2.reduceAsk n env)
    else s
  | none => s

/-! ### COPY, FOLD (R176, R445, R588) -/

/-- Write out the segment filled so far, with the padding before it. -/
def State.foldFlush (n : Nat) (c : CueRun) (s : State) : Option State :=
  if c.recs.isEmpty then some s
  else
    let pad := (8 - c.outOfs % 8) % 8
    let seg := List.replicate pad 0#8 ++ wireSegment c.recs
    let x := s.hostSend n c (c.num 0x18 8 + c.outOfs) seg false
    if x.1 then some ((x.2.cuePay c seg.length).updRunOf n fun c => { c with recs := [], outOfs := c.outOfs + seg.length })
    else if (x.2.running n).isNone then some x.2 else none

/-- The wire record of a page whose 64 lines have arrived: a stored form goes unchanged where the destination owner may use
its pattern; anything else is folded on a lane; none where no lane has room. -/
def State.foldRecord (c : CueRun) (p : Nat) (bytes : List Byte) (mask : Nat) (s : State) : Option (List Byte × State) :=
  let pg := s.page p
  let stored := match pg.st, pg.stored with
    | .folded, some f | .shelved, some f => if f.mask == mask && (f.raw || s.mayUse f.pat c.tenant) then some f else none
    | _, _ => none
  if pg.st == .zero then some (zeroRecord mask, s)
  else match stored with
  | some f => some (wireRecord f, s)
  | none =>
    let pat := match s.chosen p c.tenant with
      | some k => if s.foldable k c.tenant then some k else none
      | none => none
    let o := foldPage (pat.map fun k => (k, (s.pslot k).file)) bytes mask
    let s0 := if pat.isNone then s.setEvt pgPAT 22 else s
    (s0.laneServe c.tenant clsCUE o.base pat true).map fun s1 => (wireRecord o.form, s1)

def State.foldStep (n : Nat) (env : List (Nat × ReadEnv)) (s : State) : Option State :=
  match s.running n with
  | none => none
  | some c =>
    if !s.cueRoom c then none
    else if c.ofs ≥ c.len then
      if c.recs.isEmpty then some (s.cueEnd n csOK (some c.outOfs) (some c.pages)) else s.foldFlush n c
    else
      let a := c.num 0x10 8 + c.ofs
      let x := s.needLines n false a 4096 env
      if !x.1 then (if (x.2.running n).isNone then some x.2 else none)
      else
        let ls := (linesOf a 4096).map fun l => (x.2.bufGet (cueKey n) l).getD (zeroLine, true)
        match x.2.foldRecord c (a / 4096) (ls.map (·.1)).flatten (maskOf (ls.map (·.2))) with
        | none => none
        | some (r, s1) =>
          let size := (c.recs.flatten).length + r.length
          if 16372 < size ∨ 4096 ≤ c.recs.length then
            -- the segment is full: it goes first, and the page's record opens the next
            match x.2.foldFlush n c with
            | none => none
            | some s2 => some s2
          else
            let bad := ls.any (·.2)
            some ((s1.updRunOf n fun c => { c with recs := c.recs ++ [r], ofs := c.ofs + 4096, pages := c.pages + 1, poison := c.poison || bad }).cueSettle n [])

/-- Ask for the lines of the next page. -/
def State.foldAsk (n : Nat) (env : List (Nat × ReadEnv)) (s : State) : State :=
  match s.running n with
  | none => s
  | some c => if c.ofs < c.len ∧ s.cueRoom c then (s.needLines n false (c.num 0x10 8 + c.ofs) 4096 env).2 else s

def State.cueFold (n : Nat) (env : List (Nat × ReadEnv)) (s : State) : State :=
  match s.running n with
  | some c => if c.op = opCOPY ∧ c.mode = 1 then (loopN (fun (s : State) => s.foldStep n env) 64 (s.foldAsk n env)).foldAsk n env else s
  | none => s

/-! ### COPY, UNFOLD (R411 to R413, R589) -/

/-- Write the next accepted page of a segment (R413). -/
def State.unfoldPage (n : Nat) (c : CueRun) (env : List (Nat × ReadEnv)) (s : State) : Option State :=
  match c.toWrite with
  | [] => none
  | (form, bytes, mask) :: rest =>
    let a := c.num 0x18 8 + 4096 * c.pages
    let next := fun (s : State) => some (s.updRunOf n fun c => { c with toWrite := rest, pages := c.pages + 1, outOfs := 0 })
    match s.reach c.tenant (a / 2 ^ 30) with
    | none => some (s.cueEnd n csACCESS (some a) none)
    | some (_, g) =>
      if form = 2 ∧ mask = 0 ∧ !g.remote ∧ (s.page (a / 4096)).st = .zero then next (s.setPagePoison (a / 4096) 0)
      else
        -- line `outOfs` of the page
        let k := c.outOfs
        if 64 ≤ k then next s
        else
          let x := s.cueWrite n c (a + 64 * k) ((bytes.drop (64 * k)).take 64) (mask.testBit k) env
          if x.1 then some ((x.2.cuePay c 64).updRunOf n fun c => { c with outOfs := k + 1, poison := c.poison || mask.testBit k })
          else if (x.2.running n).isNone then some x.2 else none

/-- Take the next segment of the stream, or the zeros after the last. -/
def State.unfoldStep (n : Nat) (env : List (Nat × ReadEnv)) (s : State) : Option State :=
  match s.running n with
  | none => none
  | some c =>
    if !s.cueRoom c then none
    else if !c.toWrite.isEmpty then s.unfoldPage n c env
    else
      let len := c.len
      if c.ofs ≥ len then (if s.cueQuiet n c then some (s.cueEnd n csOK none (some c.pages)) else none)
      else
        let a := c.num 0x10 8 + c.ofs
        let m := min 8 (len - c.ofs)
        let x := s.needLines n true a m env
        if !x.1 then (if (x.2.running n).isNone then some x.2 else none)
        else
          let h := x.2.bufBytes (cueKey n) hostOfs a m
          let refuse := fun (e : Nat × Nat) (s : State) => some ((s.wireRefused 0 true e).cueEnd n csWIRE (some c.ofs) (some e.1))
          if h.2 then some (x.2.cueEnd n csPOISONED (some c.ofs) none)
          else if leNat h.1 = 0 then some ((x.2.updRunOf n fun c => { c with ofs := c.ofs + m, recs := [[]] }).cueSettle n [hostOfs + (a + m) / 64])
          else if !c.recs.isEmpty || m < 8 then refuse (if m < 8 then wLENGTH else wMAGIC, 0) x.2
          else
            let seg := min (len - c.ofs) (12 + leNat h.1 / 2 ^ 32 % 2 ^ 16)
            let skip := (seg + 7) / 8 * 8
            let all := min (len - c.ofs) skip
            let y := x.2.needLines n true a all env
            if !y.1 then (if (y.2.running n).isNone then some y.2 else none)
            else
              let b := y.2.bufBytes (cueKey n) hostOfs a all
              if b.2 then some (y.2.cueEnd n csPOISONED (some c.ofs) none)
              else if (b.1.drop seg).any (· != 0#8) then refuse (wMAGIC, 0) y.2
              else match readSegment (y.2.availFile c.tenant) (b.1.take seg) with
                | .error e => refuse e y.2
                | .ok ps =>
                  let serve := ps.foldl (fun (o : Option State) w => o.bind fun s => s.laneServe c.tenant clsCUE w.base (if w.form = 0 then some w.pat else none) false) (some y.2)
                  match serve with
                  | none => none
                  | some s1 =>
                    let c2 := s1.updRunOf n fun c => { c with ofs := c.ofs + skip, outOfs := 0, toWrite := ps.map fun w => (w.form, w.bytes, w.mask) }
                    some (c2.cueSettle n [])

/-- Ask for the host lines of the stream that the take allows. -/
def State.unfoldAsk (n : Nat) (env : List (Nat × ReadEnv)) (s : State) : State :=
  match s.running n with
  | none => s
  | some c =>
    if c.ofs < c.len ∧ c.toWrite.isEmpty ∧ s.cueRoom c then (s.needLines n true (c.num 0x10 8 + c.ofs) (min (c.len - c.ofs) 16384) env).2 else s

def State.cueUnfold (n : Nat) (env : List (Nat × ReadEnv)) (s : State) : State :=
  match s.running n with
  | some c => if c.op = opCOPY ∧ c.mode = 2 then (loopN (fun (s : State) => s.unfoldStep n env) 20000 (s.unfoldAsk n env)).unfoldAsk n env else s
  | none => s

/-! ### CALL (R116, R594) -/

/-- CALL: the sheet is read and handed to the tier manager, which accepts or rejects it at the next step 2. -/
def State.cueCall (n : Nat) (env : List (Nat × ReadEnv)) (s : State) : State :=
  match s.running n with
  | none => s
  | some c =>
    if c.op ≠ opCALL || !s.cueRoom c then s
    else
      let a := c.num 0x10 8
      let ofs := if c.srcHost then hostOfs else 0
      let x := s.needLines n c.srcHost a 32 env
      if !x.1 then x.2
      else
        let h := x.2.bufBytes (cueKey n) ofs a 32
        let cnt := leNat ((h.1.drop 4).take 2)
        let total := 32 + (if cnt ≤ 4096 then 16 * cnt else 0)
        let y := x.2.needLines n c.srcHost a total env
        if !y.1 then y.2
        else
          let b := y.2.bufBytes (cueKey n) ofs a total
          let s1 := y.2.cuePay c total
          if b.2 then s1.cueEnd n csPOISONED none none
          else
            let t : CallTaken := { cue := n, tenant := c.tenant, fn := c.fn, since := s.frame.num, bytes := b.1 }
            ({ s1 with tier := { s1.tier with taken := s1.tier.taken ++ [t] } }).updRunOf n fun c => { c with phase := 1 }

/-! ### Forwarded cues (R754) -/

/-- Start a forwarded cue on a context of its engine. -/
def State.fwdStart (e : Nat) (o : Nat × Nat × Nat × Nat) (t : Nat) (bytes : List Byte) (s : State) : State :=
  let n := s.cues.serial
  let c : CueRun := { ring := 512 + e, eng := e, idx := 0, tenant := t, fn := 0, bytes := bytes, origin := some o }
  let s1 := { s with cues := { s.cues with serial := n + 1, runs := s.cues.runs ++ [(n, c)] } }
  let fit := decide (c.op ∈ [opFILL, opCOMPARE, opREDUCE]) || (c.op == opCOPY && c.mode == 0)
  match c.badField with
  | some f => s1.cueEnd n csBAD (some f) none
  | none =>
    if !fit || c.srcHost || c.dstHost then s1.cueEnd n csBAD (some 0) none
    else match c.operands.find? fun o => o.2 != 0 && (s1.wholeRegion t o.1 o.2).isNone with
      | some o => s1.cueEnd n csACCESS (some o.1) none
      | none => s1

/-- Start waiting forwarded cues while their engines have contexts, in order. -/
def State.fwdPump (s : State) : State :=
  s.cues.fwd.foldl (fun (s : State) w =>
    if (s.runsOf (512 + w.1)).length < 8 then
      ({ s with cues := { s.cues with fwd := s.cues.fwd.erase w } }).fwdStart w.1 w.2.1 w.2.2.1 w.2.2.2
    else s) s

/-- CUE_CPL at the origin: the record ends the forwarded cue. -/
def State.fwdDone (node tag : Nat) (payload : List Byte) (s : State) : State :=
  match s.cues.runs.find? fun e => e.1 % 65536 == tag && e.2.phase == 1 && s.forwardNode e.2 == some node && e.2.op != opCALL with
  | none => s
  | some (n, _) =>
    if payload.length ≠ 32 then s.cueEnd n csACCESS none none
    else
      let st := leNat ((payload.drop 2).take 1)
      let s1 := s.updRunOf n fun c => { c with reply := some payload }
      s1.cueEnd n st (some (leNat ((payload.drop 16).take 8))) (some (leNat ((payload.drop 24).take 8)))

end Sys2Proof.Machine
end

