-- ==== Sys2Proof/Machine/Calls.lean ====
section
/-!
DEFINITION. Call sheets at the tier manager, waits that expire and capacity writes (ch. 02: R110, R111, R115 to R122).
-/

namespace Sys2Proof.Machine

open Sys2Proof

/-! ### Frame numbers of scenes (R19 to R21) -/

/-- Frame `a` is reached: it is the frame in progress or an earlier one, modulo the wrap (R20). -/
def State.reached (s : State) (a : Nat) : Bool := framesSince a s.frame.num < frameWrap / 2

/-- First frame of a scene. -/
def sceneFrame (n : Nat) : Nat := (1000 * n) % frameWrap

/-! ### Call sheets (R116 to R122, R594) -/

/-- A sheet's entries: first page and pages. -/
def sheetEntries : Nat → List Byte → List (Nat × Nat)
  | 0, _ => []
  | n + 1, l => (leNat (l.take 8) / 4096, leNat ((l.drop 8).take 4)) :: sheetEntries n (l.drop 16)

/-- BAD_FORMAT of one entry. -/
def entryBad (l : List Byte) : Bool :=
  let a := leNat (l.take 8)
  let n := leNat ((l.drop 8).take 4)
  a % 4096 != 0 || a / 2 ^ 48 != 0 || n == 0 || 262144 < n || leNat ((l.drop 12).take 4) != 0

def entriesBad : Nat → List Byte → Bool
  | 0, _ => false
  | n + 1, l => entryBad l || entriesBad n (l.drop 16)

/-- BAD_FORMAT of a sheet. -/
def sheetBad (b : List Byte) : Bool :=
  let f := fun o n => leNat ((b.drop o).take n)
  f 0 2 != 0xCA11 || 4096 < f 4 2 || f 7 1 != 0 || f 8 8 / 2 ^ 38 != 0 || f 0x10 16 != 0 || entriesBad (f 4 2) (b.drop 32)

/-- Pages of some ranges that are not on call, each counted once, with their owners. -/
def State.newPages (s : State) (rs : List (Nat × Nat)) : List (Nat × Nat) :=
  (rs.zipIdx.map fun r =>
    let earlier := rs.take r.2
    let fresh := (List.range r.1.2).filter fun i =>
      let p := r.1.1 + i
      !s.onCall p && !earlier.any fun e => e.1 ≤ p && p < e.1 + e.2
    ((s.pageOwner r.1.1).getD 0, fresh.length))

/-- Room of an owner for pages on call, in bytes (R117). -/
def State.callRoom (s : State) (o : Nat) : Nat :=
  if (s.ten o).sealed then (s.ten o).ofEff * mib - s.openBytes o else s.ceiling o - (s.openBytes o + s.foldBytes o)

/-- R117: the reason a sheet is rejected; 0 where it is not. -/
def State.sheetReason (s : State) (t : Nat) (b : List Byte) : Nat :=
  if sheetBad b then 1
  else
    let rs := sheetEntries (leNat ((b.drop 4).take 2)) (b.drop 32)
    let cid := leNat ((b.drop 2).take 2)
    let act := s.tier.calls.filter fun c => !c.2.released
    if 1048576 < rs.foldl (fun n r => n + r.2) 0 then 2
    else if rs.any fun r => match s.wholeRegion t (4096 * r.1) (4096 * r.2) with | some (_, g) => g.remote | none => true then 3
    else if !(act.any fun c => c.2.tenant == t && c.2.callId == cid) && !rs.isEmpty
        && (8 ≤ (act.filter fun c => c.2.tenant == t).length || 256 ≤ s.tier.calls.length) then 4
    else
      let new := s.newPages rs
      if allTenants.any fun o => let n := (new.filter fun x => x.1 == o).foldl (fun n x => n + x.2) 0; n != 0 && s.callRoom o < 4096 * n then 5 else 0

/-- Reject the sheet of a taken CALL cue. -/
def State.callReject (c : CallTaken) (reason : Nat) (s : State) : State :=
  let hi := s.draw
  ((hi.2.setEvt pgTIER 1).fnCause c.fn 10).cueEnd c.cue csREJECTED (some (reason + 256 * (hi.1 % 2 ^ 56))) none

/-- Accept one taken sheet (R118, R119, R122). -/
def State.callTake (c : CallTaken) (s : State) : State :=
  match s.sheetReason c.tenant c.bytes with
  | r + 1 => s.callReject c (r + 1)
  | 0 =>
    let b := c.bytes
    let f := fun o n => leNat ((b.drop o).take n)
    let rs := sheetEntries (f 4 2) (b.drop 32)
    let cid := f 2 2
    let old := s.tier.calls.find? fun x => !x.2.released && x.2.tenant == c.tenant && x.2.callId == cid
    let others := s.tier.calls.filter fun x => some x.1 != old.map (·.1)
    let slot := match old with
      | some x => x.1
      | none => ((List.range 256).find? fun k => !s.tier.calls.any fun x => x.1 == k).getD 0
    let n := f 8 8
    let g := if f 6 1 = 0 then s.regF pgTIER 0x5C 7 0 else f 6 1
    let here := sceneOf s.frame.num
    let ev := if sceneAhead n here && n != here then sceneFrame n else sceneFrame (here + 1)
    let call : Call := { tenant := c.tenant, fn := c.fn, callId := cid, deadline := n, ranges := rs, serial := s.tier.serial
                         evalAt := ev, endAt := sceneFrame (n + g) }
    let calls := if rs.isEmpty then others else others ++ [(slot, call)]
    ({ s with tier := { s.tier with calls := calls, serial := s.tier.serial + 1 } }).cueEnd c.cue csOK (some cid) (some (rs.foldl (fun (n : Nat) (r : Nat × Nat) => n + r.2) 0))

/-- CALL_ACCEPT, at step 2: sheets taken before this edge, in order. -/
def State.callAccepts (s : State) : State :=
  s.tier.taken.foldl (fun (s : State) c => ({ s with tier := { s.tier with taken := s.tier.taken.erase c } }).callTake c) s

/-- CALL_DEADLINE: a call is judged at its edge: met if every covered page is OPEN or ZERO, else missed and still promoted
while on call (R121, R122). A missed call whose pages are all open later is in its grace met. -/
def State.callJudge (slot : Nat) (s : State) : State :=
  match s.tier.calls.find? fun c => c.1 == slot with
  | none => s
  | some (_, c) =>
    let put := fun (c : Call) (s : State) => { s with tier := { s.tier with calls := s.tier.calls.map fun x => if x.1 = slot then (slot, c) else x } }
    let left := s.callRemain c
    if c.judged then (if c.st = .missed ∧ left = 0 then put { c with st := .inGrace } s else s)
    else if !s.reached c.evalAt then s
    else if left = 0 then (put { c with st := .met, judged := true } s).fnCause c.fn 8
    else
      (((put { c with st := .missed, judged := true } s).setEvt pgTIER 0).fnCause c.fn 9).logE 0x0201 0 (some c.tenant) pgTIER 0 (c.callId :: x2 left)

/-- CALL_RELEASE: the pages leave on call at the end of the grace scenes (R119); the slot is free once the call has been
judged. -/
def State.callRelease (slot : Nat) (s : State) : State :=
  match s.tier.calls.find? fun c => c.1 == slot with
  | none => s
  | some (_, c) =>
    if !s.reached c.endAt then s
    else if c.judged then { s with tier := { s.tier with calls := s.tier.calls.filter fun x => x.1 != slot } }
    else { s with tier := { s.tier with calls := s.tier.calls.map fun x => if x.1 = slot then (slot, { c with released := true }) else x } }

/-! ### Waits (R115) -/

/-- WAIT_EXPIRED: an allocation of a tenant (for folded room or for an open frame) has waited WAIT_LIMIT frames. -/
def State.waitExpired (t : Nat) (fold : Bool) (s : State) : State :=
  let k := t * 2 + (if fold then 1 else 0)
  let n := mapGet (fun _ => 0) s.tier.waits k
  let lim := s.regF pgTIER 0x5C 31 16
  if n < max 1 lim ∨ k ∈ s.tier.expired then s
  else
    (((({ s with tier := { s.tier with expired := s.tier.expired ++ [k] } }).tierCount 7).setEvt pgTIER 3).tenCause t 17).logE 0x0202 0 (some t) pgTIER 0 [n]

/-! ### Capacity writes (R110, R111, R164, R902) -/

/-- R902: a locked field was written. -/
def State.lockWrite (s : State) : State := (s.setEvt pgSYS 3).bump (ofsOf pgSYS 0x7C) 2 1

/-- FLOOR_WRITE: OPEN_FLOOR (0x100) or FOLD_FLOOR (0x104) of a tenant. -/
def State.floorWrite (t r v : Nat) (s : State) : State :=
  let m := v % 2 ^ 23
  if 128 ≤ t ∨ (r ≠ 0x100 ∧ r ≠ 0x104) then s
  else if (s.ten t).sealed then s.lockWrite
  else
    let ofs := ofsOf (pgTEN t) r
    let old := (s.reg ofs).toNat
    let sum := s.writtenFloors true + s.writtenFloors false
    if old < m ∧ s.poolMiB < sum + m - old then s.setEvt pgTIER 7
    else
      let s1 := s.setReg ofs (BitVec.ofNat 32 m)
      if old < m then s1
      else s1.updTen t fun x => if r = 0x100 then { x with ofEff := min x.ofEff m } else { x with ffEff := min x.ffEff m }

end Sys2Proof.Machine
end

