-- ==== Sys2Proof/Machine/Press.lean ====
section
/-!
DEFINITION. The press engine (ch. 14): decks and their owners, the bench and its partitions, the job card's geometry, the
refusal and admission of jobs, and strikes with their margin checks and seams.
-/

namespace Sys2Proof.Machine

open Sys2Proof

/-! ### The tables -/

def State.pu (s : State) (p : Nat) : PressU := mapGet (fun _ => {}) s.press.units p
def State.updPu (p : Nat) (f : PressU → PressU) (s : State) : State := { s with press := { s.press with units := mapUpd (fun _ => {}) p f s.press.units } }
def partKey (p a d : Nat) : Nat := (8 * p + a) * 4 + d
def State.part (s : State) (p a d : Nat) : DeckPart := mapGet (fun _ => {}) s.press.parts (partKey p a d)
def State.updPart (p a d : Nat) (f : DeckPart → DeckPart) (s : State) : State :=
  { s with press := { s.press with parts := mapUpd (fun _ => {}) (partKey p a d) f s.press.parts } }
def State.arr (s : State) (p a : Nat) : PressArray := mapGet (fun _ => {}) s.press.arrays (8 * p + a)
def State.updArr (p a : Nat) (f : PressArray → PressArray) (s : State) : State :=
  { s with press := { s.press with arrays := mapUpd (fun _ => {}) (8 * p + a) f s.press.arrays } }

def State.pjob (s : State) (n : Nat) : Option PressJob := (s.press.jobs.find? fun e => e.1 == n).map (·.2)
def State.updJob (n : Nat) (f : PressJob → PressJob) (s : State) : State :=
  { s with press := { s.press with jobs := s.press.jobs.map fun e => if e.1 = n then (n, f e.2) else e } }
def State.lay (s : State) (n : Nat) : Option LayJob := (s.press.lays.find? fun e => e.1 == n).map (·.2)
def State.updLay (n : Nat) (f : LayJob → LayJob) (s : State) : State :=
  { s with press := { s.press with lays := s.press.lays.map fun e => if e.1 = n then (n, f e.2) else e } }

/-- Counters CNT, JOB_CNT and CAL_CNT of a press. -/
def State.prCount (p sel n : Nat) (s : State) : State := s.bump (ofsOf (pgPRESS p) 0x64) sel n
def State.jobCount (p sel n : Nat) (s : State) : State := s.bump (ofsOf (pgPRESS p) 0x94) sel n
def State.calCount (p sel n : Nat) (s : State) : State := s.bump (ofsOf (pgPRESS p) 0xB8) sel n

/-- Owner of a deck (R622): none while unassigned. -/
def PressU.owner (u : PressU) (d : Nat) : Option Nat :=
  let o := field u.own (8 * d + 7) (8 * d)
  if o < 128 then some o else none

/-! ### The card (Table — Job card) -/

def PressJob.num (j : PressJob) (o n : Nat) : Nat := leNat ((j.card.drop o).take n)
def PressJob.bits (j : PressJob) (o hi lo : Nat) : Nat := j.num o 4 / 2 ^ lo % 2 ^ (hi - lo + 1)
def PressJob.flag (j : PressJob) (o b : Nat) : Bool := (j.num o 4).testBit b
def PressJob.head (j : PressJob) : Nat := j.bits 4 8 0
def PressJob.chain (j : PressJob) : Nat := j.bits 4 15 12
def PressJob.shape (j : PressJob) : Nat := j.bits 4 18 16
def PressJob.wfmt (j : PressJob) : Nat := j.bits 4 20 20
def PressJob.afmt (j : PressJob) : Nat := j.bits 4 23 22
def PressJob.decks (j : PressJob) : List Nat := (List.range 4).filter fun d => j.flag 4 (24 + d)
def PressJob.vectors (j : PressJob) : Nat := j.bits 8 23 0
def PressJob.kin (j : PressJob) : Nat := j.num 0xC 2
def PressJob.ifmt (j : PressJob) : Nat := j.bits 0xC 19 16
def PressJob.src (j : PressJob) : Nat := j.num 0x10 8
def PressJob.srcBlk (j : PressJob) : Nat := j.num 0x18 4
def PressJob.opnd (j : PressJob) : Nat := j.bits 0x1C 5 0
def PressJob.proOp (j : PressJob) : Nat := j.bits 0x1C 10 8
def PressJob.nstat (j : PressJob) : Nat := j.bits 0x1C 15 12
def PressJob.gamma (j : PressJob) : Bool := j.flag 0x1C 16
def PressJob.beta (j : PressJob) : Bool := j.flag 0x1C 17
def PressJob.dst (j : PressJob) : Nat := j.num 0x40 8
def PressJob.stride (j : PressJob) : Nat := j.num 0x48 4
def PressJob.ofmt (j : PressJob) : Nat := j.bits 0x4C 2 0
def PressJob.act (j : PressJob) : Nat := j.bits 0x4C 6 4
def PressJob.scaleVec (j : PressJob) : Bool := j.flag 0x4C 16
def PressJob.biasVec (j : PressJob) : Bool := j.flag 0x4C 17
def PressJob.resid (j : PressJob) : Bool := j.flag 0x4C 18
def PressJob.rfmt (j : PressJob) : Bool := j.flag 0x4C 19
def PressJob.accIn (j : PressJob) : Bool := j.flag 0x4C 20
def PressJob.statsOut (j : PressJob) : Bool := j.flag 0x4C 21

/-- H groups of G arrays (Table — Gang shapes). -/
def PressJob.groups (j : PressJob) : Nat := 2 ^ j.shape
def PressJob.gang (j : PressJob) : Nat := 8 / j.groups
/-- Rows per press. -/
def PressJob.rows (j : PressJob) : Nat := 512 * j.gang
/-- Outputs per group, and per vector. -/
def PressJob.perGroup (j : PressJob) : Nat := if j.wfmt = 0 then 512 else 256
def PressJob.outs (j : PressJob) : Nat := j.groups * j.perGroup * j.decks.length
def PressJob.abits (j : PressJob) : Nat := if j.afmt < 2 then 4 else 8
def PressJob.ibits (j : PressJob) : Nat := match j.ifmt with | 0 => j.abits | 1 => 16 | _ => 8
def PressJob.obits (j : PressJob) : Nat := match j.ofmt with | 0 => 16 | 1 => 8 | 2 => 8 | 3 => 8 | 4 => 4 | _ => 64
def PressJob.rsize (j : PressJob) : Nat := if j.rfmt then 4 else 2
def ceilOf (a b : Nat) : Nat := (a + b - 1) / b
/-- SL: bytes of one press's slice of a vector. -/
def PressJob.slice (j : PressJob) : Nat := ceilOf (j.rows * j.ibits) 8
/-- Bytes of one output vector. -/
def PressJob.outBytes (j : PressJob) : Nat := ceilOf (j.outs * j.obits) 8
/-- Strikes per vector: one per deck, two with 8-bit activations (R614). -/
def PressJob.perVec (j : PressJob) : Nat := j.decks.length * (if j.abits = 8 then 2 else 1)
def PressJob.presses (j : PressJob) : List Nat := (List.range j.chain).map (j.head + ·)
def PressJob.tail (j : PressJob) : Nat := j.head + j.chain - 1
def PressJob.isNorm (j : PressJob) : Bool := j.proOp == 5 || j.proOp == 6
def PressJob.tableBytes (j : PressJob) : Nat := if j.proOp = 4 then 2 * 2 ^ j.ibits else 0
def boolN (b : Bool) : Nat := if b then 1 else 0

/-- Input ranges of the card: base and bytes, of the parts it uses. -/
def PressJob.inputs (j : PressJob) : List (Nat × Nat) :=
  let v := j.vectors; let o := j.outs
  ((List.range j.chain).map fun i => (j.src + i * j.srcBlk, v * j.slice))
    ++ (if j.proOp = 4 then [(j.num 0x28 8, j.tableBytes)] else [])
    ++ (if j.isNorm then [(j.num 0x30 8, 16 * j.nstat * v)] else [])
    ++ (if j.isNorm && (j.gamma || j.beta) then [(j.num 0x38 8, 2 * j.chain * j.rows * (boolN j.gamma + boolN j.beta))] else [])
    ++ (if j.scaleVec || j.biasVec then [(j.num 0x58 8, 4 * o * (boolN j.scaleVec + boolN j.biasVec))] else [])
    ++ (if j.resid then [(j.num 0x60 8, v * o * j.rsize)] else [])
    ++ (if j.accIn then [(j.num 0x68 8, 8 * v * o)] else [])

def meet (a b : Nat × Nat) : Bool := a.1 < b.1 + b.2 && b.1 < a.1 + a.2

/-- The span of the output vectors, and the statistics written. -/
def PressJob.dstRange (j : PressJob) : Nat × Nat := (j.dst, (j.vectors - 1) * j.stride + j.outBytes)
def PressJob.statRange (j : PressJob) : Nat × Nat := (j.num 0x70 8, 16 * j.vectors)

/-- R644: the checks of a card, each at the offset of its field in *Table — Job card*, in the order of the offsets. Bits that
no field names count as reserved; an address the card does not use is not checked. -/
def PressJob.cardChecks (j : PressJob) : List (Nat × Bool) :=
  let w4 := j.num 4 4; let w1c := j.num 0x1C 4; let w4c := j.num 0x4C 4
  let dpa := fun o (al : Nat) => j.num (o + 6) 2 == 0 && j.num o 8 % al == 0
  [ (0x00, j.num 0 2 == 0xCA4D), (0x02, j.num 2 1 == 1), (0x03, j.num 3 1 == 0),
    (0x04, 1 ≤ j.chain && j.chain ≤ 12 && j.shape < 4 && !j.decks.isEmpty && w4 / 512 % 8 == 0 && !w4.testBit 19 && !w4.testBit 21 && w4 / 2 ^ 28 == 0),
    (0x08, 1 ≤ j.vectors && j.num 0xB 1 == 0),
    (0x0C, 1 ≤ j.kin && j.kin ≤ j.chain * j.rows && j.ifmt < 4 && j.num 0xC 4 / 2 ^ 20 == 0),
    (0x10, dpa 0x10 4096),
    (0x18, j.srcBlk % 4096 == 0 && j.vectors * j.slice ≤ j.srcBlk),
    (0x1C, 1 ≤ j.opnd && j.opnd ≤ 32 && w1c / 64 % 4 == 0 && j.proOp < 7 && !w1c.testBit 11
      && (if j.isNorm then 1 ≤ j.nstat && j.nstat ≤ 8 else j.nstat == 0) && w1c / 2 ^ 18 == 0
      && (j.ifmt != 0 || j.proOp == 0) && (j.proOp != 4 || j.num 0x28 8 != 0)),
    (0x28, if j.proOp = 4 then dpa 0x28 1 else j.num 0x28 8 == 0),
    (0x30, !j.isNorm || dpa 0x30 64), (0x38, !(j.isNorm && (j.gamma || j.beta)) || dpa 0x38 64),
    (0x40, dpa 0x40 64 && !j.inputs.any (meet j.dstRange) && !(j.statsOut && meet j.dstRange j.statRange)),
    (0x48, j.stride % 64 == 0 && j.outBytes ≤ j.stride),
    (0x4C, j.ofmt < 6 && !w4c.testBit 3 && j.act < 4 && !w4c.testBit 7 && (j.act != 2 || (1 ≤ w4c / 256 % 32 && w4c / 256 % 32 ≤ 16))
      && w4c / 8192 % 8 == 0 && w4c / 2 ^ 22 == 0
      && (j.ofmt != 5 || (j.act == 0 && !j.scaleVec && !j.biasVec && !j.resid && !j.statsOut))),
    (0x58, !(j.scaleVec || j.biasVec) || dpa 0x58 64), (0x60, !j.resid || dpa 0x60 64), (0x68, !j.accIn || dpa 0x68 64),
    (0x70, !j.statsOut || (dpa 0x70 64 && !j.inputs.any (meet j.statRange))),
    (0x7C, j.num 0x7C 4 == 0) ]

/-- Offset of the first failing field of a card. -/
def PressJob.badCard (j : PressJob) : Option Nat := (j.cardChecks.find? fun x => !x.2).map (·.1)

/-! ### The bench (R625, R626, R649, R659, R660) -/

/-- Units of job area a job needs on its chain press `i`. -/
def PressJob.units (j : PressJob) (i : Nat) : Nat :=
  let o := j.outs
  let opr := 2 * ceilOf (j.rows * j.abits) 8
  let pro := j.tableBytes + 2 * j.rows * (boolN j.gamma + boolN j.beta)
  let epi := 4 * o * (boolN j.scaleVec + boolN j.biasVec) + 2 * o * j.rsize * boolN j.resid + 16 * o * boolN j.accIn
  let out := 2 * (j.outBytes + 16 * boolN j.statsOut)
  ceilOf (opr + pro + (if i + 1 = j.chain then epi + out else 0)) 16384

/-- Fields of a partition word. -/
def partValid (w : Word32) : Bool := bitOf w 7
def partTenant (w : Word32) : Nat := field w 6 0
def partJob (w : Word32) : Nat := field w 15 8
def partOpnd (w : Word32) : Nat := field w 21 16
def partQueue (w : Word32) : Nat := field w 26 24

/-- A partition is in force: valid, and its tenant sealed. -/
def State.partForce (s : State) (w : Word32) : Bool := partValid w && (s.ten (partTenant w)).sealed

/-- The partition of a sealed tenant on a press: its number and word. -/
def State.partOfTen (s : State) (p t : Nat) : Option (Nat × Word32) :=
  (((s.pu p).parts.zipIdx).find? fun x => partValid x.1 && partTenant x.1 == t).map fun x => (x.2, x.1)

/-- Admitted jobs that hold a press. -/
def State.jobsOn (s : State) (p : Nat) : List (Nat × PressJob) :=
  s.press.jobs.filter fun e => 1 ≤ e.2.st && e.2.head ≤ p && p ≤ e.2.tail

/-- Units of the common part, free on a press: job area and operand area. -/
def State.commonFree (s : State) (p : Nat) : Nat × Nat :=
  let force := (s.pu p).parts.filter s.partForce
  let used := (s.jobsOn p).filter fun e => !e.2.sealedPart
  (96 - force.foldl (fun n w => n + partJob w) 0 - used.foldl (fun n e => n + e.2.units (p - e.2.head)) 0,
   32 - force.foldl (fun n w => n + partOpnd w) 0 - used.foldl (fun n e => n + e.2.opnd) 0)

/-- The context a job of tenant `t` may take on a press: its partition's, or the highest free common one (R625). -/
def State.freeCtx (s : State) (p t : Nat) : Option Nat :=
  let busy := (s.jobsOn p).map fun e => e.2.ctx.getD (p - e.2.head) 0
  if (s.ten t).sealed then
    match s.partOfTen p t with
    | some (k, _) => if k ∈ busy then none else some k
    | none => none
  else [3, 2, 1, 0].find? fun k => decide (k ∉ busy) && !(decide (k < 3) && s.partForce ((s.pu p).parts.getD k 0#32))

/-- Units a job finds free on a press for its owner. -/
def State.benchFree (s : State) (p t : Nat) : Nat × Nat :=
  if (s.ten t).sealed then
    match s.partOfTen p t with
    | some (_, w) =>
      let used := (s.jobsOn p).filter fun e => e.2.sealedPart && e.2.tenant == t
      (partJob w - used.foldl (fun n e => n + e.2.units (p - e.2.head)) 0, partOpnd w - used.foldl (fun n e => n + e.2.opnd) 0)
    | none => (0, 0)
  else s.commonFree p

/-- PART_WRITE (R626). -/
def State.partWrite (p k : Nat) (w : Word32) (s : State) : State :=
  let old := (s.pu p).parts.getD k 0#32
  let new := (s.pu p).parts.set k w
  let sealedT := (s.ten (partTenant w)).sealed || (partValid old && (s.ten (partTenant old)).sealed)
  let v := new.filter partValid
  let low := 96 < v.foldl (fun n w => n + partJob w) 16 || 32 < v.foldl (fun n w => n + partOpnd w) 8 || 16 < v.foldl (fun n w => n + partQueue w) 4
  let dup := !((v.map partTenant).Nodup : Bool)
  if 3 ≤ k then s
  else if sealedT || low || dup || 80 < partJob w || 24 < partOpnd w || 4 < partQueue w then s.setEvt (pgPRESS p) 6
  else s.updPu p fun u => { u with parts := u.parts.set k (w &&& 0x073FFFFF#32) }

/-! ### Decks (R622 to R624) -/

/-- A deck is in use by an admitted job. -/
def State.deckUsed (s : State) (p d : Nat) : Bool := (s.jobsOn p).any fun e => decide (d ∈ e.2.decks)
/-- A lay is in progress on a deck. -/
def State.deckLaying (s : State) (p d : Nat) : Bool := s.press.lays.any fun e => 1 ≤ e.2.st && e.2.press == p && e.2.deck == d

/-- Every array's part of a deck becomes EMPTY. -/
def State.emptyPart (p a d : Nat) (s : State) : State :=
  s.updPart p a d fun x => { x with st := 0, fmt := 0, setId := 0, weights := [], laidAt := 0 }

/-- DECK_OWN_WRITE (R623, R713): a reserved owner code leaves its field as it was. -/
def State.deckOwnWrite (p : Nat) (w : Word32) (s : State) : State :=
  let old := (s.pu p).own
  let val := fun (d : Nat) => let v := field w (8 * d + 7) (8 * d); if v < 128 ∨ v = 255 then v else field old (8 * d + 7) (8 * d)
  let changed := (List.range 4).filter fun d => val d != field old (8 * d + 7) (8 * d)
  if changed.any fun d => s.deckUsed p d || s.deckLaying p d then s.setEvt (pgPRESS p) 5
  else
    let new := (List.range 4).foldl (fun (a : Word32) d => a ||| place (val d) 8 (8 * d)) 0#32
    s.updPu p fun u => { u with own := new, emptyDue := changed.foldl (fun m d => if m.testBit d then m else m + 2 ^ d) u.emptyDue }

/-- Step 2: the parts of decks whose owner changed are emptied. -/
def State.deckStep (s : State) : State :=
  s.press.units.foldl (fun (s : State) e =>
    if e.2.emptyDue = 0 then s
    else
      let s1 := forEach ((List.range 4).filter e.2.emptyDue.testBit) (fun d s => forEach (List.range 8) (fun a s => s.emptyPart e.1 a d) s) s
      (s1.updPu e.1 fun u => { u with emptyDue := 0 }).setEvt (pgPRESS e.1) 4) s

/-- State of a deck part as a job or lay sees it: a part waiting to be emptied cannot be struck. -/
def State.partLaid (s : State) (p a d : Nat) : Bool := (s.part p a d).st == 2 && !(s.pu p).emptyDue.testBit d

/-! ### Refusal and admission (R647 to R649) -/

def prCARD : Nat := 1
def prNOTLAID : Nat := 4
def prFORMAT : Nat := 5

/-- A cue ends REJECTED with a value in the low `w` bits of RESULT0; the bits above are free values. -/
def State.cueReject (n v w : Nat) (s : State) : State :=
  let d := s.draw
  d.2.cueEnd n csREJECTED (some ((v % 2 ^ w + 2 ^ w * d.1) % 2 ^ 64)) none

/-- A press takes no work: it is not IN, or it is gated (R940). -/
def State.pressOut (s : State) (p : Nat) : Bool := !s.isIn .press p || (s.gated && s.power.wake.isNone) || s.power.stopped

/-- R647: the first reason a job is refused, and the press concerned. -/
def State.jobReason (s : State) (j : PressJob) : Option (Nat × Nat) :=
  let bad := fun (f : Nat → Bool) => j.presses.find? f
  if 288 < j.head + j.chain ∨ j.head / 72 ≠ j.tail / 72 then some (2, j.head)
  else match bad fun p => j.decks.any fun d => (s.pu p).owner d != some j.tenant with
  | some p => some (3, p)
  | none => match bad fun p => j.decks.any fun d => !s.deckLaying p d && (List.range 8).any fun a => !s.partLaid p a d with
  | some p => some (4, p)
  | none => match bad fun p => j.decks.any fun d => (List.range 8).any fun a => s.partLaid p a d && (s.part p a d).fmt != j.wfmt with
  | some p => some (5, p)
  | none => match bad s.pressOut with
  | some p => some (6, p)
  | none => match bad fun p => 96 < j.units (p - j.head) || 32 < j.opnd ||
      ((s.ten j.tenant).sealed && match s.partOfTen p j.tenant with
        | some (_, w) => partJob w < j.units (p - j.head) || partOpnd w < j.opnd
        | none => true) with
  | some p => some (7, p)
  | none => none

/-- A waiting job is refused. -/
def State.jobRefuse (n : Nat) (j : PressJob) (code p : Nat) (s : State) : State :=
  let s1 := (({ s with press := { s.press with jobs := s.press.jobs.filter fun e => e.1 != n } }).jobCount (min j.head 287) 5 1).setEvt (pgPRESS (min j.head 287)) 8
  s1.cueReject n (code + p * 65536) 25

/-- PRESS (R643, R647): read the card, and refuse the job or let it wait. -/
def State.pressCue (n : Nat) (env : List (Nat × ReadEnv)) (s : State) : State :=
  match s.running n with
  | none => s
  | some c =>
    if c.op ≠ opPRESS || !s.cueRoom c then s
    else
      let a := c.num 0x10 8
      let x := s.needLines n false a 128 env
      if !x.1 then x.2
      else
        let b := x.2.bufBytes (cueKey n) 0 a 128
        let s1 := x.2.cuePay c 128
        if b.2 then s1.cueEnd n csPOISONED none none
        else
          let j : PressJob := { tenant := c.tenant, card := b.1, order := s.press.serial, next := List.replicate 12 0 }
          match j.badCard with
          | some o => (if j.head < 288 then (s1.jobCount j.head 5 1).setEvt (pgPRESS j.head) 8 else s1).cueReject n (prCARD + o * 65536) 32
          | none =>
            match s1.jobReason j with
            | some (code, p) => s1.jobRefuse n j code p
            | none =>
              (({ s1 with press := { s1.press with jobs := s1.press.jobs ++ [(n, j)], serial := s1.press.serial + 1 } }).updRunOf n
                fun c => { c with phase := 1 }).cueSettle n []

/-- Everything a job waits for on its chain is free (R648, R621, R699, R939). -/
def State.jobReady (s : State) (j : PressJob) : Bool :=
  !s.powerWaits && !s.gated && !s.power.stopped && !s.log.fatal && s.sys.memActive &&
  j.presses.all fun p => s.isIn .press p && (s.freeCtx p j.tenant).isSome
    && j.units (p - j.head) ≤ (s.benchFree p j.tenant).1 && j.opnd ≤ (s.benchFree p j.tenant).2
    && j.decks.all fun d => !s.deckLaying p d

/-- JOB_ADMIT: a waiting job, first in order on every press it names, is admitted on all of them at once. A deck that is no
longer laid, or was laid in another format, while it waited refuses it. -/
def State.jobAdmit (n : Nat) (s : State) : State :=
  match s.pjob n with
  | none => s
  | some j =>
    let first := !(s.press.jobs.any fun e => e.2.st == 0 && e.2.order < j.order && e.2.head ≤ j.tail && j.head ≤ e.2.tail)
    if j.st ≠ 0 || !first || !s.jobReady j then s
    else
      let bad := fun (f : Nat → Nat → Nat → Bool) => j.presses.find? fun p => j.decks.any fun d => (List.range 8).any fun a => f p a d
      match bad fun p a d => !s.partLaid p a d with
      | some p => s.jobRefuse n j prNOTLAID p
      | none => match bad fun p a d => (s.part p a d).fmt != j.wfmt with
      | some p => s.jobRefuse n j prFORMAT p
      | none =>
        let ctx := j.presses.map fun p => (s.freeCtx p j.tenant).getD 3
        let s1 := s.updJob n fun j => { j with st := 1, order := s.press.serial, ctx := ctx, sealedPart := (s.ten j.tenant).sealed }
        forEach j.presses (fun p s => s.prCount p 6 1) { s1 with press := { s1.press with serial := s1.press.serial + 1 } }

/-- A deck part that DRIFTED becomes EMPTY once no admitted job names it (R700). -/
def State.driftSettle (p d : Nat) (s : State) : State :=
  if s.deckUsed p d then s
  else forEach (List.range 8) (fun a s => if (s.part p a d).st = 3 then s.emptyPart p a d else s) s

/-- A job leaves its presses: contexts, bench and decks are free. -/
def State.jobFree (n : Nat) (s : State) : State :=
  match s.pjob n with
  | none => s
  | some j =>
    let s1 := ({ s with press := { s.press with jobs := s.press.jobs.filter fun e => e.1 != n } }).bufDrop (pressKey n)
    forEach j.presses (fun p s => forEach j.decks (fun d s => s.driftSettle p d) s) s1

/-- A job ends early: vectors completed in RESULT0 where the rule gives them, or the address refused; its resources are free
at the next edge. -/
def State.jobEnd (n status : Nat) (r0 : Option Nat) (s : State) : State :=
  match s.pjob n with
  | none => s
  | some j => (if j.st = 0 then s.jobFree n else s.updJob n fun j => { j with st := 2 }).cueEnd n status r0 none

/-- ACC_FAULT (R640, R675). -/
def State.accFault (p ctx : Nat) (s : State) : State :=
  match (s.jobsOn p).find? fun e => e.2.st == 1 && e.2.ctx.getD (p - e.2.head) 4 == ctx with
  | none => s
  | some (n, j) =>
    let s1 := ((s.setEvt (pgPRESS p) 3).logE 0x0B03 0 (some j.tenant) (pgPRESS p) 0 [p, ctx])
    ((forEach j.presses (fun q s => s.prCount q 7 1) s1).updJob n fun j => { j with vecs := [] }).jobEnd n csFAULT (some j.done)

/-! ### Strikes (R610 to R616, R619, R620, R628 to R639) -/

/-- The position is usable on a press: not used and not removed by a throttle step. -/
def State.posFree (s : State) (p k : Nat) : Bool := !(s.pu p).used.testBit k && !(s.pu p).removed.testBit k

/-- Use a position. -/
def State.usePos (p k owner : Nat) (s : State) : State :=
  (s.updPu p fun u => { u with used := if u.used.testBit k then u.used else u.used + 2 ^ k }).charge gPRESS p 0 owner 1

/-- A job's or lay's owner may run in position `k`: a sealed tenant in its own, others in open and maintenance positions. -/
def State.ownsPos (s : State) (t k : Nat) : Bool :=
  let o := s.slotOwner gPRESS k
  if (s.ten t).sealed then o == t else o == ownOpen || o == ownMnt

/-- The vector a job strikes next: its operand stands on every chain press, and its outputs have a place (R659). -/
def PressJob.nextVec (j : PressJob) : Option PressVec :=
  if 2 ≤ (j.vecs.filter fun v => v.strikes == j.perVec).length then none
  else match j.vecs.find? fun v => v.strikes < j.perVec with
  | some v => if v.ops.length = j.chain && v.ops.all (fun o => !o.isEmpty) then some v else none
  | none => none

/-- R699, R642: arrays pending from the swatch store, or CAL_FAILED, strike nothing. -/
def State.arrStrikes (s : State) (p a : Nat) : Bool := (s.arr p a).pending != 2

/-- A lay older than `order` of an open owner claims an open position first (R684). -/
def State.layFirst (s : State) (p k order : Nat) : Bool :=
  s.press.lays.any fun e => e.2.st == 2 && e.2.press == p && e.2.order < order && s.press.hold.isNone && s.ownsPos e.2.tenant k

/-- The job a press strikes in position `k`: the oldest ready one of the position's owner. -/
def State.strikeJob (s : State) (p k : Nat) : Option (Nat × PressJob) :=
  (sortBy (fun a b => a.2.order ≤ b.2.order) (s.jobsOn p)).find? fun e =>
    let j := e.2
    j.st == 1 && s.ownsPos j.tenant k && j.nextVec.isSome &&
    j.presses.all fun q => s.posFree q k && !s.layFirst q k j.order && !s.log.fatal
      && (s.admits gPRESS q (s.ownerCode j.tenant) || (s.unit .press q).st == .drain)

/-- Change the vector `v` of a job. -/
def PressJob.updVec (j : PressJob) (v : Nat) (f : PressVec → PressVec) : PressJob :=
  { j with vecs := j.vecs.map fun x => if x.v = v then f x else x }

/-- Deck rank of the strike a vector makes next. -/
def PressJob.rankOf (j : PressJob) (x : PressVec) : Nat := x.strikes / (if j.abits = 8 then 2 else 1)

/-- A margin check fails the second time (R638). -/
def State.marginFail (p a d : Nat) (s : State) : State :=
  let s1 := (((s.prCount p 4 1).setEvt (pgPRESS p) 1).updPu p fun u => { u with lastArray := a, lastDeck := d }).updArr p a
    fun x => { x with pending := if x.pending = 2 then 2 else 1, calMask := 0 }
  let s2 : State := (s1.updUnit .press p fun u => { u with faults := u.faults + 1 }).logE 0x0B01 2 none (pgPRESS p) 0 [p, a, d]
  let s3 := if (8 * p + a) ∈ s2.press.swatch.marked then s2 else { s2 with press := { s2.press with swatch := { s2.press.swatch with marked := s2.press.swatch.marked ++ [8 * p + a] } } }
  if (s3.unit .press p).faults = 4 then (s3.faultDrain .press p).retireAdvice 8 0x0B01 p (pgPRESS p) else s3

/-- A seam hop fails: resent once (false), or for good (true) (R639). -/
def State.seamFail (p : Nat) (twice : Bool) (s : State) : State :=
  let s1 := s.prCount p 5 1
  if !twice then s1
  else
    let s2 : State := (((s1.setEvt (pgPRESS p) 2).setEvt (pgPRESS (p + 1)) 2).updPu p fun u => { u with seam := u.seam + 1 }).logE 0x0B02 3 none (pgPRESS p) 0 [p, p + 1]
    if (s2.pu p).seam = 2 then s2.faultDrain .press p else s2

/-- A shadow strike of a press in REJOIN (R843, R845): strike n goes to deck n mod 4; `array` is one that disagreed. -/
def State.shadowStrike (p k array : Nat) (agrees : Bool) (s : State) : State :=
  let o := s.slotOwner gPRESS k
  if !(o == ownOpen || o == ownMnt) || !s.posFree p k then s
  else
    let u := s.unit .press p
    let s1 := s.updPu p fun x => { x with used := x.used + 2 ^ k, lastArray := if agrees then x.lastArray else array, lastDeck := if agrees then x.lastDeck else u.strikes % 4 }
    s1.updUnit .press p fun u => { u with strikes := u.strikes + 1, agree := u.agree && agrees, fail := if agrees then u.fail else some 0xF000 }

/-- STRIKE: position `k` of press `p`, for the whole chain of the job that strikes. `margins` names the arrays whose
reference columns fail, `seams` the hops whose CRC fails and whether the resend fails too; `agrees` is the outcome of a
shadow strike. -/
def State.strike (p k : Nat) (margins : List (Nat × Nat)) (seams : List (Nat × Bool)) (agrees : Bool) (s : State) : State :=
  if 288 ≤ p ∨ 10 ≤ k ∨ s.gated ∨ s.power.stopped ∨ !s.sys.memActive then s
  else if (s.unit .press p).st = .rejoin then s.shadowStrike p k ((margins.head?.map (·.2)).getD 0) agrees
  else match s.strikeJob p k with
  | none => s
  | some (n, j) =>
    match j.nextVec with
    | none => s
    | some v =>
      let code := s.ownerCode j.tenant
      let rank := j.rankOf v
      let d := j.decks.getD rank 0
      if !(j.presses.all fun q => (List.range 8).all fun a => s.arrStrikes q a) then s
      else
        let s1 : State := forEach j.presses (fun q s => (s.usePos q k code).prCount q 0 1) { s with daily := { s.daily with acc := { s.daily.acc with strikes := satAdd 32 s.daily.acc.strikes j.chain } } }
        let hit := margins.filter fun m => j.head ≤ m.1 && m.1 ≤ j.tail && m.2 < 8
        if v.retry.isEmpty && !hit.isEmpty then
          -- R628: the results on those arrays are discarded and the strike is repeated in the job's next position
          let s2 := hit.foldl (fun (s : State) m =>
            (((s.prCount m.1 3 1).setEvt (pgPRESS m.1) 0).updPu m.1 fun u => { u with lastArray := m.2, lastDeck := d }).updArr m.1 m.2
              fun x => { x with retryDue := if x.retryDue.testBit d then x.retryDue else x.retryDue + 2 ^ d }) s1
          s2.updJob n fun j => j.updVec v.v fun x => { x with retry := hit }
        else
          let bad := hit.filter fun m => decide (m ∈ v.retry)
          let s2 := bad.foldl (fun (s : State) m => s.marginFail m.1 m.2 d) s1
          let hops := seams.filter fun h => j.head ≤ h.1 && h.1 < j.tail
          let s3 := hops.foldl (fun (s : State) h => s.seamFail h.1 h.2) s2
          s3.updJob n fun j => j.updVec v.v fun x => { x with
            strikes := x.strikes + 1, retry := []
            bad := x.bad ++ bad.map (fun m => (rank, m.2 / j.gang))
            badDeck := if hops.any (·.2) then addOnce rank x.badDeck else x.badDeck }

/-- At the frame edge: count what the positions of the frame that ended did (R611, R629), and open the next. -/
def State.pressFrame (s : State) : State :=
  forEach (List.range 288) (fun p s =>
    let u := s.pu p
    let free := (List.range 10).filter fun k => !u.used.testBit k && !u.removed.testBit k
    let waits := free.filter fun k => (s.jobsOn p).any fun e => e.2.st == 1 && s.ownsPos e.2.tenant k && e.2.nextVec.isNone
        && e.2.vecs.length + e.2.done < e.2.vectors
    let s1 := ((s.prCount p 1 waits.length).prCount p 2 (free.length - waits.length)).prCount p 8 (popCount 10 u.removed)
    s1.updPu p fun u => { u with used := 0 }) s

/-- Reel boundary: the per-reel counts start anew. -/
def State.pressReel (s : State) : State :=
  { s with press := { s.press with reels := s.press.reels + 1, units := mapAll (fun _ => {}) (fun _ u => { u with seam := 0 }) s.press.units } }

/-! ### Registers of the press engine -/

/-- STATE of a press, as PR_STAT and SVC code it. -/
def State.readPress (s : State) (p r : Nat) : Option Word32 :=
  let u := s.pu p
  let laid := fun d => (List.range 8).foldl (fun m a => if s.partLaid p a d then m + 2 ^ a else m) 0
  let dmask := fun (f : Nat → Bool) => (List.range 4).foldl (fun m d => if f d then m + 2 ^ d else m) 0
  if r = 0x40 then some (place (s.unit .press p).st.code 3 0 ||| place ((([10, 8, 6, 4] : List Nat)).getD (s.power.steps.getD (p / 72) 0) 10) 4 8
      ||| place (p / 72) 2 16 ||| place (s.jobsOn p).length 3 20)
  else if r = 0x44 then some u.own
  else if r = 0x48 then some ((List.range 4).foldl (fun (w : Word32) d => w ||| place (laid d) 8 (8 * d)) 0#32)
  else if r = 0x4C then some (place (dmask (s.deckUsed p)) 4 0 ||| place (dmask (s.deckLaying p)) 4 4)
  else if r = 0x50 ∨ r = 0x54 ∨ r = 0x58 then some (u.parts.getD ((r - 0x50) / 4) 0#32)
  else if r = 0x5C then some (place (s.commonFree p).1 8 0 ||| place (s.commonFree p).2 6 8)
  else if r = 0x64 then some (BitVec.ofNat 32 (s.ctr (ofsOf (pgPRESS p) 0x64) (s.regF (pgPRESS p) 0x60 3 0)))
  else if r = 0x68 then some (place u.lastArray 3 0 ||| place u.lastDeck 2 4 ||| place (min 255 (s.unit .press p).faults) 8 8)
  else if r = 0x84 ∨ r = 0x88 ∨ r = 0x8C then
    match (s.jobsOn p).find? fun e => e.2.ctx.getD (p - e.2.head) 4 == s.regF (pgPRESS p) 0x80 1 0 with
    | none => some 0#32
    | some (_, j) =>
      let role := if j.chain = 1 then 0 else if p = j.head then 1 else if p = j.tail then 3 else 2
      some (if r = 0x84 then place j.st 2 0 ||| place j.tenant 7 8 ||| place j.head 9 16 ||| place role 2 26
        else if r = 0x88 then place j.done 24 0 else place (j.units (p - j.head)) 7 0 ||| place j.opnd 6 8)
  else if r = 0x94 then some (BitVec.ofNat 32 (s.ctr (ofsOf (pgPRESS p) 0x94) (s.regF (pgPRESS p) 0x90 2 0)))
  else none

end Sys2Proof.Machine
end

