-- ==== Sys2Proof/Machine/PressJob.lean ====
section
/-!
DEFINITION. Press jobs (ch. 15): the prologue that turns stored activations into operands, the exact gang sums, the epilogue
with its single rounding, and the end of a job.
-/

namespace Sys2Proof.Machine

open Sys2Proof

/-! ### Reading a job's bytes (R443, R444, R663, R669) -/

/-- Bytes from the buffer of a key, each with its line's poison. -/
def State.bufCells (s : State) (key a n : Nat) : List (Byte × Bool) :=
  ((((linesOf a n).map fun l =>
    let x := (s.bufGet key l).getD (zeroLine, true)
    x.1.map fun b => (b, x.2)).flatten).drop (a % 64)).take n

/-- A FOLDED operand page enters in its stored form and is decoded at the press's operand port. -/
def State.operandPage (n p : Nat) (j : PressJob) (press : Nat) (s : State) : State :=
  let avail := (s.patternCase { id := 0, kind := .transient, page := p, owner := j.tenant, cls := clsPRS }).2.1
  let x := (s.touch p).decodePage p (64 + press) avail false []
  let s1 := forEach (List.range 64) (fun _ s => s.payDev j.tenant clsPRS) x.2
  forEach (List.range 64) (fun k s => s.bufPut (pressKey n) (64 * p + k) ((x.1.bytes.drop (64 * k)).take 64) (x.1.mask.testBit k || s.isPoison (64 * p + k))) s1

/-- Ask for one page of a job whole; `press` names the operand port where it is an operand page. An access check that fails
ends the job with ACCESS. -/
def State.jobPage (n p a : Nat) (press : Option Nat) (env : List (Nat × ReadEnv)) (s : State) : State :=
  match s.pjob n with
  | none => s
  | some j =>
    let lines := (List.range 64).map (64 * p + ·)
    let want := lines.filter fun l => !decide (l ∈ j.asked)
    if j.st ≠ 1 || want.isEmpty then s
    else match s.reach j.tenant (granuleOfPage p) with
    | none => s.jobEnd n csACCESS (some a)
    | some (_, g) =>
      let st := (s.page p).st
      let first := want.length = 64 && !g.remote
      if first && press.isSome && st == .folded && !s.keyBad (64 * p) then
        let x := s.deviceReady lines false
        if x.1 then (x.2.operandPage n p j (press.getD 0)).updJob n fun j => { j with asked := j.asked ++ lines } else x.2.dirTick
      else
        -- an operand page from an OPEN page is folded on a lane on its way to the bench
        let room := if first && press.isSome && st == .opened then
            let pat := match s.chosen p j.tenant with
              | some k => if s.foldable k j.tenant then some k else none
              | none => none
            let o := foldPage (pat.map fun k => (k, (s.pslot k).file)) (s.readPage p) (s.pagePoison p)
            s.laneServe j.tenant clsPRS o.base pat true
          else some s
        match room with
        | none => s
        | some s1 =>
          want.foldl (fun (s : State) l =>
            let x := s.devRead (pressKey n) l j.tenant clsPRS (envAt env l)
            if x.1 then x.2.updJob n fun j => { j with asked := j.asked ++ [l] } else x.2) s1

/-- Ask for the pages of `len` bytes from `a` on; the answer says that all of them stand in the buffer. -/
def State.jobNeed (n a len : Nat) (press : Option Nat) (env : List (Nat × ReadEnv)) (s : State) : Bool × State :=
  let pages := ((linesOf a len).map pageOfLine).dedup
  let s1 := pages.foldl (fun (s : State) p => s.jobPage n p (max a (4096 * p)) press env) s
  (pages.all fun p => (List.range 64).all fun k => s1.arrived (pressKey n) (64 * p + k), s1)

/-- The same for several ranges. -/
def State.jobNeeds (n : Nat) (l : List (Nat × Nat × Option Nat)) (env : List (Nat × ReadEnv)) (s : State) : Bool × State :=
  l.foldl (fun (x : Bool × State) r => let y := x.2.jobNeed n r.1 r.2.1 r.2.2 env; (x.1 && y.1, y.2)) (true, s)

/-! ### Elements -/

/-- Bit patterns of `bits`-bit elements in a run of bytes, the low nibble first, each with its poison. -/
def elems (bits : Nat) : Nat → List (Byte × Bool) → List (Nat × Bool)
  | 0, _ => []
  | fuel + 1, l =>
    match l with
    | [] => []
    | (b, p) :: r =>
      if bits = 4 then (b.toNat % 16, p) :: (b.toNat / 16, p) :: elems bits fuel r
      else if bits = 8 then (b.toNat, p) :: elems bits fuel r
      else
        let k := bits / 8
        (leNat ((l.take k).map (·.1)), (l.take k).any (·.2)) :: elems bits fuel (l.drop k)

def State.bufElems (s : State) (key a bits n : Nat) : List (Nat × Bool) :=
  (elems bits (n + 1) (s.bufCells key a (ceilOf (n * bits) 8))).take n

/-- Range of an operand format (R652). -/
def opndRange (afmt : Nat) : Int × Int := match afmt with | 0 => (-8, 7) | 1 => (0, 15) | 2 => (-128, 127) | _ => (0, 255)

/-- An element stored in the operand format (IFMT 0). -/
def opndOf (afmt bits v : Nat) : Int := if afmt % 2 = 1 then v else signedOf bits v

/-- Format of a floating-point input (IFMT 1 to 3). -/
def inFmt (ifmt : Nat) : FpFmt := match ifmt with | 1 => bf16 | 2 => e4m3 | _ => e5m2

/-! ### The prologue (R650 to R653) -/

/-- mean and rstd of a vector (R651); none where every operand element is poison. -/
def normOf (layer : Bool) (eps : Nat) (recs : List (List Byte)) : Option (Fv × Fv) :=
  let num := fun (r : List Byte) (o : Nat) => leNat ((r.drop o).take 4)
  let n := recs.foldl (fun a r => a + num r 0) 0
  let s1 := fp32.decode (fp32.round (Fv.sum (recs.map fun r => fp32.decode (num r 8)))).1
  let s2 := fp32.decode (fp32.round (Fv.sum (recs.map fun r => fp32.decode (num r 12)))).1
  let divN := fun (v : Fv) => match v with | .fin m k => fp32.decode (fp32.roundQ m (2 ^ k * n)) | v => v
  let mean := divN s1
  let ms := divN s2
  let fin := fun (v : Fv) => match v with | .fin _ _ => true | _ => false
  if n = 0 || !fin s1 || !fin s2 || !fin mean || !fin ms then none
  else
    let var := if layer then Fv.max (.fin 0 0) (fp32.decode (fp32.round (ms.add (mean.mul mean).neg)).1) else ms
    if !fin var then none
    else match var.add (fp32.decode eps) with
    | .fin m k =>
      if m ≤ 0 then none
      else
        let r := fp32.decode (fp32.rsqrt m.natAbs (2 ^ k))
        if fin r then some (mean, r) else none
    | _ => none

/-- y of one element (Table — Prologue operations); `tab` is the CUSTOM table's entry. -/
def proValue (op ifmt bits : Nat) (tab : Nat) (norm : Fv × Fv) (g b : Fv) : Fv :=
  let f := inFmt ifmt
  let x := f.decode bits
  let neg := decide (f.signBit ≤ bits)
  match op with
  | 0 => x
  | 1 => Fv.max x (.fin 0 0)
  | 2 => bf16.decode (geluOf neg x)
  | 3 => bf16.decode (siluOf neg x)
  | 4 => bf16.decode tab
  | 5 => ((x.mul norm.2).mul g).add b
  | _ => (((x.add norm.1.neg).mul norm.2).mul g).add b

/-- Addresses a prologue of vector `v` on chain press `i` reads: base, bytes, operand port. -/
def PressJob.proReads (j : PressJob) (i v : Nat) : List (Nat × Nat × Option Nat) :=
  let rows := min j.rows (j.kin - i * j.rows)
  let gb := 2 * j.chain * j.rows
  [(j.src + i * j.srcBlk + v * j.slice, ceilOf (rows * j.ibits) 8, some (j.head + i))]
    ++ (if j.proOp = 4 then [(j.num 0x28 8, j.tableBytes, none)] else [])
    ++ (if j.isNorm then [(j.num 0x30 8 + 16 * j.nstat * v, 16 * j.nstat, none)] else [])
    ++ (if j.isNorm && j.gamma then [(j.num 0x38 8 + 2 * i * j.rows, 2 * rows, none)] else [])
    ++ (if j.isNorm && j.beta then [(j.num 0x38 8 + (if j.gamma then gb else 0) + 2 * i * j.rows, 2 * rows, none)] else [])

/-- The operand of vector `v` on chain press `i`, once its bytes stand in the buffer, and its saturations. -/
def State.operandOf (s : State) (n : Nat) (j : PressJob) (i v : Nat) : List (Option Int) × Nat :=
  let key := pressKey n
  let rows := min j.rows (j.kin - i * j.rows)
  let xs := s.bufElems key (j.src + i * j.srcBlk + v * j.slice) j.ibits rows
  let pad := List.replicate (j.rows - rows) (some (0 : Int))
  if j.ifmt = 0 then ((xs.map fun x => if x.2 then none else some (opndOf j.afmt j.ibits x.1)) ++ pad, 0)
  else
    let r := opndRange j.afmt
    let qs := fp32.decode (j.num 0x20 4)
    let tab := if j.proOp = 4 then s.bufElems key (j.num 0x28 8) 16 (2 ^ j.ibits) else []
    let gb := 2 * j.chain * j.rows
    let one := List.replicate rows (bf16.round (Fv.ofInt 1) |>.1, false)
    let gs := if j.isNorm && j.gamma then s.bufElems key (j.num 0x38 8 + 2 * i * j.rows) 16 rows else one
    let bs := if j.isNorm && j.beta then s.bufElems key (j.num 0x38 8 + (if j.gamma then gb else 0) + 2 * i * j.rows) 16 rows
      else List.replicate rows (0, false)
    let st := (List.range j.nstat).map fun k => s.bufBytes key 0 (j.num 0x30 8 + 16 * (j.nstat * v + k)) 16
    let norm := if !j.isNorm then some (Fv.fin 0 0, Fv.fin 0 0)
      else if st.any (·.2) then none else normOf (j.proOp == 6) (j.num 0x24 4) (st.map (·.1))
    match norm with
    | none => (List.replicate rows none ++ pad, 0)
    | some nm =>
      let q := ((xs.zip gs).zip bs).map fun e =>
        let x := e.1.1
        let t := if j.proOp = 4 then tab.getD x.1 (0, false) else (0, false)
        let y := proValue j.proOp j.ifmt x.1 t.1 nm (bf16.decode e.1.2.1) (bf16.decode e.2.1)
        (x.2 || t.2 || e.1.2.2 || e.2.2, roundInt r.1 r.2 (y.mul qs))
      ((q.map fun x => if x.1 then none else some x.2.1) ++ pad, (q.filter fun x => !x.1 && x.2.2).length)

/-- Cycles of a vector's prologue (R661). -/
def PressJob.proCycles (j : PressJob) : Nat :=
  if j.ifmt = 0 then 0 else if j.isNorm then ceilOf j.rows 32 else ceilOf j.rows 64

/-- The cycles of a prologue unit (0) or epilogue unit (1) of press `p` take a charge of an owner (R661). -/
def State.peCharge (p unit owner c : Nat) (s : State) : State :=
  ((s.chargeSplit gPRESS (p + 288 * unit) 1 owner c).jobCount p unit c)

/-- Something is left of the owner's cycles of a unit. -/
def State.peRoom (s : State) (p unit owner c : Nat) : Bool :=
  c == 0 || (0 < s.availOf gPRESS (p + 288 * unit) 1 owner && s.carryOf gPRESS (p + 288 * unit) 1 owner == 0 && !s.frame.reseatNow)

/-- The entry of vector `v`, added if it is not there. -/
def PressJob.withVec (j : PressJob) (v : Nat) : PressJob :=
  if j.vecs.any fun x => x.v == v then j
  else { j with vecs := j.vecs ++ [{ v := v, ops := List.replicate j.chain [] }] }

/-- PROLOGUE_VECTOR: chain press `i` of job `n` turns the rows of its next vector into its operand. The operand stage holds
two vectors (R659). -/
def State.prologue (n i : Nat) (env : List (Nat × ReadEnv)) (s : State) : State :=
  match s.pjob n with
  | none => s
  | some j =>
    let v := j.next.getD i 0
    let unstruck := (j.vecs.find? fun x => x.strikes < j.perVec).map (·.v) |>.getD (j.done + j.vecs.length)
    let p := j.head + i
    let code := s.ownerCode j.tenant
    if j.st ≠ 1 || j.chain ≤ i || j.vectors ≤ v || unstruck + 2 ≤ v || s.log.fatal || s.power.stopped || !s.peRoom p 0 code j.proCycles then s
    else
      let x := s.jobNeeds n (j.proReads i v) env
      match x.1, x.2.pjob n with
      | true, some j1 =>
        if j1.st ≠ 1 then x.2
        else
          let o := x.2.operandOf n j1 i v
          let s1 := (x.2.peCharge p 0 code j.proCycles).jobCount p 2 o.2
          s1.updJob n fun j => ({ j.withVec v with sat := satAdd 32 j.sat o.2, next := j.next.set i (v + 1) }).updVec v
            fun x => { x with ops := x.ops.set i o.1 }
      | _, _ => x.2

/-! ### Exact gang sums (R614 to R620) -/

/-- Row `r` of an array's part: its signed weights (R679). -/
def DeckPart.row (x : DeckPart) (r : Nat) : List Int :=
  let b := (x.weights.drop (256 * r)).take 256
  if x.fmt = 0 then (b.map fun v => [signedOf 4 (v.toNat % 16), signedOf 4 (v.toNat / 16)]).flatten
  else b.map fun v => signedOf 8 v.toNat

/-- The sums of one array over the 512 activations applied to its rows: Σ w·a per output. -/
def arraySum (x : DeckPart) (acts : List (Option Int)) : List Int :=
  (acts.zipIdx).foldl (fun acc e =>
    match e.1 with
    | some a => if a = 0 then acc else List.zipWith (fun t w => t + w * a) acc (x.row e.2)
    | none => acc) (List.replicate (if x.fmt = 0 then 512 else 256) 0)

/-- Outputs of a vector: exact gang sums over the whole chain, in the order of R646. -/
def State.gangSums (s : State) (j : PressJob) (v : PressVec) : List Int :=
  ((j.decks.map fun d => ((List.range j.groups).map fun g =>
    ((List.range j.chain).map fun i => (List.range j.gang).map fun m =>
      arraySum (s.part (j.head + i) (g * j.gang + m) d) (((v.ops.getD i []).drop (512 * m)).take 512)).flatten.foldl
        (fun acc l => List.zipWith (· + ·) acc l) (List.replicate j.perGroup 0)).flatten)).flatten

/-- Outputs delivered as poison (R635, R638, R639, R676). -/
def PressJob.badOut (j : PressJob) (v : PressVec) (k : Nat) : Bool :=
  v.badAll || v.ops.any (fun o => o.any (· == none)) || decide (k / (j.groups * j.perGroup) ∈ v.badDeck)
    || decide ((k / (j.groups * j.perGroup), k / j.perGroup % j.groups) ∈ v.bad)

/-! ### The epilogue (R654 to R657) -/

/-- The activation of the epilogue (R655). -/
def PressJob.actOf (j : PressJob) (z : Fv) : Fv :=
  match j.act with
  | 0 => z
  | 1 => Fv.max z (.fin 0 0)
  | 2 => if z.lt (.fin 0 0) then z.shift (j.num 0x4C 4 / 256 % 32) else z
  | _ => Fv.min (Fv.max z (bf16.decode (j.num 0x78 2))) (bf16.decode (j.num 0x7A 2))

/-- Round an output to OFMT: its bit pattern, its value for the statistics, and whether it counts as a saturation. -/
def PressJob.roundOut (j : PressJob) (w : Fv) : Nat × Fv × Bool :=
  let fp := fun (f : FpFmt) => let r := f.round w; (r.1, f.decode r.1, r.2)
  let int := fun (b : Nat) (lo hi : Int) => let r := roundInt lo hi w; ((r.1 % ((2 ^ b : Nat) : Int)).toNat, Fv.ofInt r.1, r.2)
  match j.ofmt with
  | 0 => fp bf16
  | 1 => fp e4m3
  | 2 => fp e5m2
  | 3 => int 8 (-128) 127
  | _ => int 4 (-8) 7

/-- ACC: the sum as INT64, saturating. -/
def accOut (v : Int) : Nat × Bool :=
  let r := roundInt (-(2 ^ 63 : Int)) (2 ^ 63 - 1) (Fv.ofInt v)
  ((r.1 % ((2 ^ 64 : Nat) : Int)).toNat, r.2)

/-- Addresses an epilogue of vector `v` reads. -/
def PressJob.epiReads (j : PressJob) (v : Nat) : List (Nat × Nat × Option Nat) :=
  let o := j.outs
  (if j.scaleVec then [(j.num 0x58 8, 4 * o, none)] else [])
    ++ (if j.biasVec then [(j.num 0x58 8 + (if j.scaleVec then 4 * o else 0), 4 * o, none)] else [])
    ++ (if j.resid then [(j.num 0x60 8 + v * o * j.rsize, o * j.rsize, none)] else [])
    ++ (if j.accIn then [(j.num 0x68 8 + 8 * v * o, 8 * o, none)] else [])

/-- Pack bit patterns of `bits` bits into bytes, the low nibble first. -/
def packElems (bits : Nat) : List Nat → List Byte
  | [] => []
  | a :: r =>
    if bits = 4 then
      match r with
      | b :: r' => BitVec.ofNat 8 (a % 16 + 16 * (b % 16)) :: packElems bits r'
      | [] => [BitVec.ofNat 8 (a % 16)]
    else leBytes (bits / 8) a ++ packElems bits r

/-- The outputs of a vector: bit pattern, value, saturation, poison. -/
def State.outputs (s : State) (n : Nat) (j : PressJob) (v : PressVec) : List (Nat × Fv × Bool × Bool) :=
  let key := pressKey n
  let o := j.outs
  let pick := fun (on : Bool) (a bits : Nat) => if on then s.bufElems key a bits o else List.replicate o (0, false)
  let sc := pick j.scaleVec (j.num 0x58 8) 32
  let bi := pick j.biasVec (j.num 0x58 8 + (if j.scaleVec then 4 * o else 0)) 32
  let re := pick j.resid (j.num 0x60 8 + v.v * o * j.rsize) (8 * j.rsize)
  let ac := pick j.accIn (j.num 0x68 8 + 8 * v.v * o) 64
  let scale := fp32.decode (j.num 0x50 4)
  let osc := fp32.decode (j.num 0x54 4)
  let rf := if j.rfmt then fp32 else bf16
  (((((s.gangSums j v).zip sc).zip bi).zip (re.zip ac)).zipIdx).map fun e =>
    let g := e.1.1.1.1; let c := e.1.1.1.2; let b := e.1.1.2; let r := e.1.2.1; let a := e.1.2.2
    let poison := j.badOut v e.2 || c.2 || b.2 || r.2 || a.2
    let sum := g + signedOf 64 a.1
    if j.ofmt = 5 then
      let x := accOut sum
      (x.1, Fv.ofInt sum, x.2, poison)
    else
      let z := ((Fv.ofInt sum).mul (if j.scaleVec then fp32.decode c.1 else scale)).add (if j.biasVec then fp32.decode b.1 else .fin 0 0)
      let w := (j.actOf z).add (if j.resid then rf.decode r.1 else .fin 0 0)
      let x := j.roundOut (w.mul osc)
      (x.1, x.2.1, x.2.2, poison)

/-- The statistics record of a vector (R657). -/
def statsOf (o : Nat) (l : List Fv) : List Byte :=
  let odd := l.any fun v => match v with | .fin _ _ => false | _ => true
  let f := fun (l : List Fv) => if odd then fp32.nanCode else (fp32.round (Fv.sum l)).1
  leBytes 4 o ++ leBytes 4 0 ++ leBytes 4 (f l) ++ leBytes 4 (f (l.map fun v => v.mul v))

/-- Line writes of a vector: its outputs, a line with a poisoned output as poison, and its statistics record. -/
def PressJob.lineWrites (j : PressJob) (v : Nat) (l : List (Nat × Fv × Bool × Bool)) : List (Nat × List Byte × Nat × Bool) :=
  let bytes := packElems j.obits (l.map (·.1))
  let per := 512 / j.obits
  let base := (j.dst + v * j.stride) / 64
  let bad := l.map fun e => e.2.2.2
  ((List.range (j.outBytes / 64)).map fun k =>
      (base + k, (bytes.drop (64 * k)).take 64, fullBe, ((bad.drop (per * k)).take per).any id))
    ++ (if j.statsOut then
          let a := j.num 0x70 8 + 16 * v
          let d := placeBytes (a % 64) (statsOf j.outs (l.map fun e => e.2.1))
          [(a / 64, d.1, d.2, bad.any id)]
        else [])

/-- Cycles of a vector's epilogue (R661). -/
def PressJob.epiCycles (j : PressJob) : Nat := ceilOf j.outs 16 * (1 + boolN j.resid + boolN j.accIn + boolN j.statsOut)

/-- Send the writes of the epilogue in progress as far as the hub takes them; a refused access ends the job (R663). -/
def State.epiSend (n : Nat) (env : List (Nat × ReadEnv)) (s : State) : Option State :=
  match s.pjob n with
  | none => none
  | some j =>
    match j.vecs.find? fun v => v.epi.isSome with
    | none => none
    | some v =>
      match v.epi with
      | some (w :: rest) =>
        if (s.reach j.tenant (granuleOfLine w.1)).isNone then
          some ((s.updJob n fun j => j.updVec v.v fun x => { x with epi := some [] }).jobEnd n csACCESS (some (64 * w.1)))
        else
          let y := s.devWrite (pressKey n) w.1 j.tenant clsPRS w.2.1 w.2.2.1 w.2.2.2 (envAt env w.1)
          if y.1 then some (y.2.updJob n fun j => { j with asked := j.asked ++ [w.1 + ackOfs] }.updVec v.v fun x => { x with epi := some rest }) else none
      | _ => none

/-- A vector whose writes have all been applied is completed. -/
def State.vecDone (n : Nat) (s : State) : State :=
  match s.pjob n with
  | none => s
  | some j =>
    match j.vecs.find? fun v => v.epi == some [] with
    | none => s
    | some v =>
      let acks := j.asked.filter fun k => k / ackOfs == 1
      if acks.all fun k => s.arrived (pressKey n) k then
        (s.updJob n fun j => { j with vecs := j.vecs.filter (fun x => x.v != v.v), done := j.done + 1, asked := j.asked.filter fun k => k / ackOfs != 1 }).bufPrune (pressKey n)
          fun k => k / ackOfs == 1
      else s

/-- EPILOGUE_VECTOR: the tail press of job `n` works on its oldest struck vector: it rounds each output once, writes them,
and once they are applied the vector is completed. -/
def State.epilogue (n : Nat) (env : List (Nat × ReadEnv)) (s : State) : State :=
  let go := fun (s : State) => (loopN (fun s => s.epiSend n env) 2100 s).vecDone n
  match s.pjob n with
  | none => s
  | some j =>
    let code := s.ownerCode j.tenant
    if s.log.fatal || s.power.stopped then s
    else if j.vecs.any fun v => v.epi.isSome then go s
    else match j.vecs.head? with
    | none => s
    | some v =>
      if j.st ≠ 1 || v.strikes ≠ j.perVec || !s.peRoom j.tail 1 code j.epiCycles then s
      else
        let x := s.jobNeeds n (j.epiReads v.v) env
        match x.1, x.2.pjob n with
        | true, some j1 =>
          if j1.st ≠ 1 then x.2
          else
            let l := x.2.outputs n j1 v
            let sat := (l.filter fun e => e.2.2.1).length
            let bad := (l.filter fun e => e.2.2.2).length
            let s1 := ((x.2.peCharge j.tail 1 code j.epiCycles).jobCount j.tail 2 sat).jobCount j.tail 3 bad
            go (s1.updJob n fun j => { j with sat := satAdd 32 j.sat sat, poisoned := satAdd 32 j.poisoned bad }.updVec v.v
              fun x => { x with epi := some (j1.lineWrites v.v l) })
        | _, _ => x.2

/-- JOB_COMPLETE (R667): the outputs of every vector have been applied. -/
def State.jobComplete (n : Nat) (s : State) : State :=
  match s.pjob n with
  | none => s
  | some j =>
    if j.st ≠ 1 || j.done ≠ j.vectors then s
    else (((s.jobFree n).updRunOf n fun c => { c with poison := c.poison || decide (0 < j.poisoned) }).cueEnd n csOK (some j.vectors)
      (some (j.sat + 2 ^ 32 * j.poisoned)))

/-- PE_PARITY (R676): the prologue unit (0) of chain press `i`, or the epilogue unit (1), errs on the vector it works on. -/
def State.peParity (n i unit : Nat) (s : State) : State :=
  match s.pjob n with
  | none => s
  | some j =>
    if j.st ≠ 1 || j.chain ≤ i then s
    else
      let p := if unit = 0 then j.head + i else j.tail
      let s1 := s.logE 0x0B04 0 (some j.tenant) (pgPRESS p) 0 [p, unit]
      if unit = 0 then
        let v := j.next.getD i 0
        if j.vectors ≤ v then s1 else s1.updJob n fun j => (j.withVec v).updVec v fun x => { x with badAll := true }
      else match j.vecs.head? with
        | none => s1
        | some v => s1.updJob n fun j => j.updVec v.v fun x => { x with badAll := true, epi := x.epi.map fun w => w.map fun e => (e.1, e.2.1, e.2.2.1, true) }

/-- A cancelled press cue (R670): vectors whose epilogue has begun are still written. -/
def State.jobCancel (n : Nat) (s : State) : State :=
  match s.pjob n with
  | none => s
  | some j => s.jobEnd n csCANCELLED (some j.done)

/-- At the frame edge: an epilogue still running has overrun (R662), and jobs that end leave their presses (R670). -/
def State.jobEdge (s : State) : State :=
  s.press.jobs.foldl (fun (s : State) e =>
    let running := e.2.vecs.any fun v => match v.epi with | some (_ :: _) => true | _ => false
    if running then
      ((s.overrun gPRESS e.2.tail (s.ownerCode e.2.tenant) 1).setEvt (pgPRESS e.2.tail) 9).jobCount e.2.tail 4 1
    else if e.2.st = 2 then s.jobFree e.1 else s) s

end Sys2Proof.Machine
end

