-- ==== Sys2Proof/Machine/Cells.lean ====
section
/-!
DEFINITION. Cells (ch. 16): lays with their rounds and sweep, LAY_HOLD, calibration, and the swatch store.
-/

namespace Sys2Proof.Machine

open Sys2Proof

/-- R706: an array's swatch changed: its bit in the active slot's change map. -/
def State.swMark (p a : Nat) (s : State) : State :=
  { s with press := { s.press with swatch := { s.press.swatch with marked := addOnce (8 * p + a) s.press.swatch.marked } } }

/-- Temperature of a press die (R944). -/
def State.dieTemp (s : State) (p : Nat) : Nat := s.power.temp.getD (4 + p / 72) 0

/-- Arrays of a mask. -/
def maskList (m : Nat) : List Nat := (List.range 8).filter m.testBit

/-! ### Taking and accepting a lay (R678, R681, R682) -/

/-- LAY: the cue engine hands its weight set to the press, which checks it at the next step 2. -/
def State.layCue (n : Nat) (s : State) : State :=
  match s.running n with
  | none => s
  | some c =>
    if c.op ≠ opLAY || (s.lay n).isSome then s
    else
      let w := c.num 0x1C 4
      let l : LayJob := { tenant := c.tenant, press := w % 512, mask := w / 2 ^ 16 % 256, deck := w / 2 ^ 24 % 4, fmt := w / 2 ^ 28 % 2,
                          setId := c.num 0x20 2, src := c.num 0x10 8, len := c.num 0x18 4, since := s.frame.num, order := s.press.serial }
      ({ s with press := { s.press with lays := s.press.lays ++ [(n, l)], serial := s.press.serial + 1 } }).updRunOf n fun c => { c with phase := 1 }

/-- A lay leaves the table. -/
def State.layDrop (n : Nat) (s : State) : State := ({ s with press := { s.press with lays := s.press.lays.filter fun e => e.1 != n } }).bufDrop (layKey n)

/-- RESULT0 of a refused or failed lay. -/
def LayJob.reason (l : LayJob) (code mask : Nat) : Nat := code + 256 * mask + 65536 * l.press

/-- The arrays of a mask that satisfy `f`, as a mask. -/
def maskOfF (m : Nat) (f : Nat → Bool) : Nat := (maskList m).foldl (fun a k => if f k then a + 2 ^ k else a) 0

/-- Table — Lay refusals: the first reason, with the arrays concerned. -/
def State.layReason (s : State) (l : LayJob) : Option (Nat × Nat) :=
  let worn := maskOfF l.mask fun a => 1000000 ≤ (s.part l.press a l.deck).lays
  let cal := maskOfF l.mask fun a => (s.arr l.press a).calFailed
  if 288 ≤ l.press ∨ l.mask = 0 ∨ l.src % 4096 ≠ 0 ∨ l.len ≠ 131072 * popCount 8 l.mask then some (1, l.mask)
  else if (s.pu l.press).owner l.deck ≠ some l.tenant then some (2, l.mask)
  else if s.pressOut l.press ∨ s.power.st = 3 ∨ s.power.want = some 3 then some (3, l.mask)
  else if (match s.wholeRegion l.tenant l.src l.len with
      | some (_, g) => g.kind != kPress || g.owner != l.tenant
      | none => true) then some (4, l.mask)
  else if worn ≠ 0 then some (5, worn)
  else if cal ≠ 0 then some (6, cal)
  else none

/-- Step 2, LAY_ACCEPT: a lay taken before this edge is accepted or refused. While memory is not active, a wake or a change
of power state is in progress, it waits (R719, R939, R942). -/
def State.layAccepts (s : State) : State :=
  s.press.lays.foldl (fun (s : State) e =>
    let l := e.2
    if l.st ≠ 0 || l.since == s.frame.num || !s.sys.memActive || s.log.fatal then s
    else if l.press < 288 && s.isIn .press l.press && (s.powerWaits || (s.gated && s.power.wake.isSome)) then s
    else match s.layReason l with
    | some (code, m) => (s.layDrop e.1).cueReject e.1 (l.reason code m) 25
    | none =>
      let s1 := forEach (maskList l.mask) (fun a s => (s.emptyPart l.press a l.deck).updPart l.press a l.deck fun x => { x with st := 1 }) s
      s1.updLay e.1 fun l => { l with st := 1, arrays := (maskList l.mask).map fun a => { array := a } }) s

/-! ### Programming (R683 to R693) -/

/-- Arrays of a press die that are programming. -/
def State.dieProg (s : State) (die : Nat) : Nat :=
  s.press.lays.foldl (fun n e => if e.2.st = 2 ∧ e.2.press / 72 = die then n + e.2.arrays.length else n) 0

/-- Another lay of an array is in progress. -/
def State.otherLay (s : State) (n p a : Nat) : Bool :=
  s.press.lays.any fun e => e.1 != n && e.2.st == 2 && e.2.press == p && e.2.mask.testBit a

/-- LAY_START: an accepted lay starts programming and raises its lay counts. -/
def State.layStart (n : Nat) (s : State) : State :=
  match s.lay n with
  | none => s
  | some l =>
    let p := l.press
    let ok := (maskList l.mask).all fun a =>
      !s.otherLay n p a && (s.arr p a).layAt != some s.press.reels && (s.arr p a).pending == 0
    if l.st ≠ 1 || s.deckUsed p l.deck || !ok || 16 < s.dieProg (p / 72) + l.arrays.length || s.power.stopped || s.log.fatal then s
    else
      let s1 := (s.updLay n fun l => { l with st := 2, order := s.press.serial }).calCount p 0 1
      let s2 := { s1 with press := { s1.press with serial := s1.press.serial + 1 } }
      forEach (maskList l.mask) (fun a s =>
        let s3 := ((s.updPart p a l.deck fun x => { x with lays := x.lays + 1 }).updArr p a fun x => { x with layAt := some s.press.reels }).swMark p a
        if (s3.part p a l.deck).lays = 900000 then (s3.setEvt (pgPRESS p) 21).retireAdvice 9 0 (p + a * 65536 + l.deck * 2 ^ 20) (pgPRESS p) else s3) s2

/-- A lay fails or is cancelled: every named part stays EMPTY; jobs that wait on it are refused (R692, R694). -/
def State.layStop (n : Nat) (l : LayJob) (s : State) : State :=
  let s1 := if l.st = 0 then s else forEach (maskList l.mask) (fun a s => s.emptyPart l.press a l.deck) s
  let s2 := s1.layDrop n
  (s.press.jobs.filter fun e => e.2.st == 0 && e.2.head ≤ l.press && l.press ≤ e.2.tail && decide (l.deck ∈ e.2.decks) && l.st != 0).foldl
    (fun (s : State) e => s.jobRefuse e.1 e.2 prNOTLAID l.press) s2

/-- A lay fails with a reason. -/
def State.layFail (n code mask : Nat) (s : State) : State :=
  match s.lay n with
  | none => s
  | some l => (((s.layStop n l).setEvt (pgPRESS l.press) 17).calCount l.press 2 1).cueReject n (l.reason code mask) 25

/-- A cancelled lay (R692, R602). -/
def State.layCancel (n : Nat) (s : State) : State :=
  match s.lay n with
  | none => s
  | some l => (s.layStop n l).cueEnd n csCANCELLED none none

/-- Address of row `r` of the block of an array. -/
def LayJob.rowAddr (l : LayJob) (a r : Nat) : Nat := l.src + 131072 * popCount a l.mask + 256 * r

/-- Ask for the page of a row whole (R680); the answer says that it stands in the stage. -/
def State.layPage (n addr : Nat) (env : List (Nat × ReadEnv)) (s : State) : Bool × State :=
  match s.lay n with
  | none => (false, s)
  | some l =>
    let p := addr / 4096
    let lines := (List.range 64).map (64 * p + ·)
    let s1 := (lines.filter fun x => !decide (x ∈ l.asked)).foldl (fun (s : State) x =>
      match s.lay n with
      | none => s
      | some _ =>
        if (s.reach l.tenant (granuleOfLine x)).isNone then (s.layStop n l).cueEnd n csACCESS (some (64 * x)) none
        else
          let y := s.devRead (layKey n) x l.tenant clsCUE (envAt env x)
          if y.1 then y.2.updLay n fun l => { l with asked := l.asked ++ [x] } else y.2) s
    (lines.all fun x => s1.arrived (layKey n) x, s1)

/-- One round's outcome on the row a lay array is at: `ok` where all 512 cells verify. `none` where the row would need more
than MAX_PULSES rounds. -/
def LayArray.round (x : LayArray) (r : Nat) (ok : Bool) (max : Nat) : Option LayArray :=
  let used := x.rounds.getD r 0 + 1
  let rounds := if r < x.rounds.length then x.rounds.set r used else x.rounds ++ [used]
  if !ok && max ≤ used then none else some { x with rounds := rounds }

/-- What a position brings an array of a lay: the verifies of its rounds in order; for the sweep, the rows it finds outside
their band and their repair rounds; and a pulse that starved (R685, R686, R688). -/
def State.layArrayStep (n a : Nat) (verifies : List Bool) (slipped : List (Nat × List Bool)) (starved : Bool) (env : List (Nat × ReadEnv)) (s : State) : State :=
  let maxP := s.regF (pgPRESS 0) 0xC8 4 0
  match s.lay n with
  | none => s
  | some l =>
    match l.arrays.find? fun x => x.array == a with
    | none => s
    | some x =>
      if starved then ((s.setEvt (pgPRESS l.press) 18).calCount l.press 3 1).layFail n 8 (2 ^ a)
      else if x.row < 512 then
        -- up to 4 rounds, each on the current row
        (verifies.take 4).foldl (fun (s : State) ok =>
          match s.lay n with
          | none => s
          | some l =>
            match l.arrays.find? fun x => x.array == a with
            | none => s
            | some x =>
              if 512 ≤ x.row then s
              else
                let addr := l.rowAddr a x.row
                let y := s.layPage n addr env
                match y.1, y.2.lay n with
                | true, some _ =>
                  let b := y.2.bufBytes (layKey n) 0 addr 256
                  if b.2 then (y.2.layStop n l).cueEnd n csPOISONED none none
                  else match x.round x.row ok maxP with
                  | none => y.2.layFail n 7 (2 ^ a)
                  | some x1 =>
                    let x2 := if ok then { x1 with row := x1.row + 1, data := x1.data ++ b.1 } else x1
                    y.2.updLay n fun l => { l with arrays := l.arrays.map fun z => if z.array = a then x2 else z }
                | _, _ => y.2) s
      else
        -- the sweep reads 8 rows; a slipped row that its rounds do not repair is swept again
        (List.range 8).foldl (fun (s : State) _ =>
          match s.lay n with
          | none => s
          | some l =>
            match l.arrays.find? fun x => x.array == a with
            | none => s
            | some x =>
              if 512 ≤ x.swept then s
              else
                let rs := ((slipped.find? fun e => e.1 == x.swept).map (·.2)).getD [true]
                let bad := slipped.any fun e => e.1 == x.swept
                let y := if !bad then some x else rs.foldl (fun (o : Option LayArray) ok => o.bind fun x => x.round x.swept ok maxP) (some x)
                match y with
                | none => s.layFail n 7 (2 ^ a)
                | some x1 =>
                  let x2 := if rs.any id then { x1 with swept := x1.swept + 1 } else x1
                  s.updLay n fun l => { l with arrays := l.arrays.map fun z => if z.array = a then x2 else z }) s

/-- A lay of the same owners, admitted earlier, claims position `k` of a press first (R684); so does an older job. -/
def State.layTurn (s : State) (n : Nat) (l : LayJob) (k : Nat) : Bool :=
  !(s.press.lays.any fun e => e.1 != n && e.2.st == 2 && e.2.press == l.press && e.2.order < l.order && s.ownsPos e.2.tenant k
      && (e.2.mask &&& l.mask) != 0)
  && !(match s.strikeJob l.press k with | some (_, j) => decide (j.order < l.order) | none => false)

/-- LAY_ROUND: a lay uses position `k` of its press; `outs` gives for each of its arrays the verifies of its rounds, the
slipped rows of its sweep with their repairs, and whether a pulse starved. -/
def State.layRound (n k : Nat) (outs : List (Nat × List Bool × List (Nat × List Bool) × Bool)) (env : List (Nat × ReadEnv)) (s : State) : State :=
  match s.lay n with
  | none => s
  | some l =>
    let p := l.press
    if l.st ≠ 2 || 10 ≤ k || s.press.hold.isSome || !s.posFree p k || !s.ownsPos l.tenant k || !s.layTurn n l k || s.gated || s.power.stopped
        || s.log.fatal || s.frame.reseatNow then s
    else
      let s1 := (s.usePos p k (s.ownerCode l.tenant)).calCount p 6 1
      l.arrays.foldl (fun (s : State) x =>
        let o := ((outs.find? fun e => e.1 == x.array).map (·.2)).getD ([], [], false)
        s.layArrayStep n x.array o.1 o.2.1 o.2.2 env) s1

/-- LAY_COMMIT (R691): every named array has finished its sweep. -/
def State.layCommit (n : Nat) (s : State) : State :=
  match s.lay n with
  | none => s
  | some l =>
    if l.st ≠ 2 || l.arrays.any (fun x => x.swept < 512) || s.log.fatal then s
    else
      let s1 := l.arrays.foldl (fun (s : State) x =>
        s.updPart l.press x.array l.deck fun d => { d with st := 2, fmt := l.fmt, setId := l.setId, weights := x.data, laidAt := s.press.reels, calAt := s.press.reels, calTemp := s.dieTemp l.press }) s
      (((s1.layDrop n).setEvt (pgPRESS l.press) 16).calCount l.press 1 1).cueEnd n csOK (some s.frame.num) (some (l.mask + 65536 * l.setId))

/-! ### LAY_HOLD (R689, R690) -/

def State.holdMv (s : State) : Nat := s.regF (pgPRESS 0) 0xC0 11 0
def State.releaseMv (s : State) : Nat := max (s.holdMv) (s.regF (pgPRESS 0) 0xC0 27 16)

/-- LAY_HOLD: the VPROG monitor reads `mv` millivolts. -/
def State.vprog (mv : Nat) (s : State) : State :=
  let v := mv % 4096
  let s1 := { s with press := { s.press with mv := v, low := s.press.low || decide (v < s.releaseMv) } }
  if v < s.holdMv && s.press.hold.isNone then ({ s1 with press := { s1.press with hold := some s.frame.num } }).setEvt (pgPRESS 0) 24 else s1

/-- Reel boundary: LAY_HOLD is released after a whole reel at or above RELEASE_MV. -/
def State.holdReel (s : State) : State :=
  { s with press := { s.press with hold := if s.press.low then s.press.hold else none, low := decide (s.press.mv < s.releaseMv) } }

/-- HOLD_TIMEOUT: a lay still held HOLD_MAX scenes after LAY_HOLD fails. -/
def State.holdTimeout (n : Nat) (s : State) : State :=
  match s.lay n, s.press.hold with
  | some l, some f =>
    if 1 ≤ l.st && s.regF (pgPRESS 0) 0xC8 23 8 ≤ framesSince f s.frame.num / 1000 then s.layFail n 9 l.mask else s
  | _, _ => s

/-! ### Calibration (R696 to R701) -/

/-- Ages at which a calibration is due, before the period begins. -/
def calAges : List Nat := [1, 8, 64, 512, 4096]

/-- R697: the calibration of a part is due. -/
def State.calDue (s : State) (p a d : Nat) : Bool :=
  let x := s.part p a d
  let age := s.press.reels - x.laidAt
  let last := x.calAt - x.laidAt
  let period := s.regF (pgPRESS 0) 0xCC 15 0
  let hot := fun (t u : Nat) => s.regF (pgPRESS 0) 0xCC 23 16 < (t - u) + (u - t)
  if x.st = 2 then
    calAges.any (fun g => last < g && g ≤ age) || (4096 ≤ last && period ≤ age - last) || hot (s.dieTemp p) x.calTemp || (s.arr p a).retryDue.testBit d
  else period ≤ s.press.reels - x.calAt

/-- A part becomes DRIFTED (R700). -/
def State.drift (p a d : Nat) (s : State) : State :=
  ((((s.updPart p a d fun x => { x with st := 3 }).setEvt (pgPRESS p) 20).logE 0x0C01 2 none (pgPRESS p) 0 [p, a, d])).driftSettle p d

/-- The measurement of one deck: every array's swatch is updated, `drifted` arrays' LAID parts become DRIFTED and `failed`
arrays become CAL_FAILED. -/
def State.calMeasure (p d : Nat) (drifted failed : List Nat) (s : State) : State :=
  let s1 := forEach (List.range 8) (fun a s =>
    let s1 := (s.updPart p a d fun x => { x with calAt := s.press.reels, calTemp := s.dieTemp p }).swMark p a
    s1.updArr p a fun x =>
      let m := if x.pending = 0 ∨ x.calMask.testBit d then x.calMask else x.calMask + 2 ^ d
      { x with retryDue := if x.retryDue.testBit d then x.retryDue - 2 ^ d else x.retryDue
               calMask := if m = 15 then 0 else m, pending := if m = 15 then 0 else x.pending }) s
  let s2 := (drifted.filter (· < 8)).foldl (fun (s : State) a => if (s.part p a d).st = 2 then s.drift p a d else s) s1
  (failed.filter (· < 8)).foldl (fun (s : State) a =>
    if (s.arr p a).calFailed then s
    else
      let s3 := ((s.updArr p a fun x => { x with calFailed := true }).setEvt (pgPRESS p) 19).calCount p 5 1
      let s4 := forEach (List.range 4) (fun d s => if (s.part p a d).st = 2 then s.drift p a d else s) s3
      (s4.faultDrain .press p).retireAdvice 9 0 (p + a * 65536 + d * 2 ^ 20) (pgPRESS p)) s2

/-- CALIBRATION of deck `d` of press `p` in position `k`. -/
def State.calibrate (p d k : Nat) (drifted failed : List Nat) (s : State) : State :=
  let o := s.slotOwner gPRESS k
  let anyPending := (List.range 8).any fun a => (s.arr p a).pending != 0
  let due := (List.range 8).any fun a => if anyPending then (s.arr p a).pending != 0 && !(s.arr p a).calMask.testBit d else s.calDue p a d
  let prog := s.press.lays.any fun e => e.2.st == 2 && e.2.press == p
  if 288 ≤ p ∨ 4 ≤ d ∨ 10 ≤ k ∨ !(o == ownOpen || o == ownMnt) ∨ !s.posFree p k ∨ !due ∨ prog ∨ s.gated ∨ s.power.stopped ∨ s.log.fatal ∨ !s.isIn .press p then s
  else ((((s.usePos p k ownMnt).calCount p 4 1).calCount p 7 1).calMeasure p d drifted failed)

/-! ### The swatch store (R702 to R707, R714 to R716, R718) -/

/-- Records of every array as they stand. -/
def State.swSnapshot (s : State) : Map SwRec :=
  forEach (List.range 2304) (fun k (m : Map SwRec) =>
    mapPut (fun _ => {}) k { lays := (List.range 4).map fun d => (s.part (k / 8) (k % 8) d).lays, calFailed := (s.arr (k / 8) (k % 8)).calFailed
                             temp := (s.part (k / 8) (k % 8) 0).calTemp } m) []

/-- The active slot: none, A (false) or B (true). -/
def SwatchS.active (w : SwatchS) : Option Bool :=
  match w.validA, w.validB with
  | true, true => some (decide (w.seqA < w.seqB))
  | true, false => some false
  | false, true => some true
  | false, false => none

def SwatchS.recs (w : SwatchS) : Map SwRec := match w.active with | some true => w.recsB | some false => w.recsA | none => []
def SwatchS.seq (w : SwatchS) : Nat := match w.active with | some true => w.seqB | some false => w.seqA | none => 0

/-- R707: a store may start. -/
def State.storeDue (s : State) : Bool :=
  let w := s.press.swatch
  let since := framesSince w.last s.frame.num / 1000
  let grown := s.press.parts.any fun e => (mapGet (fun _ => ({} : SwRec)) w.recs (e.1 / 4)).lays.getD (e.1 % 4) 0 + 1024 ≤ e.2.lays
  !w.marked.isEmpty &&
    (if w.fails != 0 && !w.now then s.regF (pgPRESS 0) 0xD0 31 16 * 1000 ≤ since
     else s.regF (pgPRESS 0) 0xD0 15 0 * 1000 ≤ since || (grown && s.regF (pgPRESS 0) 0xD0 31 16 * 1000 ≤ since) || w.now)

/-- Write the inactive slot (R705); a failed erase or program leaves the active slot as it is (R716). -/
def State.storeWrite (fails : Bool) (s : State) : State :=
  let w := s.press.swatch
  if fails then
    let n := w.fails + 1
    let s1 := ({ s with press := { s.press with swatch := { w with fails := n, last := s.frame.num, now := false } } }).setEvt (pgPRESS 0) 26
    if n = 3 then s1.retireAdvice 12 0 0 (pgPRESS 0) else s1
  else
    let snap := s.swSnapshot
    let w1 := match w.active with
      | some false => { w with validB := true, seqB := w.seqA + 1, recsB := snap }
      | some true => { w with validA := true, seqA := w.seqB + 1, recsA := snap }
      | none => { w with validA := true, seqA := 1, recsA := snap }
    ({ s with press := { s.press with swatch := { w1 with marked := [], fails := 0, last := s.frame.num, now := false } } }).setEvt (pgPRESS 0) 25

/-- SWATCH_STORE. -/
def State.swatchStore (fails : Bool) (s : State) : State := if s.storeDue then s.storeWrite fails else s

/-- STORE_NOW. -/
def State.storeNow (s : State) : State := { s with press := { s.press with swatch := { s.press.swatch with now := true } } }

/-- R718: load the swatches of the active slot; marked arrays are recalibrate-pending, and every array where no slot is
valid. Weights do not survive (R642). -/
def State.swatchLoad (s : State) : State :=
  let w := s.press.swatch
  let recs := w.recs
  let s1 := forEach (List.range 2304) (fun k (s : State) =>
    let r := mapGet (fun _ => ({} : SwRec)) recs k
    let s1 := forEach (List.range 4) (fun d s => s.updPart (k / 8) (k % 8) d fun x => { x with lays := r.lays.getD d 0, calTemp := r.temp }) s
    let pend := w.active.isNone || decide (k ∈ w.marked)
    s1.updArr (k / 8) (k % 8) fun x => { x with calFailed := r.calFailed, pending := if pend then 2 else 0 }) s
  if w.active.isNone then
    ({ s1 with press := { s1.press with swatch := { w with marked := List.range 2304 } } }).setEvt (pgPRESS 0) 27 |>.logE 0x0C02 3 none (pgPRESS 0) 0 []
  else s1

/-! ### Registers of the cells -/

def State.readCells (s : State) (p r : Nat) : Option Word32 :=
  let a := s.regF (pgPRESS p) 0xA0 2 0; let d := s.regF (pgPRESS p) 0xA0 5 4
  let x := s.part p a d; let y := s.arr p a
  let w := s.press.swatch
  let active := s.press.lays.find? fun e => 1 ≤ e.2.st && e.2.press == p && e.2.deck == d && e.2.mask.testBit a
  if r = 0xA4 then some (place x.st 2 0 ||| place x.fmt 1 4 ||| placeB (y.pending != 0) 5 ||| placeB y.calFailed 6 ||| place x.setId 16 16)
  else if r = 0xA8 then some (BitVec.ofNat 32 x.lays)
  else if r = 0xAC then some (BitVec.ofNat 32 (if x.st = 2 then min (2 ^ 32 - 1) (s.press.reels - x.laidAt) else 0))
  else if r = 0xB0 then
    match active with
    | some (_, l) =>
      let z := (l.arrays.find? fun z => z.array == a).getD { array := a }
      some (place z.row 10 0 ||| place (if s.press.hold.isSome then 3 else if l.st = 1 then 0 else if z.row < 512 then 1 else 2) 2 12)
    | none => some 0#32
  else if r = 0xB8 then some (BitVec.ofNat 32 (s.ctr (ofsOf (pgPRESS p) 0xB8) (s.regF (pgPRESS p) 0xB4 2 0)))
  else if p ≠ 0 then none
  else if r = 0xC4 then some (place s.press.mv 12 0 ||| placeB s.press.hold.isSome 16)
  else if r = 0xD4 then some (BitVec.ofNat 32 w.seq)
  else if r = 0xD8 then some (placeB (w.active == some true) 0 ||| place (min 15 w.fails) 4 4 ||| place w.marked.length 12 16)
  else if r = 0xDC then some (placeB w.now 0)
  else none

end Sys2Proof.Machine
end

