-- ==== Sys2Proof/Machine/Functions.lean ====
section
/-!
DEFINITION. Host functions (ch. 05) and the mailbox (ch. 04): interrupts and their messages, power states, the tenant page,
the window control page and the lease, MCTP, SPDM, the mailbox commands and the fabric-manager commands.
-/

namespace Sys2Proof.Machine

open Sys2Proof

/-! ### Functions presented (R244 to R247, R296) -/

/-- The tenant function of a port, link and LD is presented (Table — Functions presented). -/
def State.presents (s : State) (k : Nat) : Bool :=
  let p := k / 32; let l := k / 16 % 2; let ld := k % 16
  let h := s.hport p
  decide (p < 8) && h.cfgReady && !s.fw.recovery &&
    (match s.idMode p with
     | 0 => decide (ld < s.lds p) && (if h.bifurc then decide (ld < 8) else l == 0)
     | 2 => l == 0 && ld == 0
     | _ => false)

/-- The management function is presented. -/
def State.mgmtUp (s : State) : Bool := s.sys.mgmtEn && (s.hport s.sys.mgmtPort).cfgReady

/-- A function: none is the management function. -/
def State.fnOf (s : State) (f : Option Nat) : Fn := match f with | none => s.mfn | some k => s.fn k
def State.updFnOf (f : Option Nat) (g : Fn → Fn) (s : State) : State := match f with | none => { s with mfn := g s.mfn } | some k => s.updFn k g
def State.hasFn (s : State) (f : Option Nat) : Bool := match f with | none => s.mgmtUp | some k => s.presents k
def State.fnPortOf (s : State) (f : Option Nat) : Nat := match f with | none => s.sys.mgmtPort | some k => fnPort k
/-- Number of a function in outputs. -/
def fnNum (f : Option Nat) : Nat := match f with | none => 0 | some k => k + 1

/-! ### Cancellation of cues (R225, R234, R285, R602, R670, R692) -/

/-- Cancel every running cue of the rings of some functions: press jobs and lays stop first. -/
def State.cancelCues (hit : Nat → Bool) (s : State) : State :=
  let mine := s.cues.runs.filter fun e => e.2.ring < 512 && hit e.2.fn && e.2.phase < 2
  let s1 := mine.foldl (fun (s : State) e => (s.jobCancel e.1).layCancel e.1) s
  s1.cancelRings hit

/-! ### Interrupt messages (R267 to R270, R272, R275, R287) -/

/-- The management function has an enabled cause set (INTA level): an enabled event of a page whose map entry is enabled, or
an enabled service event. -/
def State.mgmtLevel (s : State) : Bool :=
  (s.hdrs.any fun e => (e.2.stat &&& e.2.ena) != 0#32 && (s.vmapOf e.1).2) || (s.svcEvt &&& s.reg (ofsOf pgSYS 0x378)) != 0#32

/-- An enabled cause of a function is set. -/
def State.fnLevel (s : State) (f : Option Nat) : Bool :=
  match f with
  | none => s.mgmtLevel
  | some k => ((s.fn k).stat &&& (s.fn k).ena) != 0#32

/-- The messages of one function at the frame edge. -/
def State.vectorSend (f : Option Nat) (s : State) : State :=
  let x := s.fnOf f
  let p := s.fnPortOf f
  let h := s.hport p
  if h.d3cold then
    -- R275, R287: causes stay; WAKE# is driven for a PME-enabled cause
    if x.pmeEn && s.fnLevel f && !h.wakeLow then ((s.updPort p fun h => { h with wakeLow := true }).emit (.wake p true)).setEvt (pgHPORT p) 14 else s
  else if x.pm = .d3hot then
    if !x.now.isEmpty && x.pmeEn && !x.pmeStat then (s.updFnOf f fun x => { x with pmeStat := true }).emit (.pmPme (fnNum f)) else s
  else if x.pm ≠ .d0 then s
  else if !(h.hold == .run) || !s.hasFn f then s.updFnOf f fun x => { x with now := [] }
  else if x.msixEn then
    let go := x.now.filter fun v => decide (v ∈ x.unmasked)
    let wait := x.now.filter fun v => !decide (v ∈ x.unmasked)
    let s1 := go.foldl (fun (s : State) v => s.emit (.msi (fnNum f) v)) s
    s1.updFnOf f fun x => { x with now := [], pending := wait.foldl (fun l v => addOnce v l) (x.pending.filter fun v => !decide (v ∈ go)) }
  else if x.msiEn then
    let ms := (x.now.map fun v => v % max 1 x.msiN).dedup
    (ms.foldl (fun (s : State) v => s.emit (.msi (fnNum f) v)) s).updFnOf f fun x => { x with now := [] }
  else
    let lv := !x.intDis && s.fnLevel f
    let s1 := s.updFnOf f fun x => { x with now := [], intaOn := lv }
    if lv == x.intaOn then s1 else s1.emit (.inta (fnNum f) lv)

/-- VECTOR_SEND for every function; causes seen in the frame that ended are forgotten (R914). -/
def State.vectorSends (s : State) : State :=
  let s1 := (none :: s.fns.map fun e => some e.1).foldl (fun (s : State) f => s.vectorSend f) s
  { s1 with fns := mapAll (fun _ => {}) (fun _ x => { x with seen := 0#32 }) s1.fns }

/-- MSIX_UNMASK: a vector's mask bit becomes 0; a pending message goes in the next frame. -/
def State.msixUnmask (f : Option Nat) (v : Nat) (s : State) : State :=
  if !s.hasFn f || (if f.isNone then 2048 else 32) ≤ v then s
  else s.updFnOf f fun x =>
    { x with unmasked := addOnce v x.unmasked, now := if v ∈ x.pending then addOnce v x.now else x.now, pending := x.pending.filter (· != v) }

/-! ### Power states and configuration (R271, R272) -/

/-- PM_STATE_WRITE: the host writes a function's configuration and power state (0 D0, 3 D3hot; D1 and D2 leave the state). -/
def State.pmWrite (f : Option Nat) (st : Nat) (c : FnCfg) (s : State) : State :=
  if !s.hasFn f then s
  else s.updFnOf f fun x => { x with
    pm := if st = 0 then .d0 else if st = 3 then .d3hot else x.pm
    busMaster := c.busMaster, memSpace := c.memSpace, romEn := c.romEn, intDis := c.intDis, msixEn := c.msixEn, msiEn := c.msiEn
    msiN := c.msiN, pmeEn := c.pmeEn, pmeStat := x.pmeStat && !c.pmeClear }

/-- CONFIG_READY of a port (R295, R296): once the description table exists and PERST# is deasserted. -/
def State.configReady (p : Nat) (s : State) : State :=
  if 8 ≤ p || s.sys.table.isNone || (s.hport p).perst || (s.hport p).cfgReady then s
  else
    let s1 := forEach (portFns p) (fun k s => s.updFn k fun _ => {}) (s.updPort p fun h => { h with cfgReady := true })
    let s2 := if s.sys.mgmtEn && s.sys.mgmtPort == p then
        { s1 with mfn := { s1.mfn with pm := .d0uninit }, mgmt := { s1.mgmt with winMode := false } } else s1
    if s.sys.cfgReady then s2 else { s2 with sys := { s2.sys with cfgReady := true }, mgmt := { s2.mgmt with lease := 0 }, mctp := { s2.mctp with eid := 0 } }

/-! ### The tenant page (R251 to R254) -/

/-- TENANT_PAGE_WRITE of a doubleword at offset `o` by function `k`. A write charges 1 of the port's take. -/
def State.tenantPageWrite (k o : Nat) (v : Word32) (s : State) : State :=
  if !s.presents k || !s.pageReach k || o % 4 != 0 then s
  else
    let t := s.fnTenant k
    let s1 := s.chargeSplit (fnPort k) 0 0 (match t with | some t => s.ownerCode t | none => ownOpen) 1
    if o = 0x20 then s1.updFn k fun x => { x with stat := x.stat &&& ((v &&& 0x3FFFF#32) ^^^ 0xFFFFFFFF#32 ||| x.seen) }
    else if o = 0x24 then s1.updFn k fun x => { x with ena := v &&& 0x3FFFF#32 }
    else if 0x40 ≤ o ∧ o ≤ 0x50 then
      let b := o - 0x40
      s1.updFn k fun x => { x with map := forEach ((List.range 4).filter fun j => b + j < 18) (fun j m => mapPut (fun c => c) (b + j) (field v (8 * j + 4) (8 * j)) m) x.map }
    else if 0x100 ≤ o ∧ o < 0x200 then
      let r := (o - 0x100) / 64; let q := (o - 0x100) % 64
      if q = 0 then s1.doorbell k r (field v 15 0)
      else if q = 0x08 ∨ q = 0x0C then s1.ringSet k r q v
      else if q = 0x10 then s1.ringCtl k r v
      else s1
    else s1

/-- One doubleword of the tenant page as function `k` reads it. -/
def State.readTenantPage (s : State) (k o : Nat) : Word32 :=
  let p := fnPort k
  let h := if s.idMode p = 1 then none else s.matchId p (k / 16 % 2) (k % 16)
  let i := s.ident (h.getD 0)
  let x := s.fn k
  if o = 0x00 then place p 3 20 ||| (match h with | some n => place i.tenant 7 0 ||| place n 10 8 ||| placeB true 24 | none => 0#32)
  else if o = 0x04 then placeB s.sys.memActive 0 ||| placeB (h.isSome && (s.ten i.tenant).sealed) 1 ||| placeB (h.isSome && i.lost != 0) 2
    ||| place (s.hport p).hold.code 2 4
  else if o = 0x08 then word32 s.frame.num 0
  else if o = 0x10 then (match h with
    | some _ => place (mapGet (fun _ => 0) (s.hport p).load i.tenant) 8 0 ||| place (s.devLoad p i.tenant) 2 8
    | none => 0#32)
  else if o = 0x20 then x.stat
  else if o = 0x24 then x.ena
  else if 0x40 ≤ o ∧ o ≤ 0x50 then
    (List.range 4).foldl (fun (w : Word32) j => w ||| (if o - 0x40 + j < 18 then place (x.vecOf (o - 0x40 + j)) 5 (8 * j) else 0#32)) 0#32
  else if 0x100 ≤ o ∧ o < 0x200 then
    (match h with | some _ => s.readRing k i.tenant ((o - 0x100) / 64) ((o - 0x100) % 64) | none => 0#32)
  else 0#32

/-! ### PME, resets and the DOE (R273, R274, R289, R293) -/

/-- The conditions of R273. -/
def State.quiet (s : State) (p : Nat) : Bool :=
  (portFns p).all (fun k => !s.presents k || (s.fn k).pm == .d3hot)
    && !(s.cues.runs.any fun e => e.2.ring < 512 && fnPort e.2.fn == p && e.2.phase < 2)
    && (s.hport p).respQ.isEmpty && s.portIdle p
    && (s.idsOn p).all fun h => (s.ident h).clearing.isNone

/-- PME_TO_Ack leaves once the port is quiet. -/
def State.pmeAck (p : Nat) (s : State) : State :=
  if (s.hport p).turnOff.isSome && s.quiet p then (s.updPort p fun h => { h with turnOff := none, quiesced := true }).emit (.pmeToAck p) else s

/-- PME_TURN_OFF: the port quiesces; its acknowledgement follows when the conditions hold. -/
def State.pmeTurnOff (p : Nat) (s : State) : State :=
  if 8 ≤ p || (s.hport p).perst || (s.hport p).turnOff.isSome then s
  else
    let s1 := s.updPort p fun h => { h with turnOff := some s.frame.num, quiesced := false }
    -- the grants of the port's identities are recalled by bulk clears
    ((s1.idsOn p).foldl (fun (s : State) h => if (s.mLines h).isEmpty then s else s.bulkClear h (s.mLines h)) s1).pmeAck p

/-- QUIESCE_TIMEOUT: 125 frames after PME_Turn_Off the port acknowledges regardless, and its running cues are cancelled. -/
def State.quiesceTimeout (p : Nat) (s : State) : State :=
  match (s.hport p).turnOff with
  | none => s
  | some f =>
    if framesSince f s.frame.num < 125 then s
    else (((s.cancelCues fun k => fnPort k == p).updPort p fun h => { h with turnOff := none }).emit (.pmeToAck p)).setEvt (pgHPORT p) 16

/-- FLR of a tenant function (R234), or of the management function (R289). -/
def State.flr (f : Option Nat) (s : State) : State :=
  if !s.hasFn f then s
  else match f with
  | some k => (s.cancelCues (· == k)).updFn k fun _ => {}
  | none =>
    let m := s.mgmt
    let s1 := { s with
      mgmt := { m with queue := mapPut (fun _ => []) 1 [] m.queue, held := m.held.filter (fun a => a.src != 1), winMode := false, winBase := 0
                       lease := if m.lease = 1 then 0 else m.lease }
      mfn := {} }
    let n := (mapGet (fun _ => []) m.queue 1).length + (m.held.filter fun a => a.src == 1).length
    let s1 := s1.bump (ofsOf pgSYS 0x7C) 3 n
    match s1.bg with
    | some b => if b.fn = 0 then { s1 with bg := none, bgLast := 2 } else s1
    | none => s1

/-- CXL_RESET of a tenant function (R234). -/
def State.cxlReset (k : Nat) (s : State) : State := if s.presents k then s.cancelCues (· == k) else s

/-- DOE_ABORT (R293). -/
def State.doeAbort (f : Option Nat) (s : State) : State := if s.hasFn f then s.updFnOf f fun x => { x with doe := false } else s

/-! ### The window control page and the lease (R255, R262, R264, R266) -/

/-- WIN_CTL_WRITE, as the management path takes it. -/
def State.winCtl (v : Word32) (s : State) : State := { s with mgmt := { s.mgmt with winMode := bitOf v 0, winBase := field v 21 16 } }

/-- Take the lease for a holder code if it is free. -/
def State.leaseTake (o : Nat) (s : State) : State := if s.mgmt.lease = 0 then { s with mgmt := { s.mgmt with lease := o, idle := 0 } } else s
/-- Free the lease if the holder has it. -/
def State.leaseDrop (o : Nat) (s : State) : State := if s.mgmt.lease = o then { s with mgmt := { s.mgmt with lease := 0, idle := 0 } } else s

/-- LEASE_TIMEOUT: 125,000 frames without an access from the holder. -/
def State.leaseTimeout (s : State) : State := if s.mgmt.lease ≠ 0 ∧ 125000 ≤ s.mgmt.idle then s.leaseDrop s.mgmt.lease else s

/-- LEASE_CLAIM and LEASE_FREE messages: over SMBus, I3C or the relay. -/
def MgmtSrc.code : MgmtSrc → Nat
  | .window => 1 | .smbus => 2 | .i3c => 3 | .relay => 4 | .keaquin => 5

/-- The endpoint answers MCTP only from configuration ready on (R295). -/
def State.mctpUp (s : State) : Bool := s.sys.cfgReady

def State.leaseClaim (src : MgmtSrc) (s : State) : State :=
  if s.mctpUp then let s1 := s.leaseTake src.code; s1.emit (.mctp 0x7E [2, src.code, s1.mgmt.lease]) else s
def State.leaseFree (src : MgmtSrc) (s : State) : State :=
  if s.mctpUp then let s1 := s.leaseDrop src.code; s1.emit (.mctp 0x7E [3, src.code, s1.mgmt.lease]) else s

/-! ### MCTP control (R280) -/

/-- SET_ENDPOINT_ID: reassigning it frees a lease an MCTP holder has. -/
def State.setEid (eid : Nat) (s : State) : State :=
  if !s.mctpUp then s
  else
    let s1 := { s with mctp := { s.mctp with eid := eid % 256 } }
    (if s.mgmt.lease = 2 ∨ s.mgmt.lease = 3 then s1.leaseDrop s.mgmt.lease else s1).emit (.mctp 1 [eid % 256])
def State.getEid (s : State) : State := if s.mctpUp then s.emit (.mctp 2 [s.mctp.eid]) else s
/-- *Table — MCTP message types*. -/
def State.getTypes (s : State) : State := if s.mctpUp then s.emit (.mctp 5 [0x00, 0x05, 0x06, 0x07, 0x08, 0x7E]) else s
/-- The versions the spec leaves to MCTP are free values. -/
def State.getMctpVersion (s : State) : State := if s.mctpUp then (s.draw).2.emit (.mctp 4 [(s.draw).1]) else s

/-! ### SPDM (R281, R282, R293) -/

def State.spdmOf (s : State) (via : Nat) : Spdm := mapGet (fun _ => {}) s.mctp.spdm via
def State.updSpdm (via : Nat) (f : Spdm → Spdm) (s : State) : State := { s with mctp := { s.mctp with spdm := mapUpd (fun _ => {}) via f s.mctp.spdm } }

/-- A transport is in service: MCTP from configuration ready on, a function's DOE while the function is presented. -/
def State.spdmUp (s : State) (via : Nat) : Bool := if via = 0 then s.mctpUp else if via = 1 then s.mgmtUp else s.presents (via - 2)

/-- R293: over DOE the answer is the object in flight in the function's mailbox (log entry 29). -/
def State.doePut (via : Nat) (s : State) : State :=
  if via = 0 then s else s.updFnOf (if via = 1 then none else some (via - 2)) fun x => { x with doe := true }

/-- A request is answered: with an effect where SPDM's order of requests allows it, with an error where it does not. -/
def State.spdmStep (via req : Nat) (ok : Bool) (f : Spdm → Spdm) (s : State) : State :=
  if !s.spdmUp via then s
  else if ok then ((s.updSpdm via f).doePut via).emit (.spdm via req true) else (s.doePut via).emit (.spdm via req false)

def State.spdmVersion (via : Nat) (s : State) : State := s.spdmStep via 0x84 true (fun _ => { stage := 1 })
def State.spdmCapabilities (via : Nat) (s : State) : State := s.spdmStep via 0xE1 (1 ≤ (s.spdmOf via).stage) (fun x => { x with stage := 2 })
/-- The suite is ECDSA P-384, SHA-384 and AES-256-GCM. -/
def State.spdmAlgorithms (via : Nat) (offered : Bool) (s : State) : State :=
  s.spdmStep via 0xE3 (2 ≤ (s.spdmOf via).stage && offered) (fun x => { x with stage := 3 })
/-- A request that needs the algorithms and changes nothing. -/
def State.spdmQuery (via req : Nat) (s : State) : State := s.spdmStep via req ((s.spdmOf via).stage == 3) (fun x => x)
def State.spdmKeyExchange (via : Nat) (both : Bool) (s : State) : State :=
  s.spdmStep via 0xE4 ((s.spdmOf via).stage == 3) (fun x => { x with opening := true, session := false, mutualAuth := both })
/-- FINISH: `ok` says that the requester's data verifies. -/
def State.spdmFinishOp (via : Nat) (ok : Bool) (s : State) : State :=
  s.spdmStep via 0xE5 ((s.spdmOf via).opening && ok) (fun x => { x with opening := false, session := true })
def State.spdmHeartbeat (via : Nat) (s : State) : State := s.spdmStep via 0xE8 (s.spdmOf via).session (fun x => x)
/-- HEARTBEAT_MISSED, or a failed integrity check: the session ends; keys delivered through it stay. -/
def State.spdmMissed (via : Nat) (s : State) : State := s.updSpdm via fun x => { x with session := false, opening := false, mutualAuth := false }
def State.spdmKeyUpdate (via : Nat) (s : State) : State := s.spdmStep via 0xE9 (s.spdmOf via).session (fun x => { x with keyGen := 1 - x.keyGen })
def State.spdmEnd (via : Nat) (s : State) : State :=
  s.spdmStep via 0xEC (s.spdmOf via).session (fun x => { x with session := false, opening := false, mutualAuth := false })

/-- DELIVER_KEY (R282): `chain` says that the requester's certificate chains to the delivery root set. The key takes effect
in the order of R177, subject to R159. -/
def State.deliverKey (via t key : Nat) (chain : Bool) (s : State) : State :=
  let x := s.spdmOf via
  let own := via < 2 || s.fnTenant (via - 2) == some t
  let ok := x.session && x.mutualAuth && chain && own && decide (t < 128)
  if !s.spdmUp via then s
  else if ok then (((s.updTen t fun x => { x with keyBusy := true }).queueCmd (.deliver t (key % 2 ^ 512))).doePut via).emit (.spdm via 0xFE true)
  else (s.doePut via).emit (.spdm via 0xFE false)

/-! ### The mailbox (R222, R223, R250) -/

/-- Return codes. -/
def mbOk : Nat := 0
def mbStarted : Nat := 1
def mbInvalid : Nat := 2
def mbUnsupported : Nat := 3
def mbBusy : Nat := 6

/-- The mailbox of a function takes commands: a tenant function in D0 with its BAR decoded on a usable port; the management
function's also over the sideband (R284). -/
def State.mboxUp (s : State) (f : Option Nat) : Bool :=
  match f with
  | none => s.sys.cfgReady
  | some k => s.presents k && (s.fn k).pm == .d0 && (s.fn k).memSpace && s.hostReady k

/-- Answer a mailbox command; a completion of the management function's signals vector 0 (R269). -/
def State.mbReply (f : Option Nat) (code : Nat) (data : List Nat) (s : State) : State :=
  let s1 := s.emit (.mbox (fnNum f) code data)
  if f.isNone then s1.mgmtCause 0 else s1

/-- Identity and tenant of a function. -/
def State.fnIdent (s : State) (k : Nat) : Option Nat := if s.idMode (fnPort k) = 1 then none else s.matchId (fnPort k) (k / 16 % 2) (k % 16)

/-- Whether an entry is a function's to see: the management function sees every entry, a tenant function its tenant's. -/
def State.sees (s : State) (f : Option Nat) (e : LogEntry) : Bool :=
  match f with
  | none => true
  | some k => e.tenant.isSome && e.tenant == s.fnTenant k

def LogEntry.values (e : LogEntry) : List Nat :=
  [e.seq, e.event, e.sev, (e.tenant.map (· + 1)).getD 0, e.frame, e.page, e.addr, e.detail]

/-- Event records of log `l` that a function has not cleared (R874). -/
def State.recordsOf (s : State) (f : Option Nat) (l : Nat) : List LogEntry :=
  (((s.log.records.filter fun r => r.1 == l && s.sees f r.2).map (·.2))).drop ((s.fnOf f).cleared.getD l 0)

/-- Run a mailbox command for a function: opcode, and the values of its input payload. The answers' values stand in the order
named here; their CXL layout is not the spec's. -/
def State.mailboxOp (f : Option Nat) (op : Nat) (args : List Nat) (s : State) : State :=
  let a := fun k => args.getD k 0
  let ok := fun (l : List Nat) => s.mbReply f mbOk l
  let unsup := s.mbReply f mbUnsupported []
  let mgmt := f.isNone
  let ten := f.bind fun k => s.fnTenant k
  let hid := f.bind fun k => s.fnIdent k
  if !s.mboxUp f then s
  else match op with
  | 0x0001 => ok [if mgmt then 0xB12F else 0xB12A]
  | 0x0002 => ok (match s.bg with | some b => [1, b.opcode, 0] | none => [0, 0, s.bgLast])
  | 0x0100 => if a 0 = 4 then ok ((s.fnOf f).dcRecs.map fun r => [r.1, r.2.1, r.2.2.1, r.2.2.2]).flatten else ok ((s.recordsOf f (a 0)).map LogEntry.values).flatten
  | 0x0101 =>
    if a 0 = 4 then (s.updFnOf f fun x => { x with dcRecs := x.dcRecs.drop (a 1) }).mbReply f mbOk []
    else
      let n := min (a 1) (s.recordsOf f (a 0)).length
      (s.updFnOf f fun x => { x with cleared := x.cleared.set (a 0) (x.cleared.getD (a 0) 0 + n) }).mbReply f mbOk []
  | 0x0102 => ok [(s.fnOf f).policy]
  | 0x0103 => (s.updFnOf f fun x => { x with policy := a 0 % 32 }).mbReply f mbOk []
  | 0x0300 => ok [if s.mfn.tstamp = 0 then 0 else s.mfn.tstamp + 1000 * framesSince s.mfn.tstampAt s.frame.num]
  | 0x0301 => if mgmt then ({ s with mfn := { s.mfn with tstamp := a 0, tstampAt := s.frame.num } }).mbReply f mbOk [] else unsup
  | 0x0400 => ok [0]
  | 0x0401 => ok (((s.log.ring ++ s.log.onchip).filter (s.sees f)).map LogEntry.values).flatten
  | 0x4000 => ok [0, 0, 0, s.bindMax]
  | 0x4200 => (s.draw).2.mbReply f mbOk [(s.draw).1]
  | 0x4300 =>
    let mine := s.log.plist.filter fun l => match f with
      | none => true
      | some _ => match ten with | some t => (s.reach t (granuleOfLine l)).isSome | none => false
    ok (boolN s.log.plistOvf :: mine)
  | 0x4301 => if mgmt && s.tables.debug then (s.originPoison (a 0)).mbReply f mbOk [] else unsup
  | 0x4302 => if mgmt && s.tables.debug then
      ((s.writeFor (a 0) 0 clsMNT ((args.drop 1).map (BitVec.ofNat 8)) fullBe false goodEnv false .internal).setPoison (a 0) false |>.plistDrop (a 0)).mbReply f mbOk []
    else unsup
  | 0x4800 => ok [0, 262144, 1]
  | 0x4801 => ok ((s.extents.filter fun e => !e.offered && (mgmt || hid == some e.hid)).map fun e => [e.hid, e.base, e.count, e.tag]).flatten
  | 0x4802 => match hid with
    | some h => if mgmt then unsup else (s.dcAccept h (a 0) (a 1) (a 2 != 0)).mbReply f mbOk []
    | none => unsup
  | 0x4803 => match hid with
    | some h => if mgmt then unsup else
        if s.extents.any (fun e => e.hid == h && e.base == a 0 && e.count == a 1) then (s.dcEnd h (a 0) (a 1)).mbReply f mbOk [] else s.mbReply f mbInvalid []
    | none => unsup
  | 0xC000 => match (if mgmt then some (a 0) else ten) with
    | some t => ok [s.openBytes t, s.foldBytes t, s.ovfUse t, ((List.range 8).map fun p => mapGet (fun _ => 0) (s.hport p).load t).foldl max 0,
        ((List.range 8).filter fun p => (s.idsOn p).any (fun h => (s.ident h).tenant == t) && (s.hport p).hold != .run).length]
    | none => s.mbReply f mbInvalid []
  | 0xC001 =>
    let r := match f with
      | none => s.boundAt (a 0)
      | some _ => ten.bind fun t => s.reach t (a 0)
    (match r with | some (i, _) => ok [s.regionTag i] | none => s.mbReply f mbInvalid [])
  | 0xC002 => if mgmt then ok (((s.log.ring.filter fun e => a 0 ≤ e.seq).take 128).map LogEntry.values).flatten else unsup
  | 0xC003 => match (if mgmt then some (a 0) else f.map fnPort) with
    | some p => ok [(s.hport p).hold.code, (s.hport p).cause]
    | none => unsup
  | _ => unsup

/-! ### The fabric manager (R223) -/

/-- The fabric-manager API stays in service whatever a host port does (R284). -/
def State.fmReply (code : Nat) (l : List Nat) (s : State) : State := if s.sys.cfgReady then s.emit (.fm code l) else s

/-- SET_LD_ALLOCATIONS, within R199. -/
def State.setLds (p n : Nat) (s : State) : State :=
  let w := s.reg (ofsOf (pgHPORT p) 0x4C)
  let s1 := s.idCfgWrite p ((w &&& 0xFFFFE0FF#32) ||| place n 5 8)
  if s.sys.cfgReady then s1.emit (.fm 0 [s1.lds p]) else s

/-- TUNNEL_MANAGEMENT_COMMAND to an LD: run by its function's mailbox. -/
def State.fmTunnel (p ld op : Nat) (args : List Nat) (s : State) : State :=
  if s.sys.cfgReady && s.presents (fnKey p 0 ld) then (s.mailboxOp (some (fnKey p 0 ld)) op args).emit (.fm 0 []) else s.fmReply mbInvalid []

/-- ADD_DC_EXTENT_REFERENCE: add or remove a reference to a tag. -/
def State.dcReference (tag : Nat) (add : Bool) (s : State) : State :=
  if !s.sys.cfgReady then s
  else if add && !s.extents.any (fun e => e.tag == tag) then s.emit (.fm mbInvalid [])
  else ({ s with mctp := { s.mctp with refs := if add then addOnce tag s.mctp.refs else s.mctp.refs.filter (· != tag) } }).emit (.fm 0 [])

/-- LIST_TAGS: the extent tags in use. -/
def State.dcTags (s : State) : List Nat := ((s.extents.map (·.tag)).filter (· != 0) ++ s.mctp.refs).dedup

/-- BACKGROUND_COMMAND_DONE (R250): the background command completes; its function's MBOX cause is raised. -/
def State.bgDone (s : State) : State :=
  match s.bg with
  | none => s
  | some b =>
    let s1 := { s with bg := none, bgLast := b.result }
    if b.fn = 0 then s1.mgmtCause 0 else s1.fnCause (b.fn - 1) 15

end Sys2Proof.Machine
end

