-- ==== Sys2Proof/Machine/DramCmds.lean ====
section
/-!
DEFINITION. The commands of the DRAM channels (ch. 11): the retirement table, migration, refresh, the flush of the front
cache, the patrol scrub and the loss of a channel.
-/

namespace Sys2Proof.Machine

open Sys2Proof

/-! ### Retirement commands (R509 to R512) -/

def retIdx : Nat := ofsOf (pgMEDIA 0) 0x10C

/-- RET_READ: the staged words take the selected entry. -/
def State.retRead (s : State) : State :=
  if s.dram.retCmd.isSome then s
  else
    let e := s.retEntry (field (s.reg retIdx) 9 0)
    ((s.setReg (ofsOf (pgMEDIA 0) 0x110) e.lo).setReg (ofsOf (pgMEDIA 0) 0x114) (e.hi ||| placeB e.done 31))

/-- RET_WRITE and RET_RELEASE: the command waits for the next step 2; a second one meanwhile is discarded. -/
def State.retLater (op : Nat) (s : State) : State :=
  if s.dram.retCmd.isSome then s
  else { s with dram := { s.dram with retCmd := some (field (s.reg retIdx) 9 0, op, s.reg (ofsOf (pgMEDIA 0) 0x110), s.reg (ofsOf (pgMEDIA 0) 0x114)) } }

/-- A write of RET_CMD.OP. -/
def State.retOp (op : Nat) (s : State) : State :=
  if op = 1 then s.retRead else if op = 2 ∨ op = 3 then s.retLater op else s

/-- RETIRE_MIGRATION_DONE: the last unit of the entry's row or bank has moved (R511). -/
def State.retDone (i : Nat) (s : State) : State :=
  let e := s.retEntry i
  if e.valid && e.active && !e.done then (s.updRet i fun e => { e with done := true }).setEvt (pgMEDIA 0) 8 else s

/-- A channel has units to move: it drains, or a retirement entry of it is not DONE. -/
def State.moves (s : State) (c : Nat) : Bool :=
  (s.unit .dram c).st == .drain || s.dram.ret.any fun e => e.2.valid && e.2.active && !e.2.done && retChan e.2.lo == c

/-- UNIT_MIGRATION_COPY of a page's open frame or of its slips (R511, R517, R523): read from the old unit, written to a
new one on the channel R498 picks; it waits where there is no free unit. -/
def State.unitCopy (p : Nat) (slips : Bool) (s : State) : State :=
  let r := s.page p
  match (if slips then r.slipCh else r.frameCh), s.pickChan with
  | some c, some d =>
    if !s.moves c || s.unitsFree d == 0 then s
    else
      let n := if slips then 4 * r.slips else 64
      let o := s.ownerCode ((s.pageOwner p).getD 0)
      let s1 := (s.chargeSplit gDRAM c 0 o n).chargeSplit gDRAM d 0 o n
      s1.updPage p fun r => if slips then { r with slipCh := some d } else { r with frameCh := some d }
  | _, _ => s

/-! ### Refresh (R500, R501, R518) -/

/-- Refresh and refresh management on a channel: the commands due fit maintenance and open slots, or are postponed, at most
four; at the fourth the next opportunity is taken ahead of any waiting access. -/
def State.refresh (c : Nat) (s : State) : State :=
  if (s.chan c).kind = 0 ∨ (s.unit .dram c).st = .out then s
  else
    let due := (s.chan c).postponed + 1
    let n := min due (s.availOf gDRAM c 0 ownMnt / 8)
    if 0 < n then (s.useTake gDRAM c 0 ownMnt (8 * n)).updChan c fun x => { x with postponed := due - n }
    else if due ≤ 4 then (s.updChan c fun x => { x with postponed := due }).bump (ofsOf (pgMEDIA c) 0x50) 7 1
    else s.useTake gDRAM c 0 ownMnt 8

/-! ### The flush of the front cache (R508) -/

/-- Write back dirty lines as class MNT work, as far as the frame's maintenance and open shares carry. -/
def State.flushStep (s : State) : State :=
  if !s.dram.flush then s
  else
    let s1 := s.dram.fc.foldl (fun (s : State) e =>
      let c := s.frameChan (pageOfLine e.1)
      if e.2.dirty && 1 ≤ s.availOf gDRAM c 0 ownMnt then
        ((s.charge gDRAM c 0 ownMnt 1).bump (ofsOf (pgMEDIA 0) 0x124) 2 1).updFc e.1 fun f => { f with dirty := false }
      else s) s
    if s1.dram.fc.any fun e => e.2.dirty then s1 else { s1 with dram := { s1.dram with flush := false } }

def State.fcFlush (s : State) : State := ({ s with dram := { s.dram with flush := true } }).flushStep

/-! ### Patrol scrub (R503, R504, R514, R520) -/

/-- One scrub read of a line of an IN channel: a corrected line is written back, poison stays, thresholds apply; a line in
a migration, retirement or drain is skipped. -/
def State.scrubRead (line : Nat) (env : ReadEnv) (s : State) : State :=
  let c := s.frameChan (pageOfLine line)
  if !s.isIn .dram c || s.moves c || s.regF (pgMEDIA 0) 0x100 7 0 = 0 || s.availOf gDRAM c 0 ownMnt == 0 then s
  else
    let l := { env.loc with chan := c }
    let y := s.dramRead line none env ownMnt
    if env.dec = .corrected ∧ y.1 = false then
      let s1 := (y.2.chargeSplit gDRAM c 0 ownMnt 1).bump (ofsOf (pgMEDIA c) 0x50) 3 1
      let k := locRowKey l
      let s2 := s1.updChan c fun x => { x with scrubRows := addOnce k x.scrubRows }
      if k ∈ (s1.chan c).scrubLast then s2.adviseRow l else s2
    else y.2

/-- A pass of the scrub ends: completed passes wrap at 16 bits; the rows corrected become those of the last pass. -/
def State.scrubPass (s : State) : State :=
  { s with
    dram := { s.dram with scrubPasses := (s.dram.scrubPasses + 1) % 65536, scrubPct := 0 }
    chans := mapAll (fun _ => {}) (fun _ (c : DramCh) => { c with scrubLast := c.scrubRows, scrubRows := [] }) s.chans }

/-- The scrub reads of a frame: the lines the patrol reached, with what they decode as, and the percent it has come to;
100 ends the pass. -/
def State.scrub (lines : List (Nat × ReadEnv)) (pct : Nat) (s : State) : State :=
  if s.regF (pgMEDIA 0) 0x100 7 0 = 0 ∨ !s.sys.memActive then s
  else
    let s1 := lines.foldl (fun (s : State) e => s.scrubRead e.1 e.2) s
    if 100 ≤ pct then s1.scrubPass else { s1 with dram := { s1.dram with scrubPct := pct } }

/-! ### The loss of a channel (R522) and heat (R524) -/

/-- What a lost channel held beside pages: sheet descriptors, directory spill entries, pattern slots with whether a
persistent copy verifies. -/
def State.chFatal (c retries : Nat) (sheets dirLines : List Nat) (slots : List (Nat × Bool)) (s : State) : State :=
  if (s.unit .dram c).st = .out then s
  else
    let s0 := if retries = 0 then s.bump (ofsOf (pgMEDIA c) 0x50) 4 4 else if retries = 1 then s.bump (ofsOf (pgMEDIA c) 0x50) 5 4 else s
    let s1 := ((s0.fatalOut .dram c).setEvt (pgMEDIA c) 4).logE 0x0804 3 none (pgMEDIA c) 0 [c]
    let s2 := forEach s1.pageKeys (fun p (s : State) =>
      let r := s.page p
      let s := if r.frameCh = some c then
          let y := (s.fcDropPage p).updPage p fun r => { r with frameCh := none }
          forEach (List.range 64) (fun k (s : State) => s.originPoison (64 * p + k)) y
        else s
      if r.slipCh = some c then s.updPage p fun r => { r with slipCh := none, stored := r.stored.map fun f => { f with bytes := [] } } else s) s1
    let s3 := forEach sheets State.loseSheet s2
    let s4 := forEach dirLines State.dirEcc s3
    let s5 := slots.foldl (fun (s : State) e => s.slotDamaged e.1 e.2) s4
    s5.poolChanged

/-- DIMM_HOT: above the sensor's high limit. -/
def State.dimmHot (c temp : Nat) (s : State) : State :=
  if (s.chan c).kind = 0 then s
  else ((s.updChan c fun x => { x with temp := temp }).setEvt (pgMEDIA c) 5).logE 0x0805 0 none (pgMEDIA c) 0 [c, temp]

end Sys2Proof.Machine
end

