-- ==== Sys2Proof/Machine/Service.lean ====
section
/-!
DEFINITION. Taking units out and bringing them back (ch. 20): service requests, the drained conditions, quarantine, the
shadow reels of presses and the admissions of step 5.
-/

namespace Sys2Proof.Machine

open Sys2Proof

/-- Units of a kind (R836). -/
def UnitKind.count : UnitKind → Nat
  | .hport => 8 | .fport => 8 | .dram => 16 | .shelf => 32 | .lane => 64 | .engine => 32 | .press => 288

/-- The kind with a QUAR_SEL.KIND code. -/
def kindOf (c : Nat) : Option UnitKind :=
  match c with
  | 0 => some .hport | 1 => some .fport | 2 => some .dram | 3 => some .shelf | 4 => some .lane | 5 => some .engine | 6 => some .press
  | _ => none

/-! ### Service requests (R838) -/

/-- The unit is IN and no accepted request takes it out at the next step 5. -/
def State.stays (s : State) (k : UnitKind) (i : Nat) : Bool := s.isIn k i && (s.unit k i).req != some 1

/-- BIND_MAX without a channel. -/
def State.bindWithout (s : State) (k : UnitKind) (i : Nat) : Nat :=
  ((s.updUnit k i fun u => { u with st := .out }).recalcShelf).bindMax

/-- SVC_REJ.CAUSE of a DRAIN request; 0 accepted. -/
def State.drainCause (s : State) (k : UnitKind) (i : Nat) : Nat :=
  if !s.isIn k i then 1
  else match k with
  | .lane => if (List.range 64).any (fun n => n != i && s.stays .lane n) then 0 else 2
  | .press => if (List.range 72).any (fun n => 72 * (i / 72) + n != i && s.stays .press (72 * (i / 72) + n)) then 0 else 2
  | .engine => if s.stays .engine (partner i) then 0 else 3
  | .dram => if s.bindWithout .dram i < s.boundGranules then 4 else 0
  | .shelf => if s.bindWithout .shelf i < s.boundGranules then 4 else 0
  | _ => 0

/-- A refused request. -/
def State.svcReject (cause : Nat) (k : UnitKind) (i : Nat) (s : State) : State :=
  let s1 := ({ s with svcRej := cause }).setSvcEvt 6
  if k = .shelf ∧ cause = 4 then s1.setEvt (pgSH i) 8 else s1

/-- SVC_DRAIN: REQ 1. -/
def State.svcDrain (k : UnitKind) (i : Nat) (s : State) : State :=
  if k.count ≤ i then s
  else
    let c := s.drainCause k i
    if c ≠ 0 then s.svcReject c k i
    else s.updUnit k i fun u => { u with req := some 1 }

/-- SVC_RETURN: REQ 2. -/
def State.svcReturn (k : UnitKind) (i : Nat) (s : State) : State :=
  if k.count ≤ i then s
  else if (s.unit k i).st ≠ .out then s.svcReject 1 k i
  else s.updUnit k i fun u => { u with req := some 2 }

/-- A write of a REQ field; its other values are reserved. -/
def State.svcReq (k : UnitKind) (i req : Nat) (s : State) : State :=
  if req = 1 then s.svcDrain k i else if req = 2 then s.svcReturn k i else s

/-! ### Drained conditions (Table — Per-unit service) -/

/-- A page's move or a host access of the port is still under way. -/
def State.portBusy (s : State) (p : Nat) : Bool :=
  !s.portIdle p
  || s.cues.reads.any (fun x => x.port == p)
  || s.cues.runs.any (fun c => c.2.ring < 512 && fnPort c.2.fn == p)
  || s.tier.pages.any (fun e =>
      e.2.held.any (fun w => match w.who with | .host r => r.m.port == p | _ => false)
      || e.2.reads.any (fun x => match x.who with | .host r => r.m.port == p | _ => false))
  || s.fab.reqs.any (fun e => e.2.valid && match e.2.who with | .host r => r.m.port == p | _ => false)

/-- R454, R523, R564, R607, R641, R770, R846, R850. -/
def State.drained (s : State) (k : UnitKind) (i : Nat) : Bool :=
  match k with
  | .hport => (s.hport i).hold == .held || (!s.portBusy i && s.noGrantsOn i)
  | .fport => (s.fport i).replay.isEmpty && (s.fport i).queue.isEmpty
  | .dram => s.unitsOn i == 0
  | .shelf => !(s.shelf.recs.any fun e => e.2.live && lunChan e.2.lun == i)
  | .lane => (s.lane i).queue.isEmpty && (s.lane i).busy.isEmpty && (s.lane i).outs.isEmpty
  | .engine => !(s.cues.runs.any fun c => c.2.eng == i)
  | .press => (s.jobsOn i).isEmpty && !(s.press.lays.any fun e => e.2.press == i && e.2.st == 2)

/-- UNIT_DRAINED: the condition holds; the unit enters OUT at step 5 of the next edge (R837). -/
def State.unitDrained (k : UnitKind) (i : Nat) (s : State) : State :=
  if (s.unit k i).st = .drain && s.drained k i then s.updUnit k i fun u => { u with req := some 3 } else s

/-! ### Transitions of step 5 (R837, R841) -/

/-- A unit enters DRAIN. -/
def State.enterDrain (k : UnitKind) (i : Nat) (s : State) : State :=
  let s1 := (s.updUnit k i fun u => { u with st := .drain, req := none }).setSvcEvt 0
  match k with
  | .dram => s1.poolChanged
  | .lane => s1.laneDrain i
  | .hport =>
    -- R846: every grant of its identities is recalled
    let keys := (s1.dir.ents.filter fun e => e.2.valid && (s1.holdersOf e.1 e.2).any fun h => (s1.ident h).port == i).map (·.1)
    keys.foldl (fun (s : State) l => s.transStart l (.unshare (2 ^ (128 + i)))) s1
  | _ => s1

/-- A unit enters OUT from DRAIN, QUAR or REJOIN. -/
def State.enterOut (k : UnitKind) (i : Nat) (s : State) : State :=
  let s1 := (s.updUnit k i fun u => { u with st := .out, req := none, fail := none }).setSvcEvt 1
  match k with
  | .lane => s1.setEvt pgPAT 21
  | .press => s1.setEvt (pgPRESS i) 7
  | .fport => s1.setEvt (pgFPORT i) 6
  | .shelf => s1.recalcShelf
  | _ => s1

/-- A unit is admitted (R841, R849): what it comes back with. -/
def State.admitUnit (k : UnitKind) (i : Nat) (s : State) : State :=
  let s1 := (s.updUnit k i fun u => { u with st := .inn, req := none, faults := 0, whole := false }).setSvcEvt 4
  match k with
  | .dram => (s1.updChan i fun c => { c with postponed := 0 }).poolChanged
  | .shelf =>
    let s2 := { s1 with shelf := { s1.shelf with
      recs := s1.shelf.recs.filter fun e => lunChan e.2.lun != i
      blocks := mapAll (fun _ => {}) (fun key (b : ShBlock) => if lunChan (key / 2 ^ 20) = i ∧ b.use ≠ 4 ∧ b.use ≠ 5 then { b with use := 0 } else b) s1.shelf.blocks } }
    s2.recalcShelf
  | .lane => s1.updLane i fun _ => {}
  | _ => s1

/-- Kind of a failed quarantine's advice (R857, R878). -/
def UnitKind.advice : UnitKind → Nat
  | .hport => 10 | .fport => 11 | .dram => 3 | .shelf => 14 | .lane => 6 | .engine => 7 | .press => 8

/-- A quarantine fails on a test, 15 a timeout (R857); the unit goes OUT at step 5. -/
def State.quarFail (k : UnitKind) (i test : Nat) (s : State) : State :=
  ((s.updUnit k i fun u => { u with result := 3, test := test, req := some 5, fail := none }).setSvcEvt 3).retireAdvice k.advice (0xF000 + test) i (unitPage k i)

/-- QUARANTINE_DONE: every test passed, or the first that failed. For a press, `lost` names the parts (array, deck) whose
calibration failed: they return EMPTY with every part not LAID (R717). -/
def State.quarDone (k : UnitKind) (i : Nat) (failed : Option Nat) (lost : List (Nat × Nat)) (s : State) : State :=
  let u := s.unit k i
  if u.st ≠ .quar ∨ u.result ≠ 1 then s
  else match failed with
  | some t => s.quarFail k i t
  | none =>
    if u.fail.isSome then s.quarFail k i u.test
    else
      let s1 := (s.updUnit k i fun u => { u with result := 2, req := some 4 }).setSvcEvt 2
      if k ≠ .press then s1
      else
        forEach (List.range 8) (fun a (s : State) =>
          let s1 := s.updArr i a fun x => { x with pending := 0, calMask := 0, retryDue := 0 }
          forEach (List.range 4) (fun d (s : State) =>
            let s1 := (s.updPart i a d fun x => { x with calAt := s.press.reels, calTemp := s.dieTemp i }).swMark i a
            if (s1.part i a d).st ≠ 2 ∨ (a, d) ∈ lost then s1.emptyPart i a d else s1) s1) s1

/-- QUARANTINE_TIMEOUT: QUAR_TO scenes have passed. -/
def State.quarTimeout (k : UnitKind) (i : Nat) (s : State) : State :=
  let u := s.unit k i
  if u.st = .quar ∧ u.result = 1 ∧ s.regF pgSYS 0x364 23 0 * 1000 ≤ framesSince u.since s.frame.num then s.quarFail k i 15 else s

/-- The press counts its reel (R844); answers whether it is to be admitted. -/
def State.shadowReel (s : State) (u : UnitSvc) : UnitSvc × Bool :=
  let counted := u.whole && s.regF pgSYS 0x360 25 16 ≤ u.strikes && u.agree
  let n := if counted then min 255 (u.shadow + 1) else u.shadow
  ({ u with shadow := n, strikes := 0, agree := true, whole := true }, counted && s.regF pgSYS 0x360 7 0 ≤ n)

/-- Step 5 for one unit; `reel` says that the edge is a reel boundary. -/
def State.svcUnit (reel : Bool) (k : UnitKind) (i : Nat) (s : State) : State :=
  let u := s.unit k i
  match u.st with
  | .inn => if u.req = some 1 then s.enterDrain k i else s
  | .drain => if u.req = some 3 ∧ s.drained k i then s.enterOut k i else if u.req.isSome then s.updUnit k i fun u => { u with req := none } else s
  | .out =>
    if u.req = some 2 then
      s.updUnit k i fun u => { u with st := .quar, req := none, result := 1, test := 1, tries := min 255 (u.tries + 1), since := s.frame.num, shadow := 0, fail := none }
    else s
  | .quar =>
    if u.req = some 4 ∧ u.fail.isNone then
      s.updUnit k i fun u => { u with st := .rejoin, req := none, shadow := 0, strikes := 0, agree := true, whole := reel }
    else if u.req = some 5 then s.enterOut k i
    else if u.fail.isSome then (s.quarFail k i u.test).enterOut k i
    else s
  | .rejoin =>
    match u.fail with
    | some 0 => s.enterOut k i
    | some _ => ((s.enterOut k i).setSvcEvt 5).retireAdvice 9 0 (i + (s.pu i).lastArray * 65536 + (s.pu i).lastDeck * 2 ^ 20) (pgPRESS i)
    | none =>
      if k ≠ .press then s.admitUnit k i
      else if reel then
        let y := s.shadowReel u
        let s1 := s.updUnit k i fun _ => y.1
        if y.2 then s1.admitUnit k i else s1
      else s

/-- Step 5 (R837, R841, R844): every listed unit. -/
def State.svcStep (reel : Bool) (s : State) : State :=
  (s.svc.map (·.1)).foldl (fun (s : State) key =>
    match kindOf (key / 512) with
    | some k => s.svcUnit reel k (key % 512)
    | none => s) s

/-! ### SYS service registers -/

def State.readService (s : State) (r : Nat) : Option Word32 :=
  let sel := s.reg (ofsOf pgSYS 0x368)
  if r = 0x36C then
    match kindOf (field sel 2 0) with
    | none => some 0#32
    | some k =>
      let u := s.unit k (field sel 16 8)
      some (place u.result 2 0 ||| place u.test 4 4 ||| place u.tries 8 8 ||| place u.shadow 8 16)
  else if r = 0x370 then some (place s.svcRej 3 0)
  else if r = 0x374 then some s.svcEvt
  else none

end Sys2Proof.Machine
end

