-- ==== Sys2Proof/Machine/Power.lean ====
section
/-!
DEFINITION. Device power states, temperature and power sensing, and the throttle steps (ch. 23).
-/

namespace Sys2Proof.Machine

open Sys2Proof

/-! ### Thresholds (Table — PRESS0 power and thermal block) -/

def State.tHi (s : State) : Nat := min 105 (s.regF (pgPRESS 0) 0x108 7 0)
def State.tLo (s : State) : Nat := let v := s.regF (pgPRESS 0) 0x108 15 8; if s.tHi < v then s.tHi - 1 else v
def State.tEmerg (s : State) : Nat := min 105 (s.regF (pgPRESS 0) 0x108 23 16)
def State.wLimit (s : State) : Nat := min 560 (s.regF (pgPRESS 0) 0x10C 9 0)

/-- The cap of a step. -/
def capOf (step : Nat) : Nat := 10 - 2 * step

/-- Dies that a sensor concerns: its own, or every die for a hub sensor (R945, R946). -/
def diesOf (sensor : Nat) : List Nat := if sensor < 4 then [0, 1, 2, 3] else [sensor - 4]

/-! ### The pins of R985 -/

/-- FATAL# and THERM_ALERT# follow their conditions. -/
def State.pins (s : State) : State :=
  let alert := s.power.steps.any (0 < ·) || s.power.temp.any fun t => s.tEmerg ≤ t
  let s1 := if s.log.fatal == s.sys.fatalPin then s else ({ s with sys := { s.sys with fatalPin := s.log.fatal } }).emit (.pin 0 s.log.fatal)
  if alert == s1.sys.alertPin then s1 else ({ s1 with sys := { s1.sys with alertPin := alert } }).emit (.pin 1 alert)

/-! ### Readings (R944, R946, R948, R959) -/

/-- The dies of a sensor reach T_EMERG: their step becomes 4 at step 4 of the next edge. -/
def State.emergency (sensor : Nat) (s : State) : State :=
  ({ s with power := { s.power with emerg := (diesOf sensor).foldl (fun l d => addOnce d l) s.power.emerg } }).setEvt (pgPRESS 0) 11

/-- 110 °C: the press-die clocks stop, and THERMAL_TRIP is logged. -/
def State.thermTrip (sensor : Nat) (s : State) : State :=
  if s.power.stopped then s else ({ s with power := { s.power with stopped := true } }).logE 0x1005 5 none pgSYS 0 [sensor]

/-- A reading of a sensor. -/
def State.reading (i deg : Nat) (s : State) : State :=
  if 8 ≤ i then s
  else
    let s1 := { s with power := { s.power with
      temp := listSet i deg s.power.temp
      reelMax := listSet i (max deg (s.power.reelMax.getD i 0)) s.power.reelMax
      silent := listSet i 0 s.power.silent } }
    let s2 := if s.tEmerg ≤ deg then s1.emergency i else s1
    (if 110 ≤ deg then s2.thermTrip i else s2).pins

/-- The readings of a frame: none where a sensor gives no plausible one; and the package power in W. -/
def State.sample (temps : List (Option Nat)) (watts : Nat) (s : State) : State :=
  let s1 := forEach (List.range 8) (fun i (s : State) =>
    match temps.getD i none with
    | some t => s.reading i t
    | none =>
      let n := min 8 (s.power.silent.getD i 0 + 1)
      let s1 := { s with power := { s.power with silent := listSet i n s.power.silent } }
      if n = 8 then s1.emergency i else s1) s
  { s1 with power := { s1.power with wSum := s1.power.wSum + watts, wN := s1.power.wN + 1 } }

/-- THERM_EMERGENCY: a reading at T_EMERG within a frame. -/
def State.thermEmergency (sensor deg : Nat) (s : State) : State := if s.tEmerg ≤ deg then s.reading sensor deg else s

/-- THERMAL_TRIP: a reading of 110 °C or more. -/
def State.thermalTrip (sensor deg : Nat) (s : State) : State := if 110 ≤ deg then s.reading sensor deg else s

/-- SENSOR_FAULT: no plausible reading for 8 frames. -/
def State.sensorFault (i : Nat) (s : State) : State :=
  if i < 8 ∧ s.power.silent.getD i 0 = 8 then (s.emergency i).logE 0x1102 0 none (pgPRESS 0) 0 [i] else s

/-! ### Throttle steps (R945, R946) -/

def State.setStep (d step : Nat) (s : State) : State :=
  if s.power.steps.getD d 0 = step then s
  else (({ s with power := { s.power with steps := listSet d step s.power.steps } }).setEvt (pgPRESS 0) 10).bump (ofsOf (pgPRESS 0) 0x120) 0 1

/-- R945 at a reel boundary, from the reel just ended. -/
def State.throttle (s : State) : State :=
  let w := if s.power.wN = 0 then 0 else s.power.wSum / s.power.wN
  let s1 := forEach (List.range 4) (fun d (s1 : State) =>
    let t := ([0, 1, 2, 3, 4 + d].map fun i => s.power.reelMax.getD i 0).foldl max 0
    let c := s.power.steps.getD d 0
    if s.tHi ≤ t ∨ s.wLimit ≤ w then s1.setStep d (min 3 (c + 1))
    else if t < s.tLo ∧ w < s.wLimit - 20 then s1.setStep d (c - 1)
    else s1) s
  { s1 with power := { s1.power with lastMax := s.power.reelMax, reelMax := [0, 0, 0, 0, 0, 0, 0, 0], wLast := w, wSum := 0, wN := 0 } }

/-- R946 at step 4 of every edge. -/
def State.emergSteps (s : State) : State :=
  let s1 := s.power.emerg.foldl (fun (s : State) d => s.setStep d 3) s
  { s1 with power := { s1.power with emerg := [] } }

/-! ### Positions removed (R947) -/

/-- The positions of a row that a cap removes, as a mask, and whether the sealed positions alone exceed it. -/
def State.capMask (s : State) (cap : Nat) : Nat × Bool :=
  let owner := fun k => s.slotOwner gPRESS k
  let order := ((List.range 10).filter fun k => owner k == ownOpen).reverse ++ ((List.range 10).filter fun k => owner k == ownMnt).reverse
  ((order.take (10 - cap)).foldl (fun m k => m + 2 ^ k) 0, cap + order.length < 10)

/-- POSITION_CAP for the frame now begun. -/
def State.positionCap (s : State) : State :=
  let masks := s.power.steps.map fun c => s.capMask (capOf c)
  let s1 := forEach (List.range 288) (fun p (s : State) => s.updPu p fun u => { u with removed := (masks.getD (p / 72) (0, false)).1 }) s
  let cut := (masks.map fun m => 72 * popCount 10 m.1).foldl (· + ·) 0
  let acc := s1.daily.acc
  let s2 := { s1 with daily := { s1.daily with acc := { acc with cut := satAdd 32 acc.cut cut, throttled := acc.throttled || s.power.steps.any (0 < ·) } } }
  if masks.any (·.2) then
    let hit := s.sealedList.filter fun t => (List.range 10).any fun k => s.slotOwner gPRESS k == t
    let s3 := hit.foldl (fun (s : State) t => { s with tables := { s.tables with voidSeen := mapUpd (fun _ => 0) t (· ||| 8) s.tables.voidSeen } }) s2
    ({ s3 with power := { s3.power with overNow := true } }).setEvt (pgPRESS 0) 12
  else s2

/-! ### Device power states (R938 to R943) -/

/-- The state beside a request for OFF. -/
def State.baseState (s : State) : Nat := if s.power.st = 3 then s.power.before else s.power.st

/-- R939: the active slate gives a sealed tenant any of positions 0 to 9. -/
def State.pressSealed (s : State) : Bool :=
  s.slate.act.any fun e => e.1 / 16 % 16 == gPRESS && decide (e.1 % 16 < 10) && decide (e.2.toNat < 128)

def State.pwrReject (s : State) : State := ({ s with power := { s.power with rej := 1 } }).setEvt (pgPRESS 0) 14

/-- PWR_REQ_RUN: a wake begins from TRIM or IDLE; a pending change or an OFF request is withdrawn. -/
def State.pwrRun (s : State) : State :=
  ({ s with power := { s.power with want := if s.power.st = 3 then some 0 else none, offWait := [], rej := 0 } }).beginWake

/-- PWR_REQ_TRIM and PWR_REQ_IDLE. -/
def State.pwrGate (t : Nat) (s : State) : State :=
  if s.pressSealed then s.pwrReject
  else { s with power := { s.power with want := if s.power.st = t then none else some t, rej := 0, wake := none, offWait := [] } }

/-- PWR_REQ_OFF: the swatch store, the inventory record and the pattern records are written (R943). -/
def State.pwrOff (s : State) : State :=
  let w := [1] ++ (if s.shelf.gib = 0 then [] else [2]) ++ (if s.pats.slots.any fun e => e.2.dirty.isSome then [3] else [])
  let s1 := s.storeNow
  { s1 with power := { s1.power with want := if s.power.st = 3 then none else some 3, offWait := w, rej := 0 }
            shelf := { s1.shelf with invScenes := max s1.shelf.invScenes (s.regF (pgMEDIA 16) 0x128 15 0) } }

/-- A request written to PWR_REQ.STATE. -/
def State.pwrRequest (t : Nat) (s : State) : State :=
  if t = 0 then s.pwrRun else if t = 3 then s.pwrOff else s.pwrGate t

/-- One of the writes of an OFF request has completed or failed. -/
def State.offDone (k : Nat) (s : State) : State := { s with power := { s.power with offWait := s.power.offWait.filter (· != k) } }

/-- A new power state. -/
def State.enterPower (t : Nat) (s : State) : State :=
  ({ s with power := { s.power with before := s.baseState, st := t, want := none } }).setEvt (pgPRESS 0) 13

/-- No job is admitted and no lay is in progress on any press. -/
def State.pressQuiet (s : State) : Bool := !(s.press.jobs.any fun j => j.2.st != 0) && !(s.press.lays.any fun l => l.2.st == 2)

/-- PSTATE_CHANGE at step 4 of a reel boundary; a swap that gave a sealed tenant positions begins a wake (R953). -/
def State.pstateStep (s : State) : State :=
  let s1 := match s.power.want with
    | none => s
    | some 0 => if s.power.st = 3 then ({ s with power := { s.power with want := none, st := s.power.before } }).setEvt (pgPRESS 0) 13 else { s with power := { s.power with want := none } }
    | some 3 => s.enterPower 3
    | some t =>
      if s.pressSealed then ({ s with power := { s.power with want := none } }).pwrReject
      else if s.pressQuiet then s.enterPower t else s
  if s1.gated && s1.pressSealed then s1.beginWake else s1

/-- WAKE_COMPLETE: RUN at the first reel boundary at least 2 scenes after the wake began; arrays whose calibration fell due
are recalibrate-pending. -/
def State.wakeComplete (s : State) : State :=
  match s.power.wake with
  | none => s
  | some f =>
    if s.frame.num % 125 ≠ 0 ∨ framesSince f s.frame.num < 2000 then s
    else
      let s1 := { s with power := { s.power with wake := none, before := 0, st := if s.power.st = 3 then 3 else 0 } }
      let s2 := forEach (List.range 288) (fun p (s : State) => forEach (List.range 8) (fun a (s : State) =>
        if (List.range 4).any fun d => s.calDue p a d then s.updArr p a fun x => { x with pending := 2, calMask := 0 } else s) s) s1
      s2.setEvt (pgPRESS 0) 13

/-! ### Reading the block -/

def State.readPower (s : State) (r : Nat) : Option Word32 :=
  let sel := s.regF (pgPRESS 0) 0x110 2 0
  if r = 0x104 then some (place s.power.st 3 0 ||| placeB (s.power.want.isSome || s.power.wake.isSome) 4
    ||| placeB ((s.power.st == 3 || s.power.want == some 3) && s.power.offWait.isEmpty) 5 ||| place s.power.rej 4 8)
  else if r = 0x114 then some (place (s.power.temp.getD sel 0) 8 0 ||| place (s.power.lastMax.getD sel 0) 8 8)
  else if r = 0x118 then some (place s.power.wLast 10 0)
  else if r = 0x11C then some ((List.range 4).foldl (fun (w : Word32) d => w ||| place (s.power.steps.getD d 0) 2 (2 * d)) (placeB s.power.overLast 16))
  else none

end Sys2Proof.Machine
end

