-- ==== Sys2Proof/Machine/Log.lean ====
section
/-!
DEFINITION. The continuity log's rings and their reading, damage to them, the FATAL events and the FATAL state (ch. 21).
-/

namespace Sys2Proof.Machine

open Sys2Proof

/-! ### The rings (R870, R871, R883, R884) -/

/-- LOG_COPY: up to 64 uncopied entries a frame go to the reserve ring, in sequence order, as far as the maintenance and
open shares of the DRAM channels carry them; it runs in FATAL too. -/
def State.logCopyN : Nat → State → State
  | 0, s => s
  | n + 1, s =>
    match s.log.onchip, (List.range 16).find? fun c => s.isIn .dram c && 1 ≤ s.availOf gDRAM c 0 ownMnt with
    | e :: r, some c =>
      let ring := s.log.ring ++ [e]
      State.logCopyN n ({ s with log := { s.log with onchip := r, ring := if 1048576 < ring.length then ring.drop 1 else ring } }.charge gDRAM c 0 ownMnt 1)
    | _, _ => s

def State.logCopy (s : State) : State := if s.sys.memActive then s.logCopyN 64 else s

/-- LOG_OVERFLOW: at the first frame with room after drops. -/
def State.logOverflow (s : State) : State :=
  if s.log.dropped = 0 ∨ !logRoom s.log.onchip 0 then s
  else ({ s with log := { s.log with dropped := 0 } }).logE 0x1010 0 none pgCLOG 0 (x2 s.log.dropped)

/-- LOG_RING_UE: a run of entries, from `first` on, is lost to a channel (R883) or to an on-chip error (R884). -/
def State.logRingUe (first n : Nat) (s : State) : State :=
  let lost := fun (e : LogEntry) => decide (first ≤ e.seq) && decide (e.seq < first + n)
  let seqs := ((s.log.ring ++ s.log.onchip).filter lost).map (·.seq)
  if seqs.isEmpty then s
  else
    let s1 := { s with log := { s.log with
      ring := s.log.ring.filter fun e => !lost e
      onchip := s.log.onchip.filter fun e => !lost e
      damaged := s.log.damaged ++ seqs } }
    (s1.setEvt pgCLOG 3).logE 0x1011 3 none pgCLOG 0 (x2 first ++ x2 n)

/-! ### Reading the log (R873, R881) -/

/-- The entry with a sequence number, in either ring. -/
def State.entryOf (s : State) (seq : Nat) : Option LogEntry := (s.log.ring ++ s.log.onchip).find? fun e => e.seq == seq

/-- Oldest sequence held; 0 with none. -/
def State.oldestSeq (s : State) : Nat := ((s.log.ring ++ s.log.onchip).head?.map (·.seq)).getD 0
def State.newestSeq (s : State) : Nat := ((s.log.ring ++ s.log.onchip).getLast?.map (·.seq)).getD 0

/-- RD_STAT of the selected entry: 0 OK, 1 STALE, 2 NOT_YET, 3 DAMAGED. -/
def State.rdStat (s : State) : Nat :=
  let q := s.log.rdSeq
  if q = 0 then 1
  else if (s.entryOf q).isSome then 0
  else if q ∈ s.log.damaged && s.oldestSeq ≤ q then 3
  else if s.log.next ≤ q && !((s.log.ring ++ s.log.onchip).any fun e => decide (q ≤ e.seq)) then 2
  else 1

/-- RD_SEQ_WRITE. -/
def State.rdSeqWrite (q : Nat) (s : State) : State := { s with log := { s.log with rdSeq := q } }

/-- The 32 bytes of an entry as a number (Table — Log entry). -/
def LogEntry.num (e : LogEntry) : Nat :=
  e.seq + e.event * 2 ^ 32 + e.sev * 2 ^ 48 + (match e.tenant with | some t => (t + 128) * 2 ^ 56 | none => 0)
    + e.frame * 2 ^ 64 + e.page * 2 ^ 112 + e.addr * 2 ^ 128 + e.detail * 2 ^ 192

/-- Word k of the selected entry; 0 where RD_STAT is not OK. -/
def State.rdData (s : State) (k : Nat) : Word32 :=
  match s.entryOf s.log.rdSeq with
  | some e => word32 e.num k
  | none => 0#32

/-! ### FATAL (R875, R876, R880) -/

/-- HUB_UE: 1 the request queue, 2 the identity and access pipeline, 3 the frame-edge sequencer, 4 the tier manager. -/
def State.hubUe (structure' : Nat) (s : State) : State := s.logE 0x1001 5 none pgSYS 0 [structure']
/-- DIE_LINK: loss of a press die's link. -/
def State.dieLink (die : Nat) (s : State) : State := s.logE 0x1002 5 none pgSYS 0 [die]
/-- MGMT_WATCHDOG; a trial boot ends (R951). -/
def State.mgmtWatchdog (s : State) : State :=
  let s1 := if s.fw.trial then { s with fw := { s.fw with trialEnded := true } } else s
  s1.logE 0x1003 5 none pgSYS 0 []
/-- RAIL_FAULT: 0 VDD_HUB to 4 VDD_PRESS; the monitor runs from RST_N deassertion (R925). -/
def State.railFault (rail : Nat) (s : State) : State := if s.sys.rstLow ∨ 5 ≤ rail then s else s.logE 0x1004 5 none pgSYS 0 [rail]

/-- FATAL_STATE_ENTER at the first edge after a FATAL entry: every host port holds with cause FORCE and sends viral where
R218 allows. -/
def State.fatalStep (s : State) : State :=
  if !s.log.fatalNew then s
  else
    let s1 := { s with log := { s.log with fatal := true, fatalNew := false } }
    (forEach (List.range 8) (fun p (s : State) =>
      let v := (s.hport p).viralHost && bitOf (s.reg (ofsOf (pgHPORT p) 0x70)) 0
      (if v then s.updPort p fun h => { h with viralTx := true } else s).holdCause p 6 0) s1).pins

/-- A saved post-mortem is logged and its area erased (R876). The saved entry's event stands in PAGE's place. -/
def State.postRestore (bad : Bool) (s : State) : State :=
  match s.log.post with
  | none => s
  | some l =>
    let s1 := { s with log := { s.log with post := none } }
    if bad then s1
    else
      l.foldl (fun (s : State) e =>
        let x : LogEntry := { e with seq := s.log.next, event := 0x1012, page := e.event }
        let rec' := match cxlLogOf e.sev (bitOf (s.reg (ofsOf pgCLOG 0x40)) 4) with | some k => [(k, x)] | none => []
        let s2 := { s with log := { s.log with next := nextSeq x.seq, onchip := s.log.onchip ++ [x], records := s.log.records ++ rec', reelKept := s.log.reelKept + 1 } }
        if s.regF pgCLOG 0x40 2 0 ≤ e.sev then s2.setEvt pgCLOG 0 else s2) s1

/-! ### Registers of the CLOG page -/

def State.readClog (s : State) (r : Nat) : Option Word32 :=
  if r = 0x44 then some (word32 s.newestSeq 0)
  else if r = 0x48 then some (word32 s.oldestSeq 0)
  else if r = 0x4C then some (word32 s.log.rdSeq 0)
  else if r = 0x50 then some (place s.rdStat 2 0)
  else if 0x54 ≤ r ∧ r ≤ 0x70 then some (s.rdData ((r - 0x54) / 4))
  else if r = 0x74 then some (place s.log.onchip.length 9 0)
  else if r = 0x80 then some (place s.log.plist.length 17 0 ||| placeB s.log.plistOvf 24)
  else none

end Sys2Proof.Machine
end

