-- ==== Sys2Proof/Machine/Rom.lean ====
section
/-!
DEFINITION. The ROM image and the description table that Keaquin builds before configuration ready (R257, R258, R294, R888).
-/

namespace Sys2Proof.Machine

open Sys2Proof

/-- Families of *Table — Page map*: code, instances, base. -/
def families : List (Nat × Nat × Nat) :=
  [(0x01, 1, 0x0), (0x02, 1, 0x1000), (0x03, 1, 0x2000), (0x04, 1, 0x3000), (0x05, 1, 0x4000), (0x06, 1, 0x5000), (0x07, 1, 0x6000),
   (0x08, 1, 0x7000), (0x09, 1, 0x8000), (0x10, 8, 0x10000), (0x11, 8, 0x18000), (0x12, 129, 0x20000), (0x13, 48, 0x100000),
   (0x14, 288, 0x200000)]

/-- One table entry: TYPE, LENGTH of the whole entry, reserved, body. -/
def romEntry (typ : Nat) (body : List Byte) : List Byte := leBytes 2 typ ++ leBytes 2 (8 + body.length) ++ leBytes 4 0 ++ body

/-- FAMILY (R888): PAGE_VER is 0x0100. -/
def romFamily (x : Nat × Nat × Nat) : List Byte :=
  romEntry 1 (leBytes 1 x.1 ++ leBytes 1 0 ++ leBytes 2 x.2.1 ++ leBytes 4 x.2.2 ++ leBytes 4 0x1000 ++ leBytes 4 0x100)

/-- PORT: rate and width coded as LINK_CTL codes them (64 GT/s; ×16, or ×8 for each link of a bifurcated port). -/
def romPort (s : State) (p : Nat) : List Byte :=
  let b := (mapGet (fun _ => ({} : HPort)) s.hports p).bifurc
  romEntry 2 (leBytes 1 p ++ leBytes 1 (if b then 1 else 0) ++ leBytes 1 5 ++ leBytes 1 (if b then 3 else 4) ++ leBytes 4 0)

/-- DIMM of a channel, from its SPD. -/
def romDimm (e : BootEnv) (c : Nat) : List Byte :=
  match e.dimms.find? fun d => d.chan == c with
  | some d => romEntry 3 (leBytes 1 c ++ leBytes 1 d.kind ++ leBytes 2 d.spd ++ leBytes 4 d.capGiB)
  | none => romEntry 3 (leBytes 1 c ++ leBytes 7 0)

/-- SHELF of a populated channel, from its parameter pages. -/
def romShelf (e : BootEnv) (ch : Nat) : List Byte :=
  let l := e.flash.filter fun p => p.target / 8 == ch
  match l.head? with
  | none => []
  | some p0 => romEntry 4 (leBytes 1 ch ++ leBytes 1 (l.foldl (fun m p => m ||| 2 ^ (p.target % 8)) 0) ++ leBytes 1 (if p0.cls = 1 then 0 else 1)
      ++ leBytes 1 0 ++ leBytes 4 (l.foldl (fun n p => n + p.pages) 0 / 65536))

/-- FIRMWARE of a slot. -/
def romFirmware (s : State) (n : Nat) : List Byte :=
  let i := if n = 1 then s.fw.slot1 else s.fw.slot2
  romEntry 5 (leBytes 1 n ++ leBytes 1 (if s.fw.running = n then 1 else 0) ++ leBytes 2 0 ++ leBytes 4 i.version)

/-- The entries, in the order of their types. -/
def romEntries (s : State) (e : BootEnv) : List (List Byte) :=
  families.map romFamily ++ (List.range 8).map (romPort s) ++ (List.range 16).map (romDimm e)
    ++ ((List.range 32).map (romShelf e)).filter (fun l => !l.isEmpty) ++ [romFirmware s 1, romFirmware s 2]
    ++ [romEntry 6 (leBytes 2 2048 ++ leBytes 2 32 ++ leBytes 2 32 ++ leBytes 2 0)]

/-- The running firmware's version. -/
def State.fwVersion (s : State) : Nat :=
  if s.fw.running = 1 then s.fw.slot1.version else if s.fw.running = 2 then s.fw.slot2.version else 0

/-- The table without its CHECK: `ok` is false where it could not be built (R294). -/
def romBody (s : State) (e : BootEnv) (ok : Bool) (check : Nat) : List Byte :=
  let es := if ok then romEntries s e else []
  let body := es.foldl (fun l x => l ++ x) []
  let node := s.reg (ofsOf (pgFPORT 0) 0x100)
  let flags := (if s.tables.debug then 1 else 0) + (if ok && s.sys.fwSigned then 2 else 0) + (if s.press.swatch.validA || s.press.swatch.validB then 4 else 0)
  [0x42#8, 0x45#8, 0x52#8, 0x59#8, 0x52#8, 0x44#8, 0x54#8, 0x00#8] ++ leBytes 4 (64 + body.length) ++ leBytes 2 1 ++ leBytes 2 es.length
    ++ leBytes 4 s.fwVersion ++ leBytes 2 (if bitOf node 15 then field node 11 0 else 0xFFFF)
    ++ leBytes 1 (s.sys.mgmtPort + (if s.sys.mgmtEn then 128 else 0))
    ++ leBytes 1 ((List.range 8).foldl (fun m p => if (mapGet (fun _ => ({} : HPort)) s.hports p).bifurc then m ||| 2 ^ p else m) 0)
    ++ leBytes 4 flags ++ leBytes 32 0 ++ leBytes 4 check ++ body

/-- The description table: CHECK is the CRC-32C of the whole table computed with CHECK at 0 (R258). -/
def descTable (s : State) (e : BootEnv) (ok : Bool) : List Byte := romBody s e ok (crcA (romBody s e ok 0))

/-- DESCRIPTION_TABLE_BUILD (R258, R294). -/
def State.romBuild (e : BootEnv) (s : State) : State :=
  { s with sys := { s.sys with table := some (!e.tableBad), rom := descTable s e (!e.tableBad) } }

/-- A byte of the ROM image (R257): the signature, the pointers, the description table, the PCI data structure (laid out as
the PCI Firmware Specification lays it out, PRESUMED), and bytes the spec does not give. -/
def State.romByte (s : State) (i : Nat) : Byte :=
  if i = 0 then 0x55#8
  else if i = 1 then 0xAA#8
  else if 4 ≤ i ∧ i < 8 then (leBytes 4 Config.romTable).getD (i - 4) 0#8
  else if i = 0x18 ∨ i = 0x19 then (leBytes 2 Config.romPcir).getD (i - 0x18) 0#8
  else if Config.romTable ≤ i ∧ i < Config.romTable + s.sys.rom.length then s.sys.rom.getD (i - Config.romTable) 0#8
  else if Config.romPcir + 4 ≤ i ∧ i < Config.romPcir + 8 then (leBytes 2 Config.vendorId ++ leBytes 2 0xB12F).getD (i - (Config.romPcir + 4)) 0#8
  else if i = Config.romPcir + 0x14 then 0x70#8
  else if i = Config.romPcir + 0x15 then 0x80#8
  else Config.romRest i

/-- A word of the ROM image. -/
def State.romWord (s : State) (i : Nat) : Word32 :=
  BitVec.ofNat 32 (leNat [s.romByte i, s.romByte (i + 1), s.romByte (i + 2), s.romByte (i + 3)])

end Sys2Proof.Machine
end

