-- ==== Sys2Proof/Machine/Boot.lean ====
section
/-!
DEFINITION. Reset, boot, the start-up sequence and memory active, the firmware slots and their update, PERST# and the test
port (ch. 23, ch. 24, R244, R274).
-/

namespace Sys2Proof.Machine

open Sys2Proof

/-! ### Device reset (R924, R957, R987) -/

/-- DEVICE_RESET: every block returns to its reset state. What the SPI NOR and the flash hold stays: boot records and
images, post-mortem, swatch slots, pattern copies and inventory record. The test port has its own reset. -/
def State.deviceReset (s : State) : State :=
  let w := s.press.swatch
  let t : State := {
    log := { post := s.log.post }
    pats := { store := s.pats.store, seq := s.pats.seq }
    shelf := { inv := s.shelf.inv }
    press := { swatch := { w with now := false, fails := 0, last := 0, advised := false } }
    fw := { slot1 := s.fw.slot1, slot2 := s.fw.slot2, recA := s.fw.recA, recB := s.fw.recB, svnMin := s.fw.svnMin, trialEnded := s.fw.trialEnded }
    sys := { tap := s.sys.tap }
    out := s.out, freeIx := s.freeIx, pending := s.pending }
  let t1 := if s.sys.fatalPin then t.emit (.pin 0 false) else t
  if s.sys.alertPin then t1.emit (.pin 1 false) else t1

/-! ### Boot records and images (R928, R929, R931, R951) -/

/-- The current record: the valid copy with the higher SEQ. -/
def FwS.current (f : FwS) : Option BootRec :=
  if f.recA.valid && (!f.recB.valid || f.recB.seq ≤ f.recA.seq) then some f.recA
  else if f.recB.valid then some f.recB else none

/-- Write a record to the other copy, SEQ increased by 1. -/
def FwS.writeRec (r : BootRec) (f : FwS) : FwS :=
  match f.current with
  | none => { f with recA := { r with valid := true, seq := 1 } }
  | some c =>
    let r' := { r with valid := true, seq := c.seq + 1 }
    if f.recA.valid && c == f.recA then { f with recB := r' } else { f with recA := r' }

def FwS.slot (f : FwS) (n : Nat) : FwImage := if n = 1 then f.slot1 else if n = 2 then f.slot2 else {}
def FwS.setSlot (n : Nat) (i : FwImage) (f : FwS) : FwS := if n = 1 then { f with slot1 := i } else if n = 2 then { f with slot2 := i } else f

/-- Why an image does not verify: 1 header, 2 signature, 3 SVN; 0 it does. -/
def FwImage.cause (i : FwImage) (minSvn : Nat) : Nat :=
  if !i.present then 1 else if i.bad ≠ 0 then i.bad else if i.svn < minSvn then 3 else 0

/-- The boot ROM's choice (R931 to R933): the slot to run, whether it is signed, and the slots that failed with causes. -/
def FwS.choose (f : FwS) (active prev minSvn : Nat) (unsignedOk : Bool) : Option (Nat × Bool) × List (Nat × Nat) :=
  let a := (f.slot active).cause minSvn
  if a = 0 then (some (active, true), [])
  else if a = 2 && unsignedOk then (some (active, false), [(active, a)])
  else
    let p := (f.slot prev).cause minSvn
    if p = 0 then (some (prev, true), [(active, a)]) else (none, [(active, a), (prev, p)])

/-- Step 1 of the start-up sequence: choose and run an image. -/
def State.bootRom (e : BootEnv) (s : State) : State :=
  let f0 := s.fw
  -- R951: a trial boot that ended early makes this reset run PREV and name it ACTIVE
  let f := match f0.current with
    | some c => if c.trial && f0.trialEnded then { f0.writeRec { active := c.prev, trial := false, prev := c.active } with trialEnded := false } else f0
    | none => f0
  match f.current with
  | none => { s with fw := { f with running := 0, recovery := true } }
  | some c =>
    let y := f.choose c.active c.prev (max e.minSvn f.svnMin) (e.dbgEn && e.permit)
    let s1 := { s with fw := { f with
      running := (y.1.map (·.1)).getD 0
      recovery := y.1.isNone
      trial := c.trial && (y.1.map (·.1)) == some c.active
      trialEnded := c.trial && (y.1.map (·.1)) != some c.active } }
    let s2 := y.2.foldl (fun (s : State) x => s.logE 0x1101 3 none pgSYS 0 [x.1, x.2]) s1
    match y.1 with
    | some (_, true) => { s2 with sys := { s2.sys with fwSigned := true } }
    | some (_, false) => ({ s2 with tables := { s2.tables with debug := true } }).setEvt pgSYS 2
    | none => s2

/-! ### DRAM training (R486 to R488, R525) -/

def rateTable (kind : Nat) : List Nat := if kind = 1 then [4800, 5200, 5600, 6000, 6400] else if kind = 2 then [8000, 8800] else []

/-- The DIMM stands in the table of supported DIMMs. -/
def DimmEnv.meets (d : DimmEnv) : Bool :=
  d.fits && (d.kind == 1 || d.kind == 2) && 1 ≤ d.ranks && d.ranks ≤ 4
  && (if d.kind = 1 then 16 else 32) ≤ d.capGiB && d.capGiB ≤ 256 && ((rateTable d.kind).head?.getD 0) ≤ d.spd

/-- The common rate: the highest of the kind that exceeds neither RATE_CAP, nor a rated speed, nor a training result. -/
def commonRate (cap kind : Nat) (l : List DimmEnv) : Nat :=
  let low := (rateTable kind).head?.getD 0
  let lim := l.foldl (fun m d => min m (if low ≤ d.trained then min d.spd d.trained else d.spd)) cap
  ((rateTable kind).filter (· ≤ lim)).foldl max 0

/-- Training, zero-fill and read-back of every populated channel. -/
def State.dramStart (e : BootEnv) (s : State) : State :=
  let ds := sortBy (fun (a b : DimmEnv) => a.chan ≤ b.chan) (e.dimms.filter fun d => d.chan < 16)
  match ds.head? with
  | none => s
  | some d0 =>
    let good := ds.filter fun d => d.kind == d0.kind && d.meets
    let rate := commonRate (s.regF (pgMEDIA 0) 0x108 15 0) d0.kind good
    ds.foldl (fun (s : State) d =>
      let m := pgMEDIA d.chan
      let ok := d.kind == d0.kind && d.meets && rate != 0 && rate ≤ d.trained
      let s1 := s.updChan d.chan fun _ => { kind := d.kind, capGiB := d.capGiB, ranks := d.ranks, rate := if ok then rate else 0 }
      if d.kind ≠ d0.kind then s1.setEvt m 7
      else if !ok then s1.setEvt m 6
      else if d.chan ∈ e.dramBad then s1.updUnit .dram d.chan fun u => { u with result := 3, test := 2 }
      else s1.updUnit .dram d.chan fun u => { u with st := .inn }) s

/-! ### The start-up sequence (R859, R935 to R937) -/

/-- A unit fails its self-test: OUT, the test recorded; lanes, engines and presses are advised (R456, R609, R642). -/
def State.selfFail (x : Nat × Nat × Nat) (s : State) : State :=
  match kindOf x.1 with
  | none => s
  | some k =>
    let s1 := s.updUnit k x.2.1 fun u => { u with st := .out, result := 3, test := x.2.2 }
    match k with
    | .lane | .engine | .press => s1.retireAdvice k.advice (0xF000 + x.2.2) x.2.1 (unitPage k x.2.1)
    | .shelf => s1.recalcShelf
    | _ => s1

/-- Some DRAM channel is IN. -/
def State.someDram (s : State) : Bool := (List.range 16).any fun c => s.isIn .dram c

/-- Steps 4 to 9. -/
def State.bootRest (e : BootEnv) (s : State) : State :=
  let s0 := { s with tables := { s.tables with rngBad := false } }
  let s1 := (s0.swatchLoad).dramStart e
  let s2 := if s1.someDram then s1 else forEach (List.range 16) (fun c (s : State) => s.logE 0x0804 3 none (pgMEDIA c) 0 [c]) s1
  let s3 := (s2.shelfInventory e.flash).patRestore e.patBad
  let s4 := e.failed.foldl (fun (s : State) x => s.selfFail x) s3
  { s4 with sys := { s4.sys with boot := none, bootDone := true } }

/-- RST_N_DEASSERT: straps, boot ROM, frames begin, description table; then, unless in recovery, the rest of the sequence
once the generator's health test passes. -/
def State.rstDeassert (e : BootEnv) (s : State) : State :=
  if !s.sys.rstLow then s
  else
    let s1 := ((s.postRestore e.postBad).bootRom e).romBuild e
    let recovery := s1.fw.recovery
    -- R78, R980: frame 0 begins, and FRAME_OUT with it
    let s2 := ({ s1 with frame := { s1.frame with started := true } }).emit (.frameOut 40)
    let s3 := if recovery then s2
      else if e.rngOk then s2.bootRest e
      else ({ s2 with tables := { s2.tables with rngBad := true } }.setEvt pgKEY 4).logE 0x0304 3 none pgKEY 0 []
    { s3 with
      fw := s1.fw
      frame := { s3.frame with started := true }
      sys := { s3.sys with
        rstLow := false
        smbAddr := e.smbAddr % 8
        dbgEn := e.dbgEn
        -- R986: the pins return from SAMPLE/PRELOAD and EXTEST
        tap := if s.sys.tap = .sample ∨ s.sys.tap = .extest then .bypass else s.sys.tap
        boot := if recovery || e.rngOk then none else some e
        bootDone := !recovery && e.rngOk
        memActive := false } }

/-- RNG_HEALTH_TEST: a failed test logs RNG_FAULT; a passing one lets a start-up that waits go on (R187, R936). -/
def State.rngTest (ok : Bool) (s : State) : State :=
  if s.sys.rstLow then s
  else if !ok then (({ s with tables := { s.tables with rngBad := true } }).setEvt pgKEY 4).logE 0x0304 3 none pgKEY 0 []
  else match s.sys.boot with
    | some e => s.bootRest e
    | none => { s with tables := { s.tables with rngBad := false } }

/-- MEMORY_ACTIVE (R90, R920, R935, R937, R951). -/
def State.memoryActive (s : State) : State :=
  if !s.sys.bootDone || s.sys.memActive || s.fw.recovery || !s.someDram then s
  else
    let s1 := { s with sys := { s.sys with memActive := true, dGiB := s.inGiB } }
    let s2 := match s1.fw.current with
      | some c =>
        if s1.fw.trial then
          let f := s1.fw.writeRec { c with trial := false }
          let i := f.slot f.running
          { s1 with fw := { f with trial := false, svnMin := if i.advance then max f.svnMin i.svn else f.svnMin } }
        else s1
      | none => s1
    s2.setEvt pgSYS 0

/-! ### Firmware update (R949, R950, R958, R960) -/

def mbFwAuth : Nat := 10
def mbInvalidSlot : Nat := 11
def mbActFailed : Nat := 12

/-- GET_FW_INFO: running slot, slot of the next boot, slots, no online activation, versions. -/
def State.getFwInfo (f : Option Nat) (s : State) : State :=
  if !s.mboxUp f then s
  else s.mbReply f mbOk [2, s.fw.running, (s.fw.current.map (·.active)).getD 0, 0, s.fw.slot1.version, s.fw.slot2.version]

/-- TRANSFER_FW: a part of an image for a slot; `last` brings the verdict on the whole image. -/
def State.transferFw (f : Option Nat) (slot : Nat) (last : Bool) (img : FwImage) (s : State) : State :=
  if !s.mboxUp f then s
  else if f.isSome then s.mbReply f mbUnsupported []
  else if s.bg.isSome then s.mbReply f mbBusy []
  else
    let prevOf := if s.fw.trial then (s.fw.current.map (·.prev)).getD 0 else 0
    if slot ≠ 1 ∧ slot ≠ 2 ∨ slot = s.fw.running ∨ slot = prevOf then s.mbReply f mbInvalidSlot []
    else
      let good := img.bad == 0
      let s1 := { s with
        fw := s.fw.setSlot slot (if last && good then { img with present := true } else if last then { img with present := true, bad := max 1 img.bad } else { present := true, bad := 1 })
        bg := some { fn := 0, opcode := 0x0201, arg := slot, result := if last && !good then mbFwAuth else mbOk } }
      s1.mbReply f mbStarted []

/-- ACTIVATE_FW: on the next reset only; `written` says that the boot record could be written, at first or on retry. -/
def State.activateFw (f : Option Nat) (slot : Nat) (online written : Bool) (s : State) : State :=
  if !s.mboxUp f then s
  else if f.isSome || online then s.mbReply f mbUnsupported []
  else if slot ≠ 1 ∧ slot ≠ 2 then s.mbReply f mbInvalidSlot []
  else if !written then s.mbReply f mbActFailed []
  else ({ s with fw := s.fw.writeRec { active := slot, trial := true, prev := s.fw.running } }).mbReply f mbOk []

/-! ### Debug (R934) -/

/-- UNLOCK_DEBUG: token good and naming this UID, inside a mutually authenticated session, no local region bound. -/
def State.unlockDebug (via : Nat) (token : Bool) (s : State) : State :=
  let x := s.spdmOf via
  let bound := s.tables.ranges.any fun e => e.2.valid && !e.2.remote
  let ok := token && x.session && x.mutualAuth && !bound
  let s1 := (s.doePut via).emit (.spdm via 0x101 ok)
  if ok then ({ s1 with tables := { s1.tables with debug := true } }).setEvt pgSYS 2 else s1

/-! ### PERST# of a port (R194, R244, R274, R275, R924) -/

/-- PERST_ASSERT: the port's links and functions are reset. After L2 the port is in D3cold, keeping what wakes it. -/
def State.perstAssert (p : Nat) (s : State) : State :=
  if 8 ≤ p || (s.hport p).perst then s
  else
    let h := s.hport p
    let l2 := h.lstate == 5
    let s1 := if l2 then s else
      let a := if h.link0.up then s.linkDown p 0 else s
      if h.link1.up then a.linkDown p 1 else a
    let s2 := if l2 then s1 else s1.cancelCues fun k => fnPort k == p
    let keep := fun (x : Fn) => if l2 then { x with pm := .d0uninit, doe := false } else ({} : Fn)
    let s3 := forEach (portFns p) (fun k (s : State) => s.updFn k keep) s2
    let s4 := if s3.sys.mgmtEn && s3.sys.mgmtPort == p then
        { s3 with mfn := keep s3.mfn, mgmt := { s3.mgmt with winMode := false, lease := if s3.mgmt.lease = 1 then 0 else s3.mgmt.lease } } else s3
    s4.updPort p fun h => { h with perst := true, cfgReady := false, d3cold := l2, lstate := if l2 then 5 else 6, quiesced := false, turnOff := none, idle := 0 }

/-- PERST_DEASSERT: straps are sampled, WAKE# is released and training starts. -/
def State.perstDeassert (p : Nat) (bifurc mgmtEn : Bool) (mgmtPort : Nat) (s : State) : State :=
  if 8 ≤ p || !(s.hport p).perst || s.sys.rstLow then s
  else
    let h := s.hport p
    let s1 := s.updPort p fun h => { h with perst := false, bifurc := bifurc, d3cold := false, wakeLow := false, lstate := 6 }
    let s2 := if mgmtPort = p then { s1 with sys := { s1.sys with mgmtEn := mgmtEn, mgmtPort := p } } else s1
    let s3 := if h.d3cold then forEach (portFns p) (fun k (s : State) => s.updFn k fun x => { pmeEn := x.pmeEn, pmeStat := x.pmeStat }) s2 else s2
    if h.wakeLow then s3.emit (.wake p false) else s3

/-! ### The test port (R986, R987) -/

/-- IDCODE: stepping and 0xB12A0C3. -/
def State.idcode (step : Nat) : Nat := step % 16 * 2 ^ 28 + 0xB12A0C3

/-- Load an instruction: BYPASS and IDCODE always; SAMPLE/PRELOAD and EXTEST while RST_N is asserted; any other while debug
is unlocked; else it acts as BYPASS. -/
def State.tapLoad (i : TapIr) (step : Nat) (s : State) : State :=
  let ok := match i with
    | .bypass | .idcode => true
    | .sample | .extest => s.sys.rstLow
    | .other => s.tables.debug
  let s1 := { s with sys := { s.sys with tap := if ok then i else .bypass } }
  if i = .idcode then s1.emit (.tdo (State.idcode step)) else s1

/-- TRST_ASSERT: Test-Logic-Reset, in which IDCODE is the instruction (PRESUMED: IEEE 1149.1). -/
def State.trst (s : State) : State := { s with sys := { s.sys with tap := .idcode } }

end Sys2Proof.Machine
end

