-- ==== Sys2Proof/Machine/Fabric.lean ====
section
/-!
DEFINITION. Receiving on the Filalnis fabric (ch. 17): acceptance, acknowledgement and replay, forwarding, remote loads and
stores at both ends, peers and their recall, forwarded cues, delay exchanges and markers, and ports going up and down.
-/

namespace Sys2Proof.Machine

open Sys2Proof

/-! ### Replay and acknowledgement (R724 to R728) -/

/-- R763, R769: a port leaves ACTIVE; its keys and its replay buffer go, and what it has queued is routed again. -/
def State.fportDown (f cause : Nat) (s : State) : State :=
  let p := s.fport f
  if 8 ≤ f ∨ p.link = 0 ∨ p.link = 1 then s
  else
    let n := p.downReel + 1
    let s1 := s.updFport f fun p => { ({ } : FPort) with link := 1, peerNode := p.peerNode, dly := p.dly, authReel := p.authReel, downReel := n, advised := p.advised || 16 < n }
    let s2 := ((s1.fErr f 6 1).setEvt (pgFPORT f) 1).logE 0x0D04 0 none (pgFPORT f) 0 [f, cause]
    let s3 := if 16 < n ∧ !p.advised then s2.retireAdvice 11 0x0D04 f (pgFPORT f) else s2
    p.queue.foldl (fun (s : State) q =>
      let fl := if q.b.typ = tCOLL ∨ q.b.typ = tCOLLCTL then leNat (q.b.payload.take 2) * 4096 + leNat (q.b.payload.take 8) / 2 ^ 28 % 4096 else 0
      s.sendOrDrop q.owner fl q.b) s3

/-- Send every retained bundle again from the oldest on; the ninth time for the oldest takes the link down (R726). -/
def State.retransmit (f : Nat) (s : State) : State :=
  let p := s.fport f
  if p.replay.isEmpty || s.log.fatal then s
  else if 8 ≤ p.tries then (s.setEvt (pgFPORT f) 2).fportDown f 3
  else
    let s1 := p.replay.foldl (fun (s : State) b => (s.chargeSplit gFPORT f 0 ownOpen b.len).emit (.bundle f b)) s
    (s1.fErr f 2 p.replay.length).updFport f fun p => { p with tries := p.tries + 1, ackAt := s.frame.num }

/-- An ACK as received: bundles below it are released. -/
def State.ackIn (f ack : Nat) (s : State) : State :=
  let p := s.fport f
  match p.replay.head? with
  | none => s
  | some b =>
    let k := (ack % 2 ^ 24 + 2 ^ 24 - b.seq % 2 ^ 24) % 2 ^ 24
    if k = 0 ∨ p.replay.length < k then s
    else
      let left := p.replay.drop k
      (s.updFport f fun p => { p with
        replay := left, ackAt := s.frame.num, tries := 0
        oldKey := if left.any fun b => b.keyph != p.keyph then p.oldKey else none }).portSend f

/-- A NAK for the next expected number, once (R725). -/
def State.sendNak (f : Nat) (s : State) : State :=
  if (s.fport f).naked then s
  else ((s.updFport f fun p => { p with naked := true }).fErr f 3 1).sendRaw f { typ := tLINK, nak := true }

/-- Discard a bundle. -/
def State.bundleLost (f : Nat) (s : State) : State := s.fErr f 5 1

/-- Credits and acknowledgement that a sound header carries. -/
def State.headerIn (f : Nat) (b : Bundle) (s : State) : State :=
  let s1 := s.updFport f fun p => { p with cred := listSet b.crvc (p.cred.getD b.crvc 0 + b.credits) p.cred }
  s1.ackIn f b.ack

/-- R723, R725, R732, R735, R771: receive a bundle on a port; the answer says whether it is accepted. -/
def State.linkIn (f : Nat) (b : Bundle) (s : State) : Bool × State :=
  let p := s.fport f
  if 8 ≤ f || p.link < 2 then (false, s)
  else
    let seqd := sequenced b.typ
    if !b.crcOk || !listedType b.typ then
      let s1 := (s.fErr f 1 1).bundleLost f
      (false, if seqd && !b.crcOk then s1.sendNak f else s1)
    else if !seqd then
      let s1 := s.headerIn f b
      (true, if b.typ = tLINK ∧ b.nak then s1.retransmit f else s1)
    else
      let ahead := (b.seq % 2 ^ 24 + 2 ^ 24 - p.rxSeq) % 2 ^ 24
      if ahead ≠ 0 then
        let s1 := (s.ackIn f b.ack).bundleLost f
        (false, if ahead < 2 ^ 23 then s1.sendNak f else s1)
      else if b.secure && !b.tagOk then
        let s1 := (((s.fErr f 4 1).bundleLost f).updFport f fun p => { p with authReel := p.authReel + 1 }).sendNak f
        (false, if 1 ≤ p.authReel then ((s1.setEvt (pgFPORT f) 3).logE 0x0D01 3 none (pgFPORT f) 0 [f]).fportDown f 4 else s1)
      else
        let keying := b.typ == tMGMT && b.hops == 0
        if (p.link ≠ 3 ∧ !keying) ∨ (!keying && (!s.sys.memActive || !bitOf (s.reg (ofsOf (pgFPORT 0) 0x100)) 15)) then (false, s.bundleLost f)
        else
          let s1 := (s.updFport f fun p => { p with
            rxSeq := (p.rxSeq + 1) % 2 ^ 24, naked := false, owed := true
            back := listSet b.vc (p.back.getD b.vc 0 + b.credit) p.back }).headerIn f b
          (true, s1)

/-- R724, R728: once a frame, a LINK bundle carries the acknowledgement and the credits that nothing else has carried. -/
def State.linkPulse (s : State) : State :=
  forEach (List.range 8) (fun f (s : State) =>
    let p := s.fport f
    if 2 ≤ p.link && (p.owed || p.back.any (0 < ·)) then s.sendRaw f { typ := tLINK } else s) s

/-- REPLAY_TIMEOUT (R726). -/
def State.replayTimeout (f : Nat) (s : State) : State :=
  let p := s.fport f
  let wait := 2 * p.dly / 8000 + 2 + (if 2 * p.dly % 8000 = 0 then 0 else 1)
  if p.replay.isEmpty || framesSince p.ackAt s.frame.num < wait then s else s.retransmit f

/-! ### Forwarding (R739) -/

/-- FLOW of a collective bundle (R804). -/
def Bundle.collFlow (b : Bundle) : Nat :=
  let h := leNat (b.payload.take 8)
  h % 65536 * 4096 + (if b.typ = tCOLL then h / 2 ^ 28 % 4096 else 0)

/-- Type of the answer to a request. -/
def answerType (t : Nat) : Nat := if t = tRD then tRSP else if t = tWR then tCMP else tCUECPL

/-- Answer a request with a status alone. -/
def State.answerFor (b : Bundle) (status : Nat) (s : State) : State := s.answerStatus (answerType b.typ) b.src b.sten b.tag b.dpa status

/-- BUNDLE_FORWARD. -/
def State.forwardBundle (f : Nat) (b : Bundle) (s : State) : State :=
  let maxHops := s.regF (pgFPORT 0) 0x10C 3 0
  if maxHops < b.hops + 1 then
    let s1 := (s.setEvt (pgFPORT f) 5).bundleLost f
    if isRequest b.typ then s1.answerFor b stHOPLIMIT else s1
  else
    let x := s.sendBundle ownOpen b.collFlow { b with hops := b.hops + 1, crvc := 0, credits := 0, nak := false }
    if x.1 then x.2.fErr f 7 1
    else if isRequest b.typ then (x.2.bundleLost f).answerFor b stNOROUTE else x.2.bundleLost f

/-! ### The backing node (R741, R746, R749) -/

/-- The peer entry that a request's source matches. -/
def State.peerOf (s : State) (node sten : Nat) : Option Nat :=
  (s.fab.peers.find? fun e => e.2.valid && !e.2.lost && e.2.node == node && e.2.sten == sten).map (·.1)

/-- RD and WR. -/
def State.peerRequest (f : Nat) (b : Bundle) (env : ReadEnv) (s : State) : State :=
  match s.peerOf b.src b.sten with
  | none => (s.fabCount 7 1).answerFor b stNOPEER
  | some p =>
    let t := (s.peer p).tenant
    let line := b.dpa / 64
    let wr := b.typ == tWR
    match s.reach t (granuleOfLine line) with
    | none => s.answerFor b stACCESS
    | some (_, g) =>
      if g.remote then s.answerFor b stUNSUPPORTED
      else
        let j := s.fab.jobNext
        let x : PeerJob := {
          port := f, node := b.src, peer := p, sten := b.sten, tag := b.tag, tenant := t, write := wr, line := line
          lines := if wr then 1 else b.arg / 4 % 64 + 1
          want := b.arg % 4, data := b.payload.take 64, be := leNat ((b.payload.drop 64).take 8), poison := b.poison, env := env, since := s.frame.num }
        let s1 := s.setJob j (some x)
        let s2 := { s1 with fab := { s1.fab with jobNext := j + 1, waiting := s1.fab.waiting ++ [j] } }
        (s2.admitJobs).dirTick

/-- RECALL_RSP: a peer's answer to a recall (R751). -/
def State.recallRsp (b : Bundle) (s : State) : State :=
  let line := b.dpa / 64
  match s.trans line with
  | none => s
  | some t =>
    if !t.peers.any fun n => n.peer == b.tag && (s.peer n.peer).node == b.src then s
    else
      let p := b.tag
      let x := s.peer p
      let s1 := if b.arg.testBit 2 then s.writeFor line x.tenant clsMIG (b.payload.take 64) fullBe b.poison { dec := .good, loc := ⟨0, 0, 0, 0, 0, 0, 0, 0⟩ } false .internal else s
      let kept := b.arg % 4
      let s2 := if kept = 0 then s1.dropPeer line p
        else if kept = 1 ∧ s1.mPeer line = some p then s1.setPent line { s1.peerEnt line with m := false } else s1
      (s2.updTrans line fun t => { t with peers := t.peers.filter fun n => n.peer != p }).dirTick

/-! ### The origin (R745, R747, R748, R751) -/

/-- An eviction in the set of a line is already under way. -/
def State.evicting (s : State) (line : Nat) : Bool :=
  s.dir.trans.any fun e => match e.2 with | some t => t.what == .free && (s.dirEnt e.1).set == ((s.dirSet line).getD 0) | none => false

/-- RSP and CMP. The answer waits one frame at a time for a way of the directory where its grant needs one. -/
def State.remAnswer (b : Bundle) (s : State) : State :=
  let i := b.tag % 4096
  let r := s.remReq i
  if !r.valid || r.gen != b.tag / 4096 || r.write != (b.typ == tCMP) then s
  else
    let bad := decide (b.arg % 16 ≠ stOK)
    let gr := b.arg / 16 % 4
    let host := match r.who with | .host _ => true | .dev _ => false
    if host && !bad && s.noRoom r.line gr then
      let s1 := if s.evicting r.line then s else (s.evictFor r.line).dirTick
      { s1 with fab := { s1.fab with loop := s1.fab.loop ++ [b] } }
    else
      let mask := if b.poison then leNat ((b.payload.drop (64 * r.lines)).take 8) else 0
      let lineOf := fun (n : Nat) => if bad || mask.testBit n then (zeroLine, true) else (((b.payload.drop (64 * n)) ++ zeroLine).take 64, false)
      let s1 := s.remDrop i
      let s2 := match r.who with
        | .host q =>
          let g := if bad then 0 else gr
          let s2 := s1.setGrant r.line q.hid g r.write
          let q1 := { q with grant := g }
          if r.write then s2.applied (.host q1) else s2.deliver (.host q1) r.line (lineOf 0).1 (lineOf 0).2
        | .dev k =>
          if r.write then s1.bufPut k (r.line + ackOfs) [] false
          else (List.range r.lines).foldl (fun (s : State) n => s.bufPut k (r.line + n) (lineOf n).1 (lineOf n).2) s1
      (s2.remPump).dirTick

/-- RECALL: the local holders are recalled, and the answer follows (R751, R760). -/
def State.recallIn (f : Nat) (b : Bundle) (s : State) : State :=
  let line := b.dpa / 64
  (s.transStart (recallKey line) (.recall (b.arg % 4) f b.src b.tag b.sten)).dirTick

/-- FAB_CTL.RSP_TIMEOUT; its reserved value 0 acts as 1 frame. -/
def State.rspTimeoutFrames (s : State) : Nat := max 1 (s.regF (pgFPORT 0) 0x10C 23 8)

/-- RSP_TIMEOUT of a remote request table entry (R748). -/
def State.rspTimeout (i : Nat) (s : State) : State :=
  let r := s.remReq i
  if !r.valid || framesSince r.since s.frame.num < s.rspTimeoutFrames then s
  else
    let s1 := (s.setEvt (pgFPORT 0) 8).fabCount 2 1
    if !r.write && !r.again then
      let r1 := { r with gen := (r.gen + 1) % 16, again := true, since := s.frame.num }
      let x := (s1.setReq i r1).sendBundle (s.ownerCode r.sten) 0 (r1.bundle i s.ownNode)
      if x.1 then x.2 else ((x.2.remFailed i).remPump).dirTick
    else
      let s2 := s1.logE 0x0D02 2 (some r.sten) (pgFPORT 0) (64 * r.line) [r.node, if r.write then 1 else 0]
      ((s2.remFailed i).remPump).dirTick

/-! ### Forwarded cues (R754) -/

/-- CUE_FWD: the cue waits for one of the 8 forwarded contexts of engine CUE(p mod 32). -/
def State.cueFwdIn (b : Bundle) (s : State) : State :=
  match s.peerOf b.src b.sten with
  | none => (s.fabCount 7 1).answerFor b stNOPEER
  | some p =>
    let w := (p % 32, (b.src, b.sten, b.tag, p), (s.peer p).tenant, (b.payload ++ zeroLine).take 64)
    let s1 := s.fabCount 5 1
    ({ s1 with cues := { s1.cues with fwd := s1.cues.fwd ++ [w] } }).fwdPump

/-- An accepted bundle addressed to this node, other than collective and management bundles. -/
def State.localCore (f : Nat) (b : Bundle) (env : ReadEnv) (s : State) : State :=
  if b.typ = tRD ∨ b.typ = tWR then s.peerRequest f b env
  else if b.typ = tRSP ∨ b.typ = tCMP then s.remAnswer b
  else if b.typ = tRECALL then s.recallIn f b
  else if b.typ = tRECALLRSP then s.recallRsp b
  else if b.typ = tCUEFWD then s.cueFwdIn b
  else if b.typ = tCUECPL then s.fwdDone b.src b.tag b.payload
  else s

/-! ### Peers (R743, R751 to R753, R761, R762) -/

/-- Lines on which a peer holds M. -/
def State.peerMLines (s : State) (p : Nat) : List Nat := (s.fab.pdir.filter fun e => s.mPeer e.1 == some p).map (·.1)

/-- Recalls sent to a peer count as answered. -/
def State.peerAnswered (p : Nat) (s : State) : State :=
  { s with dir := { s.dir with trans := mapAll noTrans (fun _ (x : Option Trans) => x.map fun t => { t with peers := t.peers.filter fun n => n.peer != p }) s.dir.trans } }

/-- R327 for a peer: its slots fall empty, and lines it held M become poison. -/
def State.peerClear (p : Nat) (s : State) : State :=
  let m := s.peerMLines p
  let s1 := (s.fab.pdir.map (·.1)).foldl (fun (s : State) l => s.dropPeer l p) s
  (m.foldl (fun (s : State) l => s.originPoison l) s1).peerAnswered p

/-- R761: a job of the peer waits on a recall. -/
def State.jobRecalls (s : State) (j : Nat) : Bool :=
  s.dir.trans.any fun e => match e.2 with
    | some t => (t.what == .peer j && (t.phase == .recall || t.phase == .start)) || t.wait.any (· == .peer j)
    | none => false

/-- End a job with a status. -/
def State.jobFail (j : Nat) (x : PeerJob) (status : Nat) (s : State) : State :=
  let s1 := if x.place = 0 then s else s.freeEntry x.tenant (8 + x.port) x.place
  let s2 := { s1 with fab := { s1.fab with waiting := s1.fab.waiting.erase j } }
  (s2.answerStatus (if x.write then tCMP else tRSP) x.node x.sten x.tag (64 * x.line) status).setJob j none

/-- DEADLINE (R752). -/
def State.peerDeadline (s : State) : Nat := max 8 (s.regF (pgFPORT 0) 0x110 7 0)

/-- PEER_DEADLINE: a peer silent since a RECALL is declared lost. -/
def State.peerLost (p : Nat) (s : State) : State :=
  let late := s.dir.trans.find? fun e => match e.2 with
    | some t => t.peers.any fun n => n.peer == p && s.peerDeadline ≤ framesSince n.sent s.frame.num
    | none => false
  match late with
  | none => s
  | some (line, _) =>
    let x := s.peer p
    let s1 := (((s.fabCount 4 1).setEvt (pgFPORT 0) 9).logE 0x0D03 3 (some x.tenant) (pgFPORT 0) (64 * keyLine line) [p, x.node]).peerClear p
    let s2 := s1.updPeer p fun x => { x with lost := true, clearing := some s.frame.num }
    let jobs := s2.fab.jobs.filter fun e => match e.2 with | some j => j.peer == p && s2.jobRecalls e.1 | none => false
    (jobs.foldl (fun (s : State) e => match e.2 with | some j => (s.fabCount 7 1).jobFail e.1 j stNOPEER | none => s) s2).dirTick

/-- PEER_DATA as an entry and back. -/
def peerOfWord (w : Word32) : Peer := { valid := bitOf w 0, node := field w 15 4, sten := field w 22 16, tenant := field w 30 24 }
def Peer.word (x : Peer) : Word32 := placeB x.valid 0 ||| place x.node 12 4 ||| place x.sten 7 16 ||| place x.tenant 7 24 ||| placeB x.lost 31

/-- A write of PEER_CMD.OP: a READ fills the staged entry; the others wait for step 2 (R743, R905). -/
def State.peerCmd (op : Nat) (s : State) : State :=
  let i := s.regF (pgFPORT 0) 0x114 9 0
  if !s.fab.cmds.isEmpty then s
  else if op = 1 then { s with fab := { s.fab with staged := (s.peer i).word, cmdStat := 0 } }
  else if op = 2 ∨ op = 3 ∨ op = 4 then { s with fab := { s.fab with cmds := [(i, op, s.fab.staged)] } }
  else s

/-- STAT of a peer command: 1 BAD_FIELD, 2 DUPLICATE, 3 TENANT_CHANGE, 4 BUSY; 0 OK. -/
def State.peerStat (s : State) (i op : Nat) (w : Word32) : Nat :=
  let n := peerOfWord w
  let x := s.peer i
  if op = 2 then
    if !n.valid then 1
    else if s.fab.peers.any fun e => e.1 != i && e.2.valid && e.2.node == n.node && e.2.sten == n.sten then 2
    else if x.valid && x.tenant != n.tenant then 3
    else if x.clearing.isSome then 4 else 0
  else if x.clearing.isSome then 4 else 0

/-- PEER_WRITE, PEER_INVALIDATE and PEER_CLEAR at step 2; bulk clears of earlier frames have completed. -/
def State.peerStep (s : State) : State :=
  let l := s.fab.cmds
  let s1 := l.foldl (fun (s : State) c =>
    let st := s.peerStat c.1 c.2.1 c.2.2
    let s0 := { s with fab := { s.fab with cmdStat := st } }
    if st ≠ 0 then s0
    else if c.2.1 = 2 then s0.updPeer c.1 fun x => { peerOfWord c.2.2 with lost := x.valid && x.lost, gen := x.gen }
    else if c.2.1 = 3 then (s0.peerClear c.1).updPeer c.1 fun x => { x with valid := false, lost := false }
    else s0.updPeer c.1 fun x => { x with lost := false, gen := (x.gen + 1) % 16 }) { s with fab := { s.fab with cmds := [] } }
  { s1 with fab := { s1.fab with peers := mapAll (fun _ => {}) (fun _ (x : Peer) => if x.clearing.any fun f => f != s.frame.num then { x with clearing := none } else x) s1.fab.peers } }

/-- Routing entries written since the last edge take effect (R738, R763). -/
def State.routeStep (s : State) : State :=
  { s with fab := { s.fab with route := s.fab.routeNext.foldl (fun m e => mapPut routeDefault e.1 e.2 m) s.fab.route, routeNext := [] } }

/-- NODE_WRITE (R764). -/
def State.nodeWrite (v : Word32) (s : State) : State :=
  if (List.range 8).any fun f => (s.fport f).link == 3 then s.setEvt (pgFPORT 0) 11
  else s.setReg (ofsOf (pgFPORT 0) 0x100) (v &&& 0x8FFF#32)

/-! ### Delay exchange and markers (R48 to R50, R756, R757) -/

/-- A 64-bit stamp of a payload. -/
def Bundle.stamp (b : Bundle) (o : Nat) : Nat := leNat ((b.payload.drop o).take 8)

/-- DLY_REQ_SEND: t1 within the frame is a free value. -/
def State.dlySend (f : Nat) (s : State) : State :=
  if (s.fport f).link < 2 then s
  else
    let t1 := 8000 * s.frame.num + (s.draw).1 % 8000
    (((s.draw).2).updFport f fun p => { p with dlyT1 := some t1 }).sendRaw f { typ := tDLYREQ, payload := leBytes 8 t1 }

/-- DLY_REQ: received at `rx`, answered at `tx`. -/
def State.dlyReq (f : Nat) (b : Bundle) (rx tx : Nat) (s : State) : State :=
  let x := s.linkIn f b
  if !x.1 then x.2 else x.2.sendRaw f { typ := tDLYRSP, payload := leBytes 8 (b.stamp 0) ++ leBytes 8 rx ++ leBytes 8 tx }

/-- DLY_RSP received at t4 = `rx`. -/
def State.dlyRsp (f : Nat) (b : Bundle) (rx : Nat) (s : State) : State :=
  let x := s.linkIn f b
  if !x.1 || (x.2.fport f).dlyT1 != some (b.stamp 0) then x.2
  else
    let stay := stampDiff (b.stamp 16) (b.stamp 8)
    let s1 := x.2.updFport f fun p => { p with dlyT1 := none }
    if 8000 < stay then s1
    else
      let d := (stampDiff rx (b.stamp 0) - stay) / 2
      s1.updFport f fun p => { p with dly := (max 0 (min 65535 d)).toNat }

/-- The payload of a marker. -/
def markerBytes (frame node epoch hop : Nat) (corr tx : Nat) : List Byte :=
  leBytes 8 (frame % 2 ^ 48 + node % 4096 * 2 ^ 48) ++ leBytes 1 epoch ++ leBytes 1 hop ++ leBytes 6 0 ++ leBytes 8 corr ++ leBytes 8 tx

/-- MARKER_SEND: the transmit stamp within the frame is a free value. -/
def State.markerSend (s : State) : State :=
  if s.role ≠ roleClock then s
  else forEach (List.range 8) (fun f (s : State) =>
    if (s.fport f).link < 2 then s
    else
      let d := (s.draw).1 % 8000
      (s.draw).2.sendRaw f { typ := tMARKER, payload := markerBytes s.frame.num s.ownNode (s.frame.epoch.getD 0) 0 d (8000 * s.frame.num + d) }) s

/-- MARKER received at `rx`; `stay` is its residence time on each port it is forwarded on. -/
def State.marker (f : Nat) (b : Bundle) (rx stay : Nat) (s : State) : State :=
  let x := s.linkIn f b
  if !x.1 then x.2
  else
    let w := b.stamp 0
    let hop := leNat ((b.payload.drop 9).take 1) % 16
    let epoch := leNat ((b.payload.drop 8).take 1)
    let corr := (signedOf 64 (b.stamp 16) % (stampWrap : Int)).toNat
    let dly := (x.2.fport f).dly
    let y := x.2.markerIn f (w / 2 ^ 48 % 4096) epoch hop (w % 2 ^ 48) corr rx dly
    if !y.2 then y.1
    else
      let corr' := (b.stamp 16 + dly + stay) % 2 ^ 64
      forEach ((List.range 8).filter (· != f)) (fun g (s : State) =>
        s.sendRaw g { typ := tMARKER, payload := markerBytes (w % 2 ^ 48) (w / 2 ^ 48 % 4096) epoch ((hop + 1) % 16) corr' (rx + stay) }) y.1

/-! ### Ports up and down (R731, R734, R768 to R770) -/

/-- FPORT_LINK_UP: the PCS of a port has come up; `keyed` says that the SPDM session is established. -/
def State.fportUp (f node : Nat) (keyed : Bool) (s : State) : State :=
  if 8 ≤ f || !s.sys.cfgReady then s
  else
    let p := s.fport f
    let s1 := if p.link < 2 then
        s.updFport f fun p => { ({ } : FPort) with link := 2, peerNode := node % 4096, authReel := p.authReel, downReel := p.downReel, advised := p.advised, dly := p.dly }
      else s
    let plain := bitOf (s.reg (ofsOf (pgFPORT f) 0x48)) 0
    if p.link ≠ 3 ∧ (keyed ∨ plain) then
      ((s1.updFport f fun p => { p with link := 3, secure := keyed, keyCnt := 0 }).setEvt (pgFPORT f) 0).portSend f
    else s1

/-- LINK_REKEY: a due key update starts once every bundle under the previous key has been acknowledged (R734). -/
def State.linkRekey (f : Nat) (s : State) : State :=
  let p := s.fport f
  if !p.rekey || p.link ≠ 3 || !p.secure || p.oldKey.isSome then s
  else s.updFport f fun p => { p with rekey := false, keyph := !p.keyph, keyCnt := 0, oldKey := if p.replay.isEmpty then none else some p.txSeq }

/-! ### Registers (ch. 17) -/

/-- Read-only registers of port `f`'s page, fabric block included on FPORT0. -/
def State.readFport (s : State) (f r : Nat) : Option Word32 :=
  let p := s.fport f
  let sel := s.regF (pgFPORT f) 0x4C 2 0
  if r = 0x40 then some (place (s.unit .fport f).st.code 3 0 ||| place p.link 3 4 ||| placeB p.secure 8 ||| place p.peerNode 12 16)
  else if r = 0x44 then some (place p.dly 16 0)
  else if r = 0x48 then some ((s.reg (ofsOf (pgFPORT f) 0x48) &&& 1#32) ||| placeB p.rekey 1)
  else if r = 0x50 then some (BitVec.ofNat 32 (s.ctr (ofsOf (pgFPORT f) 0x50) sel))
  else if r = 0x54 then some (place p.replayBytes 21 0)
  else if r = 0x5C then some (place (p.cred.getD (s.regF (pgFPORT f) 0x58 2 0) 0) 13 0)
  else if r = 0x60 then some 0#32
  else if f ≠ 0 then none
  else if r = 0x108 then
    let n := s.regF (pgFPORT 0) 0x104 11 0
    some (((s.fab.routeNext.reverse.find? fun e => e.1 == n).map (·.2)).getD (s.routeOf n))
  else if r = 0x118 then some s.fab.staged
  else if r = 0x11C then some (placeB (!s.fab.cmds.isEmpty) 4 ||| place s.fab.cmdStat 4 8)
  else if r = 0x12C then some (BitVec.ofNat 32 (s.ctr (ofsOf (pgFPORT 0) 0x12C) (s.regF (pgFPORT 0) 0x128 2 0)))
  else none

end Sys2Proof.Machine
end

