-- ==== Sys2Proof/Machine/Collective.lean ====
section
/-!
DEFINITION. The pool and its collectives (ch. 18): entries, arming and join, GO, stripes and trees, exact partial sums and
their wire form, the single rounding, and the ways a member's part ends.
-/

namespace Sys2Proof.Machine

open Sys2Proof

/-! ### Entries (R772, R811) -/

def State.coll' (s : State) (i : Nat) : CollEnt := mapGet (fun _ => {}) s.coll.ents i
def State.updColl (i : Nat) (f : CollEnt → CollEnt) (s : State) : State :=
  { s with coll := { s.coll with ents := mapUpd (fun _ => {}) i f s.coll.ents } }
def State.updCrun (i : Nat) (f : CollRun → CollRun) (s : State) : State := s.updColl i fun e => { e with run := e.run.map f }
/-- Count a COLL counter (CNT_SEL). -/
def State.collCount (sel n : Nat) (s : State) : State := s.bump (ofsOf pgCOLL 0x78) sel n

def CollEnt.valid (e : CollEnt) : Bool := bitOf e.cfg 0
def CollEnt.fp32 (e : CollEnt) : Bool := bitOf e.cfg 1
def CollEnt.quorum (e : CollEnt) : Bool := bitOf e.cfg 2
def CollEnt.patEn (e : CollEnt) : Bool := bitOf e.cfg 3
def CollEnt.fanin (e : CollEnt) : Nat := field e.cfg 10 4
def CollEnt.id (e : CollEnt) : Nat := field e.cfg 31 16
def CollEnt.tenant (e : CollEnt) : Nat := field e.own 6 0
def CollEnt.rgn (e : CollEnt) : Nat := field e.own 27 16
def CollEnt.slot (e : CollEnt) : Nat := field e.pat 11 0
def CollEnt.need (e : CollEnt) : Nat := field e.pat 28 16
def CollEnt.map (e : CollEnt) : Nat := (field e.mapHi 15 0 * 2 ^ 32 + e.mapLo.toNat) / 64 * 64
def CollEnt.sts (e : CollEnt) : Nat := (field e.stsHi 15 0 * 2 ^ 32 + e.stsLo.toNat) / 64 * 64
/-- ARMING, JOINED or RUNNING. -/
def CollEnt.active (e : CollEnt) : Bool := 1 ≤ e.st && e.st ≤ 3

/-- The entry a COLL_ID names: the lowest-numbered valid one (R811). -/
def State.collOf (s : State) (id : Nat) : Option Nat := (s.coll.ents.find? fun e => e.2.valid && e.2.id == id).map (·.1)

/-- One word of an entry written; a reserved FANIN or QUORUM leaves the field. -/
def CollEnt.put (e : CollEnt) (r : Nat) (v : Word32) : CollEnt :=
  if r = 0x44 then
    let f := field v 10 4
    { e with cfg := (v &&& 0xFFFF000F#32) ||| place (if 2 ≤ f ∧ f ≤ 64 then f else e.fanin) 7 4 }
  else if r = 0x48 then { e with own := v &&& 0x0FFF007F#32 }
  else if r = 0x4C then
    let q := field v 28 16
    { e with pat := (v &&& 0xFFF#32) ||| place (if 1 ≤ q ∧ q ≤ 4096 then q else e.need) 13 16 }
  else if r = 0x50 then { e with mapLo := v }
  else if r = 0x54 then { e with mapHi := v &&& 0xFFFF#32 }
  else if r = 0x58 then { e with stsLo := v }
  else if r = 0x5C then { e with stsHi := v &&& 0xFFFF#32 }
  else if r = 0x60 then { e with reserve := v &&& 0xFFFFF#32 }
  else e

/-- COLL_ENTRY_WRITE. -/
def State.collWrite (r : Nat) (v : Word32) (s : State) : State :=
  let i := s.regF pgCOLL 0x40 5 0
  if (s.coll' i).active then s.setEvt pgCOLL 5
  else { s with coll := { s.coll with next := s.coll.next ++ [(i, r, v)] } }

/-- Step 2: entry writes take effect. -/
def State.collStep (s : State) : State :=
  s.coll.next.foldl (fun (s : State) w => s.updColl w.1 fun e => e.put w.2.1 w.2.2) { s with coll := { s.coll with next := [] } }

/-! ### Sets of nodes -/

/-- Nodes of a bitmap, ascending. -/
def nodesOf (b : Nat) : List Nat := (List.range 4096).filter b.testBit
def CollRun.chair (r : CollRun) : Nat := ((List.range 4096).find? r.members.testBit).getD 0
def CollRun.pagesN (r : CollRun) : Nat := r.len / 4096

/-! ### Stripes and trees (R783 to R785) -/

/-- Height of a position: steps down the leftmost children. -/
def posHeight (m f : Nat) : Nat → Nat → Nat
  | 0, _ => 0
  | n + 1, p => if f * p + 1 < m then posHeight m f n (f * p + 1) + 1 else 0

/-- First page of a stripe. -/
def stripeLo (p m t : Nat) : Nat := t * p / m

/-- The stripe of a page. -/
def stripeOf (p m page : Nat) : Nat := ((List.range m).find? fun t => page < stripeLo p m (t + 1)).getD 0

/-- Position of a node in a stripe. -/
def CollRun.pos (r : CollRun) (t node : Nat) : Nat := (r.go.findIdx (· == node) + r.go.length - t) % r.go.length
/-- Node at a position. -/
def CollRun.nodeAt (r : CollRun) (t p : Nat) : Nat := r.go.getD ((p + t) % r.go.length) 0
def CollRun.parent (r : CollRun) (f t node : Nat) : Option Nat :=
  let p := r.pos t node
  if p = 0 then none else some (r.nodeAt t ((p - 1) / f))
def CollRun.kids (r : CollRun) (f t node : Nat) : List Nat :=
  let p := r.pos t node
  ((List.range f).filter fun i => f * p + 1 + i < r.go.length).map fun i => r.nodeAt t (f * p + 1 + i)
def CollRun.height (r : CollRun) (f t node : Nat) : Nat := posHeight r.go.length f 4096 (r.pos t node)

/-! ### Elements and sum pages (R792 to R796) -/

/-- Elements in a page and blocks of 16. -/
def CollEnt.els (e : CollEnt) : Nat := if e.fp32 then 1024 else 2048
def CollEnt.blocks (e : CollEnt) : Nat := e.els / 16

/-- An element as its exact value in units of 2^-149 and its class. -/
def collEl (fp : Bool) (bits : Nat) : Int × Nat :=
  let f := if fp then fp32 else bf16
  match f.decode bits with
  | .nan => (0, 3)
  | .inf neg => (0, if neg then 2 else 1)
  | .fin m k => (m * ((2 ^ (149 - k) : Nat) : Int), 0)

/-- The elements of a page; those of a poisoned line count as zeros. -/
def CollEnt.pageEls (e : CollEnt) (bytes : List Byte) (mask : Nat) : List (Int × Nat) :=
  let sz := if e.fp32 then 4 else 2
  ((splitEls sz e.els bytes).zipIdx).map fun x => if mask.testBit (x.2 * sz / 64) then (0, 0) else collEl e.fp32 x.1

/-- R795: how the classes of two partial sums combine. -/
def specAdd (a b : Nat) : Nat := if a = 0 then b else if b = 0 then a else if a = b then a else 3

/-- Add elements into an accumulator. -/
def CollAcc.add (a : CollAcc) (l : List (Int × Nat)) (mask : Nat) : CollAcc :=
  { a with
    sums := if a.sums.isEmpty then l.map (·.1) else List.zipWith (fun (x : Int) (y : Int × Nat) => x + y.1) a.sums l
    specs := if a.specs.isEmpty then l.map (·.2) else List.zipWith (fun (x : Nat) (y : Int × Nat) => specAdd x y.2) a.specs l
    mask := a.mask ||| mask }

/-- The result page of a finished accumulator (R796). -/
def CollAcc.result (a : CollAcc) (e : CollEnt) : List Byte :=
  let f := if e.fp32 then fp32 else bf16
  let sz := if e.fp32 then 4 else 2
  let bytes := (List.zipWith (fun (v : Int) (c : Nat) =>
    leBytes sz (f.round (if c = 3 then .nan else if c = 0 then .fin v 149 else .inf (c == 2))).1) a.sums a.specs).flatten
  maskedPage bytes a.mask

/-- Trailing zero bits of a positive number, up to a bound. -/
def tzBits : Nat → Nat → Nat
  | 0, _ => 0
  | n + 1, v => if v % 2 = 1 then 0 else tzBits n (v / 2) + 1

/-- Least width that holds a signed number. -/
def widthOf (m : Int) : Nat := if 0 ≤ m then (if m = 0 then 1 else Nat.log2 m.toNat + 2) else (if m = -1 then 1 else Nat.log2 (-m - 1).toNat + 2)

/-- A signed field of `w` bits. -/
def signedBits (w : Nat) (m : Int) : List Bool := fieldBits w (m % ((2 ^ w : Nat) : Int)).toNat

/-- A block of 16 exact elements as bits, and whether it is wide (R794, R795). -/
def blockBits (l : List Int) : List Bool × Bool :=
  let nz := l.filter (· != 0)
  if nz.isEmpty then (fieldBits 16 256 ++ List.replicate 16 false, false)
  else
    let z := (nz.map fun v => tzBits 512 v.natAbs).foldl min 512
    let ms := l.map fun v => v / ((2 ^ z : Nat) : Int)
    let w := (ms.map widthOf).foldl max 1
    if 127 < w then (fieldBits 16 (127 * 512) ++ (l.map (signedBits 296)).flatten, true)
    else (fieldBits 16 (z + 107 + (w - 1) * 512) ++ (ms.map (signedBits w)).flatten, false)

/-- Blocks of 16. -/
def chunk16 {α : Type} : Nat → List α → List (List α)
  | 0, _ => []
  | n + 1, l => l.take 16 :: chunk16 n (l.drop 16)

/-- A sum part: first block, blocks as bits, its special elements (element index and class), and the page's mask. -/
def partBytes (first : Nat) (blocks : List (List Bool)) (specs : List (Nat × Nat)) (mask : Nat) : List Byte :=
  let bits := blocks.flatten
  let body := (specs.map fun x => leBytes 2 (x.1 + x.2 * 2048)).flatten ++ packBits (ceilDiv bits.length 8) bits
  leBytes 2 (16 + body.length) ++ leBytes 2 specs.length ++ leBytes 1 first ++ leBytes 1 (blocks.length - 1) ++ leBytes 2 0 ++ leBytes 8 mask ++ body

/-- R793: the parts of a sum page, each taking as many whole blocks as fit. -/
def partsFrom (mask : Nat) : Nat → Nat → List (List Bool) → List (Nat × Nat) → Nat → List (List Bool × List (Nat × Nat)) → List (List Byte)
  | _, first, cur, sp, _, [] => if cur.isEmpty then [] else [partBytes first cur sp mask]
  | n, first, cur, sp, bits, (b, q) :: r =>
    if cur.isEmpty ∨ 16 + 2 * (sp.length + q.length) + ceilDiv (bits + b.length) 8 ≤ 16368 then
      partsFrom mask n first (cur ++ [b]) (sp ++ q) (bits + b.length) r
    else partBytes first cur sp mask :: partsFrom mask n (first + cur.length) [b] q b.length r

/-- The sum page of an accumulator, and its wide blocks. -/
def CollAcc.parts (a : CollAcc) (e : CollEnt) : List (List Byte) × Nat :=
  let bl := (chunk16 e.blocks a.sums).map blockBits
  let sp := (chunk16 e.blocks (a.specs.zipIdx)).map fun l => (l.filter fun x => x.1 != 0).map fun x => (x.2, x.1)
  (partsFrom a.mask 0 0 [] [] 0 (List.zip (bl.map (·.1)) sp), (bl.filter (·.2)).length)

/-- A part as received: first block, the elements and classes of its blocks, mask, bytes used. -/
structure PartRead where
  first : Nat
  els   : List (List Int)
  specs : List (Nat × Nat)
  mask  : Nat
  len   : Nat

/-- The blocks of a bit stream; none where a field is not as R794 has it. -/
def readBlocks : Nat → List Bool → Option (List (List Int) × List Bool)
  | 0, l => some ([], l)
  | n + 1, l =>
    if l.length < 16 then none
    else
      let h := bitsNat (l.take 16)
      let wide := h / 512 == 127
      let w := if wide then 296 else h / 512 + 1
      let z := h % 512
      let r := l.drop 16
      if r.length < 16 * w ∨ (wide ∧ z ≠ 0) ∨ (!wide ∧ z < 107) then none
      else
        let ms := (List.range 16).map fun i => signedOf w (bitsNat ((r.drop (i * w)).take w)) * (if wide then 1 else ((2 ^ (z - 107) : Nat) : Int))
        (readBlocks n (r.drop (16 * w))).map fun x => (ms :: x.1, x.2)

/-- One sum part at the head of some bytes, of a page of `nb` blocks (R792, R813). -/
def readPart (nb : Nat) (l : List Byte) : Option PartRead :=
  let len := leNat (l.take 2)
  let ns := leNat ((l.drop 2).take 2)
  let first := leNat ((l.drop 4).take 1)
  let n := leNat ((l.drop 5).take 1) + 1
  if l.length < 16 ∨ l.length < len ∨ len < 16 + 2 * ns ∨ 4096 ≤ ns ∨ leNat ((l.drop 6).take 2) ≠ 0 ∨ nb < first + n then none
  else
    let sp := (splitEls 2 ns (l.drop 16)).map fun v => (v % 2048, v / 2048)
    if sp.any fun x => x.2 = 0 ∨ 3 < x.2 ∨ x.1 / 16 < first ∨ first + n ≤ x.1 / 16 then none
    else match readBlocks n (bitsOf (((l.take len).drop (16 + 2 * ns)))) with
      | none => none
      | some (els, rest) => if rest.length < 8 && rest.all (· == false) then some ⟨first, els, sp, leNat ((l.drop 8).take 8), len⟩ else none

/-- All parts of a payload, each with its page: a part that does not go on from the last one opens the next page. -/
def readParts (nb : Nat) : Nat → Nat → Nat → List Byte → Option (List (Nat × PartRead))
  | 0, _, _, l => if l.isEmpty then some [] else none
  | n + 1, page, nextB, l =>
    if l.isEmpty then some []
    else match readPart nb l with
      | none => none
      | some p =>
        let page' := if nextB = nb ∨ p.first < nextB then page + 1 else page
        (readParts nb n page' (p.first + p.els.length) (l.drop p.len)).map fun r => (page', p) :: r

/-! ### Bundles (R804) -/

/-- The 16-byte header. -/
def collHeader (id chair stripe first pages : Nat) : List Byte :=
  leBytes 8 (id + chair * 2 ^ 16 + stripe * 2 ^ 28 + first * 2 ^ 40) ++ leBytes 8 pages

/-- Send a collective bundle of entry `i` to a node. -/
def State.collSend (i : Nat) (typ arg node stripe first pages : Nat) (body : List Byte) (s : State) : State :=
  let e := s.coll' i
  let b : Bundle := { typ := typ, dst := node, src := s.ownNode, vc := vcCOLL, sten := e.tenant, arg := arg
                      payload := collHeader e.id e.chair stripe first pages ++ body }
  s.sendOrDrop (s.ownerCode e.tenant) b.collFlow b

def ckUP : Nat := 0
def ckSUM : Nat := 1
def ckDOWN : Nat := 2
def ccJOIN : Nat := 1
def ccWITHDRAW : Nat := 2
def ccGO : Nat := 3
def ccABORT : Nat := 4
def ccPULL : Nat := 5

/-! ### Outcomes -/

def coOK : Nat := 0
def coNOENTRY : Nat := 1
def coBUSY : Nat := 2
def coRANGE : Nat := 3
def coNOTMEMBER : Nat := 4
def coNOSYNC : Nat := 5
def coNOTCOUNTED : Nat := 6
def coNOQUORUM : Nat := 7
def coTORN : Nat := 8
def coLATE : Nat := 9
def coNOGO : Nat := 10

/-- Result 0 of an outcome: the bits no rule names are free. -/
def State.collR0 (code v : Nat) (s : State) : Nat × State :=
  let d := s.draw
  (code + 256 * (d.1 % 256) + v * 2 ^ 16 + (d.1 / 256 % 2 ^ 35) * 2 ^ 29, d.2)

/-- A COLLECT cue that ends before it is accepted (R775). -/
def State.collReject (n : Nat) (c : CueRun) (code : Nat) (s : State) : State :=
  let x := s.collR0 code 0
  ((x.2.setEvt pgCOLL 1).fnCause c.fn 16).cueEnd n csREJECTED (some x.1) none

/-! ### Pins (R776) -/

/-- Pages of SRC and DST. -/
def CollRun.pinned (r : CollRun) : List Nat :=
  let a := (List.range r.pagesN).map (r.src / 4096 + ·)
  if r.dst = r.src then a else a ++ (List.range r.pagesN).map (r.dst / 4096 + ·)

def State.collPin (r : CollRun) (s : State) : State := r.pinned.foldl (fun (s : State) p => s.updPage p fun x => { x with pins := x.pins + 1 }) s
def State.collUnpin (r : CollRun) (s : State) : State := r.pinned.foldl (fun (s : State) p => s.updPage p fun x => { x with pins := x.pins - 1 }) s

/-- The collective's region is still its tenant's to reach. -/
def State.collReach (s : State) (r : CollRun) : Option Range := (s.reach r.tenant (r.src / 2 ^ 30)).map (·.2)

/-! ### The COLLECT cue (R775 to R777) -/

def overlap (a n b m : Nat) : Bool := a < b + m && b < a + n

/-- BAD_RANGE of R775. -/
def State.collRangeOk (s : State) (e : CollEnt) (src dst len : Nat) : Bool :=
  let g := s.rgn e.rgn
  let holds := fun (a n : Nat) => g.base * 2 ^ 30 ≤ a && a + n ≤ (g.base + g.size) * 2 ^ 30
  src % 4096 == 0 && dst % 4096 == 0 && len != 0 && len % 4096 == 0
  && holds src len && holds dst len && (dst == src || !overlap src len dst len)
  && g.valid && !g.unbinding && g.kind == kCollective && g.owner == e.tenant
  && holds e.map 512 && holds e.sts 576
  && !overlap e.map 512 src len && !overlap e.map 512 dst len && !overlap e.sts 576 src len && !overlap e.sts 576 dst len && !overlap e.map 512 e.sts 576

/-- COLLECT: the checks in order, then ARMING. -/
def State.collectCue (n : Nat) (env : List (Nat × ReadEnv)) (s : State) : State :=
  match s.running n with
  | none => s
  | some c =>
    if c.op ≠ opCOLLECT || !s.cueRoom c then s
    else match s.collOf (c.num 0x24 2) with
    | none => s.collReject n c coNOENTRY
    | some i =>
      let e := s.coll' i
      let src := c.num 0x10 8; let dst := c.num 0x18 8; let len := c.num 0x20 4
      if e.tenant ≠ c.tenant then s.collReject n c coNOENTRY
      else if e.active then s.collReject n c coBUSY
      else if !s.collRangeOk e src dst len then s.collReject n c coRANGE
      else
        let x := s.needLines n false e.map 512 env
        if !x.1 then x.2
        else
          let b := x.2.bufBytes (cueKey n) 0 e.map 512
          let members := leNat b.1
          if b.2 then x.2.cueEnd n csPOISONED none none
          else if !members.testBit s.ownNode then x.2.collReject n c coNOTMEMBER
          else if !s.inSync then x.2.collReject n c coNOSYNC
          else
            let r : CollRun := { cue := n, tenant := c.tenant, fn := c.fn, src := src, dst := dst, len := len, deadline := c.num 0x28 8, members := members }
            let s1 := (x.2.cueSettle n []).updColl i fun e => { e with st := 1, run := some r, chair := r.chair, n := (nodesOf members).length, m := 0, pages := 0 }
            let s2 := if (s.rgn e.rgn).remote then s1 else s1.collPin r
            s2.updRunOf n fun c => { c with phase := 1 }

/-! ### Ending (R800) -/

/-- The status block: counted set, M, N, outcome and failing node. -/
def CollEnt.status (e : CollEnt) (r : CollRun) (outcome node : Nat) : List Byte :=
  leBytes 512 r.counted ++ leBytes 8 (e.m + e.n * 2 ^ 16 + outcome * 2 ^ 32 + node * 2 ^ 40) ++ leBytes 56 0

/-- Close the run: pins go, the entry is DONE or FAILED, the cue ends unless it already has. -/
def State.collClose (i : Nat) (outcome node : Nat) (cueStat : Nat) (s : State) : State :=
  let e := s.coll' i
  match e.run with
  | none => s
  | some r =>
    let s1 := if (s.rgn e.rgn).remote then s else s.collUnpin r
    let s2 := s1.updColl i fun e => { e with
      st := if outcome = coOK then 4 else 5, outcome := outcome
      run := some { r with ending := none, owed := if outcome = coLATE then r.owed else [], accs := if outcome = coLATE then r.accs else [],
                           toWrite := [], toSend := [], acks := [], late := outcome == coLATE } }
    let s3 := s2.setEvt pgCOLL (if outcome = coOK then 0 else 1)
    let s4 := if outcome = coTORN then s3.setEvt pgCOLL 2 else if outcome = coLATE then s3.setEvt pgCOLL 3 else s3
    let s5 := if outcome = coLATE then s4 else s4.bufDrop (collKey i)
    let x := s5.collR0 outcome (if outcome = coOK then e.m else if outcome = coTORN then node else 0)
    ((x.2).fnCause r.fn 16).cueEnd r.cue cueStat (some x.1) (if outcome = coOK then some e.n else none)

/-- Write what the status block still lacks, and close the run once it is applied. -/
def State.collFinish (i : Nat) (s : State) : State :=
  let e := s.coll' i
  match e.run with
  | none => s
  | some r =>
    match r.ending with
    | none => s
    | some (outcome, node) =>
      if (s.collReach r).isNone then s.collClose i outcome node csREJECTED
      else
        let b := e.status r outcome node
        let s1 := (List.range 9).foldl (fun (s : State) k =>
          let l := e.sts / 64 + k
          match (s.coll' i).run with
          | none => s
          | some q =>
            if l ∈ q.acks || s.arrived (collKey i) (l + ackOfs) then s
            else
              let y := s.devWrite (collKey i) l r.tenant clsCUE ((b.drop (64 * k)).take 64) fullBe false goodEnv
              if y.1 then y.2.updCrun i fun q => { q with acks := q.acks ++ [l] } else y.2) s
        if (List.range 9).all fun k => s1.arrived (collKey i) (e.sts / 64 + k + ackOfs) then
          s1.collClose i outcome node (if outcome = coOK then csOK else csREJECTED)
        else s1

/-- End a member's part with an outcome: the status block is written except for NO_GO. -/
def State.collEnd (i outcome node : Nat) (s : State) : State :=
  let e := s.coll' i
  match e.run with
  | none => s
  | some r =>
    if r.ending.isSome || !e.active then s
    else if outcome = coNOGO then s.collClose i outcome node csREJECTED
    else
      let keep := outcome == coLATE
      ((s.bufPrune (collKey i) fun k => k / ackOfs == 1).updCrun i fun r => { r with
        ending := some (outcome, node), toWrite := [], acks := [], toSend := []
        owed := if keep then r.owed else [], accs := if keep then r.accs else [] }).collFinish i

/-! ### Aborts and withdrawals (R782, R802, R803) -/

/-- ABORT to a node. -/
def State.collAbortTo (i node outcome failing : Nat) (s : State) : State :=
  let c := match (s.coll' i).run with | some r => r.counted | none => 0
  s.collSend i tCOLLCTL ccABORT node 0 0 0 (leBytes 1 outcome ++ leBytes 2 failing ++ leBytes 5 0 ++ leBytes 512 c)

/-- ABORT with reason TORN, naming a node: through the chair, which forwards it to every member of the GO set. -/
def State.collTear (i failing : Nat) (s : State) : State :=
  let e := s.coll' i
  match e.run with
  | none => s
  | some r =>
    if e.chair = s.ownNode then (r.go.filter (· != s.ownNode)).foldl (fun (s : State) n => s.collAbortTo i n coTORN failing) s
    else s.collAbortTo i e.chair coTORN failing

/-- A part that cannot go on: cancelled cue, lost access or lost sync (R66, R180, R782, R803). -/
def State.collSweepOne (i : Nat) (s : State) : State :=
  let e := s.coll' i
  match e.run with
  | none => s
  | some r =>
    if !e.active || r.ending.isSome then s
    else
      let over' := match s.run r.cue with | some c => 2 ≤ c.phase | none => true
      let lost := (s.collReach r).isNone
      let own := s.ownNode
      let withdraw := fun (s : State) =>
        if e.chair = own then s.updCrun i fun r => { r with counted := if r.counted.testBit own then r.counted - 2 ^ own else r.counted }
        else s.collSend i tCOLLCTL ccWITHDRAW e.chair 0 0 0 []
      if over' || lost then
        if e.st = 3 then ((s.collTear i own).setEvt pgCOLL 2).collClose i coTORN own csACCESS
        else
          let s1 := if e.st = 2 then withdraw s else s
          (s1.collClose i ((s1.draw).1 % 16) own csACCESS).updCrun i fun r => { r with withdrew := true }
      else if !s.inSync ∧ e.st = 3 then (s.collTear i own).collEnd i coTORN own
      else if !s.inSync ∧ e.st = 2 ∧ !r.unsynced then (withdraw s).updCrun i fun r => { r with unsynced := true }
      else s

def State.collSweep (s : State) : State := (s.coll.ents.map (·.1)).foldl (fun (s : State) i => s.collSweepOne i) s

/-! ### Join and GO (R777 to R782) -/

/-- What a JOIN carries. -/
def State.joinBytes (s : State) (e : CollEnt) (r : CollRun) : List Byte :=
  leBytes 4 r.len ++ leBytes 8 r.deadline ++ leBytes 4 (((e.cfg &&& 0x7F6#32) ||| (e.pat &&& 0x1FFF0000#32)).toNat)
    ++ leBytes 8 (if e.patEn then (s.pslot e.slot).uid else 0) ++ leBytes 4 (crcA (leBytes 512 r.members)) ++ leBytes 4 0

/-- JOIN_SEND: every pinned page is OPEN. -/
def State.joinSend (i : Nat) (s : State) : State :=
  let e := s.coll' i
  match e.run with
  | none => s
  | some r =>
    let remote := (s.rgn e.rgn).remote
    if e.st ≠ 1 || !s.inSync || !(remote || r.pinned.all fun p => (s.page p).st == .opened) then s
    else
      let s1 := s.updColl i fun e => { e with st := 2 }
      if e.chair = s.ownNode then s1.updCrun i fun r => { r with counted := r.counted ||| 2 ^ s.ownNode }
      else s1.collSend i tCOLLCTL ccJOIN e.chair 0 0 0 (s.joinBytes e r)

/-- A GO or its likeness reaches this member with a counted set (R781). -/
def State.goIn (i set : Nat) (s : State) : State :=
  let e := s.coll' i
  match e.run with
  | none => s
  | some r =>
    let l := nodesOf set
    if e.st ≠ 2 then s
    else
      let s1 := (s.updCrun i fun r => { r with counted := set }).updColl i fun e => { e with m := l.length }
      if !set.testBit s.ownNode then s1.collEnd i coNOTCOUNTED 0
      else
        let s2 := (s1.updCrun i fun r => { r with go := l }).updColl i fun e => { e with st := 3 }
        if r.unsynced then (s2.collTear i s.ownNode).collEnd i coTORN s.ownNode else s2

/-- The go-by frame has come (R780). -/
def State.goBy (s : State) (e : CollEnt) (r : CollRun) : Bool := s.reached ((frameWrap + 1000 * r.deadline - e.reserve.toNat) % frameWrap)

/-- GO_DECISION at the chair. -/
def State.goDecision (i : Nat) (s : State) : State :=
  let e := s.coll' i
  match e.run with
  | none => s
  | some r =>
    if e.chair ≠ s.ownNode ∨ r.decided ∨ (e.st ≠ 1 ∧ e.st ≠ 2) ∨ !s.inSync ∨ (r.counted ≠ r.members ∧ !s.goBy e r) then s
    else
      let l := nodesOf r.counted
      let ok := if e.quorum then decide (e.need ≤ l.length) else r.counted == r.members
      let s1 := (s.updCrun i fun r => { r with decided := true }).updColl i fun e => { e with m := l.length }
      let others := l.filter (· != s.ownNode)
      let me := r.counted.testBit s.ownNode
      if ok then
        let s2 := others.foldl (fun (s : State) n => s.collSend i tCOLLCTL ccGO n 0 0 0 (leBytes 2 l.length ++ leBytes 6 0 ++ leBytes 512 r.counted)) s1
        if me then s2.goIn i r.counted else s2
      else
        let s2 := others.foldl (fun (s : State) n => s.collAbortTo i n coNOQUORUM 0) s1
        if me then s2.collEnd i coNOQUORUM 0 else s2

/-- COLL_DEADLINE at the edge of frame 1,000 × DEADLINE (R801). -/
def State.collDeadline (i : Nat) (s : State) : State :=
  let e := s.coll' i
  match e.run with
  | none => s
  | some r =>
    if !e.active || r.ending.isSome || !s.reached (1000 * r.deadline % frameWrap) then s
    else if e.st = 3 then s.collEnd i coLATE 0
    else s.collEnd i coNOGO 0

/-! ### The flow of pages (R786 to R791) -/

/-- Bytes and mask of an own SRC page whose lines have arrived. -/
def State.collOwn (i page : Nat) (r : CollRun) (env : List (Nat × ReadEnv)) (s : State) : Option (List Byte × Nat) × State :=
  let ls := (List.range 64).map fun k => r.src / 64 + 64 * page + k
  let s1 := ls.foldl (fun (s : State) l =>
    match (s.coll' i).run with
    | none => s
    | some q =>
      if l ∈ q.asked then s
      else
        let y := s.devRead (collKey i) l r.tenant clsCUE (envAt env l)
        if y.1 then y.2.updCrun i fun q => { q with asked := q.asked ++ [l] } else y.2) s
  if ls.all fun l => s1.arrived (collKey i) l then
    let d := ls.map fun l => (s1.bufGet (collKey i) l).getD (zeroLine, true)
    let gone := fun (k : Nat) => decide (k ∈ ls)
    (some ((d.map (·.1)).flatten, maskOf (d.map (·.2))), (s1.bufPrune (collKey i) gone).updCrun i fun q => { q with asked := q.asked.filter fun l => !gone l })
  else (none, s1)

/-- A page as a wire record for a node: folded on a lane where PAT_EN is set, else RAW or ZERO (R787); none where no lane
has room. -/
def State.collRecord (e : CollEnt) (node : Nat) (flow : Nat) (bytes : List Byte) (mask : Nat) (s : State) : Option (List Byte × State) :=
  let page := maskedPage bytes mask
  if page.all (· == 0#8) then some (zeroRecord mask, s)
  else if !e.patEn then some (wireRecord (rawForm page mask), s)
  else
    let pat := if s.foldable e.slot e.tenant then some e.slot else none
    let o := foldPage (pat.map fun k => (k, (s.pslot k).file)) bytes mask
    let f := (s.routePort node s.ownNode flow).getD 0
    (s.laneServe e.tenant (8 + f) o.base pat true).map fun s1 => (wireRecord o.form, s1)

/-- Send a page to a node as a wire segment. -/
def State.collPageOut (i arg node stripe page : Nat) (bytes : List Byte) (mask : Nat) (s : State) : Bool × State :=
  let e := s.coll' i
  match s.collRecord e node (e.id * 4096 + stripe) bytes mask with
  | none => (false, s)
  | some (r, s1) => (true, s1.collSend i tCOLL arg node stripe page 1 (wireSegment [r]))

/-- Accumulators in use, of this run at a height and in all. -/
def State.accsUsed (s : State) : Nat := s.coll.ents.foldl (fun n e => n + match e.2.run with | some r => r.accs.length | none => 0) 0

/-- Take an accumulator for a page and PULL it from every child (R788). -/
def State.accStart (i page : Nat) (s : State) : State :=
  let e := s.coll' i
  match e.run with
  | none => s
  | some r =>
    let t := stripeOf r.pagesN r.go.length page
    let kids := r.kids e.fanin t s.ownNode
    let h := r.height e.fanin t s.ownNode
    let d := posHeight r.go.length e.fanin 4096 0
    let room := h == 0 || ((r.accs.filter fun a => a.height == h).length < 256 / (max 1 d) && s.accsUsed < 256)
    if !room || r.accs.any fun a => a.page == page then s
    else
      let a : CollAcc := { page := page, stripe := t, height := h, kids := kids.map fun n => { node := n, since := s.frame.num } }
      kids.foldl (fun (s : State) n => s.collSend i tCOLLCTL ccPULL n t page 1 []) (s.updCrun i fun r => { r with accs := r.accs ++ [a] })

/-- Pages of the stripe this node is the root of, and pages PULLed from this node at an interior position, get their
accumulators in ascending order. -/
def State.collStart (i : Nat) (s : State) : State :=
  let e := s.coll' i
  match e.run with
  | none => s
  | some r =>
    if r.go.isEmpty then s
    else
      let m := r.go.length
      let t := r.go.findIdx (· == s.ownNode)
      let roots := ((List.range (stripeLo r.pagesN m (t + 1) - stripeLo r.pagesN m t)).map (stripeLo r.pagesN m t + ·)).filter fun p => decide (p ∉ r.rounded)
      let inner := (sortBy (fun (a b : Nat) => a ≤ b) r.owed).filter fun p => !(r.kids e.fanin (stripeOf r.pagesN m p) s.ownNode).isEmpty
      ((if r.late then [] else roots) ++ inner).foldl (fun (s : State) p => s.accStart i p) s

/-- Leaves answer the PULLs they hold. -/
def State.collLeaf (i : Nat) (env : List (Nat × ReadEnv)) (s : State) : State :=
  let e := s.coll' i
  match e.run with
  | none => s
  | some r =>
    r.owed.foldl (fun (s : State) p =>
      let t := stripeOf r.pagesN r.go.length p
      if !(r.kids e.fanin t s.ownNode).isEmpty then s
      else match r.parent e.fanin t s.ownNode with
        | none => s.updCrun i fun r => { r with owed := r.owed.erase p }
        | some up =>
          match s.collOwn i p r env with
          | (none, s1) => s1
          | (some (b, m), s1) =>
            let x := s1.collPageOut i ckUP up t p b m
            if x.1 then x.2.updCrun i fun r => { r with owed := r.owed.erase p, sent := addOnce p r.sent }
            else s) s

/-- Change one accumulator. -/
def State.updAcc (i page : Nat) (f : CollAcc → CollAcc) (s : State) : State :=
  s.updCrun i fun r => { r with accs := r.accs.map fun a => if a.page = page then f a else a }

/-- Finish the accumulators that are complete: the root rounds and starts the result on its way, an interior position
answers its parent (R789, R790, R796). -/
def State.accFinish (i : Nat) (env : List (Nat × ReadEnv)) (s : State) : State :=
  let e := s.coll' i
  match e.run with
  | none => s
  | some r =>
    r.accs.foldl (fun (s : State) a0 =>
      let s0 := if a0.own then s
        else match s.collOwn i a0.page r env with
          | (none, s1) => s1
          | (some (b, m), s1) => s1.updAcc i a0.page fun a => { a.add (e.pageEls b m) m with own := true }
      match (s0.coll' i).run.bind fun q => q.accs.find? fun a => a.page == a0.page with
      | none => s0
      | some a =>
        if !a.own || !a.kids.isEmpty then s0
        else
          let s1 := (s0.collCount 0 1).updCrun i fun q => { q with accs := q.accs.filter fun x => x.page != a.page }
          match r.parent e.fanin a.stripe s.ownNode with
          | none =>
            let b := a.result e
            s1.updCrun i fun q => { q with rounded := q.rounded ++ [a.page], toWrite := q.toWrite ++ [(a.page, b, a.mask, 0)], toSend := q.toSend ++ [(a.page, b, a.mask)] }
          | some up =>
            let x := a.parts e
            let s2 := x.1.foldl (fun (s : State) p => s.collSend i tCOLL ckSUM up a.stripe a.page 1 p) s1
            ((s2.collCount 1 1).collCount 6 x.2).updCrun i fun q => { q with owed := q.owed.erase a.page, sent := addOnce a.page q.sent }) s

/-- Write the lines of arrived result pages to DST; a page counts once every line is applied. -/
def State.collPut (i : Nat) (s : State) : State :=
  match (s.coll' i).run with
  | none => s
  | some r =>
    r.toWrite.foldl (fun (s : State) w =>
      let base := r.dst / 64 + 64 * w.1
      let go := (List.range 64).foldl (fun (s : State) k =>
        match (s.coll' i).run with
        | none => s
        | some q =>
          if base + k ∈ q.acks then s
          else
            let p := w.2.2.1.testBit k
            let y := s.devWrite (collKey i) (base + k) r.tenant clsCUE (if p then zeroLine else (w.2.1.drop (64 * k)).take 64) fullBe p goodEnv
            if y.1 then y.2.updCrun i fun q => { q with acks := q.acks ++ [base + k] } else y.2) s
      if (List.range 64).all fun k => go.arrived (collKey i) (base + k + ackOfs) then
        let mine := fun (k : Nat) => decide (base + ackOfs ≤ k ∧ k < base + 64 + ackOfs)
        (((go.bufPrune (collKey i) mine).updCrun i fun q => { q with
          toWrite := q.toWrite.filter fun x => x.1 != w.1, written := q.written ++ [w.1]
          acks := q.acks.filter fun k => k < base || base + 64 ≤ k }).updColl i fun e => { e with pages := e.pages + 1 }).collCount 2 1
      else go) s

/-- Send result pages on to the children. -/
def State.collDownOut (i : Nat) (s : State) : State :=
  let e := s.coll' i
  match e.run with
  | none => s
  | some r =>
    r.toSend.foldl (fun (s : State) w =>
      let t := stripeOf r.pagesN r.go.length w.1
      let kids := r.kids e.fanin t s.ownNode
      let x := kids.foldl (fun (a : Bool × State) n => if a.1 then a.2.collPageOut i ckDOWN n t w.1 w.2.1 w.2.2 else a) (true, s)
      if x.1 then x.2.updCrun i fun q => { q with toSend := q.toSend.filter fun y => y.1 != w.1 } else s) s

/-- Move one collective on. -/
def State.collPump (i : Nat) (env : List (Nat × ReadEnv)) (s : State) : State :=
  let e := s.coll' i
  match e.run with
  | none => s
  | some r =>
    if r.ending.isSome then s.collFinish i
    else if e.st = 3 ∨ r.late then
      ((((s.collStart i).collLeaf i env).accFinish i env).collPut i).collDownOut i
    else s

/-- COLLECTIVE_DONE: every DST page is written and every page owed to a child transmitted (R800). -/
def State.collDone (i : Nat) (s : State) : State :=
  let e := s.coll' i
  match e.run with
  | none => s
  | some r =>
    let queued := s.fab.ports.any fun p => p.2.queue.any fun q => q.b.typ == tCOLL && q.b.arg == ckDOWN && leNat (q.b.payload.take 2) == e.id
    if r.ending.isSome then s.collFinish i
    else if e.st ≠ 3 || r.written.length < r.pagesN || !r.toSend.isEmpty || queued then s
    else s.collEnd i coOK 0

/-! ### What arrives (R779, R782, R786 to R790, R799, R802, R804 to R806) -/

/-- A child's segment is refused: the second time the collective is torn (R802, R813). -/
def State.kidRefused (i page node : Nat) (s : State) : State :=
  let e := s.coll' i
  match e.run.bind fun r => (r.accs.find? fun a => a.page == page).bind fun a => a.kids.find? fun k => k.node == node with
  | none => s
  | some k =>
    let s1 := s.updAcc i page fun a => { a with kids := a.kids.map fun x => if x.node = node then { x with refused := x.refused + 1, blocks := [], mask := none } else x }
    if k.refused = 0 then s1
    else
      let s2 := s1.collTear i node
      if e.chair = s.ownNode then s2.collEnd i coTORN node else s2

/-- A child's whole page is in. -/
def State.kidDone (i page node : Nat) (els : List (Int × Nat)) (mask : Nat) (s : State) : State :=
  s.updAcc i page fun a => { a.add els mask with kids := a.kids.filter fun k => k.node != node }

/-- The child of an accumulator that is still awaited. -/
def CollRun.awaited (r : CollRun) (page node : Nat) : Option CollKid :=
  (r.accs.find? fun a => a.page == page).bind fun a => a.kids.find? fun k => k.node == node

/-- A wire segment of a collective, read with the entry's pattern alone (R799). -/
def State.collSegment (s : State) (e : CollEnt) (l : List Byte) : Except (Nat × Nat) (List WirePage) :=
  readSegment (fun k => if e.patEn && k == e.slot then s.availFile e.tenant k else none) l

/-- The lane work of decoding a segment's pages; none where no lane has room. -/
def State.collDecode (f : Nat) (e : CollEnt) (ps : List WirePage) (s : State) : Option State :=
  ps.foldl (fun (o : Option State) w => o.bind fun s =>
    if w.form = 0 then s.laneServe e.tenant (8 + f) w.base (some w.pat) false else some s) (some s)

/-- UP. -/
def State.collUp (f i : Nat) (b : Bundle) (s : State) : State :=
  let e := s.coll' i
  match e.run with
  | none => s
  | some r =>
    let first := leNat (b.payload.take 8) / 2 ^ 40 % 2 ^ 24
    match s.collSegment e (b.payload.drop 16) with
    | .error x => (s.wireRefused f false x).kidRefused i first b.src
    | .ok ps =>
      match s.collDecode f e ps with
      | none => { s with fab := { s.fab with loop := s.fab.loop ++ [b] } }
      | some s1 =>
        (ps.zipIdx).foldl (fun (s : State) x =>
          match r.awaited (first + x.2) b.src with
          | none => s.collCount 4 1
          | some _ => s.kidDone i (first + x.2) b.src (e.pageEls x.1.bytes x.1.mask) x.1.mask) s1

/-- One sum part for a page. -/
def State.sumPart (i page : Nat) (node f : Nat) (p : PartRead) (s : State) : State :=
  let e := s.coll' i
  match e.run.bind fun r => r.awaited page node with
  | none => s.collCount 4 1
  | some k =>
    let new := (p.els.zipIdx).map fun x =>
      (p.first + x.2, x.1, (List.range 16).map fun j => ((p.specs.find? fun q => q.1 == 16 * (p.first + x.2) + j).map (·.2)).getD 0)
    let clash := new.any fun x => k.blocks.any fun y => y.1 == x.1 && y != x
    if clash || (k.mask.any fun m => m != p.mask) then (s.wireRefused f false (wFIELD, page)).kidRefused i page node
    else if new.all fun x => decide (x ∈ k.blocks) then s.collCount 4 1
    else
      let all := k.blocks ++ new.filter fun x => decide (x ∉ k.blocks)
      if all.length < e.blocks then
        s.updAcc i page fun a => { a with kids := a.kids.map fun x => if x.node = node then { x with blocks := all, mask := some p.mask } else x }
      else
        let l := sortBy (fun (a b : Nat × List Int × List Nat) => a.1 ≤ b.1) all
        s.kidDone i page node ((l.map fun x => List.zip x.2.1 x.2.2).flatten) p.mask

/-- SUM. -/
def State.collSum (f i : Nat) (b : Bundle) (s : State) : State :=
  let e := s.coll' i
  let first := leNat (b.payload.take 8) / 2 ^ 40 % 2 ^ 24
  match readParts e.blocks 2048 first 0 (b.payload.drop 16) with
  | none => (s.wireRefused f false (wFIELD, 0)).kidRefused i first b.src
  | some l => l.foldl (fun (s : State) x => s.sumPart i x.1 b.src f x.2) s

/-- DOWN, from the parent. -/
def State.collDown (f i : Nat) (b : Bundle) (s : State) : State :=
  let e := s.coll' i
  match e.run with
  | none => s
  | some r =>
    let first := leNat (b.payload.take 8) / 2 ^ 40 % 2 ^ 24
    let t := leNat (b.payload.take 8) / 2 ^ 28 % 4096
    if e.st ≠ 3 ∨ r.parent e.fanin t s.ownNode ≠ some b.src then s.collCount 5 1
    else match s.collSegment e (b.payload.drop 16) with
    | .error x => s.wireRefused f false x
    | .ok ps =>
      match s.collDecode f e ps with
      | none => { s with fab := { s.fab with loop := s.fab.loop ++ [b] } }
      | some s1 =>
        (ps.zipIdx).foldl (fun (s : State) x =>
          let p := first + x.2
          match (s.coll' i).run with
          | none => s
          | some q =>
            if decide (p ∈ q.written) || q.toWrite.any fun w => w.1 == p then s.collCount 4 1
            else s.updCrun i fun q => { q with toWrite := q.toWrite ++ [(p, x.1.bytes, x.1.mask, 0)], toSend := q.toSend ++ [(p, x.1.bytes, x.1.mask)] }) s1

/-- PULL, from the parent. -/
def State.collPull (i : Nat) (b : Bundle) (s : State) : State :=
  let e := s.coll' i
  match e.run with
  | none => s
  | some r =>
    let h := leNat (b.payload.take 8)
    let t := h / 2 ^ 28 % 4096
    let first := h / 2 ^ 40 % 2 ^ 24
    let n := leNat ((b.payload.drop 8).take 2)
    let m := r.go.length
    if t ≥ m ∨ r.parent e.fanin t s.ownNode ≠ some b.src then s.collCount 5 1
    else
      let ps := ((List.range n).map (first + ·)).filter fun p => stripeLo r.pagesN m t ≤ p && p < stripeLo r.pagesN m (t + 1)
      s.updCrun i fun r => { r with owed := ps.foldl (fun l p => if r.late && decide (p ∈ r.sent) then l else addOnce p l) r.owed }

/-- JOIN at the chair. -/
def State.collJoin (i : Nat) (b : Bundle) (s : State) : State :=
  let e := s.coll' i
  match e.run with
  | none => s
  | some r =>
    if e.st = 2 ∧ e.chair = s.ownNode ∧ !r.decided ∧ b.payload.drop 16 = s.joinBytes e r then
      s.updCrun i fun r => { r with counted := r.counted ||| 2 ^ b.src }
    else s

/-- ABORT: the chair forwards a member's; a member ends with the chair's. -/
def State.collAbortIn (i : Nat) (b : Bundle) (s : State) : State :=
  let e := s.coll' i
  let outcome := leNat ((b.payload.drop 16).take 1)
  let node := leNat ((b.payload.drop 17).take 2)
  if e.chair = s.ownNode then
    if e.st = 3 ∧ outcome = coTORN then (s.collTear i node).collEnd i coTORN node else s
  else if b.src ≠ e.chair then s
  else if outcome = coNOQUORUM ∧ e.st = 2 then
    let set := leNat ((b.payload.drop 24).take 512)
    ((s.updCrun i fun r => { r with counted := set }).updColl i fun e => { e with m := (nodesOf set).length }).collEnd i coNOQUORUM 0
  else if outcome = coTORN ∧ e.st = 3 then s.collEnd i coTORN node
  else s

/-- A collective bundle addressed to this node. -/
def State.collLocal (f : Nat) (b : Bundle) (env : List (Nat × ReadEnv)) (s : State) : State :=
  let ctl := b.typ == tCOLLCTL
  match s.collOf (leNat (b.payload.take 2)) with
  | none => s.collCount 5 1
  | some i =>
    let e := s.coll' i
    match e.run with
    | none => s.collCount 5 1
    | some r =>
      if !r.members.testBit b.src then s.collCount 5 1
      else if ctl ∧ b.arg = ccGO ∧ r.withdrew ∧ b.src = e.chair then
        -- R806
        if (leNat ((b.payload.drop 24).take 512)).testBit s.ownNode then s.collAbortTo i e.chair coTORN s.ownNode else s
      else if !(e.st == 2 || e.st == 3 || (r.late && (!ctl || b.arg == ccPULL))) || r.ending.isSome then s.collCount 5 1
      else if ctl then
        if b.arg = ccJOIN then s.collJoin i b
        else if b.arg = ccWITHDRAW then
          (if e.chair = s.ownNode ∧ e.st = 2 ∧ !r.decided ∧ r.counted.testBit b.src then s.updCrun i fun r => { r with counted := r.counted - 2 ^ b.src } else s)
        else if b.arg = ccGO then (if b.src = e.chair then s.goIn i (leNat ((b.payload.drop 24).take 512)) else s.collCount 5 1)
        else if b.arg = ccABORT then s.collAbortIn i b
        else if b.arg = ccPULL then (s.collPull i b).collPump i env
        else s.collCount 5 1
      else if b.arg = ckUP then (s.collUp f i b).collPump i env
      else if b.arg = ckSUM then (s.collSum f i b).collPump i env
      else if b.arg = ckDOWN then (s.collDown f i b).collPump i env
      else s.collCount 5 1

/-- PULL_TIMEOUT: PULLs unanswered for PULL_TO frames (its reserved value 0 acts as 1) are repeated once, then tear the
collective (R802). -/
def State.pullTimeout (i : Nat) (s : State) : State :=
  let e := s.coll' i
  let lim := max 1 (s.regF pgCOLL 0x70 15 0)
  match e.run with
  | none => s
  | some r =>
    r.accs.foldl (fun (s : State) a =>
      a.kids.foldl (fun (s : State) k =>
        if framesSince k.since s.frame.num < lim || ((s.coll' i).run.bind fun q => q.awaited a.page k.node).isNone then s
        else
          let mark := fun (s : State) => s.updAcc i a.page fun a => { a with kids := a.kids.map fun x => if x.node = k.node then { x with since := s.frame.num, again := true } else x }
          if !k.again then ((mark s).collCount 3 1).collSend i tCOLLCTL ccPULL k.node a.stripe a.page 1 []
          else
            let s1 := (mark s).collTear i k.node
            if e.chair = s.ownNode then s1.collEnd i coTORN k.node else s1) s) s

/-- COLL_ACC_FAULT: every line of the page becomes poison in the result (R812). -/
def State.collAccFault (i page : Nat) (s : State) : State :=
  let e := s.coll' i
  match e.run.bind fun r => (r.accs.find? fun a => a.page == page).map fun _ => r with
  | none => s
  | some r => (((s.updAcc i page fun a => { a with mask := allMask }).setEvt pgCOLL 4)).logE 0x0E01 2 (some e.tenant) pgCOLL (r.dst + 4096 * page) [e.id]

/-- At each edge: parts that cannot go on end, and the others move on. -/
def State.collEdge (env : List (Nat × ReadEnv)) (s : State) : State :=
  let s1 := s.collSweep
  (s1.coll.ents.map (·.1)).foldl (fun (s : State) i => s.collPump i env) s1

/-! ### Receiving any bundle -/

/-- A bundle delivered here, management bundles excepted. -/
def State.localBundle (f : Nat) (b : Bundle) (env : List (Nat × ReadEnv)) (s : State) : State :=
  if b.typ = tCOLL ∨ b.typ = tCOLLCTL then s.collLocal f b env else s.localCore f b (envAt env (b.dpa / 64))

/-- A bundle received on a port: accepted, then delivered or forwarded. -/
def State.bundleIn (f : Nat) (b : Bundle) (env : List (Nat × ReadEnv)) (s : State) : State :=
  let x := s.linkIn f b
  if !x.1 || !sequenced b.typ then x.2
  else if b.dst = x.2.ownNode then x.2.localBundle f b env
  else x.2.forwardBundle f b

/-- Bundles this node sent to itself, and those it could not finish, are delivered at the edge. -/
def State.loopStep (env : List (Nat × ReadEnv)) (s : State) : State :=
  s.fab.loop.foldl (fun (s : State) b => s.localBundle 0 b env) { s with fab := { s.fab with loop := [] } }

/-! ### Registers (ch. 18) -/

def State.readColl (s : State) (r : Nat) : Option Word32 :=
  let i := s.regF pgCOLL 0x40 5 0
  let e := (s.coll.next.filter fun w => w.1 == i).foldl (fun (e : CollEnt) w => e.put w.2.1 w.2.2) (s.coll' i)
  if r = 0x44 then some e.cfg
  else if r = 0x48 then some e.own
  else if r = 0x4C then some e.pat
  else if r = 0x50 then some e.mapLo
  else if r = 0x54 then some e.mapHi
  else if r = 0x58 then some e.stsLo
  else if r = 0x5C then some e.stsHi
  else if r = 0x60 then some e.reserve
  else if r = 0x64 then some (place e.st 3 0 ||| place e.outcome 4 4 ||| place e.chair 12 16)
  else if r = 0x68 then some (place e.n 13 0 ||| place e.m 13 16)
  else if r = 0x6C then some (place e.pages 21 0)
  else if r = 0x78 then some (BitVec.ofNat 32 (s.ctr (ofsOf pgCOLL 0x78) (s.regF pgCOLL 0x74 2 0)))
  else none

end Sys2Proof.Machine
end

