-- ==== Sys2Proof/Machine/Escrow.lean ====
section
/-!
DEFINITION. The escrows of the drain order (ch. 19): their use and peaks, and an uncorrectable error in an escrow unit.
-/

namespace Sys2Proof.Machine

open Sys2Proof

/-- An admitted host request of a port: it holds a slot of the port's response sink (R818). -/
def TransFor.slotOf (p : Nat) : TransFor → Bool
  | .req r => r.m.port == p && r.place != 0
  | _ => false

/-- Slots of a port's response sink in use: admitted requests and responses not yet sent. -/
def State.respSlots (s : State) (p : Nat) : Nat :=
  s.dir.trans.foldl (fun n e => match e.2 with
    | some t => n + (if t.what.slotOf p && t.phase != .done then 1 else 0) + (t.wait.filter fun w => w.slotOf p).length
    | none => n) (s.hport p).respQ.length

/-- A held write that a port's write-back sink holds. -/
def LineWrite.sinkOf (p : Nat) (w : LineWrite) : Bool :=
  match w.who with
  | .host r => r.m.port == p && r.place == 4
  | _ => false

/-- Lines of a port's write-back sink in use: write-backs not yet applied, and lines reserved for snoops to M holders
(R818, R820). -/
def State.wbLines (s : State) (p : Nat) : Nat :=
  let held := s.tier.pages.foldl (fun n e => n + (e.2.held.filter fun w => w.sinkOf p).length) 0
  s.dir.trans.foldl (fun n e => match e.2 with
    | some t => n + (t.snoops.filter fun x => x.hadM && x.sent.isSome && !x.wb && (s.ident x.hid).port == p).length
    | none => n) held

/-- A page whose lane output waits in the migration staging for its commit. -/
def PageRec.staged (r : PageRec) : Bool :=
  r.spill || (match r.done with
    | some (.foldOut _) => true
    | some (.decoded _ _) => true
    | _ => false)

/-- SYS.ESC_USE: units in use of escrow `sel`, of host port `p` for the first two (R816). -/
def State.escUse (s : State) (sel p : Nat) : Nat :=
  if sel = 0 then s.respSlots p
  else if sel = 1 then s.wbLines p
  else if sel = 2 then s.remUsed
  else if sel = 3 then 16 * s.shelf.reads.length
  else if sel = 4 then 16 * (s.shelf.luns.filter fun e => !e.2.buf.isEmpty).length
  else if sel = 5 then s.lunKeys.foldl (fun n k => n + (s.lunReserve k - (s.freeBlks k).length)) 0
  else if sel = 6 then 4 * (s.tier.pages.filter fun e => e.2.staged).length
  else if sel = 7 then 4 * s.lanes.lanes.foldl (fun m e => max m (s.partUsed e.2 129)) 0
  else if sel = 8 then s.migUsed
  else 0

/-- Key of a peak: only the first two escrows have one per port. -/
def escKey (sel p : Nat) : Nat := 8 * sel + (if sel < 2 then p else 0)

/-- Raise one peak to the units in use. -/
def State.notePeakOf (sel p : Nat) (s : State) : State :=
  let u := s.escUse sel p
  { s with sys := { s.sys with escPeak := mapUpd (fun _ => 0) (escKey sel p) (fun m => max m u) s.sys.escPeak } }

/-- Raise every peak (ESC_PEAK). -/
def State.notePeaks (s : State) : State :=
  forEach (List.range 9) (fun sel s =>
    if sel < 2 then forEach (List.range 8) (fun p s => s.notePeakOf sel p) s else s.notePeakOf sel 0) s

/-- A response whose slot erred: a read's data becomes poison (R833, R216). -/
def poisonResp : Output → Output
  | .drs port tag _ _ grant devload => .drs port tag zeroLine true grant devload
  | o => o

/-- The write-backs of a port's sink that wait to be applied: page, position in its held list. -/
def State.sinkWrites (s : State) (p : Nat) : List (Nat × LineWrite) :=
  s.tier.pages.foldl (fun l e => l ++ ((e.2.held.filter fun w => w.sinkOf p).map fun w => (e.1, w))) []

/-- A shelf page whose staging erred: its decode finds the data uncorrectable (R405). -/
def State.stagingUe (page : Nat) (s : State) : State :=
  match s.shelf.reads.find? fun r => r.page == page with
  | some w => ({ s with shelf := { s.shelf with reads := s.shelf.reads.erase w } }).fetchedTo page w.owner w.cls true
  | none =>
    let hit := fun (w : LaneWork) => if w.page = page ∧ w.kind = .fetched then { w with ue := true } else w
    { s with lanes := { s.lanes with
      waiting := s.lanes.waiting.map hit
      lanes := mapAll (fun _ => {}) (fun _ (l : Lane) => { l with queue := l.queue.map hit, busy := l.busy.map fun b => (b.1, hit b.2) }) s.lanes.lanes } }

/-- ESCROW_UE (R833): escrow `sel` of port `p`; `ix` is the position of the response or of the write-back in its sink, or the
page whose shelf data is staged. -/
def State.escrowUe (sel p ix : Nat) (s : State) : State :=
  if sel = 0 then
    match (s.hport p).respQ[ix]? with
    | some o =>
      let s1 := match o with | .drs .. => s.bump (ofsOf (pgHPORT p) 0x6C) 5 1 | _ => s
      s1.updPort p fun h => { h with respQ := listSet ix (poisonResp o) h.respQ }
    | none => s
  else if sel = 1 then
    match (s.sinkWrites p)[ix]? with
    | some (page, w) =>
      (s.updPage page fun r => { r with held := r.held.map fun x => if x = w then { x with poison := true } else x }).logE 0x0F01 3
        (match w.who with | .host r => some r.tenant | _ => none) (pgHPORT p) (64 * w.line) [1]
    | none => s
  else if sel = 3 then s.stagingUe ix
  else s

end Sys2Proof.Machine
end

