-- ==== Sys2Proof/Machine/RegRead.lean ====
section
/-!
DEFINITION. Reading the register space (ch. 22): the common header, the roll-up, the SYS page, the counts that a read clears,
the latched pairs and the captured windows.
-/

namespace Sys2Proof.Machine

open Sys2Proof

/-! ### The common header (R889 to R896) -/

/-- Event bits that the page's own tables list (R890). -/
def eventMask (p : Nat) : Word32 :=
  if p = 0 then 0x3F#32 else if p = 1 ∨ p = 2 then 0x1FF#32 else if p = 3 then 0x3F#32 else if p = 4 ∨ p = 6 then 0x1F#32
  else if p = 5 then 0xF#32 else if p = 7 then 0x01FF003F#32 else if p = 8 then 0x3F#32
  else if 16 ≤ p ∧ p < 24 then 0x1FFFF#32
  else if p = 24 then 0xF7F#32 else if 25 ≤ p ∧ p < 32 then 0x7F#32
  else if p = 160 then 0xFF#32
  else if p = 256 then 0x3FF#32 else if 257 ≤ p ∧ p < 272 then 0xFF#32
  else if p = 272 then 0xFFF#32 else if 273 ≤ p ∧ p < 304 then 0x1FF#32
  else if p = 512 then 0x0F3F7FFF#32 else if 513 ≤ p ∧ p < 800 then 0x3F03FF#32
  else 0#32

/-- The unit whose service state a page carries (PAGE_CAP.SVC). -/
def pageUnit (p : Nat) : Option (UnitKind × Nat) :=
  if 16 ≤ p ∧ p < 24 then some (.hport, p - 16)
  else if 24 ≤ p ∧ p < 32 then some (.fport, p - 24)
  else if 256 ≤ p ∧ p < 272 then some (.dram, p - 256)
  else if 272 ≤ p ∧ p < 304 then some (.shelf, p - 272)
  else if 512 ≤ p ∧ p < 800 then some (.press, p - 512)
  else none

/-- The page of a tenant (TEN0 to TEN127). -/
def pageTenant (p : Nat) : Option Nat := if 32 ≤ p ∧ p < 160 then some (p - 32) else none

/-- PAGE_CAP of *Table — Page map*. -/
def pageCap (p : Nat) : Word32 :=
  placeB (pageUnit p).isSome 0 ||| placeB (pageTenant p).isSome 1
    ||| placeB (decide (p < 9 ∨ p = 24 ∨ p = 160 ∨ p = 256 ∨ p = 272 ∨ 512 ≤ p)) 2 ||| placeB (pageTenant p).isSome 3

/-- A command of the page is in progress (PAGE_STAT.BUSY). -/
def State.pageBusy (s : State) (p : Nat) : Bool :=
  if p = pgTEN128 then s.tables.hidBusy || s.tables.rgnBusy
  else if p = pgKEY then (s.ten (s.regF pgKEY 0x40 6 0)).keyBusy
  else if p = pgPAT then s.patBusy
  else if p = 256 then s.dram.retCmd.isSome
  else if p = 272 then s.shelf.sretCmd.isSome
  else if p = 24 then !s.fab.cmds.isEmpty
  else false

/-- A header register (offset below 0x40) of a populated page. -/
def State.readHeader (s : State) (p r : Nat) : Word32 :=
  let h := s.hdr p
  if r = 0x00 then (match pageFamily p with
    | some (c, i) => place c 8 0 ||| place i 9 16
    | none => 0#32)
  else if r = 0x04 then 0x100#32
  else if r = 0x08 then pageCap p
  else if r = 0x0C then placeB ((pageTenant p).any fun t => (s.ten t).sealed) 8
  else if r = 0x10 then (match pageUnit p with
    | some (k, i) => place (s.unit k i).st.code 3 0
    | none => 0#32) ||| placeB (s.pageBusy p) 4
  else if r = 0x14 then h.stat
  else if r = 0x18 then h.ena
  else if r = 0x20 then (match h.first with
    | some b => place b 5 0 ||| placeB true 31
    | none => 0#32)
  else if r = 0x24 then word32 h.stamp 0
  else if r = 0x28 then place (h.stamp / 2 ^ 32) 16 0
  else if r = 0x2C then word32 h.seq 0
  else if r = 0x30 then (match pageTenant p with
    | some t => place t 7 0 ||| placeB true 7
    | none => 0#32)
  else 0#32

/-! ### The roll-up (R906, R907) -/

/-- The page is pending (R906). -/
def State.pagePending (s : State) (p : Nat) : Bool :=
  ((s.hdr p).stat &&& (s.hdr p).ena) != 0#32 || (p == pgSYS && (s.svcEvt &&& s.reg (ofsOf pgSYS 0x378)) != 0#32)

/-- First page and instances of the family with a code. -/
def familyPages (c : Nat) : Nat × Nat :=
  match families.find? fun f => f.1 == c with
  | some f => (f.2.2 / 4096, f.2.1)
  | none => (0, 0)

/-- Some page of the family is pending. -/
def State.familyPending (s : State) (c : Nat) : Bool :=
  let f := familyPages c
  (s.hdrs.any fun e => f.1 ≤ e.1 && e.1 < f.1 + f.2 && s.pagePending e.1) || (c == 1 && s.pagePending pgSYS)

/-- SUM_FAM. -/
def State.sumFam (s : State) : Word32 :=
  families.foldl (fun (w : Word32) f => w ||| placeB (s.familyPending f.1) f.1) 0#32

/-- SUM_DATA for a family and word. -/
def State.sumData (s : State) (c w : Nat) : Word32 :=
  let f := familyPages c
  (List.range 32).foldl (fun (a : Word32) j =>
    a ||| placeB (decide (32 * w + j < f.2) && s.pagePending (f.1 + 32 * w + j)) j) 0#32

/-- SUM_FIRST. -/
def State.sumFirst (s : State) : Word32 :=
  if s.pagePending pgSYS then placeB true 15
  else match s.hdrs.find? fun e => s.pagePending e.1 with
    | some e => place e.1 14 0 ||| placeB true 15
    | none => 0#32

/-! ### The SYS page -/

/-- The record of a reel in the dailies ring. -/
def State.dailyOf (s : State) (reel : Nat) : Option (List Byte) := (s.daily.ring.find? fun e => e.1 == reel).map (·.2)

/-- The reel that a value of DAILY_SEL names: the one among the 2^32 newest, the reel in progress included, with this number
modulo 2^32 (R911). -/
def State.dailyReel (s : State) (v : Nat) : Option Nat :=
  let c := reelOf s.frame.num
  let d := (2 ^ 32 + c - v % 2 ^ 32) % 2 ^ 32
  if d ≤ c then some (c - d) else none

/-- DAILY_STAT for a selection: 0 OK, 1 STALE, 2 NOT_YET, 3 DAMAGED (R911). -/
def State.dailyStat (s : State) (v : Nat) : Nat :=
  match s.dailyReel v with
  | none => 2
  | some r => if r = reelOf s.frame.num then 2 else match s.dailyOf r with
    | some _ => if decide (r ∈ s.daily.bad) then 3 else 0
    | none => 1

/-- Word k of the selected record. -/
def State.dailyWord (s : State) (k : Nat) : Word32 :=
  match (s.dailyReel s.daily.sel).bind s.dailyOf with
  | some b => BitVec.ofNat 32 (leNat ((b.drop (4 * k)).take 4))
  | none => 0#32

/-- A vector-map entry as last written (R915). -/
def State.vmapShown (s : State) (p : Nat) : Nat × Bool := (s.hdr p).vmapNext.getD (s.vmapOf p)

/-- Registers of the SYS page other than those of the cue engines and of service. -/
def State.readSys (s : State) (r : Nat) : Option Word32 :=
  if r = 0x40 then some (0xB12A#32 ||| place Config.step 8 16)
  else if r = 0x44 then some (word32 Config.uid 0)
  else if r = 0x48 then some (word32 Config.uid 1)
  else if r = 0x4C then some (word32 s.fwVersion 0)
  else if r = 0x50 then some (placeB s.sys.cfgReady 0 ||| placeB s.sys.memActive 1 ||| placeB s.log.fatal 2 ||| placeB s.tables.debug 3
    ||| placeB s.sys.fwSigned 4 ||| place s.power.st 3 8)
  else if r = 0x60 then some s.sumFam
  else if r = 0x68 then some (s.sumData (s.regF pgSYS 0x64 7 0) (s.regF pgSYS 0x64 19 16))
  else if r = 0x6C then some s.sumFirst
  else if r = 0x74 then
    let p := s.regF pgSYS 0x70 13 0
    some (match pageFamily p with
      | some _ => let e := s.vmapShown p; place e.1 11 0 ||| placeB e.2 15
      | none => 0#32)
  else if r = 0x80 then some (place s.mgmt.lastOfs 26 0 ||| place s.mgmt.lastSrc 3 28)
  else if r = 0x90 then some (word32 s.daily.sel 0)
  else if r = 0x94 then some (place s.daily.stat 2 0)
  else if r = 0x98 then some (match s.daily.ring.getLast? with
    | some e => word32 e.1 0
    | none => 0#32)
  else if 0xA0 ≤ r ∧ r ≤ 0xDC then some (s.dailyWord ((r - 0xA0) / 4))
  else if r = 0x344 then some (place (s.escUse (s.regF pgSYS 0x340 3 0) (s.regF pgSYS 0x340 10 8)) 24 0)
  else if r = 0x348 then some (place (mapGet (fun _ => 0) s.sys.escPeak (escKey (s.regF pgSYS 0x340 3 0) (s.regF pgSYS 0x340 10 8))) 24 0)
  else if r = 0x350 then some s.sys.full
  else none

/-! ### Counts that a read clears (R903) -/

/-- The count that a count register shows: its selector's value; none where the register is no such count. -/
def State.rcSel (s : State) (p r : Nat) : Option Nat :=
  if p = pgFRAME then (if r = 0x74 then some s.ovrSel else none)
  else if p = pgTIER then (if r = 0xA4 then some (s.regF p 0xA0 3 0) else none)
  else if p = pgDIR then (if r = 0x78 then some (s.regF p 0x74 3 0) else none)
  else if p = pgRGL then (if r = 0x78 then some (s.regF p 0x68 7 0) else none)
  else if p = pgCLOG then (if r = 0x78 ∨ r = 0x7C then some 0 else none)
  else if p = pgPAT then
    (if r = 0x114 then some (16 * s.regF p 0x100 5 0 + s.regF p 0x110 3 0) else if r = 0x208 then some (s.regF p 0x204 2 0) else none)
  else if p = pgCOLL then (if r = 0x78 then some (s.regF p 0x74 2 0) else none)
  else if p = pgSYS then
    (if r = 0x7C then some (s.regF p 0x78 1 0) else if r = 0x314 then some (8 * s.regF p 0x300 4 0 + s.regF p 0x310 2 0) else none)
  else if p = pgTEN128 then (if r = 0x78 ∨ r = 0x7C then some 0 else none)
  else if 16 ≤ p ∧ p < 24 then (if r = 0x54 then some 0 else if r = 0x6C then some (s.regF p 0x68 2 0) else none)
  else if 24 ≤ p ∧ p < 32 then (if r = 0x50 then some (s.regF p 0x4C 2 0) else if p = 24 ∧ r = 0x12C then some (s.regF p 0x128 2 0) else none)
  else if 256 ≤ p ∧ p < 272 then (if r = 0x50 then some (s.regF p 0x4C 2 0) else if p = 256 ∧ r = 0x124 then some (s.regF p 0x120 2 0) else none)
  else if 272 ≤ p ∧ p < 304 then (if r = 0x54 then some (s.regF p 0x50 2 0) else none)
  else if 512 ≤ p ∧ p < 800 then
    (if r = 0x64 then some (s.regF p 0x60 3 0) else if r = 0x94 then some (s.regF p 0x90 2 0) else if r = 0xB8 then some (s.regF p 0xB4 2 0)
      else if p = 512 ∧ r = 0x120 then some 0 else none)
  else none

/-- A register with a field that its read clears. -/
def State.isRc (s : State) (ofs : Nat) : Bool :=
  let p := ofs / 4096; let r := ofs % 4096
  (s.rcSel p r).isSome || (p == pgDIR && r == 0x70) || (16 ≤ p && p < 24 && r == 0x64) || (p == pgSYS && r == 0x348)

/-- The side effect of reading an RC field: a count goes to 0, a peak starts again from what is in use now. -/
def State.rcClear (ofs : Nat) (s : State) : State :=
  let p := ofs / 4096; let r := ofs % 4096
  match s.rcSel p r with
  | some sel => s.clearCtr ofs sel
  | none =>
    if p = pgDIR ∧ r = 0x70 then { s with dir := { s.dir with peak := s.tracked } }
    else if 16 ≤ p ∧ p < 24 ∧ r = 0x64 then s.updPort (p - 16) fun h => { h with tagPeak := h.tagsUsed }
    else if p = pgSYS ∧ r = 0x348 then
      let sel := s.regF pgSYS 0x340 3 0; let port := s.regF pgSYS 0x340 10 8
      { s with sys := { s.sys with escPeak := mapPut (fun _ => 0) (escKey sel port) (s.escUse sel port) s.sys.escPeak } }
    else s

/-! ### The value of a register -/

/-- A block register (offset from 0x40 on) of a populated page as it stands. -/
def State.readBlock (s : State) (p r : Nat) : Option Word32 :=
  if p = pgSYS then ((s.readSys r).orElse fun _ => s.readCues r).orElse fun _ => s.readService r
  else if p = pgFRAME then s.readFrame r
  else if p = pgTIER then s.readTier r
  else if p = pgDIR then s.readDir r
  else if p = pgRGL then s.readRgl r
  else if p = pgCLOG then s.readClog r
  else if p = pgKEY then s.readKey r
  else if p = pgPAT then (s.readStore (s.pageRefs s.patIdx) r).orElse fun _ => s.readLanes r
  else if p = pgCOLL then s.readColl r
  else if 16 ≤ p ∧ p < 24 then (if r = 0x90 then some (place (s.unit .hport (p - 16)).st.code 3 4) else s.readHport (p - 16) r)
  else if 24 ≤ p ∧ p < 32 then s.readFport (p - 24) r
  else if p = pgTEN128 then s.readTen128 r
  else if 32 ≤ p ∧ p < 160 then
    (if r = 0x140 then some (s.ten (p - 32)).foldPat else ((s.readTen (p - 32) r).orElse fun _ => s.readCapacity (p - 32) r).orElse fun _ => s.readTenRgl (p - 32) r)
  else if 256 ≤ p ∧ p < 272 then s.readMedia (p - 256) r
  else if 272 ≤ p ∧ p < 304 then s.readShelf (p - 272) r
  else if 512 ≤ p ∧ p < 800 then
    ((s.readPress (p - 512) r).orElse fun _ => s.readCells (p - 512) r).orElse fun _ => if p = 512 then s.readPower r else none
  else none

/-- The value a register shows now, side effects aside. Unlisted offsets of a populated page read 0 (R12, R900). -/
def State.regValue (s : State) (ofs : Nat) : Word32 :=
  let p := ofs / 4096; let r := ofs % 4096
  if (pageFamily p).isNone then 0#32
  else if r < 0x40 then s.readHeader p r
  else match s.rcSel p r with
    | some sel => BitVec.ofNat 32 (if 16 ≤ p ∧ p < 24 ∧ r = 0x54 then min 65535 (s.ctr ofs sel) else s.ctr ofs sel)
    | none => (s.readBlock p r).getD (s.reg ofs)

/-! ### Latched pairs and captured windows (R901, R904) -/

/-- Low words that latch the word after them. -/
def latchesHigh (ofs : Nat) : Bool :=
  let p := ofs / 4096; let r := ofs % 4096
  (pageFamily p).isSome && (r == 0x24 || (p == pgFRAME && r == 0x40) || (p == pgTIER && r == 0x6C) || (p == pgPAT && r == 0x5C)
    || (256 ≤ p && p < 272 && r == 0x5C) || (p == pgCOLL && r == 0x50) || (p == pgSYS && r == 0x44))

/-- The multi-word windows: lowest offset, words, selector. -/
def windows : List (Nat × Nat × Nat) :=
  [(ofsOf pgTIER 0x78, 8, ofsOf pgTIER 0x74), (ofsOf pgDIR 0x60, 4, ofsOf pgDIR 0x5C), (ofsOf pgCLOG 0x54, 8, ofsOf pgCLOG 0x4C),
   (ofsOf pgSYS 0xA0, 16, ofsOf pgSYS 0x90)]

/-- The window whose lowest word is at an offset. -/
def windowAt (ofs : Nat) : Option (Nat × Nat × Nat) := windows.find? fun w => w.1 == ofs

/-- Key of a source's latched word. -/
def latchKey (src ofs : Nat) : Nat := src * 2 ^ 27 + ofs

def noLatch : Nat → Option Word32 := fun _ => none

def State.latched (s : State) (src ofs : Nat) : Option Word32 := mapGet noLatch s.mgmt.latch (latchKey src ofs)

def State.setLatch (src ofs : Nat) (v : Option Word32) (s : State) : State :=
  { s with mgmt := { s.mgmt with latch := mapPut noLatch (latchKey src ofs) v s.mgmt.latch } }

/-- Latch, for a source, `n` words from an offset on. -/
def State.latchWords (src ofs n : Nat) (s : State) : State := forEach (List.range n) (fun k (a : State) => a.setLatch src (ofs + 4 * k) (some (s.regValue (ofs + 4 * k)))) s

/-- What a read of a register by a source does beside returning its value. -/
def State.readEffect (src ofs : Nat) (s : State) : State :=
  let s1 := if latchesHigh ofs then s.latchWords src (ofs + 4) 1 else s
  let s2 := match windowAt ofs with
    | some (o, n, _) => s1.latchWords src (o + 4) (n - 1)
    | none => s1
  s2.rcClear ofs

/-- A read of a register of a populated page by a source: the value it returns, and the state after it. A high word and the
further words of a window return the source's latch where it has one. -/
def State.regRead (src ofs : Nat) (s : State) : Word32 × State :=
  ((s.latched src ofs).getD (s.regValue ofs), s.readEffect src ofs)

/-- A write of a window's selector ends every source's capture of the window (R904). -/
def State.dropCaptures (ofs : Nat) (s : State) : State :=
  match windows.find? fun w => w.2.2 == ofs with
  | none => s
  | some (o, n, _) => { s with mgmt := { s.mgmt with latch := s.mgmt.latch.filter fun e => !(o ≤ e.1 % 2 ^ 27 && e.1 % 2 ^ 27 < o + 4 * n) } }

end Sys2Proof.Machine
end

