-- ==== Sys2Proof/Machine/RegWrite.lean ====
section
/-!
DEFINITION. Writing the register space (ch. 22): the common header, the plain fields, and the registers whose write has an
effect of its own.
-/

namespace Sys2Proof.Machine

open Sys2Proof

/-! ### The common header -/

/-- A W1C write of EVT_STAT: bits set in the frame in progress stay (R914); EVT_FIRST ends when the word is zero (R893). -/
def PageHdr.clear (h : PageHdr) (v : Word32) : PageHdr :=
  let st := h.stat &&& ~~~(v &&& ~~~h.now)
  { h with stat := st, first := if st = 0#32 then none else h.first }

def State.evtClear (p : Nat) (v : Word32) (s : State) : State := s.updHdr p fun h => h.clear v

/-- A write of EVT_ENA: enabling a bit that is set is a cause (R908). -/
def State.evtEnable (p : Nat) (v : Word32) (s : State) : State :=
  let h := s.hdr p
  let new := v &&& eventMask p
  let s1 := s.updHdr p fun h => { h with ena := new }
  if (h.stat &&& new &&& ~~~h.ena) ≠ 0#32 then s1.pageCause p else s1

/-- A write of EVT_FORCE (R892): each bit written as 1 is set as by an event, with none of the event's effects. -/
def State.evtForce (p : Nat) (v : Word32) (s : State) : State :=
  forEach (List.range 32) (fun b s => if bitOf (v &&& eventMask p) b then s.setEvt p b else s) s

/-- A write of a header register. -/
def State.writeHeader (p r : Nat) (v : Word32) (s : State) : State :=
  if r = 0x0C then (match pageUnit p with
    | some (k, i) => s.svcReq k i (field v 1 0)
    | none => s)
  else if r = 0x14 then s.evtClear p v
  else if r = 0x18 then s.evtEnable p v
  else if r = 0x1C then s.evtForce p v
  else s

/-! ### Plain fields -/

/-- A write of the plain fields of a register: reserved values keep the field (R13); RWL fields of a sealed tenant's page keep
theirs, and the write is reported (R902). -/
def State.writePlain (ofs : Nat) (v : Word32) (s : State) : State :=
  let fs := fieldsAt ofs
  if fs.isEmpty then s
  else
    let locked := (pageTenant (ofs / 4096)).any fun t => (s.ten t).sealed
    let s1 := s.setReg ofs (regMerge fs locked (s.reg ofs) v)
    if locked && fs.any (·.rwl) then s1.lockWrite else s1

/-! ### SYS -/

/-- VMAP_DATA_WRITE: in force at the next edge (R915); an entry of an unpopulated page does not exist (R908). -/
def State.vmapWrite (v : Word32) (s : State) : State :=
  let p := s.regF pgSYS 0x70 13 0
  if (pageFamily p).isSome then s.updHdr p fun h => { h with vmapNext := some (field v 10 0, bitOf v 15) } else s

/-- DAILY_SEL_WRITE (R911). -/
def State.dailySel (v : Nat) (s : State) : State :=
  { s with daily := { s.daily with sel := v % 2 ^ 32, stat := s.dailyStat v } }

/-- SVC_ENA: enabling a bit of SVC_EVT that is set is a cause of the SYS page (R906, R908). -/
def State.svcEnable (v : Word32) (s : State) : State :=
  let old := s.reg (ofsOf pgSYS 0x378)
  let s1 := s.setReg (ofsOf pgSYS 0x378) (v &&& 0x7F#32)
  if (s.svcEvt &&& v &&& 0x7F#32 &&& ~~~old) ≠ 0#32 then s1.pageCause pgSYS else s1

def State.writeSys (r : Nat) (v : Word32) (s : State) : State :=
  if r = 0x74 then s.vmapWrite v
  else if r = 0x90 then s.dailySel v.toNat
  else if r = 0x308 then s.svcReq .engine (s.regF pgSYS 0x300 4 0) (field v 1 0)
  else if r = 0x30C then s.cueTagWrite (field v 9 0)
  else if r = 0x350 then { s with sys := { s.sys with full := s.sys.full &&& ~~~v } }
  else if r = 0x374 then { s with svcEvt := s.svcEvt &&& ~~~v }
  else if r = 0x378 then s.svcEnable v
  else s.writePlain (ofsOf pgSYS r) v

/-! ### FRAME -/

/-- SLATE_DATA_WRITE (R35): stored in the shadow bank, or discarded with WR_DROP while a swap is pending; the active bank is read
only. -/
def State.slateData (v : Word32) (s : State) : State :=
  if bitOf (s.reg (ofsOf pgFRAME 0x68)) 16 then s
  else if s.slate.pend then { s with slate := { s.slate with wrDrop := true } }
  else s.slateStore (s.regF pgFRAME 0x68 6 0) (s.regF pgFRAME 0x68 11 8) (s.regF pgFRAME 0x68 13 12) v

/-- SLATE_CTL: SWAP requests a swap and clears SWAP_ERR (R33); WR_DROP is W1C. -/
def State.slateCtl (v : Word32) (s : State) : State :=
  let s1 := if bitOf v 4 then { s with slate := { s.slate with wrDrop := false } } else s
  if bitOf v 1 then { s1 with slate := { s1.slate with pend := true, err := false } } else s1

/-- SYNC_CTL: the plain fields, and RESEAT (R59). -/
def State.syncCtl (v : Word32) (s : State) : State :=
  let s1 := s.writePlain (ofsOf pgFRAME 0x48) v
  if bitOf v 9 then { s1 with frame := { s1.frame with reseat := true } } else s1

def State.writeFramePage (r : Nat) (v : Word32) (s : State) : State :=
  if r = 0x48 then s.syncCtl v
  else if r = 0x64 then s.slateCtl v
  else if r = 0x6C then s.slateData v
  else s.writePlain (ofsOf pgFRAME r) v

/-! ### Ports, tenants, media and presses -/

/-- HOLD: RELEASE and FORCE. -/
def State.holdWrite (p : Nat) (v : Word32) (s : State) : State :=
  let s1 := if bitOf v 8 then s.holdRelease p else s
  if bitOf v 9 then s1.holdCause p 6 0 else s1

def State.writeHport (p r : Nat) (v : Word32) (s : State) : State :=
  let ofs := ofsOf (pgHPORT p) r
  if r = 0x40 then (if bitOf v 12 then (s.writePlain ofs v).retrainPort p else s.writePlain ofs v)
  else if r = 0x4C then s.idCfgWrite p v
  else if r = 0x50 then s.holdWrite p v
  else if r = 0x90 then s.svcReq .hport p (field v 1 0)
  else s.writePlain ofs v

/-- SEC_CTL.REKEY (R734). -/
def State.rekeyWrite (f : Nat) (s : State) : State := s.updFport f fun x => { x with rekey := true }

def State.writeFport (f r : Nat) (v : Word32) (s : State) : State :=
  let ofs := ofsOf (pgFPORT f) r
  if r = 0x48 then (let s1 := s.writePlain ofs v; if bitOf v 1 then (s1.rekeyWrite f).linkRekey f else s1)
  else if r = 0x60 then s.svcReq .fport f (field v 1 0)
  else if f ≠ 0 then s.writePlain ofs v
  else if r = 0x100 then s.nodeWrite v
  else if r = 0x108 then { s with fab := { s.fab with routeNext := s.fab.routeNext ++ [(s.regF (pgFPORT 0) 0x104 11 0, v &&& 0x7FFFF#32)] } }
  else if r = 0x118 then { s with fab := { s.fab with staged := (v &&& 0x7F7FFFF1#32) ||| (s.fab.staged &&& 0x80000000#32) } }
  else if r = 0x11C then s.peerCmd (field v 2 0)
  else s.writePlain ofs v

def State.writeTen (t r : Nat) (v : Word32) (s : State) : State :=
  if r = 0x40 then s.sealWrite t v
  else if r = 0x100 ∨ r = 0x104 then s.floorWrite t r v.toNat
  else if r = 0x120 ∨ r = 0x124 ∨ r = 0x12C then s.bucketWrite t r v
  else if r = 0x130 then (if bitOf v 0 then s.updTen t fun x => { x with missed := false } else s)
  else if r = 0x140 then s.foldPatWrite t v
  else s.writePlain (ofsOf (pgTEN t) r) v

/-- HID_CMD. -/
def State.hidCmd (op : Nat) (s : State) : State :=
  if op = 1 then s.hidRead else if op = 2 then s.hidCommand false else if op = 3 then s.hidCommand true else s

/-- RGN_CMD. -/
def State.rgnCmd (op : Nat) (s : State) : State :=
  if op = 1 then s.rgnRead else if op = 2 ∨ op = 3 ∨ op = 4 then s.rgnCommand op else s

def State.writeTen128 (r : Nat) (v : Word32) (s : State) : State :=
  if r = 0x4C then s.hidCmd (field v 1 0)
  else if r = 0x74 then s.rgnCmd (field v 2 0)
  else s.writePlain (ofsOf pgTEN128 r) v

def State.writeMedia (m r : Nat) (v : Word32) (s : State) : State :=
  let ofs := ofsOf (pgMEDIA m) r
  if m < 16 then
    if r = 0x48 then s.svcReq .dram m (field v 1 0)
    else if m = 0 ∧ r = 0x118 then s.retOp (field v 1 0)
    else if m = 0 ∧ r = 0x128 then (if bitOf v 0 then s.fcFlush else s)
    else s.writePlain ofs v
  else if r = 0x4C then s.svcReq .shelf (m - 16) (field v 1 0)
  else if m = 16 ∧ r = 0x120 then (if field v 1 0 = 1 then s.sretRetire else if field v 1 0 = 2 then s.sretRead else s)
  else s.writePlain ofs v

/-- PWR_REQ: AUTO_WAKE, then the request (R938 to R943). -/
def State.pwrWrite (v : Word32) (s : State) : State := (s.writePlain (ofsOf (pgPRESS 0) 0x100) v).pwrRequest (field v 1 0)

def State.writePress (n r : Nat) (v : Word32) (s : State) : State :=
  let ofs := ofsOf (pgPRESS n) r
  if r = 0x44 then s.deckOwnWrite n v
  else if r = 0x50 ∨ r = 0x54 ∨ r = 0x58 then s.partWrite n ((r - 0x50) / 4) v
  else if r = 0x6C then s.svcReq .press n (field v 1 0)
  else if n = 0 ∧ r = 0xDC then (if bitOf v 0 then s.storeNow else s)
  else if n = 0 ∧ r = 0x100 then s.pwrWrite v
  else s.writePlain ofs v

/-! ### Any register -/

/-- A write of a block register of a page. -/
def State.writeBlock (p r : Nat) (v : Word32) (s : State) : State :=
  if p = pgSYS then s.writeSys r v
  else if p = pgFRAME then s.writeFramePage r v
  else if p = pgDIR then (if r = 0x58 then (if bitOf v 0 then s.lostClear else s) else s.writePlain (ofsOf p r) v)
  else if p = pgRGL then (if 0x44 ≤ r ∧ r ≤ 0x50 then s.classWrite r v else s.writePlain (ofsOf p r) v)
  else if p = pgCLOG then (if r = 0x4C then s.rdSeqWrite v.toNat else s.writePlain (ofsOf p r) v)
  else if p = pgKEY then (if r = 0x44 then (if bitOf v 0 then s.rotateWrite else s) else s.writePlain (ofsOf p r) v)
  else if p = pgPAT then
    (if r = 0x48 then s.patCommand (field v 2 0)
     else if r = 0x4C then s.loadData v
     else if r = 0x118 then s.svcReq .lane (s.regF pgPAT 0x100 5 0) (field v 1 0)
     else if r = 0x128 then s.commonDefWrite v
     else s.writePlain (ofsOf p r) v)
  else if p = pgCOLL then (if 0x44 ≤ r ∧ r ≤ 0x60 then s.collWrite r v else s.writePlain (ofsOf p r) v)
  else if 16 ≤ p ∧ p < 24 then s.writeHport (p - 16) r v
  else if 24 ≤ p ∧ p < 32 then s.writeFport (p - 24) r v
  else if p = pgTEN128 then s.writeTen128 r v
  else if 32 ≤ p ∧ p < 160 then s.writeTen (p - 32) r v
  else if 256 ≤ p ∧ p < 304 then s.writeMedia (p - 256) r v
  else if 512 ≤ p ∧ p < 800 then s.writePress (p - 512) r v
  else s.writePlain (ofsOf p r) v

/-- A write of a register of a populated page. -/
def State.regWrite (ofs : Nat) (v : Word32) (s : State) : State :=
  let p := ofs / 4096; let r := ofs % 4096
  let s1 := s.dropCaptures ofs
  if r < 0x40 then s1.writeHeader p r v else s1.writeBlock p r v

end Sys2Proof.Machine
end

