-- ==== Sys2Proof/Machine/Mgmt.lean ====
section
/-!
DEFINITION. The management path (R255 to R264, R755, R897 to R900): its sources, queues and rotation, the window and its control
page, relayed accesses, and the tenant page's reads.
-/

namespace Sys2Proof.Machine

open Sys2Proof

/-! ### Keys of accesses -/

/-- Offset given to the accesses of the window control page in the window's queue. -/
def ctlPage : Nat := 2 ^ 26

/-- Offset given to a zero-length read of the window (R899). -/
def zeroRead : Nat := 2 ^ 27

/-- What a relayed access keeps of its bundle: credits, port, node and tag. -/
def relayTag (f : Nat) (b : Bundle) : Nat := ((b.credit * 8 + f) * 4096 + b.src % 4096) * 65536 + b.tag % 65536

/-! ### Serving one access -/

/-- A bad access: counted, reported, and remembered in MGMT_LAST. -/
def State.badAccess (src ofs : Nat) (s : State) : State :=
  let s1 := (s.setEvt pgSYS 4).bump (ofsOf pgSYS 0x7C) 1 1
  { s1 with mgmt := { s1.mgmt with lastOfs := ofs % 2 ^ 26, lastSrc := src } }

/-- The answer to an access: to the relay as a MGMT bundle (log entry 28), to the other sources as their answer. -/
def State.mgmtReply (a : MgmtAcc) (v : Word32) (s : State) : State :=
  if a.src = 4 then
    s.sendOrDrop ownOpen 0 { typ := tMGMT, dst := a.tag / 65536 % 4096, src := s.ownNode, vc := vcMGMT, tag := a.tag % 65536, arg := 1,
                             payload := leBytes 4 v.toNat }
  else if a.write && a.src == 1 then s
  else s.emit (.mgmtAnswer a.src a.tag v)

/-- An access to the register space (R897, R900). -/
def State.serveReg (a : MgmtAcc) (ofs : Nat) (s : State) : State :=
  if ofs % 4 ≠ 0 ∨ (pageFamily (ofs / 4096)).isNone then (s.badAccess a.src ofs).mgmtReply a 0#32
  else if a.write then (s.regWrite ofs a.val).mgmtReply a 0#32
  else let x := s.regRead a.src ofs; x.2.mgmtReply a x.1

/-- WIN_LEASE as written through the window's queue (R262): CLAIM and FREE. -/
def State.winLease (v : Word32) (s : State) : State :=
  let s1 := if bitOf v 8 then s.leaseTake 1 else s
  if bitOf v 9 then s1.leaseDrop 1 else s1

/-- A register of the window control page. -/
def State.readCtl (s : State) (r : Nat) : Word32 :=
  if r = 0x000 then placeB s.mgmt.winMode 0 ||| place s.mgmt.winBase 6 16
  else if r = 0x004 then place s.sys.mgmtPort 3 0
  else if r = 0x008 then place s.mgmt.lease 3 0
  else if r = 0x00C then place (mapGet (fun _ => []) s.mgmt.queue 1).length 6 0
  else 0#32

/-- An access to the window control page. -/
def State.serveCtl (a : MgmtAcc) (r : Nat) (s : State) : State :=
  if a.write then (if r = 0x000 then s.winCtl a.val else if r = 0x008 then s.winLease a.val else s)
  else s.mgmtReply a (s.readCtl r)

/-- An access of a source takes its place in the frame's take of the management path and in the rotation (R260); an access of
the lease holder ends its idling (R266). -/
def State.mgmtTake (src : Nat) (s : State) : State :=
  { s with mgmt := { s.mgmt with used := s.mgmt.used + 1, turn := src % 5 + 1, idle := if s.mgmt.lease = src then 0 else s.mgmt.idle } }

/-- Serve an access whose turn has come. Window accesses use WIN_CTL as it stands now (R262): mode 0 shows the ROM image and
discards writes, mode 1 the register space (R255). -/
def State.mgmtServe (a : MgmtAcc) (s : State) : State :=
  let s1 := s.mgmtTake a.src
  if a.src = 1 ∧ a.ofs = zeroRead then s1.mgmtReply a 0#32
  else
    let s2 := s1.bump (ofsOf pgSYS 0x7C) 0 1
    if a.src ≠ 1 then s2.serveReg a a.ofs
    else if ctlPage ≤ a.ofs then s2.serveCtl a (a.ofs - ctlPage)
    else if s.mgmt.winMode then s2.serveReg a (s.mgmt.winBase * 2 ^ 20 + a.ofs)
    else if a.write then s2
    else s2.mgmtReply a (s2.romWord a.ofs)

/-! ### Queues and rotation (R260) -/

def noQueue : Nat → List MgmtAcc := fun _ => []

def State.mqueue (s : State) (src : Nat) : List MgmtAcc := mapGet noQueue s.mgmt.queue src

/-- No access of any source waits. -/
def State.mgmtIdle (s : State) : Bool := s.mgmt.queue.isEmpty && s.mgmt.held.isEmpty

/-- Whether a source reaches the register space (R919). -/
def State.mgmtReaches (s : State) (src : Nat) : Bool := src == 5 || s.sys.cfgReady

/-- An access enters its source's queue. -/
def State.mgmtQueue (a : MgmtAcc) (s : State) : State :=
  { s with mgmt := { s.mgmt with queue := mapPut noQueue a.src (s.mqueue a.src ++ [a]) s.mgmt.queue } }

/-- Credits of a MGMT bundle that stays in its channel buffer: taken back, and returned when an entry frees (R260, R728). -/
def State.relayCredit (a : MgmtAcc) (giveBack : Bool) (s : State) : State :=
  if a.src ≠ 4 then s
  else
    let c := a.tag / 2 ^ 31; let f := a.tag / 2 ^ 28 % 8
    s.updFport f fun p =>
      let n := p.back.getD vcMGMT 0
      { p with back := listSet vcMGMT (if giveBack then n + c else n - c) p.back }

/-- An access arrives: served at once while the frame's take lasts and nothing waits, else queued; before a full queue the window
and the relay hold it, MCTP is answered BUSY, and Keaquin issues none (R260). -/
def State.mgmtAccess (a : MgmtAcc) (s : State) : State :=
  if !s.mgmtReaches a.src then s
  else if s.mgmt.used < 64 ∧ s.mgmtIdle then s.mgmtServe a
  else if (s.mqueue a.src).length < 32 ∧ (s.mgmt.held.all fun h => h.src != a.src) then s.mgmtQueue a
  else if a.src = 1 ∨ a.src = 4 then ({ s with mgmt := { s.mgmt with held := s.mgmt.held ++ [a] } }).relayCredit a false
  else if a.src = 5 then s
  else s.emit (.mgmtBusy a.src a.tag)

/-- The next source in rotation that has an access waiting. -/
def State.mgmtNext (s : State) : Option Nat :=
  ((List.range 5).map fun k => (s.mgmt.turn + 4 + k) % 5 + 1).find? fun src => !(s.mqueue src).isEmpty

/-- A held access of a source enters the queue once an entry has freed. -/
def State.mgmtAdmit (src : Nat) (s : State) : State :=
  match s.mgmt.held.find? fun a => a.src == src with
  | none => s
  | some a =>
    if (s.mqueue src).length < 32 then
      (({ s with mgmt := { s.mgmt with held := s.mgmt.held.erase a } }).mgmtQueue a).relayCredit a true
    else s

/-- Serve waiting accesses in rotation while the take lasts. -/
def State.mgmtDrain : Nat → State → State
  | 0, s => s
  | n + 1, s =>
    match s.mgmtNext with
    | none => s
    | some src =>
      match s.mqueue src with
      | [] => s
      | a :: rest =>
        let s1 := { s with mgmt := { s.mgmt with queue := mapPut noQueue src rest s.mgmt.queue } }
        State.mgmtDrain n ((s1.mgmtServe a).mgmtAdmit src)

/-- The frame's take of the management path begins: 64 accesses (R23, R260). -/
def State.mgmtFrame (s : State) : State :=
  State.mgmtDrain 64 { s with mgmt := { s.mgmt with used := 0, idle := if s.mgmt.lease = 0 then 0 else s.mgmt.idle + 1 } }

/-! ### Where accesses come from -/

/-- The window is reachable: the management function is presented, in D0, its port runs and its memory space is enabled. -/
def State.windowUp (s : State) : Bool :=
  s.mgmtUp && s.mfn.pm == .d0 && s.mfn.memSpace && (s.hport s.sys.mgmtPort).hold == .run

/-- A memory request of `n` DWORDs to the ROM BAR: 1 or 2 are served one by one in ascending order; a longer one is an Unsupported
Request or discarded, counted as a bad access (R898); decoded only while the ROM BAR is enabled (R256). -/
def State.windowRequest (write : Bool) (ofs : Nat) (vals : List Word32) (tag : Nat) (s : State) : State :=
  if !s.windowUp || !s.mfn.romEn then s
  else if 2 < vals.length then s.badAccess 1 (s.mgmt.winBase * 2 ^ 20 + ofs)
  else (vals.zipIdx).foldl (fun (s : State) x => s.mgmtAccess { src := 1, write := write, ofs := (ofs + 4 * x.2) % 2 ^ 20, val := x.1, tag := tag }) s

/-- A window write whose byte enables are not all set is discarded and counted (R899). -/
def State.windowPartial (ofs : Nat) (s : State) : State :=
  if !s.windowUp || !s.mfn.romEn then s else s.badAccess 1 (s.mgmt.winBase * 2 ^ 20 + ofs)

/-- An access to the window control page in BAR0. -/
def State.windowCtl (write : Bool) (r : Nat) (v : Word32) (tag : Nat) (s : State) : State :=
  if !s.windowUp then s else s.mgmtAccess { src := 1, write := write, ofs := ctlPage + r % 4096, val := v, tag := tag }

/-- A register write from a source: a window write of one or more DWORDs, or one word from any other source. -/
def State.srcWrite (src : MgmtSrc) (ofs : Nat) (vals : List Word32) (full : Bool) (tag : Nat) (s : State) : State :=
  match src with
  | .window => if full then s.windowRequest true ofs vals tag else s.windowPartial ofs
  | _ => match vals with
    | [] => s
    | v :: _ => s.mgmtAccess { src := src.code, write := true, ofs := ofs, val := v, tag := tag }

/-- A register read from a source: `n` DWORDs from the window (none enabled: a zero-length read, R899), or one word. -/
def State.srcRead (src : MgmtSrc) (ofs n tag : Nat) (s : State) : State :=
  match src with
  | .window =>
    if n = 0 then (if !s.windowUp || !s.mfn.romEn then s else s.mgmtAccess { src := 1, write := false, ofs := zeroRead, val := 0#32, tag := tag })
    else s.windowRequest false ofs (List.replicate n 0#32) tag
  | _ => s.mgmtAccess { src := src.code, write := false, ofs := ofs, val := 0#32, tag := tag }

/-- A register-space write with a row of its own: from the window the access goes through the window at its offset within the
base it has set; the write reaches the register only where the window shows it. -/
def State.rowWrite (src : MgmtSrc) (ofs : Nat) (v : Word32) (s : State) : State :=
  match src with
  | .window => s.windowRequest true (ofs % 2 ^ 20) [v] 0
  | _ => s.mgmtAccess { src := src.code, write := true, ofs := ofs, val := v }

/-- A register-space read with a row of its own. -/
def State.rowRead (src : MgmtSrc) (ofs tag : Nat) (s : State) : State :=
  match src with
  | .window => s.windowRequest false (ofs % 2 ^ 20) [0#32] tag
  | _ => s.mgmtAccess { src := src.code, write := false, ofs := ofs, val := 0#32, tag := tag }

/-- A host's read of its tenant page (R252), with the latch of TP_FRAME_HI; the answer's source is 16 plus the function. -/
def State.tenantPageRead (k o tag : Nat) (s : State) : State :=
  if !s.presents k || !s.pageReach k || o % 4 != 0 then s
  else
    let s1 := s.chargeSplit (fnPort k) 0 0 (match s.fnTenant k with | some t => s.ownerCode t | none => ownOpen) 1
    let hi := place (s.frame.num / 2 ^ 32) 16 0
    if o = 0x08 then (s1.setLatch (16 + k) 0x0C (some hi)).emit (.mgmtAnswer (16 + k) tag (s.readTenantPage k o))
    else if o = 0x0C then s1.emit (.mgmtAnswer (16 + k) tag ((s.latched (16 + k) 0x0C).getD hi))
    else s1.emit (.mgmtAnswer (16 + k) tag (s.readTenantPage k o))

/-! ### MGMT bundles (R755) -/

/-- A node that FPORT0.MGMT_SRC0 or MGMT_SRC1 names. -/
def State.mgmtNode (s : State) (n : Nat) : Bool :=
  [s.reg (ofsOf (pgFPORT 0) 0x120), s.reg (ofsOf (pgFPORT 0) 0x124)].any fun w =>
    (bitOf w 15 && field w 11 0 == n) || (bitOf w 31 && field w 27 16 == n)

/-- A MGMT bundle for this node: `acc` is the register access it carries (offset, and the value of a write); none is an SPDM
message of R731 or an answer. -/
def State.mgmtLocal (f : Nat) (b : Bundle) (acc : Option (Nat × Option Word32)) (s : State) : State :=
  match acc with
  | none => s
  | some (ofs, v) =>
    if b.arg % 2 = 1 then s
    else if s.mgmtNode (b.src % 4096) then
      s.mgmtAccess { src := 4, write := v.isSome, ofs := ofs, val := v.getD 0#32, tag := relayTag f b }
    else
      ((s.setEvt (pgFPORT 0) 10).fabCount 6 1).sendOrDrop ownOpen 0
        { typ := tMGMT, dst := b.src, src := s.ownNode, vc := vcMGMT, tag := b.tag, arg := 1, payload := [BitVec.ofNat 8 stUNSUPPORTED] }

/-- MGMT: a MGMT bundle arrives on a fabric port. -/
def State.mgmtIn (f : Nat) (b : Bundle) (acc : Option (Nat × Option Word32)) (s : State) : State :=
  -- R771: a register access is no keying bundle
  let x := s.linkIn f (if acc.isSome then { b with hops := b.hops + 1 } else b)
  if !x.1 then x.2
  else if b.dst = x.2.ownNode ∨ b.hops = 0 ∧ acc.isNone then x.2.mgmtLocal f b acc
  else x.2.forwardBundle f b

end Sys2Proof.Machine
end

