-- ==== Sys2Proof/Machine/FrameEdge.lean ====
section
/-!
DEFINITION. The frame edge (R45): its seven steps in order, with what the reel and the scene add to them.
-/

namespace Sys2Proof.Machine

open Sys2Proof

/-! ### The frame that ends -/

/-- R172: the sealed floors do not fit within P: noted for every sealed tenant. -/
def State.floorsNote (s : State) : State :=
  if s.writtenFloors true ≤ s.poolMiB then s
  else s.sealedList.foldl (fun (s : State) t =>
    { s with tables := { s.tables with voidSeen := mapUpd (fun _ => 0) t (· ||| 4) s.tables.voidSeen } }) s

/-- What the ending frame leaves to be counted. -/
def State.frameEnds (s : State) : State :=
  let s1 := (s.pressFrame).jobEdge
  let s2 := forEach (List.range 8) (fun p (s : State) => s.portFrame p) s1
  s2.voidNote.floorsNote.notePeaks

/-- Frame `n` begins. -/
def State.nextFrame (n : Nat) (s : State) : State :=
  { s with
    frame := { s.frame with num := n, reseatNow := false }
    hdrs := mapAll (fun _ => {}) (fun _ (h : PageHdr) => { h with
      firstNow := false, now := 0#32, vmap := h.vmapNext.orElse fun _ => h.vmap, vmapNext := none }) s.hdrs }

/-- A state in the frame with a given number. -/
def State.inFrame (n : Nat) (s : State) : State := { s with frame := { s.frame with num := n } }

/-! ### Step 2 -/

/-- R134: the descriptor of a sheet of a bound region turns out uncorrectable. -/
def State.sheetsLost (l : List Nat) (s : State) : State :=
  l.foldl (fun (s : State) sh => if (s.boundAt (granuleOfPage (16 * sh))).isSome then s.loseSheet sh else s) s

/-- R127: the accesses of released pages complete as they would have. -/
def State.orphansEnd (s : State) : State :=
  let w := s.tier.orphanW
  let r := s.tier.orphanR
  let s1 := { s with tier := { s.tier with orphanW := [], orphanR := [] } }
  let s2 := w.foldl (fun (s : State) x => s.applied x.who) s1
  r.foldl (fun (s : State) x => s.deliver x.who x.line zeroLine false) s2

/-- HOLD_FREEZE_STEP of a port that entered FREEZE since the last edge (R225). -/
def State.freezePort (p : Nat) (s : State) : State :=
  if (s.hport p).frozen then
    let s1 := { s with cues := { s.cues with reads := s.cues.reads.filter fun x => x.port != p } }
    (s1.cancelCues fun k => fnPort k == p).holdStep p
  else s

/-- The tables, ports, peers, routes, collectives and retirements of step 2. -/
def State.tablesEdge (s : State) : State :=
  let s1 := s.tablesStep
  let ended := s1.tables.ended
  let s2 := { s1 with tables := { s1.tables with ended := [] } }
  let s3 := if ended.isEmpty then s2 else s2.cancelCues fun k => ended.any fun h => (s2.ident h).mode != 1 && s2.fnOfId h == k
  let s4 := forEach (List.range 8) (fun p (s : State) => (s.freezePort p).releaseStep p) s3.lostClears
  let s5 := s4.peerStep.routeStep.collStep.retApply.poolChanged
  s5.sretStep.patStep State.pageRefs

/-- R95: the tier manager spends its take. -/
def State.tierEdge (lost : List Nat) (s : State) : State :=
  let s1 := ((s.sheetsLost lost).callAccepts.tierAbandons.tierReleases).orphansEnd
  let s2 := s1.checkRewrites.tierCompletes.freeOuts
  let s3 := s2.tierHostPromotes.tierLifts.tierCallPromotes.tierPinPromotes
  let s4 := s3.markRefolds.tierRefolds.background
  s4.placeAll.placeShelves.shelfStep

/-- Step 2 whole. -/
def State.edgeStep2 (lost : List Nat) (s : State) : State := ((s.tablesEdge).tierEdge lost).deckStep.layAccepts

/-! ### Step 3 -/

/-- Step 3: at a reel boundary a re-seat that is due, or the sync loop; then the slew of the frame. -/
def State.edgeStep3 (reel reseat : Bool) (s : State) : State :=
  if !reel then s.applySlew
  else if reseat then (s.doReseat).applySlew
  else (s.syncLoop).1.applySlew

/-! ### Step 4 -/

/-- Seal and unseal, and the pins of the tenants that changed mode (R163, R166, R438). -/
def State.sealEdge (s : State) : State :=
  let before := s.sealedList
  let s1 := s.sealStep
  let after := s1.sealedList
  let s2 := (after.filter fun t => decide (t ∉ before)).foldl (fun (s : State) t => s.pinTenant t) s1
  (before.filter fun t => decide (t ∉ after)).foldl (fun (s : State) t => s.unpinTenant t) s2

/-- Step 4: throttle steps and, at a reel boundary, the slate swap, power states and seals; the positions a cap removes. -/
def State.edgeStep4 (reel : Bool) (s : State) : State :=
  let s1 := s.emergSteps
  let s2 := if reel then s1.slateSwap.throttle.pstateStep.sealEdge else s1
  let s3 := if reel then { s2 with power := { s2.power with overLast := s2.power.overNow, overNow := false } } else s2
  s3.pinStep.positionCap

/-! ### Step 6 -/

/-- 32 and 16 bits of a dailies record, saturated. -/
def sat4 (n : Nat) : List Byte := leBytes 4 (min n (2 ^ 32 - 1))
def sat2 (n : Nat) : List Byte := leBytes 2 (min n 65535)

/-- The dailies record of a reel (Table — Dailies record) from its counts, the entries kept, whether the node stayed in
sync, and the mean power and highest temperature. -/
def dailyRecord (reel : Nat) (a : DailyAcc) (entries : Nat) (sync : Bool) (watts tj : Nat) : List Byte :=
  let flags := 1 + (if sync then 2 else 0) + (if a.void then 4 else 0) + (if a.throttled then 8 else 0)
  let body := leBytes 8 reel ++ leBytes 4 flags ++ sat4 a.dropped ++ sat4 a.hostRd ++ sat4 a.hostWr ++ sat4 a.dram
    ++ sat4 (a.shelfB / 1024) ++ sat4 a.folds ++ sat4 a.unfolds ++ sat4 a.strikes ++ sat4 a.cut ++ sat4 (a.fabB / 1024)
    ++ sat2 entries ++ sat2 a.misses ++ sat2 watts ++ leBytes 1 tj ++ [0#8]
  body ++ leBytes 4 (crcA body)

/-- DAILIES_WRITE: class MNT work of a DRAM channel that is IN; nothing before the DRAM serves. -/
def State.dailyWrite (reel : Nat) (a : DailyAcc) (entries : Nat) (sync : Bool) (s : State) : State :=
  if !s.sys.memActive then s
  else
    let d := dailyRecord reel a entries sync s.power.wLast (s.power.lastMax.foldl max 0)
    let ring := s.daily.ring ++ [(reel, d)]
    let s1 := { s with daily := { s.daily with ring := if 8192 < ring.length then ring.drop 1 else ring } }
    let s2 := match (List.range 16).find? fun c => s1.isIn .dram c with
      | some c => s1.chargeSplit gDRAM c 0 ownMnt 1
      | none => s1
    s2.setEvt pgSYS 5

/-- The counts that run per reel start anew (R76, R240, R407, R492, R514, R542, R549, R735, R769, R872). -/
def State.reelReset (s : State) : State :=
  { s with
    lanes := { s.lanes with logged := [] }
    svc := mapAll svcInit (fun _ (u : UnitSvc) => { u with faults := 0 }) s.svc
    fab := { s.fab with ports := mapAll (fun _ => {}) (fun _ (p : FPort) => { p with authReel := 0, downReel := 0, advised := false }) s.fab.ports }
    chans := mapAll (fun _ => {}) (fun _ (c : DramCh) => { c with ceReel := 0, ceRows := [], devBanks := [], logRows := [] }) s.chans
    shelf := { s.shelf with
      luns := mapAll (fun _ => {}) (fun _ (l : ShLun) => { l with wlDone := false }) s.shelf.luns
      blocks := mapAll (fun _ => {}) (fun _ (b : ShBlock) => { b with logged := false }) s.shelf.blocks }
    log := { s.log with seen := [] }
    slate := { s.slate with reelDrops := [] } }

/-- What a reel boundary adds to step 6, for the reel that ended: `acc0` its counts, `kept` its log entries, `sync` whether
the node was in sync throughout, `void0` the conditions of R172 seen failing in it. -/
def State.reelStep (endedReel : Nat) (acc0 : DailyAcc) (kept : Nat) (sync : Bool) (void0 : Map Nat) (s : State) : State :=
  let seenNow := s.tables.voidSeen
  let of := fun (b : Nat) => s.sealedList.filter fun t => (mapGet (fun _ => 0) void0 t).testBit b
  let s1 := ({ s.ageAll with tables := { s.tables with voidSeen := void0 } }).voidStep (of 2) (of 3)
  let s2 := { s1 with tables := { s1.tables with voidSeen := seenNow } }
  let a := s2.daily.acc
  let s3 := ({ s2 with daily := { s2.daily with acc := { a with void := false, misses := 0 } } }).dailyWrite endedReel
    { acc0 with void := a.void, misses := a.misses } kept sync
  (forEach (List.range 8) (fun p (s : State) => s.l0pReel p) s3.reelReset).pressReel.holdReel

/-! ### Step 7 -/

/-- A device-side buffer whose work has gone. -/
def State.bufLive (s : State) (key : Nat) : Bool :=
  if key = 0 then false
  else if key % 4 = 0 then ((mapGet (fun _ => ({} : CollEnt)) s.coll.ents (key / 4 - 1)).run).isSome
  else if key % 4 = 1 then (s.run (key / 4)).isSome
  else if key % 4 = 2 then (s.pjob (key / 4)).isSome
  else (s.lay (key / 4)).isSome

def State.bufSweep (s : State) : State := { s with fab := { s.fab with buf := s.fab.buf.filter fun e => s.bufLive e.1 } }

/-- Step 7: the takes open, and what waits for them goes on: management accesses, the log copier, the directory sweep, the
fabric, collectives, forwarded cues, flush, scrub, rings and PME acknowledgements. -/
def State.edgeStep7 (x : EdgeEnv) (reel : Bool) (s : State) : State :=
  let s0 := s.openTakes
  let s1 := if reel then (forEach (List.range 8) (fun f (s : State) => s.dlySend f) s0).markerSend else s0
  let s2 := s1.mgmtFrame.logCopy.sweep.dirTick.remPump
  let s3 := ((s2.loopStep x.env).collEdge x.env).fwdPump
  let s4 := (forEach (List.range 8) (fun f (s : State) => s.portSend f) s3).linkPulse
  let s5 := (s4.flushStep.scrub x.scrub x.scrubPct).bufSweep
  let s6 := { s5 with cues := { s5.cues with rings := mapAll (fun _ => {}) (fun _ (r : Ring) => { r with ready := r.tail }) s5.cues.rings } }
  forEach (List.range 8) (fun p (s : State) => if (s.hport p).turnOff.isSome then s.pmeAck p else s) s6

/-! ### The edge -/

/-- R18: the number of the frame that the edge begins. -/
def State.edgeNum (s : State) : Nat := (s.frame.num + 1) % frameWrap

/-- The number after the edge: only a re-seat, at a reel boundary, changes the one it begins with (R59). -/
def State.numAfterEdge (s : State) : Nat :=
  if s.edgeNum % 125 == 0 && s.reseatDue then reseatNum s.edgeNum ((s.frame.reseatTo.map (·.2)).getD 0) else s.edgeNum

/-- FRAME_EDGE. Before RST_N deassertion there are no frames. -/
def State.frameEdge (x : EdgeEnv) (s : State) : State :=
  if !s.frame.started then s
  else
    let endedReel := reelOf s.frame.num
    let n := s.edgeNum
    let reel := n % 125 == 0
    let reseat := reel && s.reseatDue
    let s0 := s.frameEnds.nextFrame n
    let acc0 := s0.daily.acc
    let kept := s0.log.reelKept
    let sync := s0.frame.inSyncReel && s0.inSync
    let void0 := s0.tables.voidSeen
    let s0' := if reel then
        { s0 with daily := { s0.daily with acc := {} }, log := { s0.log with reelKept := 0 }, tables := { s0.tables with voidSeen := [] } }
      else s0
    let s1 := s0'.vectorSends.fatalStep
    let s2 := (s1.edgeStep2 x.lost).inFrame n
    let s3 := s2.edgeStep3 reel reseat
    let s4 := s3.edgeStep4 reel
    let s5 := s4.svcStep reel
    let s6 := s5.regulate reel
    let scene := s6.frame.num % 1000 == 0 && reel
    let s7 := if reel then s6.reelStep endedReel acc0 kept (sync && !reseat) void0 else s6
    let s8 := if scene then { s7 with shelf := { s7.shelf with invScenes := s7.shelf.invScenes + 1 } } else s7
    let s9 := (s8.edgeStep7 x reel).sample x.temps x.watts
    ((s9.pins.notePeaks).emit (.frameOut (if scene then 40 else if reel then 24 else 8))).inFrame s.numAfterEdge

end Sys2Proof.Machine
end

