-- ==== Sys2Proof/Machine/Exec.lean ====
section
/-!
DEFINITION. What the meanings share: how a meaning answers, and the operations of rows that stand over several others.
-/

namespace Sys2Proof.Machine

open Sys2Proof

/-- What a meaning may touch beside the registers and units of the block. The spec's rules let few commands touch each: the
frame number (R18, R58, R59), the firmware slots and boot records (R929, R931, R949 to R951), what RST_N brings (R924, R926,
R931), how far start-up has come (R935, R936), memory active (R90, R937), the test port (R986, R987), and the debug unlock
(R934). -/
structure Touches where
  num   : Bool := false
  fw    : Bool := false
  start : Bool := false
  boot  : Bool := false
  active : Bool := false
  tap   : Bool := false
  debug : Bool := false
  deriving DecidableEq, Repr

/-- `t`, but with what `k` does not touch as it stands in `s`; the queue is never touched.
A frame number is one of R20's: it is below the wrap. -/
def State.keeping (k : Touches) (s t : State) : State :=
  { t with
    pending := s.pending
    fw := if k.fw then t.fw else s.fw
    frame := { t.frame with
      num := if k.num then t.frame.num % frameWrap else s.frame.num
      started := if k.start then t.frame.started else s.frame.started }
    tables := { t.tables with debug := if k.debug then t.tables.debug else s.tables.debug }
    sys := { t.sys with
      tap := if k.tap then t.sys.tap else s.sys.tap
      rstLow := if k.start then t.sys.rstLow else s.sys.rstLow
      boot := if k.boot then t.sys.boot else s.sys.boot
      bootDone := if k.boot then t.sys.bootDone else s.sys.bootDone
      memActive := if k.active then t.sys.memActive else s.sys.memActive
      dGiB := if k.active then t.sys.dGiB else s.sys.dGiB
      fwSigned := if k.start then t.sys.fwSigned else s.sys.fwSigned
      table := if k.start then t.sys.table else s.sys.table
      rom := if k.start then t.sys.rom else s.sys.rom
      smbAddr := if k.start then t.sys.smbAddr else s.sys.smbAddr
      dbgEn := if k.start then t.sys.dbgEn else s.sys.dbgEn } }

/-- A meaning answers its next state. -/
def answer (k : Touches) (s t : State) : Host.Outcome State Fault Refusal := .next (s.keeping k t)

/-- The answer of a meaning that touches none of these. -/
def done (s t : State) : Host.Outcome State Fault Refusal := answer {} s t

/-! ### Sync (R54, R60, R66, R75) -/

/-- TAKEOVER: a STANDBY node without a valid marker for T reels becomes clock node with the next epoch. -/
def State.takeover (s : State) : State :=
  if s.role ≠ roleStandby ∨ s.frame.silent < s.takeoverReels then s
  else
    let s1 := s.setReg (ofsOf pgFRAME 0x48) ((s.reg (ofsOf pgFRAME 0x48) &&& ~~~3#32) ||| 2#32)
    ({ s1 with frame := { s1.frame with epoch := some (((s.frame.epoch.getD 255) + 1) % 256), clockNode := s.ownNode } }).setEvt pgFRAME 3

/-- SYNC_COAST_TIMEOUT: COAST for L reels ends in LOST. -/
def State.coastTimeout (s : State) : State :=
  if s.frame.sync = .coast ∧ s.lossReels ≤ s.frame.silent then s.syncLost else s

/-- FRAME_PLL_UNLOCK: frames go on from the internal oscillator; the node is LOST. -/
def State.pllUnlock (s : State) : State :=
  if !s.frame.started || !s.frame.pll then s
  else
    let s1 := { s with frame := { s.frame with pll := false } }
    if s1.frame.sync = .lost then s1 else s1.syncLost

/-! ### The mailbox's refusals (R222) -/

/-- *Table — Mailbox commands*: an opcode listed for a function. -/
def State.mboxLists (s : State) (f : Option Nat) (op : Nat) : Bool :=
  if op ∈ [0x0001, 0x0002, 0x0100, 0x0101, 0x0102, 0x0103, 0x0200, 0x0300, 0x0400, 0x0401, 0x4000, 0x4200, 0x4300, 0x4800, 0x4801, 0xC000, 0xC001, 0xC003] then true
  else if op ∈ [0x0201, 0x0202, 0x0301, 0xC002] then f.isNone
  else if op ∈ [0x4301, 0x4302] then f.isNone && s.tables.debug
  else if op ∈ [0x4802, 0x4803] then f.isSome
  else false

/-- MAILBOX_UNSUPPORTED. -/
def State.mailboxRefuses (f : Option Nat) (op : Nat) (s : State) : State :=
  if s.mboxUp f && !s.mboxLists f op then s.mbReply f mbUnsupported [] else s

/-! ### Reads by their reader -/

/-- REGISTER_READ. -/
def State.readBy (rd : Reader) (ofs n tag : Nat) (s : State) : State :=
  match rd with
  | .mgmt src => s.srcRead src ofs n tag
  | .control => s.windowCtl false ofs 0#32 tag
  | .page k => s.tenantPageRead k ofs tag

/-- LATCHED_PAIR_READ. -/
def State.latchedPair (rd : Reader) (ofs tag : Nat) (s : State) : State :=
  match rd with
  | .mgmt src => if latchesHigh ofs then s.rowRead src ofs tag else s
  | .control => s
  | .page k => if ofs = 0x08 then s.tenantPageRead k ofs tag else s

/-- A dailies record is found damaged (R911). -/
def State.damageDaily (reel : Nat) (damaged : Bool) (s : State) : State :=
  match s.dailyReel reel with
  | some r => if damaged then { s with daily := { s.daily with bad := addOnce r s.daily.bad } } else s
  | none => s

/-! ### Words that rows write -/

/-- PWR_REQ. -/
def pwrWord (state : Nat) (autoWake : Bool) : Word32 := place state 2 0 ||| placeB autoWake 4

/-- CTL of a ring. -/
def ringCtlWord (size : Nat) (inDpa enable resume : Bool) : Word32 := place size 4 0 ||| placeB inDpa 4 ||| placeB enable 8 ||| placeB resume 9

/-- Where the REQ field of a unit lies (Table — Per-unit service). -/
def svcReqOfs (k : UnitKind) (i : Nat) : Nat :=
  match k with
  | .hport => ofsOf (pgHPORT i) 0x90
  | .fport => ofsOf (pgFPORT i) 0x60
  | .dram => ofsOf (pgMEDIA i) 0x48
  | .shelf => ofsOf (pgMEDIA (16 + i)) 0x4C
  | .lane => ofsOf pgPAT 0x118
  | .engine => ofsOf pgSYS 0x308
  | .press => ofsOf (pgPRESS i) 0x6C

/-- SVC_DRAIN and SVC_RETURN. -/
def State.svcRow (src : MgmtSrc) (kind inst req : Nat) (s : State) : State :=
  match kindOf kind with
  | some k => if inst < k.count then s.rowWrite src (svcReqOfs k inst) (place req 2 0) else s
  | none => s

/-! ### Bundles -/

/-- A bundle of the row's type, and of the row's kind where COLL and COLL_CTL rows have one, arrives on a fabric port. -/
def State.bundleRow (typ : Nat) (kind : Option Nat) (f : Nat) (b : Bundle) (env : List (Nat × ReadEnv)) (s : State) : State :=
  if f < 8 && b.typ == typ && (match kind with | none => true | some k => b.arg == k) then s.bundleIn f b env else s

end Sys2Proof.Machine
end

