-- ==== Sys2Proof/Machine/CueCmds.lean ====
section
/-!
DEFINITION. Rings, cues and their operations: one meaning for each command.
-/

namespace Sys2Proof.Machine

open Sys2Proof

/-- DOORBELL. R571: a doorbell of a ring. -/
def execDoorbell (fn ring : Nat) (tail : Nat) (s : State) : Host.Outcome State Fault Refusal :=
  done s (s.tenantPageWrite fn (0x100 + 64 * (ring % 4) + 0) (BitVec.ofNat 32 tail))

/-- RING_ENABLE. R569: CTL with ENABLE 1. -/
def execRingEnable (fn ring : Nat) (size : Nat) (inDpa : Bool) (s : State) : Host.Outcome State Fault Refusal :=
  done s (s.tenantPageWrite fn (0x100 + 64 * (ring % 4) + 0x10) (ringCtlWord size inDpa true false))

/-- RING_DISABLE. R574: CTL with ENABLE 0. -/
def execRingDisable (fn ring : Nat) (size : Nat) (inDpa : Bool) (s : State) : Host.Outcome State Fault Refusal :=
  done s (s.tenantPageWrite fn (0x100 + 64 * (ring % 4) + 0x10) (ringCtlWord size inDpa false false))

/-- RESUME. R597: CTL with RESUME. -/
def execResume (fn ring : Nat) (size : Nat) (inDpa : Bool) (s : State) : Host.Outcome State Fault Refusal :=
  done s (s.tenantPageWrite fn (0x100 + 64 * (ring % 4) + 0x10) (ringCtlWord size inDpa true true))

/-- CUE_START. R571, R578 to R584: the next cue of a ring starts; `fetched` its bytes and poison where the ring is in host memory. -/
def execCueStart (ring : Nat) (fetched : Option (List Byte × Bool)) (env : List (Nat × ReadEnv)) (s : State) : Host.Outcome State Fault Refusal :=
  done s (if ring < 512 then s.cueStart ring fetched env else s)

/-- FILL. R586: FILL goes on. -/
def execFill (cue : Nat) (env : List (Nat × ReadEnv)) (s : State) : Host.Outcome State Fault Refusal :=
  done s (s.cueFill cue env)

/-- COPY_PLAIN. R587: COPY PLAIN goes on. -/
def execCopyPlain (cue : Nat) (env : List (Nat × ReadEnv)) (s : State) : Host.Outcome State Fault Refusal :=
  done s (s.cueCopy cue env)

/-- COPY_FOLD. R588: COPY FOLD goes on. -/
def execCopyFold (cue : Nat) (env : List (Nat × ReadEnv)) (s : State) : Host.Outcome State Fault Refusal :=
  done s (s.cueFold cue env)

/-- COPY_UNFOLD. R589: COPY UNFOLD goes on. -/
def execCopyUnfold (cue : Nat) (env : List (Nat × ReadEnv)) (s : State) : Host.Outcome State Fault Refusal :=
  done s (s.cueUnfold cue env)

/-- EQUAL. R590: COMPARE EQUAL goes on. -/
def execEqual (cue : Nat) (env : List (Nat × ReadEnv)) (s : State) : Host.Outcome State Fault Refusal :=
  done s (s.cueCompare 0 cue env)

/-- FIRST_DIFF. R590: COMPARE FIRST_DIFF goes on. -/
def execFirstDiff (cue : Nat) (env : List (Nat × ReadEnv)) (s : State) : Host.Outcome State Fault Refusal :=
  done s (s.cueCompare 1 cue env)

/-- CAS. R591: COMPARE CAS. -/
def execCas (cue : Nat) (env : ReadEnv) (s : State) : Host.Outcome State Fault Refusal :=
  done s (s.cueCas cue env)

/-- REDUCE. R593: REDUCE goes on. -/
def execReduce (cue : Nat) (env : List (Nat × ReadEnv)) (s : State) : Host.Outcome State Fault Refusal :=
  done s (s.cueReduce cue env)

/-- CALL. R116, R594: CALL reads its sheet and hands it over. -/
def execCallCue (cue : Nat) (env : List (Nat × ReadEnv)) (s : State) : Host.Outcome State Fault Refusal :=
  done s (s.cueCall cue env)

/-- PRESS. R647: PRESS reads its card; it is refused or waits. -/
def execPressCue (cue : Nat) (env : List (Nat × ReadEnv)) (s : State) : Host.Outcome State Fault Refusal :=
  done s (s.pressCue cue env)

/-- LAY. R678, R679: LAY is submitted to its press. -/
def execLayCue (cue : Nat) (s : State) : Host.Outcome State Fault Refusal :=
  done s (s.layCue cue)

/-- COLLECT. R775: COLLECT is checked and arms its entry. -/
def execCollectCue (cue : Nat) (env : List (Nat × ReadEnv)) (s : State) : Host.Outcome State Fault Refusal :=
  done s (s.collectCue cue env)

/-- CUE_COMPLETE. R595, R596: the record of a cue that has ended is written. -/
def execCueComplete (cue : Nat) (env : List (Nat × ReadEnv)) (s : State) : Host.Outcome State Fault Refusal :=
  done s (s.cueComplete cue env)

/-- ENGINE_FAULT. R607: an engine errs under a cue. -/
def execEngineFault (engine : Nat) (cue : Option Nat) (s : State) : Host.Outcome State Fault Refusal :=
  done s (if engine < 32 then s.engineFault engine cue else s)

/-- CUE_TAG_WRITE. R585: CUE_TAG of the selected engine. -/
def execCueTagWrite (src : MgmtSrc) (v : Word32) (s : State) : Host.Outcome State Fault Refusal :=
  done s (s.rowWrite src (ofsOf pgSYS 0x30C) v)

end Sys2Proof.Machine
end

