-- ==== Sys2Proof/Machine/FabricCmds.lean ====
section
/-!
DEFINITION. The fabric and the collectives: one meaning for each command.
-/

namespace Sys2Proof.Machine

open Sys2Proof

/-- LINK. R724, R725, R728: a LINK bundle. -/
def execLink (f : Nat) (b : Bundle) (s : State) : Host.Outcome State Fault Refusal :=
  done s (s.bundleRow tLINK none f b [])

/-- DLY_REQ. R757: a DLY_REQ, its receive stamp and the transmit stamp of the answer. -/
def execDlyReq (f : Nat) (b : Bundle) (rx tx : Nat) (s : State) : Host.Outcome State Fault Refusal :=
  done s (if f < 8 ∧ b.typ = tDLYREQ then s.dlyReq f b rx tx else s)

/-- DLY_RSP. R757: a DLY_RSP and its receive stamp. -/
def execDlyRsp (f : Nat) (b : Bundle) (rx : Nat) (s : State) : Host.Outcome State Fault Refusal :=
  done s (if f < 8 ∧ b.typ = tDLYRSP then s.dlyRsp f b rx else s)

/-- MARKER. R49, R51, R54 to R59, R73: a marker, its receive stamp and its residence time. -/
def execMarker (f : Nat) (b : Bundle) (rx stay : Nat) (s : State) : Host.Outcome State Fault Refusal :=
  answer { num := true } s (if f < 8 ∧ b.typ = tMARKER then s.marker f b rx stay else s)

/-- RD. R746: an RD. -/
def execRd (f : Nat) (b : Bundle) (env : List (Nat × ReadEnv)) (s : State) : Host.Outcome State Fault Refusal :=
  done s (s.bundleRow tRD none f b env)

/-- WR. R746: a WR. -/
def execWr (f : Nat) (b : Bundle) (env : List (Nat × ReadEnv)) (s : State) : Host.Outcome State Fault Refusal :=
  done s (s.bundleRow tWR none f b env)

/-- RSP. R747: an RSP. -/
def execRsp (f : Nat) (b : Bundle) (env : List (Nat × ReadEnv)) (s : State) : Host.Outcome State Fault Refusal :=
  done s (s.bundleRow tRSP none f b env)

/-- CMP. R747: a CMP. -/
def execCmp (f : Nat) (b : Bundle) (env : List (Nat × ReadEnv)) (s : State) : Host.Outcome State Fault Refusal :=
  done s (s.bundleRow tCMP none f b env)

/-- RECALL. R751: a RECALL. -/
def execRecall (f : Nat) (b : Bundle) (env : List (Nat × ReadEnv)) (s : State) : Host.Outcome State Fault Refusal :=
  done s (s.bundleRow tRECALL none f b env)

/-- RECALL_RSP. R751: a RECALL_RSP. -/
def execRecallRsp (f : Nat) (b : Bundle) (env : List (Nat × ReadEnv)) (s : State) : Host.Outcome State Fault Refusal :=
  done s (s.bundleRow tRECALLRSP none f b env)

/-- CUE_FWD. R754: a CUE_FWD. -/
def execCueFwd (f : Nat) (b : Bundle) (env : List (Nat × ReadEnv)) (s : State) : Host.Outcome State Fault Refusal :=
  done s (s.bundleRow tCUEFWD none f b env)

/-- CUE_CPL. R754: a CUE_CPL. -/
def execCueCpl (f : Nat) (b : Bundle) (env : List (Nat × ReadEnv)) (s : State) : Host.Outcome State Fault Refusal :=
  done s (s.bundleRow tCUECPL none f b env)

/-- MGMT. R755, R771: a MGMT bundle: the register access it carries, or none for SPDM keying and answers. -/
def execMgmt (f : Nat) (b : Bundle) (acc : Option (Nat × Option Word32)) (s : State) : Host.Outcome State Fault Refusal :=
  done s (if f < 8 ∧ b.typ = tMGMT then s.mgmtIn f b acc else s)

/-- REPLAY_TIMEOUT. R726: no ACK progress. -/
def execReplayTimeout (f : Nat) (s : State) : Host.Outcome State Fault Refusal :=
  done s (if f < 8 then s.replayTimeout f else s)

/-- RSP_TIMEOUT. R748: a remote request is unanswered. -/
def execRspTimeout (i : Nat) (s : State) : Host.Outcome State Fault Refusal :=
  done s (s.rspTimeout i)

/-- PEER_DEADLINE. R751, R752: a peer is silent after a RECALL. -/
def execPeerDeadline (peer : Nat) (s : State) : Host.Outcome State Fault Refusal :=
  done s (s.peerLost peer)

/-- FPORT_LINK_UP. R731, R768: the PCS of a port is up, with the neighbour's node number; `keyed` that its SPDM session is established. -/
def execFportLinkUp (f node : Nat) (keyed : Bool) (s : State) : Host.Outcome State Fault Refusal :=
  done s (if f < 8 then s.fportUp f node keyed else s)

/-- FPORT_LINK_DOWN. R769: a port goes down. -/
def execFportLinkDown (f cause : Nat) (s : State) : Host.Outcome State Fault Refusal :=
  done s (if f < 8 then s.fportDown f cause else s)

/-- LINK_REKEY. R734: a key update of a link. -/
def execLinkRekey (f : Nat) (s : State) : Host.Outcome State Fault Refusal :=
  done s (if f < 8 then s.linkRekey f else s)

/-- NODE_WRITE. R764: FPORT0.NODE. -/
def execNodeWrite (src : MgmtSrc) (v : Word32) (s : State) : Host.Outcome State Fault Refusal :=
  done s (s.rowWrite src (ofsOf (pgFPORT 0) 0x100) v)

/-- PEER_READ. R743: PEER_CMD READ. -/
def execPeerRead (src : MgmtSrc) (s : State) : Host.Outcome State Fault Refusal :=
  done s (s.rowWrite src (ofsOf (pgFPORT 0) 0x11C) 1#32)

/-- PEER_WRITE. R743: PEER_CMD WRITE. -/
def execPeerWrite (src : MgmtSrc) (s : State) : Host.Outcome State Fault Refusal :=
  done s (s.rowWrite src (ofsOf (pgFPORT 0) 0x11C) 2#32)

/-- PEER_INVALIDATE. R762: PEER_CMD INVALIDATE. -/
def execPeerInvalidate (src : MgmtSrc) (s : State) : Host.Outcome State Fault Refusal :=
  done s (s.rowWrite src (ofsOf (pgFPORT 0) 0x11C) 3#32)

/-- PEER_CLEAR. R753: PEER_CMD CLEAR. -/
def execPeerClear (src : MgmtSrc) (s : State) : Host.Outcome State Fault Refusal :=
  done s (s.rowWrite src (ofsOf (pgFPORT 0) 0x11C) 4#32)

/-- COLL_ENTRY_WRITE. R772: a register (offset 0x44 to 0x60) of the selected collective entry. -/
def execCollEntryWrite (src : MgmtSrc) (r : Nat) (v : Word32) (s : State) : Host.Outcome State Fault Refusal :=
  done s (if 0x44 ≤ r ∧ r ≤ 0x60 then s.rowWrite src (ofsOf pgCOLL r) v else s)

/-- JOIN_SEND. R776, R777: every page of SRC and DST is OPEN. -/
def execJoinSend (entry : Nat) (s : State) : Host.Outcome State Fault Refusal :=
  done s (s.joinSend entry)

/-- JOIN. R779: a JOIN. -/
def execJoin (f : Nat) (b : Bundle) (env : List (Nat × ReadEnv)) (s : State) : Host.Outcome State Fault Refusal :=
  done s (s.bundleRow tCOLLCTL (some ccJOIN) f b env)

/-- WITHDRAW_COLL. R782: a WITHDRAW. -/
def execWithdrawColl (f : Nat) (b : Bundle) (env : List (Nat × ReadEnv)) (s : State) : Host.Outcome State Fault Refusal :=
  done s (s.bundleRow tCOLLCTL (some ccWITHDRAW) f b env)

/-- GO_DECISION. R780: the chair decides. -/
def execGoDecision (entry : Nat) (s : State) : Host.Outcome State Fault Refusal :=
  done s (s.goDecision entry)

/-- GO. R781, R806: a GO. -/
def execGo (f : Nat) (b : Bundle) (env : List (Nat × ReadEnv)) (s : State) : Host.Outcome State Fault Refusal :=
  done s (s.bundleRow tCOLLCTL (some ccGO) f b env)

/-- ABORT_COLL. R802: an ABORT. -/
def execAbortColl (f : Nat) (b : Bundle) (env : List (Nat × ReadEnv)) (s : State) : Host.Outcome State Fault Refusal :=
  done s (s.bundleRow tCOLLCTL (some ccABORT) f b env)

/-- PULL. R786: a PULL. -/
def execPull (f : Nat) (b : Bundle) (env : List (Nat × ReadEnv)) (s : State) : Host.Outcome State Fault Refusal :=
  done s (s.bundleRow tCOLLCTL (some ccPULL) f b env)

/-- UP. R787: an UP segment. -/
def execUp (f : Nat) (b : Bundle) (env : List (Nat × ReadEnv)) (s : State) : Host.Outcome State Fault Refusal :=
  done s (s.bundleRow tCOLL (some ckUP) f b env)

/-- SUM. R789: a sum page part. -/
def execSum (f : Nat) (b : Bundle) (env : List (Nat × ReadEnv)) (s : State) : Host.Outcome State Fault Refusal :=
  done s (s.bundleRow tCOLL (some ckSUM) f b env)

/-- DOWN. R790: a DOWN page. -/
def execDown (f : Nat) (b : Bundle) (env : List (Nat × ReadEnv)) (s : State) : Host.Outcome State Fault Refusal :=
  done s (s.bundleRow tCOLL (some ckDOWN) f b env)

/-- COLLECTIVE_DONE. R800: a member has written and sent everything. -/
def execCollectiveDone (entry : Nat) (s : State) : Host.Outcome State Fault Refusal :=
  done s (s.collDone entry)

/-- COLL_DEADLINE. R801: the deadline edge. -/
def execCollDeadline (entry : Nat) (s : State) : Host.Outcome State Fault Refusal :=
  done s (s.collDeadline entry)

/-- PULL_TIMEOUT. R802: PULLs are unanswered. -/
def execPullTimeout (entry : Nat) (s : State) : Host.Outcome State Fault Refusal :=
  done s (s.pullTimeout entry)

/-- COLL_ACC_FAULT. R812: an accumulator errs. -/
def execCollAccFault (entry page : Nat) (s : State) : Host.Outcome State Fault Refusal :=
  done s (s.collAccFault entry page)

end Sys2Proof.Machine
end

