-- ==== Sys2Proof/Machine/LaneCmds.lean ====
section
/-!
DEFINITION. Lanes, patterns, DRAM and the shelf: one meaning for each command.
-/

namespace Sys2Proof.Machine

open Sys2Proof

/-- PAGE_DISPATCH. R425 to R427: a waiting page goes to a lane. -/
def execPageDispatch (s : State) : Host.Outcome State Fault Refusal :=
  done s s.pageDispatch.notePeaks

/-- LANE_PAGE_START. R428, R436, R440: a lane starts its next page of an owner code. -/
def execLanePageStart (lane owner : Nat) (s : State) : Host.Outcome State Fault Refusal :=
  done s (if lane < 64 then (s.lanePageStart lane owner).notePeaks else s)

/-- LANE_PAGE_DONE. R403 to R406, R429 to R433: a lane finishes the page of an owner code; `ue` that reading its input found an uncorrectable line, `flips` the bytes of the stored form that read changed. -/
def execLanePageDone (lane owner : Nat) (ue : Bool) (flips : List (Nat × Byte)) (s : State) : Host.Outcome State Fault Refusal :=
  done s (if lane < 64 then s.lanePageDone lane owner ue flips else s)

/-- RACK_FILL_DONE. R436, R455: a rack fill ends; whether it read well, and whether a persistent copy verifies. -/
def execRackFillDone (slot : Nat) (ok copyOk : Bool) (s : State) : Host.Outcome State Fault Refusal :=
  done s (s.rackFillDone slot ok copyOk)

/-- LANE_FAULT. R453, R454: a lane faults under the page of an owner code. -/
def execLaneFault (lane owner kind : Nat) (s : State) : Host.Outcome State Fault Refusal :=
  done s (if lane < 64 then s.laneFault lane owner kind else s)

/-- FOLD_PAT_WRITE. R441: FOLD_PAT of a tenant. -/
def execFoldPatWrite (src : MgmtSrc) (t : Nat) (v : Word32) (s : State) : Host.Outcome State Fault Refusal :=
  done s (if t < 128 then s.rowWrite src (ofsOf (pgTEN t) 0x140) v else s)

/-- COMMON_DEF_WRITE. R439: COMMON_DEF. -/
def execCommonDefWrite (src : MgmtSrc) (v : Word32) (s : State) : Host.Outcome State Fault Refusal :=
  done s (s.rowWrite src (ofsOf pgPAT 0x128) v)

/-- LOAD_DATA_WRITE. R466: LOAD_DATA. -/
def execLoadDataWrite (src : MgmtSrc) (v : Word32) (s : State) : Host.Outcome State Fault Refusal :=
  done s (s.rowWrite src (ofsOf pgPAT 0x4C) v)

/-- BEGIN. R466: PAT_CMD BEGIN. -/
def execPatBegin (src : MgmtSrc) (s : State) : Host.Outcome State Fault Refusal :=
  done s (s.rowWrite src (ofsOf pgPAT 0x48) 1#32)

/-- COMMIT. R467: PAT_CMD COMMIT. -/
def execPatCommit (src : MgmtSrc) (s : State) : Host.Outcome State Fault Refusal :=
  done s (s.rowWrite src (ofsOf pgPAT 0x48) 2#32)

/-- PATTERN_INSTALL. R467, R469: a validated file is installed. -/
def execPatternInstall (s : State) : Host.Outcome State Fault Refusal :=
  done s s.patInstall

/-- ABORT. R468: PAT_CMD ABORT. -/
def execPatAbort (src : MgmtSrc) (s : State) : Host.Outcome State Fault Refusal :=
  done s (s.rowWrite src (ofsOf pgPAT 0x48) 3#32)

/-- WITHDRAW. R471: PAT_CMD WITHDRAW. -/
def execPatWithdraw (src : MgmtSrc) (s : State) : Host.Outcome State Fault Refusal :=
  done s (s.rowWrite src (ofsOf pgPAT 0x48) 4#32)

/-- RETIRE. R474: PAT_CMD RETIRE. -/
def execPatRetire (src : MgmtSrc) (s : State) : Host.Outcome State Fault Refusal :=
  done s (s.rowWrite src (ofsOf pgPAT 0x48) 5#32)

/-- REFOLD. R473: PAT_CMD REFOLD. -/
def execPatRefold (src : MgmtSrc) (s : State) : Host.Outcome State Fault Refusal :=
  done s (s.rowWrite src (ofsOf pgPAT 0x48) 6#32)

/-- REPAIR. R470: PAT_CMD REPAIR. -/
def execPatRepair (src : MgmtSrc) (s : State) : Host.Outcome State Fault Refusal :=
  done s (s.rowWrite src (ofsOf pgPAT 0x48) 7#32)

/-- PATTERN_PERSIST. R476: the record of a slot is written, or fails on a target. -/
def execPatternPersist (slot : Nat) (ok : Bool) (target : Nat) (s : State) : Host.Outcome State Fault Refusal :=
  done s (s.patPersist slot ok target)

/-- RET_READ. R509: RET_CMD READ. -/
def execRetRead (src : MgmtSrc) (s : State) : Host.Outcome State Fault Refusal :=
  done s (s.rowWrite src (ofsOf (pgMEDIA 0) 0x118) 1#32)

/-- RET_WRITE. R511: RET_CMD WRITE. -/
def execRetWrite (src : MgmtSrc) (s : State) : Host.Outcome State Fault Refusal :=
  done s (s.rowWrite src (ofsOf (pgMEDIA 0) 0x118) 2#32)

/-- RET_RELEASE. R512: RET_CMD RELEASE. -/
def execRetRelease (src : MgmtSrc) (s : State) : Host.Outcome State Fault Refusal :=
  done s (s.rowWrite src (ofsOf (pgMEDIA 0) 0x118) 3#32)

/-- RETIRE_MIGRATION_DONE. R511: the last unit of an entry's row or bank has moved. -/
def execRetireMigrationDone (i : Nat) (s : State) : Host.Outcome State Fault Refusal :=
  done s (s.retDone i)

/-- UNIT_MIGRATION_COPY. R517: the open frame or the slips of a page move. -/
def execUnitMigrationCopy (page : Nat) (slips : Bool) (s : State) : Host.Outcome State Fault Refusal :=
  done s (s.unitCopy page slips)

/-- REFRESH. R500, R501: a refresh interval of a channel. -/
def execRefresh (chan : Nat) (s : State) : Host.Outcome State Fault Refusal :=
  done s (if chan < 16 then s.refresh chan else s)

/-- REFRESH_MANAGEMENT_REQUEST. R500: a DIMM asks for refresh management. -/
def execRefreshManagementRequest (chan : Nat) (s : State) : Host.Outcome State Fault Refusal :=
  done s (if chan < 16 then s.refresh chan else s)

/-- FLUSH. R508: FC_CTL.FLUSH. -/
def execFlush (src : MgmtSrc) (s : State) : Host.Outcome State Fault Refusal :=
  done s (s.rowWrite src (ofsOf (pgMEDIA 0) 0x128) 1#32)

/-- CH_FATAL. R522: a channel is lost, with the sheet descriptors, directory entries and pattern slots it held. -/
def execChFatal (chan retries : Nat) (sheets dirLines : List Nat) (slots : List (Nat × Bool)) (s : State) : Host.Outcome State Fault Refusal :=
  done s (if chan < 16 then s.chFatal chan retries sheets dirLines slots else s)

/-- DIMM_HOT. R524: a DIMM is above its limit. -/
def execDimmHot (chan temp : Nat) (s : State) : Host.Outcome State Fault Refusal :=
  done s (if chan < 16 then s.dimmHot chan temp else s)

/-- FLASH_READ_DONE. R541, R542, R818: an array read ends: good, at this retry level. -/
def execFlashReadDone (page : Nat) (good : Bool) (level : Nat) (s : State) : Host.Outcome State Fault Refusal :=
  done s (s.flashReadDone page good level)

/-- FLASH_PROGRAM_DONE. R26, R539: a program ends. -/
def execFlashProgramDone (lun : Nat) (ok : Bool) (s : State) : Host.Outcome State Fault Refusal :=
  done s (if lun < 1024 then (s.flashProgramDone lun ok).notePeaks else s)

/-- FLASH_ERASE_DONE. R26, R540: an erase ends. -/
def execFlashEraseDone (lun : Nat) (ok : Bool) (s : State) : Host.Outcome State Fault Refusal :=
  done s (if lun < 1024 then s.flashEraseDone lun ok else s)

/-- FLASH_READ_ISSUE. R530, R531: the read of a shelf record is issued. -/
def execFlashReadIssue (page : Nat) (s : State) : Host.Outcome State Fault Refusal :=
  done s ((s.flashReadIssue page).notePeaks)

/-- WRITE_POINT_FLUSH. R539: a write point programs its buffer when due. -/
def execWritePointFlush (lun : Nat) (s : State) : Host.Outcome State Fault Refusal :=
  done s (if lun < 1024 then s.writePointFlush lun else s)

/-- SORT_RELOCATE. R544: sort moves the next record of its victim, or erases it. -/
def execSortRelocate (lun : Nat) (ue : Bool) (flips : List (Nat × Byte)) (s : State) : Host.Outcome State Fault Refusal :=
  done s (if lun < 1024 then (s.sortRelocate lun ue flips).notePeaks else s)

/-- LUN_TIMEOUT. R551: a LUN does not answer. -/
def execLunTimeout (lun : Nat) (s : State) : Host.Outcome State Fault Refusal :=
  done s (if lun < 1024 then s.lunTimeout lun else s)

/-- SRET_RETIRE. R552: SRET_CMD RETIRE. -/
def execSretRetire (src : MgmtSrc) (s : State) : Host.Outcome State Fault Refusal :=
  done s (s.rowWrite src (ofsOf (pgMEDIA 16) 0x120) 1#32)

/-- SRET_READ. R552: SRET_CMD READ. -/
def execSretRead (src : MgmtSrc) (s : State) : Host.Outcome State Fault Refusal :=
  done s (s.rowWrite src (ofsOf (pgMEDIA 16) 0x120) 2#32)

/-- SRET_DONE. R553: a retired location holds no live record. -/
def execSretDone (lun : Nat) (s : State) : Host.Outcome State Fault Refusal :=
  done s (if lun < 1024 then s.sretDone lun else s)

/-- INVENTORY_WRITE. R556: the inventory record is written when due, or fails on a target. -/
def execInventoryWrite (ok : Bool) (target : Nat) (s : State) : Host.Outcome State Fault Refusal :=
  done s (s.inventoryWrite ok target)

/-- SCH_FATAL. R563: a shelf channel is lost. -/
def execSchFatal (chan : Nat) (s : State) : Host.Outcome State Fault Refusal :=
  done s (if chan < 32 then s.schFatal chan else s)

end Sys2Proof.Machine
end

