-- ==== Sys2Proof/Machine/LinkCmds.lean ====
section
/-!
DEFINITION. Host links, host functions and their power states: one meaning for each command.
-/

namespace Sys2Proof.Machine

open Sys2Proof

/-- LINK_UP. R190 to R192, R196, R209: a link trains, with what its partner offers and the S2M credits it gives. -/
def execLinkUp (port link rate width : Nat) (cxl f256 viral : Bool) (ndr drs : Nat) (s : State) : Host.Outcome State Fault Refusal :=
  done s (if port < 8 ∧ link < 2 then s.linkUp port link rate width cxl f256 viral ndr drs else s)

/-- LINK_DOWN. R224: a link leaves L0. -/
def execLinkDown (port link : Nat) (s : State) : Host.Outcome State Fault Refusal :=
  done s (if port < 8 ∧ link < 2 then s.linkDown port link else s)

/-- UNCORR. R224: an uncorrectable link error. -/
def execUncorr (port : Nat) (s : State) : Host.Outcome State Fault Refusal :=
  done s (if port < 8 then s.linkUncorr port else s)

/-- IDE_FAILURE. R221: IDE fails. -/
def execIdeFailure (port : Nat) (s : State) : Host.Outcome State Fault Refusal :=
  done s (if port < 8 then s.ideFailure port else s)

/-- VIRAL_RX. R219: viral is received. -/
def execViralRx (port : Nat) (s : State) : Host.Outcome State Fault Refusal :=
  done s (if port < 8 then s.viralRx port else s)

/-- FLIT_DOWN. R224: a link retrains into 68-byte flits. -/
def execFlitDown (port link rate width : Nat) (s : State) : Host.Outcome State Fault Refusal :=
  done s (if port < 8 ∧ link < 2 then s.flitDown port link rate width else s)

/-- HOLD_FORCE. R224: HOLD.FORCE. -/
def execHoldForce (src : MgmtSrc) (port : Nat) (s : State) : Host.Outcome State Fault Refusal :=
  done s (if port < 8 then s.rowWrite src (ofsOf (pgHPORT port) 0x50) 0x200#32 else s)

/-- PORT_HELD. R226: the bulk clears of the freezing port are complete. -/
def execPortHeld (port : Nat) (s : State) : Host.Outcome State Fault Refusal :=
  done s (if port < 8 then s.portHeld port else s)

/-- HOLD_RELEASE. R227: HOLD.RELEASE. -/
def execHoldRelease (src : MgmtSrc) (port : Nat) (s : State) : Host.Outcome State Fault Refusal :=
  done s (if port < 8 then s.rowWrite src (ofsOf (pgHPORT port) 0x50) 0x100#32 else s)

/-- PORT_RUN. R228: a releasing port's links are in L0 with CXL. -/
def execPortRun (port : Nat) (s : State) : Host.Outcome State Fault Refusal :=
  done s (if port < 8 then s.portRun port else s)

/-- RETRAIN. R191: LINK_CTL.RETRAIN, beside the fields of `v`. -/
def execRetrain (src : MgmtSrc) (port : Nat) (v : Word32) (s : State) : Host.Outcome State Fault Refusal :=
  done s (if port < 8 then s.rowWrite src (ofsOf (pgHPORT port) 0x40) (v ||| 0x1000#32) else s)

/-- ID_CFG_WRITE. R198, R199: ID_CFG. -/
def execIdCfgWrite (src : MgmtSrc) (port : Nat) (v : Word32) (s : State) : Host.Outcome State Fault Refusal :=
  done s (if port < 8 then s.rowWrite src (ofsOf (pgHPORT port) 0x4C) v else s)

/-- COMPLETION_TIMEOUT. R212: a host-memory read has no completion in time. -/
def execCompletionTimeout (port tag : Nat) (s : State) : Host.Outcome State Fault Refusal :=
  done s (s.hostTimeout port tag)

/-- HOST_READ_COMPLETION. R211, R586: a completion arrives. -/
def execHostReadCompletion (port tag : Nat) (data : List Byte) (poison error : Bool) (s : State) : Host.Outcome State Fault Refusal :=
  done s (s.hostCompletion port tag data poison error)

/-- L0P_WIDEN. R278: a narrowed link has this backlog of line transfers. -/
def execL0pWiden (port backlog : Nat) (s : State) : Host.Outcome State Fault Refusal :=
  done s (if port < 8 then s.l0pWiden port backlog else s)

/-- L0P_PARTNER_REQUEST. R279: the partner asks for a narrower link. -/
def execL0pPartnerRequest (port width : Nat) (s : State) : Host.Outcome State Fault Refusal :=
  done s (if port < 8 then s.l0pPartner port width else s)

/-- L1_ENTRY. R276: an idle port enters L1, or a substate (1 L1.1, 2 L1.2). -/
def execL1Entry (port sub : Nat) (s : State) : Host.Outcome State Fault Refusal :=
  done s (if port < 8 then s.l1Entry port sub else s)

/-- L1_EXIT. R277: back to L0. -/
def execL1Exit (port : Nat) (s : State) : Host.Outcome State Fault Refusal :=
  done s (if port < 8 then s.l1Exit port else s)

/-- L2_ENTRY. R274: the host takes a quiesced link into L2. -/
def execL2Entry (port : Nat) (s : State) : Host.Outcome State Fault Refusal :=
  done s (if port < 8 then s.l2Entry port else s)

/-- LINK_DEGRADED. R236: rate or width degrade in L0. -/
def execLinkDegraded (port link rate width : Nat) (s : State) : Host.Outcome State Fault Refusal :=
  done s (if port < 8 ∧ link < 2 then s.linkDegraded port link rate width else s)

/-- CREDIT_RETURN. R824: S2M credits return. -/
def execCreditReturn (port ndr drs : Nat) (s : State) : Host.Outcome State Fault Refusal :=
  done s (if port < 8 then s.creditReturn port ndr drs else s)

/-- WEDGE. R825: the credits have stayed exhausted. -/
def execWedge (port : Nat) (s : State) : Host.Outcome State Fault Refusal :=
  done s (if port < 8 then s.wedgeHold port else s)

/-- PME_TURN_OFF. R273: PME_Turn_Off. -/
def execPmeTurnOff (port : Nat) (s : State) : Host.Outcome State Fault Refusal :=
  done s (if port < 8 then s.pmeTurnOff port else s)

/-- QUIESCE_TIMEOUT. R273: 125 frames have passed. -/
def execQuiesceTimeout (port : Nat) (s : State) : Host.Outcome State Fault Refusal :=
  done s (if port < 8 then s.quiesceTimeout port else s)

/-- PM_STATE_WRITE. R271, R272: the host writes a function's power state (0 D0, 3 D3hot) and configuration registers. -/
def execPmStateWrite (fn : Option Nat) (st : Nat) (cfg : FnCfg) (s : State) : Host.Outcome State Fault Refusal :=
  done s (s.pmWrite fn st cfg)

/-- MSIX_UNMASK. R270: a vector is unmasked. -/
def execMsixUnmask (fn : Option Nat) (vec : Nat) (s : State) : Host.Outcome State Fault Refusal :=
  done s (s.msixUnmask fn vec)

/-- FLR. R234, R289: a function-level reset. -/
def execFlr (fn : Option Nat) (s : State) : Host.Outcome State Fault Refusal :=
  done s (s.flr fn)

/-- CXL_RESET. R234: a CXL Reset. -/
def execCxlReset (fn : Nat) (s : State) : Host.Outcome State Fault Refusal :=
  done s (s.cxlReset fn)

/-- IDE_KM. R220: a key-management message; kind 0 CXL.io link IDE, 1 selective IDE, 2 CXL.mem IDE. -/
def execIdeKm (port kind : Nat) (on : Bool) (s : State) : Host.Outcome State Fault Refusal :=
  done s (if port < 8 then s.ideKm port kind on else s)

/-- TENANT_PAGE_WRITE. R252 to R254: a host writes a doubleword of its tenant page. -/
def execTenantPageWrite (fn ofs : Nat) (v : Word32) (s : State) : Host.Outcome State Fault Refusal :=
  done s (s.tenantPageWrite fn ofs v)

/-- DOE_ABORT. R293: the data object in flight ends. -/
def execDoeAbort (fn : Option Nat) (s : State) : Host.Outcome State Fault Refusal :=
  done s (s.doeAbort fn)

end Sys2Proof.Machine
end

