-- ==== Sys2Proof/Machine/MailboxCmds.lean ====
section
/-!
DEFINITION. The mailbox and the fabric manager: one meaning for each command.
-/

namespace Sys2Proof.Machine

open Sys2Proof

/-- IDENTIFY. R222: Identify. -/
def execIdentify (fn : Option Nat) (s : State) : Host.Outcome State Fault Refusal :=
  done s (s.mailboxOp fn 0x0001 [])

/-- BACKGROUND_OPERATION_STATUS. R222, R250: Background Operation Status. -/
def execBackgroundOperationStatus (fn : Option Nat) (s : State) : Host.Outcome State Fault Refusal :=
  done s (s.mailboxOp fn 0x0002 [])

/-- GET_EVENT_RECORDS. R874: Get Event Records of a log (4 the dynamic-capacity log). -/
def execGetEventRecords (fn : Option Nat) (log : Nat) (s : State) : Host.Outcome State Fault Refusal :=
  done s (s.mailboxOp fn 0x0100 [log])

/-- CLEAR_EVENT_RECORDS. R222: Clear Event Records: the oldest `n`. -/
def execClearEventRecords (fn : Option Nat) (log n : Nat) (s : State) : Host.Outcome State Fault Refusal :=
  done s (s.mailboxOp fn 0x0101 [log, n])

/-- GET_EVENT_INTERRUPT_POLICY. R222: Get Event Interrupt Policy. -/
def execGetEventInterruptPolicy (fn : Option Nat) (s : State) : Host.Outcome State Fault Refusal :=
  done s (s.mailboxOp fn 0x0102 [])

/-- SET_EVENT_INTERRUPT_POLICY. R222: Set Event Interrupt Policy. -/
def execSetEventInterruptPolicy (fn : Option Nat) (policy : Nat) (s : State) : Host.Outcome State Fault Refusal :=
  done s (s.mailboxOp fn 0x0103 [policy])

/-- GET_FW_INFO. R950: Get FW Info. -/
def execGetFwInfo (fn : Option Nat) (s : State) : Host.Outcome State Fault Refusal :=
  done s (s.getFwInfo fn)

/-- TRANSFER_FW. R949: a part of an image for a slot; with the last part, what the whole image is: why it does not verify (0 it does, 1 header, 2 signature), version, SVN, ADVANCE. -/
def execTransferFw (fn : Option Nat) (slot : Nat) (last : Bool) (bad version svn : Nat) (advance : Bool) (s : State) : Host.Outcome State Fault Refusal :=
  answer { fw := true } s (s.transferFw fn slot last { present := true, bad := bad, version := version, svn := svn, advance := advance })

/-- ACTIVATE_FW. R950, R958: Activate FW; `written` says that the boot record could be written. -/
def execActivateFw (fn : Option Nat) (slot : Nat) (online written : Bool) (s : State) : Host.Outcome State Fault Refusal :=
  answer { fw := true } s (s.activateFw fn slot online written)

/-- GET_TIMESTAMP. R222: Get Timestamp. -/
def execGetTimestamp (fn : Option Nat) (s : State) : Host.Outcome State Fault Refusal :=
  done s (s.mailboxOp fn 0x0300 [])

/-- SET_TIMESTAMP. R222: Set Timestamp, in ns. -/
def execSetTimestamp (fn : Option Nat) (time : Nat) (s : State) : Host.Outcome State Fault Refusal :=
  done s (s.mailboxOp fn 0x0301 [time])

/-- GET_SUPPORTED_LOGS. R222: Get Supported Logs. -/
def execGetSupportedLogs (fn : Option Nat) (s : State) : Host.Outcome State Fault Refusal :=
  done s (s.mailboxOp fn 0x0400 [])

/-- GET_LOG. R222: Get Log. -/
def execGetLog (fn : Option Nat) (s : State) : Host.Outcome State Fault Refusal :=
  done s (s.mailboxOp fn 0x0401 [])

/-- IDENTIFY_MEMORY_DEVICE. R222: Identify Memory Device. -/
def execIdentifyMemoryDevice (fn : Option Nat) (s : State) : Host.Outcome State Fault Refusal :=
  done s (s.mailboxOp fn 0x4000 [])

/-- GET_HEALTH_INFO. R222: Get Health Info. -/
def execGetHealthInfo (fn : Option Nat) (s : State) : Host.Outcome State Fault Refusal :=
  done s (s.mailboxOp fn 0x4200 [])

/-- GET_POISON_LIST. R864: Get Poison List. -/
def execGetPoisonList (fn : Option Nat) (s : State) : Host.Outcome State Fault Refusal :=
  done s (s.mailboxOp fn 0x4300 [])

/-- INJECT_POISON. R222: Inject Poison, while debug is unlocked. -/
def execInjectPoison (fn : Option Nat) (line : Nat) (s : State) : Host.Outcome State Fault Refusal :=
  done s (s.mailboxOp fn 0x4301 [line])

/-- CLEAR_POISON. R222: Clear Poison, while debug is unlocked; the line takes the data. -/
def execClearPoison (fn : Option Nat) (line : Nat) (data : List Byte) (s : State) : Host.Outcome State Fault Refusal :=
  done s (s.mailboxOp fn 0x4302 (line :: data.map BitVec.toNat))

/-- GET_DC_CONFIG. R202, R222: Get DC Config. -/
def execGetDcConfig (fn : Option Nat) (s : State) : Host.Outcome State Fault Refusal :=
  done s (s.mailboxOp fn 0x4800 [])

/-- GET_DC_EXTENT_LIST. R222: Get DC Extent List. -/
def execGetDcExtentList (fn : Option Nat) (s : State) : Host.Outcome State Fault Refusal :=
  done s (s.mailboxOp fn 0x4801 [])

/-- ADD_DC_RESPONSE. R203, R222: Add DC Response. -/
def execAddDcResponse (fn : Option Nat) (base count : Nat) (accept : Bool) (s : State) : Host.Outcome State Fault Refusal :=
  done s (s.mailboxOp fn 0x4802 [base, count, if accept then 1 else 0])

/-- RELEASE_DC. R207: Release DC. -/
def execReleaseDc (fn : Option Nat) (base count : Nat) (s : State) : Host.Outcome State Fault Refusal :=
  done s (s.mailboxOp fn 0x4803 [base, count])

/-- GET_TENANT_STATUS. R222: Get Tenant Status; a tenant function's own whatever `t`. -/
def execGetTenantStatus (fn : Option Nat) (t : Nat) (s : State) : Host.Outcome State Fault Refusal :=
  done s (s.mailboxOp fn 0xC000 [t])

/-- GET_REGION_TAG. R204, R222: Get Region Tag. -/
def execGetRegionTag (fn : Option Nat) (granule : Nat) (s : State) : Host.Outcome State Fault Refusal :=
  done s (s.mailboxOp fn 0xC001 [granule])

/-- READ_CONTINUITY_LOG. R874: Read Continuity Log from a sequence number on. -/
def execReadContinuityLog (fn : Option Nat) (seq : Nat) (s : State) : Host.Outcome State Fault Refusal :=
  done s (s.mailboxOp fn 0xC002 [seq])

/-- GET_PORT_HOLD_STATUS. R222: Get Port Hold Status; a tenant function's own port whatever `port`. -/
def execGetPortHoldStatus (fn : Option Nat) (port : Nat) (s : State) : Host.Outcome State Fault Refusal :=
  done s (s.mailboxOp fn 0xC003 [port])

/-- MAILBOX_UNSUPPORTED. R222: an opcode the table does not list, or one its function is not permitted. -/
def execMailboxUnsupported (fn : Option Nat) (op : Nat) (s : State) : Host.Outcome State Fault Refusal :=
  done s (s.mailboxRefuses fn op)

/-- BACKGROUND_COMMAND_DONE. R250: the background command completes. -/
def execBackgroundCommandDone (s : State) : Host.Outcome State Fault Refusal :=
  done s s.bgDone

/-- INITIATE_DC_ADD. R203 to R205: the fabric manager adds an extent. -/
def execInitiateDcAdd (hid base count tag : Nat) (s : State) : Host.Outcome State Fault Refusal :=
  done s (if s.sys.cfgReady then s.dcAdd hid base count tag else s)

/-- INITIATE_DC_RELEASE. R207, R232: the fabric manager releases an extent, by request or by force. -/
def execInitiateDcRelease (hid base count : Nat) (forced : Bool) (s : State) : Host.Outcome State Fault Refusal :=
  done s (if s.sys.cfgReady then s.dcRelease hid base count forced else s)

/-- ADD_DC_EXTENT_REFERENCE. R223: Add or Remove DC Extent Reference. -/
def execAddDcExtentReference (tag : Nat) (add : Bool) (s : State) : Host.Outcome State Fault Refusal :=
  done s (s.dcReference tag add)

/-- GET_DCD_INFO. R202, R223: Get DCD Info: one region of 1 GiB blocks, and the capacity that can be bound. -/
def execGetDcdInfo (s : State) : Host.Outcome State Fault Refusal :=
  done s (s.fmReply mbOk [1, 1, s.bindMax])

/-- GET_HOST_DC_REGION_CONFIGURATION. R202: the fixed region: base 0, 262,144 blocks of 1 GiB; an LD that the port does not present is refused. -/
def execGetHostDcRegionConfiguration (port ld : Nat) (s : State) : Host.Outcome State Fault Refusal :=
  done s (if s.presents (fnKey port 0 ld) then s.fmReply mbOk [0, 262144, 1] else s.fmReply mbInvalid [])

/-- GET_DC_REGION_EXTENT_LISTS. R223: the extents an identity's LD holds. -/
def execGetDcRegionExtentLists (hid : Nat) (s : State) : Host.Outcome State Fault Refusal :=
  done s (s.fmReply mbOk ((s.extents.filter fun e => !e.offered && e.hid == hid).map fun e => [e.base, e.count, e.tag]).flatten)

/-- LIST_TAGS. R223: the tags in use. -/
def execListTags (s : State) : Host.Outcome State Fault Refusal :=
  done s (s.fmReply mbOk s.dcTags)

/-- SET_DC_REGION_CONFIGURATION. R223: Unsupported. -/
def execSetDcRegionConfiguration (s : State) : Host.Outcome State Fault Refusal :=
  done s (s.fmReply mbUnsupported [])

/-- FM_IDENTIFY. R223: Identify. -/
def execFmIdentify (s : State) : Host.Outcome State Fault Refusal :=
  done s (s.fmReply mbOk [0xB12F])

/-- GET_LD_INFO. R200, R223: Get LD Info: the LDs of a port and the capacity that can be bound. -/
def execGetLdInfo (port : Nat) (s : State) : Host.Outcome State Fault Refusal :=
  done s (if port < 8 then s.fmReply mbOk [s.lds port, s.bindMax] else s)

/-- GET_LD_ALLOCATIONS. R199, R223: Get LD Allocations. -/
def execGetLdAllocations (port : Nat) (s : State) : Host.Outcome State Fault Refusal :=
  done s (if port < 8 then s.fmReply mbOk [s.lds port] else s)

/-- SET_LD_ALLOCATIONS. R199, R223: Set LD Allocations. -/
def execSetLdAllocations (port n : Nat) (s : State) : Host.Outcome State Fault Refusal :=
  done s (if port < 8 then s.setLds port n else s)

/-- TUNNEL_MANAGEMENT_COMMAND. R223: a mailbox command for an LD. -/
def execTunnelManagementCommand (port ld op : Nat) (args : List Nat) (s : State) : Host.Outcome State Fault Refusal :=
  done s (if op = 0x0200 then (if s.sys.cfgReady && s.presents (fnKey port 0 ld) then (s.getFwInfo (some (fnKey port 0 ld))).emit (.fm mbOk []) else s.fmReply mbInvalid []) else s.fmTunnel port ld op args)

end Sys2Proof.Machine
end

