-- ==== Sys2Proof/Machine/ManagementCmds.lean ====
section
/-!
DEFINITION. The management path, MCTP, SPDM, registers, power and the test port: one meaning for each command.
-/

namespace Sys2Proof.Machine

open Sys2Proof

/-- WIN_CTL_WRITE. R255, R262: WIN_CTL. -/
def execWinCtlWrite (v : Word32) (s : State) : Host.Outcome State Fault Refusal :=
  done s (s.windowCtl true 0x000 v 0)

/-- WIN_LEASE_CLAIM. R262: WIN_LEASE.CLAIM. -/
def execWinLeaseClaim (s : State) : Host.Outcome State Fault Refusal :=
  done s (s.windowCtl true 0x008 0x100#32 0)

/-- WIN_LEASE_FREE. R262: WIN_LEASE.FREE. -/
def execWinLeaseFree (s : State) : Host.Outcome State Fault Refusal :=
  done s (s.windowCtl true 0x008 0x200#32 0)

/-- LEASE_CLAIM. R264: a Lease Claim message over MCTP or the relay. -/
def execLeaseClaim (src : MgmtSrc) (s : State) : Host.Outcome State Fault Refusal :=
  done s (s.leaseClaim src)

/-- LEASE_FREE. R264: a Lease Free message. -/
def execLeaseFree (src : MgmtSrc) (s : State) : Host.Outcome State Fault Refusal :=
  done s (s.leaseFree src)

/-- LEASE_TIMEOUT. R266: 125,000 frames without an access of the holder. -/
def execLeaseTimeout (s : State) : Host.Outcome State Fault Refusal :=
  done s s.leaseTimeout

/-- REGISTER_WRITE. R255 to R261, R897 to R899: a write on the management path; from the window `ofs` is the offset in the ROM BAR and `vals` the doublewords, `full` that every byte enable is set. -/
def execRegisterWrite (src : MgmtSrc) (ofs : Nat) (vals : List Word32) (full : Bool) (tag : Nat) (s : State) : Host.Outcome State Fault Refusal :=
  done s (s.srcWrite src ofs vals full tag)

/-- REGISTER_READ_CLEAR. R903: a read of a register with an RC field. -/
def execRegisterReadClear (src : MgmtSrc) (ofs tag : Nat) (s : State) : Host.Outcome State Fault Refusal :=
  done s (if s.isRc ofs then s.rowRead src ofs tag else s)

/-- LATCHED_PAIR_READ. R901: a read of a latching low word; TP_FRAME_LO for a tenant page. -/
def execLatchedPairRead (rd : Reader) (ofs tag : Nat) (s : State) : Host.Outcome State Fault Refusal :=
  done s (s.latchedPair rd ofs tag)

/-- WINDOW_CAPTURE_READ. R904: a read of the lowest word of a multi-word window. -/
def execWindowCaptureRead (src : MgmtSrc) (ofs tag : Nat) (s : State) : Host.Outcome State Fault Refusal :=
  done s (if (windowAt ofs).isSome then s.rowRead src ofs tag else s)

/-- REGISTER_READ. R252, R255 to R260, R898: a read of `n` doublewords through the window, or of one word by another reader. -/
def execRegisterRead (rd : Reader) (ofs n tag : Nat) (s : State) : Host.Outcome State Fault Refusal :=
  done s (s.readBy rd ofs n tag)

/-- REGISTER_WRITE_MCTP. R260: an MCTP Register Write message over SMBus or I3C. -/
def execRegisterWriteMctp (src : MgmtSrc) (ofs : Nat) (v : Word32) (tag : Nat) (s : State) : Host.Outcome State Fault Refusal :=
  done s (if src = .smbus ∨ src = .i3c then s.srcWrite src ofs [v] true tag else s)

/-- SET_ENDPOINT_ID. R280: Set Endpoint ID. -/
def execSetEndpointId (eid : Nat) (s : State) : Host.Outcome State Fault Refusal :=
  done s (s.setEid eid)

/-- GET_ENDPOINT_ID. R280: Get Endpoint ID. -/
def execGetEndpointId (s : State) : Host.Outcome State Fault Refusal :=
  done s s.getEid

/-- GET_MESSAGE_TYPE_SUPPORT. R280: Get Message Type Support. -/
def execGetMessageTypeSupport (s : State) : Host.Outcome State Fault Refusal :=
  done s s.getTypes

/-- GET_VERSION_MCTP. R280: Get MCTP Version Support. -/
def execGetVersionMctp (s : State) : Host.Outcome State Fault Refusal :=
  done s s.getMctpVersion

/-- GET_VERSION. R281: SPDM GET_VERSION. `via`: 0 MCTP, 1 the management function's DOE, 2 + k the DOE of function k. -/
def execGetVersion (via : Nat) (s : State) : Host.Outcome State Fault Refusal :=
  done s (s.spdmVersion via)

/-- GET_CAPABILITIES. R281: SPDM GET_CAPABILITIES. -/
def execGetCapabilities (via : Nat) (s : State) : Host.Outcome State Fault Refusal :=
  done s (s.spdmCapabilities via)

/-- NEGOTIATE_ALGORITHMS. R281: SPDM NEGOTIATE_ALGORITHMS; `offered` says that the requester offers the three algorithms. -/
def execNegotiateAlgorithms (via : Nat) (offered : Bool) (s : State) : Host.Outcome State Fault Refusal :=
  done s (s.spdmAlgorithms via offered)

/-- GET_DIGESTS. R281: SPDM GET_DIGESTS. -/
def execGetDigests (via : Nat) (s : State) : Host.Outcome State Fault Refusal :=
  done s (s.spdmQuery via 0x81)

/-- GET_CERTIFICATE. R281: SPDM GET_CERTIFICATE. -/
def execGetCertificate (via : Nat) (s : State) : Host.Outcome State Fault Refusal :=
  done s (s.spdmQuery via 0x82)

/-- CHALLENGE. R281: SPDM CHALLENGE. -/
def execChallenge (via : Nat) (s : State) : Host.Outcome State Fault Refusal :=
  done s (s.spdmQuery via 0x83)

/-- GET_MEASUREMENTS. R281: SPDM GET_MEASUREMENTS. -/
def execGetMeasurements (via : Nat) (s : State) : Host.Outcome State Fault Refusal :=
  done s (s.spdmQuery via 0xE0)

/-- KEY_EXCHANGE. R281: SPDM KEY_EXCHANGE, with requester authentication or without. -/
def execKeyExchange (via : Nat) (both : Bool) (s : State) : Host.Outcome State Fault Refusal :=
  done s (s.spdmKeyExchange via both)

/-- FINISH. R281: SPDM FINISH; `ok` says that it verifies. -/
def execSpdmFinish (via : Nat) (ok : Bool) (s : State) : Host.Outcome State Fault Refusal :=
  done s (s.spdmFinishOp via ok)

/-- HEARTBEAT. R281: SPDM HEARTBEAT. -/
def execHeartbeat (via : Nat) (s : State) : Host.Outcome State Fault Refusal :=
  done s (s.spdmHeartbeat via)

/-- HEARTBEAT_MISSED. R293: a session misses its heartbeat. -/
def execHeartbeatMissed (via : Nat) (s : State) : Host.Outcome State Fault Refusal :=
  done s (s.spdmMissed via)

/-- KEY_UPDATE. R281, R734: SPDM KEY_UPDATE. -/
def execKeyUpdate (via : Nat) (s : State) : Host.Outcome State Fault Refusal :=
  done s (s.spdmKeyUpdate via)

/-- END_SESSION. R281: SPDM END_SESSION. -/
def execEndSession (via : Nat) (s : State) : Host.Outcome State Fault Refusal :=
  done s (s.spdmEnd via)

/-- DELIVER_KEY. R155, R159, R282: DELIVER_KEY for a tenant. -/
def execDeliverKey (via t key : Nat) (chain : Bool) (s : State) : Host.Outcome State Fault Refusal :=
  done s (if t < 128 then s.deliverKey via t key chain else s)

/-- UNLOCK_DEBUG. R934: UNLOCK_DEBUG; `token` says that the token verifies. -/
def execUnlockDebug (via : Nat) (token : Bool) (s : State) : Host.Outcome State Fault Refusal :=
  answer { debug := true } s (s.unlockDebug via token)

/-- EVT_STAT_CLEAR. R882, R914: a write of EVT_STAT of a page. -/
def execEvtStatClear (src : MgmtSrc) (page : Nat) (v : Word32) (s : State) : Host.Outcome State Fault Refusal :=
  done s (s.rowWrite src (ofsOf page 0x14) v)

/-- EVT_ENA_WRITE. R908: a write of EVT_ENA of a page. -/
def execEvtEnaWrite (src : MgmtSrc) (page : Nat) (v : Word32) (s : State) : Host.Outcome State Fault Refusal :=
  done s (s.rowWrite src (ofsOf page 0x18) v)

/-- EVT_FORCE. R892: a write of EVT_FORCE of a page. -/
def execEvtForce (src : MgmtSrc) (page : Nat) (v : Word32) (s : State) : Host.Outcome State Fault Refusal :=
  done s (s.rowWrite src (ofsOf page 0x1C) v)

/-- VMAP_DATA_WRITE. R915: a write of VMAP_DATA. -/
def execVmapDataWrite (src : MgmtSrc) (v : Word32) (s : State) : Host.Outcome State Fault Refusal :=
  done s (s.rowWrite src (ofsOf pgSYS 0x74) v)

/-- DAILY_SEL_WRITE. R911: a write of DAILY_SEL; `damaged` says that the record fails its ECC or CHECK from now on. -/
def execDailySelWrite (src : MgmtSrc) (reel : Nat) (damaged : Bool) (s : State) : Host.Outcome State Fault Refusal :=
  done s ((s.damageDaily reel damaged).rowWrite src (ofsOf pgSYS 0x90) (BitVec.ofNat 32 reel))

/-- RD_SEQ_WRITE. R873: a write of CLOG.RD_SEQ. -/
def execRdSeqWrite (src : MgmtSrc) (seq : Nat) (s : State) : Host.Outcome State Fault Refusal :=
  done s (s.rowWrite src (ofsOf pgCLOG 0x4C) (BitVec.ofNat 32 seq))

/-- LOG_OVERFLOW. R870: the drops are logged. -/
def execLogOverflow (s : State) : Host.Outcome State Fault Refusal :=
  done s s.logOverflow

/-- LOG_RING_UE. R883, R884: a run of entries is lost. -/
def execLogRingUe (first n : Nat) (s : State) : Host.Outcome State Fault Refusal :=
  done s (s.logRingUe first n)

/-- HUB_UE. R875: an uncorrectable error in a control structure of the hub. -/
def execHubUe (part : Nat) (s : State) : Host.Outcome State Fault Refusal :=
  done s (s.hubUe part)

/-- DIE_LINK. R875: a press die's link is lost. -/
def execDieLink (die : Nat) (s : State) : Host.Outcome State Fault Refusal :=
  done s (if die < 4 then s.dieLink die else s)

/-- MGMT_WATCHDOG. R875: Keaquin fails its watchdog. -/
def execMgmtWatchdog (s : State) : Host.Outcome State Fault Refusal :=
  answer { fw := true } s s.mgmtWatchdog

/-- RAIL_FAULT. R925: a monitored rail is outside its limits. -/
def execRailFault (rail : Nat) (s : State) : Host.Outcome State Fault Refusal :=
  done s (s.railFault rail)

/-- THERMAL_TRIP. R948: a sensor reads 110 °C or more. -/
def execThermalTrip (sensor deg : Nat) (s : State) : Host.Outcome State Fault Refusal :=
  done s (s.thermalTrip sensor deg)

/-- THERM_EMERGENCY. R946: a sensor reads T_EMERG or more. -/
def execThermEmergency (sensor deg : Nat) (s : State) : Host.Outcome State Fault Refusal :=
  done s (s.thermEmergency sensor deg)

/-- SENSOR_FAULT. R959: a sensor has given no plausible reading for 8 frames. -/
def execSensorFault (sensor : Nat) (s : State) : Host.Outcome State Fault Refusal :=
  done s (s.sensorFault sensor)

/-- PWR_REQ_RUN. R942: PWR_REQ with STATE RUN. -/
def execPwrReqRun (src : MgmtSrc) (autoWake : Bool) (s : State) : Host.Outcome State Fault Refusal :=
  done s (s.rowWrite src (ofsOf (pgPRESS 0) 0x100) (pwrWord 0 autoWake))

/-- PWR_REQ_TRIM. R939, R940: PWR_REQ with STATE TRIM. -/
def execPwrReqTrim (src : MgmtSrc) (autoWake : Bool) (s : State) : Host.Outcome State Fault Refusal :=
  done s (s.rowWrite src (ofsOf (pgPRESS 0) 0x100) (pwrWord 1 autoWake))

/-- PWR_REQ_IDLE. R939, R941: PWR_REQ with STATE IDLE. -/
def execPwrReqIdle (src : MgmtSrc) (autoWake : Bool) (s : State) : Host.Outcome State Fault Refusal :=
  done s (s.rowWrite src (ofsOf (pgPRESS 0) 0x100) (pwrWord 2 autoWake))

/-- PWR_REQ_OFF. R943: PWR_REQ with STATE OFF. -/
def execPwrReqOff (src : MgmtSrc) (autoWake : Bool) (s : State) : Host.Outcome State Fault Refusal :=
  done s (s.rowWrite src (ofsOf (pgPRESS 0) 0x100) (pwrWord 3 autoWake))

/-- WAKE_COMPLETE. R942: a wake reaches RUN. -/
def execWakeComplete (s : State) : Host.Outcome State Fault Refusal :=
  done s s.wakeComplete

/-- ESCROW_UE. R833: an uncorrectable error in the unit `ix` of an escrow. -/
def execEscrowUe (sel port ix : Nat) (s : State) : Host.Outcome State Fault Refusal :=
  done s (s.escrowUe sel port ix)

/-- SVC_DRAIN. R838: REQ 1 of a unit; lanes and engines are those their index registers select. -/
def execSvcDrain (src : MgmtSrc) (kind inst : Nat) (s : State) : Host.Outcome State Fault Refusal :=
  done s (s.svcRow src kind inst 1)

/-- SVC_RETURN. R838: REQ 2 of a unit. -/
def execSvcReturn (src : MgmtSrc) (kind inst : Nat) (s : State) : Host.Outcome State Fault Refusal :=
  done s (s.svcRow src kind inst 2)

/-- UNIT_DRAINED. R837: a unit's drained condition holds. -/
def execUnitDrained (kind inst : Nat) (s : State) : Host.Outcome State Fault Refusal :=
  done s (
    match kindOf kind with
      | some k => if inst < k.count then s.unitDrained k inst else s
      | none => s)

/-- QUARANTINE_DONE. R842: the tests of a unit's quarantine end: the test that failed, if any, and what they found lost. -/
def execQuarantineDone (kind inst : Nat) (failed : Option Nat) (lost : List (Nat × Nat)) (s : State) : Host.Outcome State Fault Refusal :=
  done s (
    match kindOf kind with
      | some k => if inst < k.count then s.quarDone k inst failed lost else s
      | none => s)

/-- QUARANTINE_TIMEOUT. R837: QUAR_TO scenes have passed. -/
def execQuarantineTimeout (kind inst : Nat) (s : State) : Host.Outcome State Fault Refusal :=
  done s (
    match kindOf kind with
      | some k => if inst < k.count then s.quarTimeout k inst else s
      | none => s)

/-- TRST_ASSERT. R987: TRST#. -/
def execTrstAssert (s : State) : Host.Outcome State Fault Refusal :=
  answer { tap := true } s s.trst

/-- BYPASS. R986: BYPASS. -/
def execBypass (s : State) : Host.Outcome State Fault Refusal :=
  answer { tap := true } s (s.tapLoad .bypass Config.step)

/-- IDCODE. R986: IDCODE. -/
def execIdcode (s : State) : Host.Outcome State Fault Refusal :=
  answer { tap := true } s (s.tapLoad .idcode Config.step)

/-- SAMPLE_PRELOAD. R986: SAMPLE/PRELOAD. -/
def execSamplePreload (s : State) : Host.Outcome State Fault Refusal :=
  answer { tap := true } s (s.tapLoad .sample Config.step)

/-- EXTEST. R986: EXTEST. -/
def execExtest (s : State) : Host.Outcome State Fault Refusal :=
  answer { tap := true } s (s.tapLoad .extest Config.step)

/-- JTAG_OTHER_INSTRUCTION. R986: any other instruction. -/
def execJtagOtherInstruction (s : State) : Host.Outcome State Fault Refusal :=
  answer { tap := true } s (s.tapLoad .other Config.step)

end Sys2Proof.Machine
end

