-- ==== Sys2Proof/Machine/MemoryCmds.lean ====
section
/-!
DEFINITION. The memory path, the tier manager, tenants and the directory: one meaning for each command.
-/

namespace Sys2Proof.Machine

open Sys2Proof

/-- MEM_RD. R97 to R100, R137, R149: a MemRd is received. -/
def execMemRd (m : MemReq) (s : State) : Host.Outcome State Fault Refusal :=
  done s ((s.hostReceive .rd m).notePeaks)

/-- MEM_RD_DATA. R302: a MemRdData. -/
def execMemRdData (m : MemReq) (s : State) : Host.Outcome State Fault Refusal :=
  done s ((s.hostReceive .rdData m).notePeaks)

/-- MEM_INV. R302: a MemInv; its response carries no data. -/
def execMemInv (m : MemReq) (s : State) : Host.Outcome State Fault Refusal :=
  done s ((s.hostReceive .inv m).notePeaks)

/-- MEM_WR. R101: a MemWr of a whole line. -/
def execMemWr (m : MemReq) (s : State) : Host.Outcome State Fault Refusal :=
  done s ((s.hostReceive .wr m).notePeaks)

/-- MEM_WR_PTL. R101, R496: a MemWrPtl. -/
def execMemWrPtl (m : MemReq) (s : State) : Host.Outcome State Fault Refusal :=
  done s ((s.hostReceive .wrPtl m).notePeaks)

/-- HUB_REQUEST_ADMIT. R357, R358, R363, R365: waiting requests of a port, and peers' jobs, are admitted as entries and buckets allow. -/
def execHubRequestAdmit (port : Nat) (s : State) : Host.Outcome State Fault Refusal :=
  done s (if port < 8 then (s.hubAdmit port).notePeaks else s)

/-- HELD_WRITE_APPLY. R101: the held writes of a page that is OPEN are applied in order. -/
def execHeldWriteApply (page : Nat) (s : State) : Host.Outcome State Fault Refusal :=
  done s (s.applyHeld page)

/-- WAIT_EXPIRED. R115: an allocation has waited WAIT_LIMIT frames. -/
def execWaitExpired (t : Nat) (folded : Bool) (s : State) : Host.Outcome State Fault Refusal :=
  done s (if t < 128 then s.waitExpired t folded else s)

/-- FLOOR_WRITE. R110: OPEN_FLOOR or FOLD_FLOOR of a tenant is written. -/
def execFloorWrite (src : MgmtSrc) (t : Nat) (folded : Bool) (v : Word32) (s : State) : Host.Outcome State Fault Refusal :=
  done s (if t < 128 then s.rowWrite src (ofsOf (pgTEN t) (if folded then 0x104 else 0x100)) v else s)

/-- FLOOR_INCREASE_EFFECT. R111: OVF_FREE covers the increase. -/
def execFloorIncreaseEffect (t : Nat) (s : State) : Host.Outcome State Fault Refusal :=
  done s (if t < 128 then s.floorEffect t else s)

/-- CALL_DEADLINE. R121, R122: a call is judged at its deadline scene. -/
def execCallDeadline (slot : Nat) (s : State) : Host.Outcome State Fault Refusal :=
  done s (s.callJudge slot)

/-- CALL_RELEASE. R119: the grace scenes of a call are over. -/
def execCallRelease (slot : Nat) (s : State) : Host.Outcome State Fault Refusal :=
  done s (s.callRelease slot)

/-- HID_READ. R139: HID_CMD READ. -/
def execHidRead (src : MgmtSrc) (s : State) : Host.Outcome State Fault Refusal :=
  done s (s.rowWrite src (ofsOf pgTEN128 0x4C) 1#32)

/-- HID_WRITE. R139: HID_CMD WRITE. -/
def execHidWrite (src : MgmtSrc) (s : State) : Host.Outcome State Fault Refusal :=
  done s (s.rowWrite src (ofsOf pgTEN128 0x4C) 2#32)

/-- HID_INVALIDATE. R140: HID_CMD INVALIDATE. -/
def execHidInvalidate (src : MgmtSrc) (s : State) : Host.Outcome State Fault Refusal :=
  done s (s.rowWrite src (ofsOf pgTEN128 0x4C) 3#32)

/-- RGN_READ. R147: RGN_CMD READ. -/
def execRgnRead (src : MgmtSrc) (s : State) : Host.Outcome State Fault Refusal :=
  done s (s.rowWrite src (ofsOf pgTEN128 0x74) 1#32)

/-- RGN_BIND. R143: RGN_CMD BIND. -/
def execRgnBind (src : MgmtSrc) (s : State) : Host.Outcome State Fault Refusal :=
  done s (s.rowWrite src (ofsOf pgTEN128 0x74) 2#32)

/-- RGN_UNBIND. R145: RGN_CMD UNBIND. -/
def execRgnUnbind (src : MgmtSrc) (s : State) : Host.Outcome State Fault Refusal :=
  done s (s.rowWrite src (ofsOf pgTEN128 0x74) 3#32)

/-- UNBIND_DONE. R145: the release work of an unbind is done. -/
def execUnbindDone (idx : Nat) (s : State) : Host.Outcome State Fault Refusal :=
  done s (s.unbindDone idx)

/-- SET_SHARERS. R146: RGN_CMD SET_SHARERS. -/
def execSetSharers (src : MgmtSrc) (s : State) : Host.Outcome State Fault Refusal :=
  done s (s.rowWrite src (ofsOf pgTEN128 0x74) 4#32)

/-- ID_ENTRY_FAULT. R184: an identity entry fails its check; it ends at the next step 2. -/
def execIdEntryFault (idx : Nat) (s : State) : Host.Outcome State Fault Refusal :=
  done s (if idx < 1024 then s.queueCmd (.hidFault idx) else s)

/-- RANGE_ENTRY_FAULT. R185: a range entry fails its check. -/
def execRangeEntryFault (idx : Nat) (s : State) : Host.Outcome State Fault Refusal :=
  done s (if idx < 4096 then s.rangeFault idx else s)

/-- KEY_SLOT_FAULT. R186: a key slot fails its check. -/
def execKeySlotFault (t : Nat) (s : State) : Host.Outcome State Fault Refusal :=
  done s (if t < 128 then s.keyFault t else s)

/-- ROTATE. R159: KEY_CTL.ROTATE of the selected tenant. -/
def execRotate (src : MgmtSrc) (s : State) : Host.Outcome State Fault Refusal :=
  done s (s.rowWrite src (ofsOf pgKEY 0x44) 1#32)

/-- REQ_SEAL. R163 to R165: SEAL_CTL.REQ_SEAL. -/
def execReqSeal (src : MgmtSrc) (t : Nat) (s : State) : Host.Outcome State Fault Refusal :=
  done s (if t < 128 then s.rowWrite src (ofsOf (pgTEN t) 0x40) 1#32 else s)

/-- REQ_UNSEAL. R165, R166: SEAL_CTL.REQ_UNSEAL. -/
def execReqUnseal (src : MgmtSrc) (t : Nat) (s : State) : Host.Outcome State Fault Refusal :=
  done s (if t < 128 then s.rowWrite src (ofsOf (pgTEN t) 0x40) 2#32 else s)

/-- BIRSP. R323, R329, R343: a BIRsp; `rsp` 0 I, 1 S, 2 E; `dirty` says that a write-back follows. -/
def execBirsp (port link src line rsp : Nat) (dirty : Bool) (s : State) : Host.Outcome State Fault Refusal :=
  done s (if port < 8 then (s.birsp port link src line rsp dirty).notePeaks else s)

/-- BICONFLICT. R334: a BIConflict. -/
def execBiconflict (port link src line tag : Nat) (s : State) : Host.Outcome State Fault Refusal :=
  done s (if port < 8 then s.biconflict port link src line tag else s)

/-- RWD_WRITEBACK. R322, R820: a write-back under a recall. -/
def execRwdWriteback (m : MemReq) (s : State) : Host.Outcome State Fault Refusal :=
  done s (if m.port < 8 then (s.writeback m).notePeaks else s)

/-- RECALL_DEADLINE. R326: a snoop of a transaction on a line (or of a recall for a backing node) has no answer in time. -/
def execRecallDeadline (line : Nat) (forBacking : Bool) (hid : Nat) (s : State) : Host.Outcome State Fault Refusal :=
  done s (s.recallDeadline (if forBacking then recallKey line else line) hid)

/-- BULK_CLEAR_DONE. R327: a bulk clear ends. -/
def execBulkClearDone (hid : Nat) (s : State) : Host.Outcome State Fault Refusal :=
  done s (s.bulkClearDone hid)

/-- LOST_CLEAR. R330: LOST_CTL.CLEAR. -/
def execLostClear (src : MgmtSrc) (s : State) : Host.Outcome State Fault Refusal :=
  done s (s.rowWrite src (ofsOf pgDIR 0x58) 1#32)

/-- GEN_ADVANCE. R332: a waiting generation advance proceeds. -/
def execGenAdvance (hid : Nat) (s : State) : Host.Outcome State Fault Refusal :=
  done s (s.genProceed hid)

/-- RES_DRAINED. R316: the drain of a sealed tenant's directory blocks is complete. -/
def execResDrained (t : Nat) (s : State) : Host.Outcome State Fault Refusal :=
  done s (if t < 128 then s.resDrained t else s)

/-- RGL_CLASS_WRITE. R356, R373: a class register (offset 0x44 to 0x50) of the selected class. -/
def execRglClassWrite (src : MgmtSrc) (r : Nat) (v : Word32) (s : State) : Host.Outcome State Fault Refusal :=
  done s (if 0x44 ≤ r ∧ r ≤ 0x50 then s.rowWrite src (ofsOf pgRGL r) v else s)

/-- BUCKET_WRITE. R366: a bucket register of a tenant. -/
def execBucketWrite (src : MgmtSrc) (t : Nat) (hi : Bool) (v : Word32) (s : State) : Host.Outcome State Fault Refusal :=
  done s (if t < 128 then s.rowWrite src (ofsOf (pgTEN t) (if hi then 0x124 else 0x120)) v else s)

end Sys2Proof.Machine
end

