-- ==== Sys2Proof/Machine/PressCmds.lean ====
section
/-!
DEFINITION. Presses, jobs, lays and calibration: one meaning for each command.
-/

namespace Sys2Proof.Machine

open Sys2Proof

/-- STRIKE. R611 to R616, R628, R639, R843: a strike position of a press; the arrays whose reference columns fail, the seam hops whose CRC fails (and again on the resend), and whether a shadow strike agrees. -/
def execStrike (press pos : Nat) (margins : List (Nat × Nat)) (seams : List (Nat × Bool)) (agrees : Bool) (s : State) : Host.Outcome State Fault Refusal :=
  done s (if press < 288 ∧ pos < 10 then s.strike press pos margins seams agrees else s)

/-- ACC_FAULT. R640: a gang accumulator errs. -/
def execAccFault (press ctx : Nat) (s : State) : Host.Outcome State Fault Refusal :=
  done s (if press < 288 then s.accFault press ctx else s)

/-- DECK_OWN_WRITE. R623: DECK_OWN. -/
def execDeckOwnWrite (src : MgmtSrc) (press : Nat) (v : Word32) (s : State) : Host.Outcome State Fault Refusal :=
  done s (if press < 288 then s.rowWrite src (ofsOf (pgPRESS press) 0x44) v else s)

/-- PART_WRITE. R626: PART0 to PART2. -/
def execPartWrite (src : MgmtSrc) (press part : Nat) (v : Word32) (s : State) : Host.Outcome State Fault Refusal :=
  done s (if press < 288 ∧ part < 3 then s.rowWrite src (ofsOf (pgPRESS press) (0x50 + 4 * part)) v else s)

/-- JOB_ADMIT. R648: a waiting job is admitted. -/
def execJobAdmit (cue : Nat) (s : State) : Host.Outcome State Fault Refusal :=
  done s (s.jobAdmit cue)

/-- PROLOGUE_VECTOR. R650 to R653: the next vector of a job on the press `i` of its chain. -/
def execPrologueVector (cue i : Nat) (env : List (Nat × ReadEnv)) (s : State) : Host.Outcome State Fault Refusal :=
  done s (s.prologue cue i env)

/-- EPILOGUE_VECTOR. R654 to R662: the next vector of a job on its tail. -/
def execEpilogueVector (cue : Nat) (env : List (Nat × ReadEnv)) (s : State) : Host.Outcome State Fault Refusal :=
  done s (s.epilogue cue env)

/-- JOB_COMPLETE. R667: every vector of a job is applied. -/
def execJobComplete (cue : Nat) (s : State) : Host.Outcome State Fault Refusal :=
  done s (s.jobComplete cue)

/-- PE_PARITY. R676: a prologue or epilogue unit errs. -/
def execPeParity (cue i unit : Nat) (s : State) : Host.Outcome State Fault Refusal :=
  done s (s.peParity cue i unit)

/-- LAY_START. R683, R684: an accepted lay starts. -/
def execLayStart (cue : Nat) (s : State) : Host.Outcome State Fault Refusal :=
  done s (s.layStart cue)

/-- LAY_ROUND. R685 to R688: a lay position: per array, how its rows verify, the rows that slipped, and whether it was starved of its weights. -/
def execLayRound (cue pos : Nat) (outs : List (Nat × List Bool × List (Nat × List Bool) × Bool)) (env : List (Nat × ReadEnv)) (s : State) : Host.Outcome State Fault Refusal :=
  done s (if pos < 10 then s.layRound cue pos outs env else s)

/-- LAY_COMMIT. R691: a lay commits. -/
def execLayCommit (cue : Nat) (s : State) : Host.Outcome State Fault Refusal :=
  done s (s.layCommit cue)

/-- LAY_HOLD. R689: the VPROG monitor reads `mv` millivolts. -/
def execLayHold (mv : Nat) (s : State) : Host.Outcome State Fault Refusal :=
  done s (s.vprog mv)

/-- HOLD_TIMEOUT. R690: a lay has been held for HOLD_MAX scenes. -/
def execHoldTimeout (cue : Nat) (s : State) : Host.Outcome State Fault Refusal :=
  done s (s.holdTimeout cue)

/-- CALIBRATION. R697 to R700: a due calibration of a deck: the arrays found drifted, and those that cannot be calibrated. -/
def execCalibration (press deck pos : Nat) (drifted failed : List Nat) (s : State) : Host.Outcome State Fault Refusal :=
  done s (if press < 288 ∧ deck < 4 ∧ pos < 10 then s.calibrate press deck pos drifted failed else s)

/-- SWATCH_STORE. R703 to R706: a due swatch store is written or fails. -/
def execSwatchStore (fails : Bool) (s : State) : Host.Outcome State Fault Refusal :=
  done s (s.swatchStore fails)

/-- STORE_NOW. R707: STORE_CMD.NOW. -/
def execStoreNow (src : MgmtSrc) (s : State) : Host.Outcome State Fault Refusal :=
  done s (s.rowWrite src (ofsOf (pgPRESS 0) 0xDC) 1#32)

end Sys2Proof.Machine
end

