-- ==== Sys2Proof/Machine/SystemCmds.lean ====
section
/-!
DEFINITION. Start-up, resets, frames and sync: one meaning for each command.
-/

namespace Sys2Proof.Machine

open Sys2Proof

/-- DEVICE_RESET. R924, R925: everything but what survives returns to its reset state. -/
def execDeviceReset (s : State) : Host.Outcome State Fault Refusal :=
  answer ⟨true, true, true, true, true, true, true⟩ s s.deviceReset

/-- RST_N_DEASSERT. R926, R931, R935: straps, boot ROM, start-up. -/
def execRstNDeassert (env : BootEnv) (s : State) : Host.Outcome State Fault Refusal :=
  answer ⟨true, true, true, true, true, true, true⟩ s (s.rstDeassert env)

/-- RNG_HEALTH_TEST. R187, R936: a health test of the generator ends. -/
def execRngHealthTest (ok : Bool) (s : State) : Host.Outcome State Fault Refusal :=
  answer { boot := true } s (s.rngTest ok)

/-- MEMORY_ACTIVE. R935, R937: every start-up step is done. -/
def execMemoryActive (s : State) : Host.Outcome State Fault Refusal :=
  answer { active := true, fw := true } s s.memoryActive

/-- CONFIG_READY. R295: the functions of a port are ready. -/
def execConfigReady (port : Nat) (s : State) : Host.Outcome State Fault Refusal :=
  done s (if port < 8 then s.configReady port else s)

/-- PERST_DEASSERT. R194, R244, R926: PERST# rises; the straps as sampled. -/
def execPerstDeassert (port : Nat) (bifurc mgmtEn : Bool) (mgmtPort : Nat) (s : State) : Host.Outcome State Fault Refusal :=
  done s (if port < 8 then s.perstDeassert port bifurc mgmtEn (mgmtPort % 8) else s)

/-- PERST_ASSERT. R274: PERST# falls. -/
def execPerstAssert (port : Nat) (s : State) : Host.Outcome State Fault Refusal :=
  done s (if port < 8 then s.perstAssert port else s)

/-- FRAME_EDGE. R45: steps 1 to 7. -/
def execFrameEdge (env : EdgeEnv) (s : State) : Host.Outcome State Fault Refusal :=
  answer { num := true } s (s.frameEdge env)

/-- TAKEOVER. R60: a STANDBY node without a valid marker for T reels becomes clock node. -/
def execTakeover (s : State) : Host.Outcome State Fault Refusal :=
  done s s.takeover

/-- SYNC_COAST_TIMEOUT. R54, R66: COAST for L reels without a valid marker. -/
def execSyncCoastTimeout (s : State) : Host.Outcome State Fault Refusal :=
  done s s.coastTimeout

/-- FRAME_PLL_UNLOCK. R75: the PLL loses lock; the node enters LOST. -/
def execFramePllUnlock (s : State) : Host.Outcome State Fault Refusal :=
  done s s.pllUnlock

/-- FRAME_PLL_RELOCK. R75: the PLL is locked again. -/
def execFramePllRelock (s : State) : Host.Outcome State Fault Refusal :=
  done s (if s.frame.started then { s with frame := { s.frame with pll := true } } else s)

/-- FRAME_IN_PULSE. R65: a rising edge of FRAME_IN, `ofs` (0.125 ns) after the own edge, and the width of its pulse in ns. -/
def execFrameInPulse (ofs : Int) (width : Nat) (s : State) : Host.Outcome State Fault Refusal :=
  answer { num := true } s (if s.frame.started then s.frameIn ofs width else s)

/-- SLATE_DATA_WRITE. R13, R33, R35: owner codes for the shadow bank. -/
def execSlateDataWrite (src : MgmtSrc) (v : Word32) (s : State) : Host.Outcome State Fault Refusal :=
  done s (s.rowWrite src (ofsOf pgFRAME 0x6C) v)

/-- SLATE_SWAP_REQUEST. R33: SLATE_CTL.SWAP. -/
def execSlateSwapRequest (src : MgmtSrc) (s : State) : Host.Outcome State Fault Refusal :=
  done s (s.rowWrite src (ofsOf pgFRAME 0x64) 2#32)

/-- RESEAT_REQUEST. R59: SYNC_CTL.RESEAT, beside the fields of `v`. -/
def execReseatRequest (src : MgmtSrc) (v : Word32) (s : State) : Host.Outcome State Fault Refusal :=
  done s (s.rowWrite src (ofsOf pgFRAME 0x48) (v ||| 0x200#32))

end Sys2Proof.Machine
end

