-- ==== Sys2Proof/Machine/Dispatch.lean ====
section
/-!
DEFINITION. One arm for each command: its meaning, or its rejection by name.
-/

namespace Sys2Proof.Machine

open Sys2Proof

/-- The effect of a command on everything but the queue. -/
def exec (i : Instr) (s : State) : Host.Outcome State Fault Refusal :=
  match i with
  | .deviceReset => Sys2Proof.Machine.execDeviceReset s
  | .rstNDeassert env => Sys2Proof.Machine.execRstNDeassert env s
  | .rngHealthTest ok => Sys2Proof.Machine.execRngHealthTest ok s
  | .memoryActive => Sys2Proof.Machine.execMemoryActive s
  | .configReady port => Sys2Proof.Machine.execConfigReady port s
  | .perstDeassert port bifurc mgmtEn mgmtPort => Sys2Proof.Machine.execPerstDeassert port bifurc mgmtEn mgmtPort s
  | .perstAssert port => Sys2Proof.Machine.execPerstAssert port s
  | .frameEdge env => Sys2Proof.Machine.execFrameEdge env s
  | .takeover => Sys2Proof.Machine.execTakeover s
  | .syncCoastTimeout => Sys2Proof.Machine.execSyncCoastTimeout s
  | .framePllUnlock => Sys2Proof.Machine.execFramePllUnlock s
  | .frameInPulse ofs width => Sys2Proof.Machine.execFrameInPulse ofs width s
  | .slateDataWrite src v => Sys2Proof.Machine.execSlateDataWrite src v s
  | .slateSwapRequest src => Sys2Proof.Machine.execSlateSwapRequest src s
  | .reseatRequest src v => Sys2Proof.Machine.execReseatRequest src v s
  | .memRd m => Sys2Proof.Machine.execMemRd m s
  | .memRdData m => Sys2Proof.Machine.execMemRdData m s
  | .memInv m => Sys2Proof.Machine.execMemInv m s
  | .memWr m => Sys2Proof.Machine.execMemWr m s
  | .memWrPtl m => Sys2Proof.Machine.execMemWrPtl m s
  | .hubRequestAdmit port => Sys2Proof.Machine.execHubRequestAdmit port s
  | .heldWriteApply page => Sys2Proof.Machine.execHeldWriteApply page s
  | .waitExpired t folded => Sys2Proof.Machine.execWaitExpired t folded s
  | .floorWrite src t folded v => Sys2Proof.Machine.execFloorWrite src t folded v s
  | .floorIncreaseEffect t => Sys2Proof.Machine.execFloorIncreaseEffect t s
  | .callDeadline slot => Sys2Proof.Machine.execCallDeadline slot s
  | .callRelease slot => Sys2Proof.Machine.execCallRelease slot s
  | .hidRead src => Sys2Proof.Machine.execHidRead src s
  | .hidWrite src => Sys2Proof.Machine.execHidWrite src s
  | .hidInvalidate src => Sys2Proof.Machine.execHidInvalidate src s
  | .rgnRead src => Sys2Proof.Machine.execRgnRead src s
  | .rgnBind src => Sys2Proof.Machine.execRgnBind src s
  | .rgnUnbind src => Sys2Proof.Machine.execRgnUnbind src s
  | .unbindDone idx => Sys2Proof.Machine.execUnbindDone idx s
  | .setSharers src => Sys2Proof.Machine.execSetSharers src s
  | .idEntryFault idx => Sys2Proof.Machine.execIdEntryFault idx s
  | .rangeEntryFault idx => Sys2Proof.Machine.execRangeEntryFault idx s
  | .keySlotFault t => Sys2Proof.Machine.execKeySlotFault t s
  | .rotate src => Sys2Proof.Machine.execRotate src s
  | .reqSeal src t => Sys2Proof.Machine.execReqSeal src t s
  | .reqUnseal src t => Sys2Proof.Machine.execReqUnseal src t s
  | .linkUp port link rate width cxl f256 viral ndr drs => Sys2Proof.Machine.execLinkUp port link rate width cxl f256 viral ndr drs s
  | .linkDown port link => Sys2Proof.Machine.execLinkDown port link s
  | .uncorr port => Sys2Proof.Machine.execUncorr port s
  | .ideFailure port => Sys2Proof.Machine.execIdeFailure port s
  | .viralRx port => Sys2Proof.Machine.execViralRx port s
  | .flitDown port link rate width => Sys2Proof.Machine.execFlitDown port link rate width s
  | .holdForce src port => Sys2Proof.Machine.execHoldForce src port s
  | .portHeld port => Sys2Proof.Machine.execPortHeld port s
  | .holdRelease src port => Sys2Proof.Machine.execHoldRelease src port s
  | .portRun port => Sys2Proof.Machine.execPortRun port s
  | .retrain src port v => Sys2Proof.Machine.execRetrain src port v s
  | .idCfgWrite src port v => Sys2Proof.Machine.execIdCfgWrite src port v s
  | .completionTimeout port tag => Sys2Proof.Machine.execCompletionTimeout port tag s
  | .hostReadCompletion port tag data poison error => Sys2Proof.Machine.execHostReadCompletion port tag data poison error s
  | .birsp port link src line rsp dirty => Sys2Proof.Machine.execBirsp port link src line rsp dirty s
  | .biconflict port link src line tag => Sys2Proof.Machine.execBiconflict port link src line tag s
  | .rwdWriteback m => Sys2Proof.Machine.execRwdWriteback m s
  | .l0pWiden port backlog => Sys2Proof.Machine.execL0pWiden port backlog s
  | .l0pPartnerRequest port width => Sys2Proof.Machine.execL0pPartnerRequest port width s
  | .l1Entry port sub => Sys2Proof.Machine.execL1Entry port sub s
  | .pmeTurnOff port => Sys2Proof.Machine.execPmeTurnOff port s
  | .quiesceTimeout port => Sys2Proof.Machine.execQuiesceTimeout port s
  | .pmStateWrite fn st cfg => Sys2Proof.Machine.execPmStateWrite fn st cfg s
  | .msixUnmask fn vec => Sys2Proof.Machine.execMsixUnmask fn vec s
  | .flr fn => Sys2Proof.Machine.execFlr fn s
  | .cxlReset fn => Sys2Proof.Machine.execCxlReset fn s
  | .ideKm port kind on => Sys2Proof.Machine.execIdeKm port kind on s
  | .initiateDcAdd hid base count tag => Sys2Proof.Machine.execInitiateDcAdd hid base count tag s
  | .initiateDcRelease hid base count forced => Sys2Proof.Machine.execInitiateDcRelease hid base count forced s
  | .addDcExtentReference tag add => Sys2Proof.Machine.execAddDcExtentReference tag add s
  | .getDcdInfo => Sys2Proof.Machine.execGetDcdInfo s
  | .getHostDcRegionConfiguration port ld => Sys2Proof.Machine.execGetHostDcRegionConfiguration port ld s
  | .getDcRegionExtentLists hid => Sys2Proof.Machine.execGetDcRegionExtentLists hid s
  | .listTags => Sys2Proof.Machine.execListTags s
  | .setDcRegionConfiguration => Sys2Proof.Machine.execSetDcRegionConfiguration s
  | .fmIdentify => Sys2Proof.Machine.execFmIdentify s
  | .getLdInfo port => Sys2Proof.Machine.execGetLdInfo port s
  | .getLdAllocations port => Sys2Proof.Machine.execGetLdAllocations port s
  | .setLdAllocations port n => Sys2Proof.Machine.execSetLdAllocations port n s
  | .tunnelManagementCommand port ld op args => Sys2Proof.Machine.execTunnelManagementCommand port ld op args s
  | .identify fn => Sys2Proof.Machine.execIdentify fn s
  | .backgroundOperationStatus fn => Sys2Proof.Machine.execBackgroundOperationStatus fn s
  | .getEventRecords fn log => Sys2Proof.Machine.execGetEventRecords fn log s
  | .clearEventRecords fn log n => Sys2Proof.Machine.execClearEventRecords fn log n s
  | .getEventInterruptPolicy fn => Sys2Proof.Machine.execGetEventInterruptPolicy fn s
  | .setEventInterruptPolicy fn policy => Sys2Proof.Machine.execSetEventInterruptPolicy fn policy s
  | .getFwInfo fn => Sys2Proof.Machine.execGetFwInfo fn s
  | .transferFw fn slot last bad version svn advance => Sys2Proof.Machine.execTransferFw fn slot last bad version svn advance s
  | .activateFw fn slot online written => Sys2Proof.Machine.execActivateFw fn slot online written s
  | .getTimestamp fn => Sys2Proof.Machine.execGetTimestamp fn s
  | .setTimestamp fn time => Sys2Proof.Machine.execSetTimestamp fn time s
  | .getSupportedLogs fn => Sys2Proof.Machine.execGetSupportedLogs fn s
  | .getLog fn => Sys2Proof.Machine.execGetLog fn s
  | .identifyMemoryDevice fn => Sys2Proof.Machine.execIdentifyMemoryDevice fn s
  | .getHealthInfo fn => Sys2Proof.Machine.execGetHealthInfo fn s
  | .getPoisonList fn => Sys2Proof.Machine.execGetPoisonList fn s
  | .injectPoison fn line => Sys2Proof.Machine.execInjectPoison fn line s
  | .clearPoison fn line data => Sys2Proof.Machine.execClearPoison fn line data s
  | .getDcConfig fn => Sys2Proof.Machine.execGetDcConfig fn s
  | .getDcExtentList fn => Sys2Proof.Machine.execGetDcExtentList fn s
  | .addDcResponse fn base count accept => Sys2Proof.Machine.execAddDcResponse fn base count accept s
  | .releaseDc fn base count => Sys2Proof.Machine.execReleaseDc fn base count s
  | .getTenantStatus fn t => Sys2Proof.Machine.execGetTenantStatus fn t s
  | .getRegionTag fn granule => Sys2Proof.Machine.execGetRegionTag fn granule s
  | .readContinuityLog fn seq => Sys2Proof.Machine.execReadContinuityLog fn seq s
  | .getPortHoldStatus fn port => Sys2Proof.Machine.execGetPortHoldStatus fn port s
  | .mailboxUnsupported fn op => Sys2Proof.Machine.execMailboxUnsupported fn op s
  | .backgroundCommandDone => Sys2Proof.Machine.execBackgroundCommandDone s
  | .winCtlWrite v => Sys2Proof.Machine.execWinCtlWrite v s
  | .winLeaseClaim => Sys2Proof.Machine.execWinLeaseClaim s
  | .winLeaseFree => Sys2Proof.Machine.execWinLeaseFree s
  | .leaseClaim src => Sys2Proof.Machine.execLeaseClaim src s
  | .leaseFree src => Sys2Proof.Machine.execLeaseFree src s
  | .leaseTimeout => Sys2Proof.Machine.execLeaseTimeout s
  | .registerWrite src ofs vals full tag => Sys2Proof.Machine.execRegisterWrite src ofs vals full tag s
  | .registerReadClear src ofs tag => Sys2Proof.Machine.execRegisterReadClear src ofs tag s
  | .latchedPairRead rd ofs tag => Sys2Proof.Machine.execLatchedPairRead rd ofs tag s
  | .windowCaptureRead src ofs tag => Sys2Proof.Machine.execWindowCaptureRead src ofs tag s
  | .registerRead rd ofs n tag => Sys2Proof.Machine.execRegisterRead rd ofs n tag s
  | .registerWriteMctp src ofs v tag => Sys2Proof.Machine.execRegisterWriteMctp src ofs v tag s
  | .setEndpointId eid => Sys2Proof.Machine.execSetEndpointId eid s
  | .getEndpointId => Sys2Proof.Machine.execGetEndpointId s
  | .getMessageTypeSupport => Sys2Proof.Machine.execGetMessageTypeSupport s
  | .getVersionMctp => Sys2Proof.Machine.execGetVersionMctp s
  | .getVersion via => Sys2Proof.Machine.execGetVersion via s
  | .getCapabilities via => Sys2Proof.Machine.execGetCapabilities via s
  | .negotiateAlgorithms via offered => Sys2Proof.Machine.execNegotiateAlgorithms via offered s
  | .getDigests via => Sys2Proof.Machine.execGetDigests via s
  | .getCertificate via => Sys2Proof.Machine.execGetCertificate via s
  | .challenge via => Sys2Proof.Machine.execChallenge via s
  | .getMeasurements via => Sys2Proof.Machine.execGetMeasurements via s
  | .keyExchange via both => Sys2Proof.Machine.execKeyExchange via both s
  | .spdmFinish via ok => Sys2Proof.Machine.execSpdmFinish via ok s
  | .heartbeat via => Sys2Proof.Machine.execHeartbeat via s
  | .heartbeatMissed via => Sys2Proof.Machine.execHeartbeatMissed via s
  | .keyUpdate via => Sys2Proof.Machine.execKeyUpdate via s
  | .endSession via => Sys2Proof.Machine.execEndSession via s
  | .deliverKey via t key chain => Sys2Proof.Machine.execDeliverKey via t key chain s
  | .unlockDebug via token => Sys2Proof.Machine.execUnlockDebug via token s
  | .doeAbort fn => Sys2Proof.Machine.execDoeAbort fn s
  | .recallDeadline line forBacking hid => Sys2Proof.Machine.execRecallDeadline line forBacking hid s
  | .bulkClearDone hid => Sys2Proof.Machine.execBulkClearDone hid s
  | .lostClear src => Sys2Proof.Machine.execLostClear src s
  | .genAdvance hid => Sys2Proof.Machine.execGenAdvance hid s
  | .resDrained t => Sys2Proof.Machine.execResDrained t s
  | .rglClassWrite src r v => Sys2Proof.Machine.execRglClassWrite src r v s
  | .bucketWrite src t hi v => Sys2Proof.Machine.execBucketWrite src t hi v s
  | .pageDispatch => Sys2Proof.Machine.execPageDispatch s
  | .lanePageStart lane owner => Sys2Proof.Machine.execLanePageStart lane owner s
  | .lanePageDone lane owner ue flips => Sys2Proof.Machine.execLanePageDone lane owner ue flips s
  | .rackFillDone slot ok copyOk => Sys2Proof.Machine.execRackFillDone slot ok copyOk s
  | .laneFault lane owner kind => Sys2Proof.Machine.execLaneFault lane owner kind s
  | .foldPatWrite src t v => Sys2Proof.Machine.execFoldPatWrite src t v s
  | .commonDefWrite src v => Sys2Proof.Machine.execCommonDefWrite src v s
  | .loadDataWrite src v => Sys2Proof.Machine.execLoadDataWrite src v s
  | .patBegin src => Sys2Proof.Machine.execPatBegin src s
  | .patCommit src => Sys2Proof.Machine.execPatCommit src s
  | .patternInstall => Sys2Proof.Machine.execPatternInstall s
  | .patAbort src => Sys2Proof.Machine.execPatAbort src s
  | .patWithdraw src => Sys2Proof.Machine.execPatWithdraw src s
  | .patRetire src => Sys2Proof.Machine.execPatRetire src s
  | .patRefold src => Sys2Proof.Machine.execPatRefold src s
  | .patRepair src => Sys2Proof.Machine.execPatRepair src s
  | .patternPersist slot ok target => Sys2Proof.Machine.execPatternPersist slot ok target s
  | .retRead src => Sys2Proof.Machine.execRetRead src s
  | .retWrite src => Sys2Proof.Machine.execRetWrite src s
  | .retRelease src => Sys2Proof.Machine.execRetRelease src s
  | .retireMigrationDone ix => Sys2Proof.Machine.execRetireMigrationDone ix s
  | .unitMigrationCopy page slips => Sys2Proof.Machine.execUnitMigrationCopy page slips s
  | .refresh chan => Sys2Proof.Machine.execRefresh chan s
  | .refreshManagementRequest chan => Sys2Proof.Machine.execRefreshManagementRequest chan s
  | .flush src => Sys2Proof.Machine.execFlush src s
  | .chFatal chan retries sheets dirLines slots => Sys2Proof.Machine.execChFatal chan retries sheets dirLines slots s
  | .dimmHot chan temp => Sys2Proof.Machine.execDimmHot chan temp s
  | .flashReadDone page good level => Sys2Proof.Machine.execFlashReadDone page good level s
  | .flashProgramDone lun ok => Sys2Proof.Machine.execFlashProgramDone lun ok s
  | .flashEraseDone lun ok => Sys2Proof.Machine.execFlashEraseDone lun ok s
  | .flashReadIssue page => Sys2Proof.Machine.execFlashReadIssue page s
  | .writePointFlush lun => Sys2Proof.Machine.execWritePointFlush lun s
  | .sortRelocate lun ue flips => Sys2Proof.Machine.execSortRelocate lun ue flips s
  | .lunTimeout lun => Sys2Proof.Machine.execLunTimeout lun s
  | .sretRetire src => Sys2Proof.Machine.execSretRetire src s
  | .sretRead src => Sys2Proof.Machine.execSretRead src s
  | .sretDone lun => Sys2Proof.Machine.execSretDone lun s
  | .inventoryWrite ok target => Sys2Proof.Machine.execInventoryWrite ok target s
  | .schFatal chan => Sys2Proof.Machine.execSchFatal chan s
  | .doorbell fn ring tail => Sys2Proof.Machine.execDoorbell fn ring tail s
  | .ringEnable fn ring size inDpa => Sys2Proof.Machine.execRingEnable fn ring size inDpa s
  | .ringDisable fn ring size inDpa => Sys2Proof.Machine.execRingDisable fn ring size inDpa s
  | .resume fn ring size inDpa => Sys2Proof.Machine.execResume fn ring size inDpa s
  | .cueStart ring fetched env => Sys2Proof.Machine.execCueStart ring fetched env s
  | .fill cue env => Sys2Proof.Machine.execFill cue env s
  | .copyPlain cue env => Sys2Proof.Machine.execCopyPlain cue env s
  | .copyFold cue env => Sys2Proof.Machine.execCopyFold cue env s
  | .copyUnfold cue env => Sys2Proof.Machine.execCopyUnfold cue env s
  | .equal cue env => Sys2Proof.Machine.execEqual cue env s
  | .firstDiff cue env => Sys2Proof.Machine.execFirstDiff cue env s
  | .cas cue env => Sys2Proof.Machine.execCas cue env s
  | .reduce cue env => Sys2Proof.Machine.execReduce cue env s
  | .callCue cue env => Sys2Proof.Machine.execCallCue cue env s
  | .pressCue cue env => Sys2Proof.Machine.execPressCue cue env s
  | .layCue cue => Sys2Proof.Machine.execLayCue cue s
  | .collectCue cue env => Sys2Proof.Machine.execCollectCue cue env s
  | .cueComplete cue env => Sys2Proof.Machine.execCueComplete cue env s
  | .engineFault engine cue => Sys2Proof.Machine.execEngineFault engine cue s
  | .cueTagWrite src v => Sys2Proof.Machine.execCueTagWrite src v s
  | .strike press pos margins seams agrees => Sys2Proof.Machine.execStrike press pos margins seams agrees s
  | .accFault press ctx => Sys2Proof.Machine.execAccFault press ctx s
  | .deckOwnWrite src press v => Sys2Proof.Machine.execDeckOwnWrite src press v s
  | .partWrite src press part v => Sys2Proof.Machine.execPartWrite src press part v s
  | .jobAdmit cue => Sys2Proof.Machine.execJobAdmit cue s
  | .prologueVector cue ix env => Sys2Proof.Machine.execPrologueVector cue ix env s
  | .epilogueVector cue env => Sys2Proof.Machine.execEpilogueVector cue env s
  | .jobComplete cue => Sys2Proof.Machine.execJobComplete cue s
  | .peParity cue ix unit => Sys2Proof.Machine.execPeParity cue ix unit s
  | .layStart cue => Sys2Proof.Machine.execLayStart cue s
  | .layRound cue pos outs env => Sys2Proof.Machine.execLayRound cue pos outs env s
  | .layCommit cue => Sys2Proof.Machine.execLayCommit cue s
  | .layHold mv => Sys2Proof.Machine.execLayHold mv s
  | .holdTimeout cue => Sys2Proof.Machine.execHoldTimeout cue s
  | .calibration press deck pos drifted failed => Sys2Proof.Machine.execCalibration press deck pos drifted failed s
  | .swatchStore fails => Sys2Proof.Machine.execSwatchStore fails s
  | .storeNow src => Sys2Proof.Machine.execStoreNow src s
  | .link f b => Sys2Proof.Machine.execLink f b s
  | .dlyReq f b rx tx => Sys2Proof.Machine.execDlyReq f b rx tx s
  | .dlyRsp f b rx => Sys2Proof.Machine.execDlyRsp f b rx s
  | .marker f b rx stay => Sys2Proof.Machine.execMarker f b rx stay s
  | .rd f b env => Sys2Proof.Machine.execRd f b env s
  | .wr f b env => Sys2Proof.Machine.execWr f b env s
  | .rsp f b env => Sys2Proof.Machine.execRsp f b env s
  | .cmp f b env => Sys2Proof.Machine.execCmp f b env s
  | .recall f b env => Sys2Proof.Machine.execRecall f b env s
  | .recallRsp f b env => Sys2Proof.Machine.execRecallRsp f b env s
  | .cueFwd f b env => Sys2Proof.Machine.execCueFwd f b env s
  | .cueCpl f b env => Sys2Proof.Machine.execCueCpl f b env s
  | .mgmt f b acc => Sys2Proof.Machine.execMgmt f b acc s
  | .replayTimeout f => Sys2Proof.Machine.execReplayTimeout f s
  | .rspTimeout ix => Sys2Proof.Machine.execRspTimeout ix s
  | .peerDeadline peer => Sys2Proof.Machine.execPeerDeadline peer s
  | .fportLinkUp f node keyed => Sys2Proof.Machine.execFportLinkUp f node keyed s
  | .fportLinkDown f cause => Sys2Proof.Machine.execFportLinkDown f cause s
  | .linkRekey f => Sys2Proof.Machine.execLinkRekey f s
  | .nodeWrite src v => Sys2Proof.Machine.execNodeWrite src v s
  | .peerRead src => Sys2Proof.Machine.execPeerRead src s
  | .peerWrite src => Sys2Proof.Machine.execPeerWrite src s
  | .peerInvalidate src => Sys2Proof.Machine.execPeerInvalidate src s
  | .peerClear src => Sys2Proof.Machine.execPeerClear src s
  | .collEntryWrite src r v => Sys2Proof.Machine.execCollEntryWrite src r v s
  | .joinSend entry => Sys2Proof.Machine.execJoinSend entry s
  | .join f b env => Sys2Proof.Machine.execJoin f b env s
  | .withdrawColl f b env => Sys2Proof.Machine.execWithdrawColl f b env s
  | .goDecision entry => Sys2Proof.Machine.execGoDecision entry s
  | .go f b env => Sys2Proof.Machine.execGo f b env s
  | .abortColl f b env => Sys2Proof.Machine.execAbortColl f b env s
  | .pull f b env => Sys2Proof.Machine.execPull f b env s
  | .up f b env => Sys2Proof.Machine.execUp f b env s
  | .sum f b env => Sys2Proof.Machine.execSum f b env s
  | .down f b env => Sys2Proof.Machine.execDown f b env s
  | .collectiveDone entry => Sys2Proof.Machine.execCollectiveDone entry s
  | .collDeadline entry => Sys2Proof.Machine.execCollDeadline entry s
  | .pullTimeout entry => Sys2Proof.Machine.execPullTimeout entry s
  | .collAccFault entry page => Sys2Proof.Machine.execCollAccFault entry page s
  | .wedge port => Sys2Proof.Machine.execWedge port s
  | .escrowUe sel port ix => Sys2Proof.Machine.execEscrowUe sel port ix s
  | .svcDrain src kind inst => Sys2Proof.Machine.execSvcDrain src kind inst s
  | .svcReturn src kind inst => Sys2Proof.Machine.execSvcReturn src kind inst s
  | .unitDrained kind inst => Sys2Proof.Machine.execUnitDrained kind inst s
  | .quarantineDone kind inst failed lost => Sys2Proof.Machine.execQuarantineDone kind inst failed lost s
  | .quarantineTimeout kind inst => Sys2Proof.Machine.execQuarantineTimeout kind inst s
  | .logOverflow => Sys2Proof.Machine.execLogOverflow s
  | .logRingUe first n => Sys2Proof.Machine.execLogRingUe first n s
  | .rdSeqWrite src seq => Sys2Proof.Machine.execRdSeqWrite src seq s
  | .hubUe part => Sys2Proof.Machine.execHubUe part s
  | .dieLink die => Sys2Proof.Machine.execDieLink die s
  | .mgmtWatchdog => Sys2Proof.Machine.execMgmtWatchdog s
  | .railFault rail => Sys2Proof.Machine.execRailFault rail s
  | .thermalTrip sensor deg => Sys2Proof.Machine.execThermalTrip sensor deg s
  | .evtStatClear src page v => Sys2Proof.Machine.execEvtStatClear src page v s
  | .evtEnaWrite src page v => Sys2Proof.Machine.execEvtEnaWrite src page v s
  | .evtForce src page v => Sys2Proof.Machine.execEvtForce src page v s
  | .vmapDataWrite src v => Sys2Proof.Machine.execVmapDataWrite src v s
  | .dailySelWrite src reel damaged => Sys2Proof.Machine.execDailySelWrite src reel damaged s
  | .pwrReqRun src autoWake => Sys2Proof.Machine.execPwrReqRun src autoWake s
  | .pwrReqTrim src autoWake => Sys2Proof.Machine.execPwrReqTrim src autoWake s
  | .pwrReqIdle src autoWake => Sys2Proof.Machine.execPwrReqIdle src autoWake s
  | .pwrReqOff src autoWake => Sys2Proof.Machine.execPwrReqOff src autoWake s
  | .wakeComplete => Sys2Proof.Machine.execWakeComplete s
  | .thermEmergency sensor deg => Sys2Proof.Machine.execThermEmergency sensor deg s
  | .sensorFault sensor => Sys2Proof.Machine.execSensorFault sensor s
  | .trstAssert => Sys2Proof.Machine.execTrstAssert s
  | .bypass => Sys2Proof.Machine.execBypass s
  | .idcode => Sys2Proof.Machine.execIdcode s
  | .samplePreload => Sys2Proof.Machine.execSamplePreload s
  | .extest => Sys2Proof.Machine.execExtest s
  | .jtagOtherInstruction => Sys2Proof.Machine.execJtagOtherInstruction s
  | .linkDegraded port link rate width => Sys2Proof.Machine.execLinkDegraded port link rate width s
  | .l1Exit port => Sys2Proof.Machine.execL1Exit port s
  | .l2Entry port => Sys2Proof.Machine.execL2Entry port s
  | .framePllRelock => Sys2Proof.Machine.execFramePllRelock s
  | .tenantPageWrite fn ofs v => Sys2Proof.Machine.execTenantPageWrite fn ofs v s
  | .creditReturn port ndr drs => Sys2Proof.Machine.execCreditReturn port ndr drs s

end Sys2Proof.Machine
end

