-- ==== Sys2Proof/Safety.lean ====
section
/-!
DEFINITION. What counts as a safe state of the block, in the terms the claims use.
-/

namespace Sys2Proof.Machine

open Sys2Proof

/-- What holds in every state that the block reaches, whatever it is told: the frame number is one of R20's; the test port
runs SAMPLE/PRELOAD and EXTEST only while RST_N is asserted (R986); frames run only once RST_N is deasserted (R980); the
start-up sequence ends only outside recovery (R932, R935), as does its wait for the generator (R936); memory is active only
once it has ended (R937). -/
structure State.Inv (s : State) : Prop where
  num    : s.frame.num < frameWrap
  jtag   : s.sys.tap = .sample ∨ s.sys.tap = .extest → s.sys.rstLow = true
  frames : s.frame.started = true → s.sys.rstLow = false
  booted : s.sys.bootDone = true → s.sys.rstLow = false ∧ s.fw.recovery = false
  waits  : s.sys.boot.isSome = true → s.sys.rstLow = false ∧ s.fw.recovery = false
  active : s.sys.memActive = true → s.sys.bootDone = true

/-! ### What a command leaves as it was -/

/-- The parts of the state. -/
inductive Part where
  | frame | slate | regs | ctrs | hdrs | mgmt | log | daily | svc | svcEvt | svcRej | mem | poison | tier | tenants |
  tables | hports | extents | fns | mfn | bg | bgLast | mctp | dir | rgl | fab | lanes | pats | chans | dram | shelf |
  cues | press | coll | power | fw | sys | out | freeIx | pending
  deriving DecidableEq, Repr

/-- A part is the same in two states. -/
def Part.Same : Part → State → State → Prop
  | .frame, s, t => t.frame = s.frame
  | .slate, s, t => t.slate = s.slate
  | .regs, s, t => t.regs = s.regs
  | .ctrs, s, t => t.ctrs = s.ctrs
  | .hdrs, s, t => t.hdrs = s.hdrs
  | .mgmt, s, t => t.mgmt = s.mgmt
  | .log, s, t => t.log = s.log
  | .daily, s, t => t.daily = s.daily
  | .svc, s, t => t.svc = s.svc
  | .svcEvt, s, t => t.svcEvt = s.svcEvt
  | .svcRej, s, t => t.svcRej = s.svcRej
  | .mem, s, t => t.mem = s.mem
  | .poison, s, t => t.poison = s.poison
  | .tier, s, t => t.tier = s.tier
  | .tenants, s, t => t.tenants = s.tenants
  | .tables, s, t => t.tables = s.tables
  | .hports, s, t => t.hports = s.hports
  | .extents, s, t => t.extents = s.extents
  | .fns, s, t => t.fns = s.fns
  | .mfn, s, t => t.mfn = s.mfn
  | .bg, s, t => t.bg = s.bg
  | .bgLast, s, t => t.bgLast = s.bgLast
  | .mctp, s, t => t.mctp = s.mctp
  | .dir, s, t => t.dir = s.dir
  | .rgl, s, t => t.rgl = s.rgl
  | .fab, s, t => t.fab = s.fab
  | .lanes, s, t => t.lanes = s.lanes
  | .pats, s, t => t.pats = s.pats
  | .chans, s, t => t.chans = s.chans
  | .dram, s, t => t.dram = s.dram
  | .shelf, s, t => t.shelf = s.shelf
  | .cues, s, t => t.cues = s.cues
  | .press, s, t => t.press = s.press
  | .coll, s, t => t.coll = s.coll
  | .power, s, t => t.power = s.power
  | .fw, s, t => t.fw = s.fw
  | .sys, s, t => t.sys = s.sys
  | .out, s, t => t.out = s.out
  | .freeIx, s, t => t.freeIx = s.freeIx
  | .pending, s, t => t.pending = s.pending

/-- Only the parts of a list differ. -/
def Only (l : List Part) (s t : State) : Prop := ∀ p, p ∉ l → p.Same s t

/-! ### The management path -/

/-- An access of a source to a register is served at once: the frame's take of the path is not used up and no access waits
(R23, R260), the source reaches the registers (R919), and from the window the access goes through the ROM BAR while it shows the
megabyte of the register (R255, R256). -/
def State.Reaches (s : State) (src : MgmtSrc) (ofs : Nat) : Prop :=
  s.mgmt.used < 64 ∧ s.mgmtIdle = true ∧ (src ≠ .keaquin → s.sys.cfgReady = true)
    ∧ (src = .window → s.windowUp = true ∧ s.mfn.romEn = true ∧ s.mgmt.winMode = true ∧ s.mgmt.winBase = ofs / 2 ^ 20)

/-- The parts that the management path itself writes when it serves an access: its take and count, and what its answer
takes to go out. -/
def regPath : List Part := [.mgmt, .ctrs, .slate, .daily, .fab, .out, .hdrs, .mfn]

end Sys2Proof.Machine
end

