-- ==== Sys2Proof/Claims.lean ====
section
/-!
DEFINITION. Terms that several statements share.
-/

namespace Sys2Proof.Machine

open Sys2Proof

/-- A mailbox command of function `f` is answered with a return code and values, and does nothing else: a completion of the
management function's mailbox is a cause of vector 0 (R269), and no other function's registers change. -/
def State.MailboxAnswers (s : State) (f : Option Nat) (code : Nat) (data : List Nat) (t : State) : Prop :=
  t.out = s.out ++ [.mbox (fnNum f) code data] ∧ (f = none → 0 ∈ t.mfn.now) ∧ (f ≠ none → t.mfn = s.mfn) ∧ Only [.out, .mfn] s t

/-- What the management path has counted once an access of a source is served: its place in the frame's take, the rotation,
and the accesses that were served (R260). -/
def State.onPath (src : MgmtSrc) (s : State) : State := (s.mgmtTake src.code).bump (ofsOf pgSYS 0x7C) 0 1

/-- The offset at which a source sees a register: the window within the megabyte it shows, any other source as it is (R255). -/
def MgmtSrc.sees (src : MgmtSrc) (ofs : Nat) : Nat := if src = .window then ofs % 2 ^ 20 else ofs

/-- No transaction on any line is in progress and no snoop waits to be issued. -/
def State.DirIdle (s : State) : Prop := s.dir.trans = [] ∧ s.dir.issue = []

/-- The extent that an identity, a base and a count name. -/
def Extent.named (h base count : Nat) (e : Extent) : Bool := e.hid == h && e.base == base && e.count == count

/-- The log entry that an event of this frame is kept as (Table — Log entry). -/
def State.entryNow (s : State) (ev sev : Nat) (tenant : Option Nat) (page addr : Nat) (vals : List Nat) : LogEntry :=
  { seq := s.log.next, event := ev, sev := sev, tenant := tenant, frame := s.frame.num, page := page, addr := addr, detail := packDetail vals }

/-- An event is decided once in `t`: a repeat of the frame is suppressed (R872); with room it is kept, newest and under the next
sequence number (R866, R867, R869); a FATAL entry replaces another where there is none, and any other is dropped and counted (R870). -/
def State.Records (s : State) (ev sev : Nat) (tenant : Option Nat) (page addr : Nat) (vals : List Nat) (t : State) : Prop :=
  (suppressible ev sev = true → (ev, page, addr) ∈ s.log.seen → t.log = s.log)
  ∧ (suppressible ev sev = false ∨ (ev, page, addr) ∉ s.log.seen →
      (logRoom s.log.onchip sev = true → t.log.onchip = s.log.onchip ++ [s.entryNow ev sev tenant page addr vals] ∧ t.log.dropped = s.log.dropped)
      ∧ (logRoom s.log.onchip sev = false → t.log.dropped = s.log.dropped + 1
          ∧ t.log.onchip = if sev = 5 then logReplace s.log.onchip ++ [s.entryNow ev sev tenant page addr vals] else s.log.onchip)
      ∧ (logRoom s.log.onchip sev = true ∨ sev = 5 → t.log.next = nextSeq s.log.next ∧ t.log.fatalNew = (s.log.fatalNew || sev == 5)))

/-- A FATAL entry names page SYS: it is decided, and the FATAL state is entered at the next edge (R875); bit 1 of the SYS page and
bit 2 of the CLOG page are set. -/
def State.GoesFatal (s : State) (ev : Nat) (vals : List Nat) (t : State) : Prop :=
  s.Records ev 5 none pgSYS 0 vals t ∧ t.log.fatalNew = true ∧ (t.hdr pgSYS).stat.getLsbD 1 = true ∧ (t.hdr pgCLOG).stat.getLsbD 2 = true

/-! ### Memory -/

/-- The canonical form of memory: addresses strictly rising, no byte listed that is the value an unlisted address reads as. -/
def Memory.wf (m : Map Byte) : Bool := mapWf memDefault m

/-- A line is written: the enabled bytes are the data's and every other byte of memory is as it was; the line is poison where the
write brings poison, or where it was poison and not all of it is written (R101, R102). -/
def State.LineWritten (s : State) (line : Nat) (d : List Byte) (be : Nat) (p : Bool) (t : State) : Prop :=
  (∀ x, t.readByte x = if 64 * line ≤ x ∧ x < 64 * line + 64 ∧ be.testBit (x - 64 * line) = true then d.getD (x - 64 * line) 0#8 else s.readByte x)
  ∧ ∀ l, t.isPoison l = if l = line then (p || (be != fullBe && s.isPoison line)) else s.isPoison l

/-! ### Requests for memory -/

/-- Credits a port holds for a response. -/
def Output.credits (o : Output) (h : HPort) : Nat :=
  match o with
  | .ndr .. => h.s2mNdr
  | .drs .. => h.s2mDrs
  | _ => 1

/-- A response of port `p` is sent where no other waits and a credit is held; else it is the last that waits (R209, R824). -/
def State.Sent (s : State) (p : Nat) (o : Output) (t : State) : Prop :=
  ((s.hport p).respQ = [] → 0 < o.credits (s.hport p) → t.out = s.out ++ [o] ∧ (t.hport p).respQ = [])
  ∧ ((s.hport p).respQ ≠ [] ∨ o.credits (s.hport p) = 0 → t.out = s.out ∧ (t.hport p).respQ = (s.hport p).respQ ++ [o])

/-- The port takes the request, an identity of it matches, and the access check passes on a local range without grants. -/
def State.Passes (s : State) (m : MemReq) (h : Nat) (g : Range) : Prop :=
  s.accepts m.port m.link = true ∧ s.sys.memActive = true ∧ s.matchId m.port m.link m.src = some h ∧ (s.ident h).lost = 0
  ∧ (∃ i, s.reach (s.ident h).tenant (granuleOfLine m.line) = some (i, g)) ∧ g.remote = false
  ∧ (((s.hport m.port).linkOf m.link).flit ≠ 1 ∨ g.kind = kPrivate) ∧ s.isDb m.line = false

/-- Nothing else of the port or of a peer waits, and no transaction is in progress. -/
def State.Quiet (s : State) (p : Nat) : Prop := (s.hport p).waiting = [] ∧ s.fab.waiting = [] ∧ s.DirIdle

/-- The request of tenant `t` and class `c` is admitted at once: its bucket covers a line, an entry of the hub request queue is
free for it, and its share of the port's take is not spent (R357, R358, R363). -/
def State.AdmitsAtOnce (s : State) (p t c : Nat) : Prop :=
  (s.ten t).covers 1 = true ∧ s.placeFor t c ≠ 0 ∧ s.finishes p 0 (s.ownerCode t) 1 = true

/-- What is sound where a request lands: its key slot, the line's sheet descriptor and its directory entry; no write is held for
its page. -/
def State.Sound (s : State) (m : MemReq) : Prop :=
  s.keyBad m.line = false ∧ m.sheetBad = false ∧ m.dirBad = false ∧ (s.page (pageOfLine m.line)).held = [] ∧ m.line < 2 ^ 42

/-- The one transaction in progress, on a line, waits for the answers of snoop `n`, which was sent less than four frames ago, and of
another identity's; no snoop waits to be issued. -/
def State.Recalling (s : State) (line : Nat) (t : Trans) (n : Snoop) : Prop :=
  line < 2 ^ 42 ∧ s.dir.trans = [(line, some t)] ∧ s.dir.issue = [] ∧ t.phase = .recall ∧ t.snoops.find? (fun m => m.hid == n.hid) = some n
  ∧ (∃ m ∈ t.snoops, m.hid ≠ n.hid) ∧ ∃ f, n.sent = some f ∧ framesSince f s.frame.num < 4

/-- The snoops of a transaction but those of one identity. -/
def Trans.without (t : Trans) (h : Nat) : Trans := { t with snoops := t.snoops.filter fun m => m.hid != h }

/-- The snoop of one identity, changed. -/
def Trans.noting (t : Trans) (h : Nat) (f : Snoop → Snoop) : Trans := { t with snoops := t.snoops.map fun m => if m.hid == h then f m else m }

/-- The answer to a read: data, zeros with poison where the line is poison; a MemInv returns no data (R216, R302). -/
def readAnswer (kind : ReqKind) (m : MemReq) (data : List Byte) (bad : Bool) (dev : Nat) : Output :=
  if kind = .inv then .ndr m.port m.tag 0 0 dev else .drs m.port m.tag (if bad then zeroLine else data) bad 0 dev

/-- The parts of the state that a request on its way to its page and back may change: counts, charges, its port's queues, classes
and buckets, the directory, samples; neither memory nor poison nor any page. -/
def reqPath : List Part := [.tenants, .rgl, .slate, .daily, .ctrs, .hports, .frame, .dir, .fab, .fns, .out, .freeIx, .sys]

/-! ### Cues -/

/-- A line write of a cue of tenant `t` goes at once: its bucket covers a line and its class has an entry, the line is one the tenant
reaches on this part, no transaction is in progress on it and none is needed, its key is sound, and its page is OPEN with no held write. -/
def State.LineReady (s : State) (t line : Nat) : Prop :=
  s.devAdmits t clsCUE = true ∧ (∃ i g, s.reach t (granuleOfLine line) = some (i, g) ∧ g.remote = false) ∧ s.trans line = none
  ∧ s.needs line (.device true) = ([], []) ∧ s.keyBad line = false ∧ (s.page (pageOfLine line)).st = .opened ∧ (s.page (pageOfLine line)).held = []

/-- A cue has ended with a status and the results that are given; the frame of its end is that of `s`. -/
def State.CueEnded (s : State) (n status : Nat) (r0 r1 : Option Nat) (t : State) : Prop :=
  ∃ d, t.run n = some d ∧ d.phase = 2 ∧ d.status = status ∧ d.endAt = s.frame.num ∧ (∀ v, r0 = some v → d.r0 = v) ∧ ∀ v, r1 = some v → d.r1 = v

end Sys2Proof.Machine
end

