-- ==== Sys2Proof/WellFormed.lean ====
section
/-!
DEFINITION. Well-formed commands: every operand within the range that the spec gives what it names. A meaning is total; on an
operand that names nothing it leaves the state as it is.
-/

namespace Sys2Proof

open Sys2Proof.Machine

/-- A number below a bound. -/
def below (n k : Nat) : Bool := k < n

/-- A line of 64 bytes. -/
def lineWf (l : List Byte) : Bool := l.length == 64

/-- A tenant function's key, or none for the management function (R242 to R244: 8 ports, 2 links, 16 LDs). -/
def fnWf : Option Nat → Bool
  | none => true
  | some k => below 256 k

namespace Machine

/-- A CXL.mem request: a port and a link that exist, a line of DPA[47:6] (R2), 64 bytes with a byte-enable each. -/
def MemReq.wf (m : MemReq) : Bool :=
  below 8 m.port && below 2 m.link && below (2 ^ 42) m.line && lineWf m.data && below (2 ^ 64) m.be

/-- The fields of a bundle within the widths of *Table — Bundle header*. -/
def Bundle.wf (b : Bundle) : Bool :=
  below 256 b.typ && below (2 ^ 24) b.seq && below (2 ^ 24) b.ack && below 4096 b.dst && below 4096 b.src && below 16 b.hops
    && below 128 b.sten && below 65536 b.tag && below (2 ^ 48) b.dpa && below 65536 b.arg

end Machine

/-- Well-formed commands. -/
def Instr.wf : Instr → Bool
  | .deviceReset => true
  | .rstNDeassert _ => true
  | .rngHealthTest _ => true
  | .memoryActive => true
  | .configReady port => below 8 port
  | .perstDeassert port _ _ _ => below 8 port
  | .perstAssert port => below 8 port
  | .frameEdge _ => true
  | .takeover => true
  | .syncCoastTimeout => true
  | .framePllUnlock => true
  | .framePllRelock => true
  | .frameInPulse _ _ => true
  | .slateDataWrite _ _ => true
  | .slateSwapRequest _ => true
  | .reseatRequest _ _ => true
  | .memRd m => m.wf
  | .memRdData m => m.wf
  | .memInv m => m.wf
  | .memWr m => m.wf
  | .memWrPtl m => m.wf
  | .hubRequestAdmit port => below 8 port
  | .heldWriteApply page => below (2 ^ 36) page
  | .waitExpired t _ => below 128 t
  | .floorWrite _ t _ _ => below 128 t
  | .floorIncreaseEffect t => below 128 t
  | .callDeadline _ => true
  | .callRelease _ => true
  | .hidRead _ => true
  | .hidWrite _ => true
  | .hidInvalidate _ => true
  | .rgnRead _ => true
  | .rgnBind _ => true
  | .rgnUnbind _ => true
  | .unbindDone idx => below 4096 idx
  | .setSharers _ => true
  | .idEntryFault idx => below 1024 idx
  | .rangeEntryFault idx => below 4096 idx
  | .keySlotFault t => below 128 t
  | .rotate _ => true
  | .reqSeal _ t => below 128 t
  | .reqUnseal _ t => below 128 t
  | .birsp port lk _ line ans _ => below 8 port && below 2 lk && below (2 ^ 42) line && below 3 ans
  | .biconflict port lk _ line _ => below 8 port && below 2 lk && below (2 ^ 42) line
  | .rwdWriteback m => m.wf
  | .recallDeadline line _ hid => below (2 ^ 42) line && below 1024 hid
  | .bulkClearDone hid => below 1024 hid
  | .lostClear _ => true
  | .genAdvance hid => below 1024 hid
  | .resDrained t => below 128 t
  | .rglClassWrite _ r _ => (r % 4 == 0 && below 0x51 r && !below 0x44 r)
  | .bucketWrite _ t _ _ => below 128 t
  | .linkUp port lk _ _ _ _ _ _ _ => below 8 port && below 2 lk
  | .linkDown port lk => below 8 port && below 2 lk
  | .uncorr port => below 8 port
  | .ideFailure port => below 8 port
  | .viralRx port => below 8 port
  | .flitDown port lk _ _ => below 8 port && below 2 lk
  | .holdForce _ port => below 8 port
  | .portHeld port => below 8 port
  | .holdRelease _ port => below 8 port
  | .portRun port => below 8 port
  | .retrain _ port _ => below 8 port
  | .idCfgWrite _ port _ => below 8 port
  | .completionTimeout port _ => below 8 port
  | .hostReadCompletion port _ data _ error => below 8 port && (error || lineWf data)
  | .l0pWiden port _ => below 8 port
  | .l0pPartnerRequest port _ => below 8 port
  | .l1Entry port sub => below 8 port && below 3 sub
  | .l1Exit port => below 8 port
  | .l2Entry port => below 8 port
  | .linkDegraded port lk _ _ => below 8 port && below 2 lk
  | .creditReturn port _ _ => below 8 port
  | .wedge port => below 8 port
  | .pmeTurnOff port => below 8 port
  | .quiesceTimeout port => below 8 port
  | .pmStateWrite fn _ _ => fnWf fn
  | .msixUnmask fn _ => fnWf fn
  | .flr fn => fnWf fn
  | .cxlReset fn => below 256 fn
  | .ideKm port _ _ => below 8 port
  | .tenantPageWrite fn _ _ => below 256 fn
  | .doeAbort fn => fnWf fn
  | .identify fn => fnWf fn
  | .backgroundOperationStatus fn => fnWf fn
  | .getEventRecords fn _ => fnWf fn
  | .clearEventRecords fn _ _ => fnWf fn
  | .getEventInterruptPolicy fn => fnWf fn
  | .setEventInterruptPolicy fn _ => fnWf fn
  | .getFwInfo fn => fnWf fn
  | .transferFw fn _ _ _ _ _ _ => fnWf fn
  | .activateFw fn _ _ _ => fnWf fn
  | .getTimestamp fn => fnWf fn
  | .setTimestamp fn _ => fnWf fn
  | .getSupportedLogs fn => fnWf fn
  | .getLog fn => fnWf fn
  | .identifyMemoryDevice fn => fnWf fn
  | .getHealthInfo fn => fnWf fn
  | .getPoisonList fn => fnWf fn
  | .injectPoison fn line => fnWf fn && below (2 ^ 42) line
  | .clearPoison fn line data => fnWf fn && below (2 ^ 42) line && lineWf data
  | .getDcConfig fn => fnWf fn
  | .getDcExtentList fn => fnWf fn
  | .addDcResponse fn _ _ _ => fnWf fn
  | .releaseDc fn _ _ => fnWf fn
  | .getTenantStatus fn t => fnWf fn && below 128 t
  | .getRegionTag fn _ => fnWf fn
  | .readContinuityLog fn _ => fnWf fn
  | .getPortHoldStatus fn port => fnWf fn && below 8 port
  | .mailboxUnsupported fn _ => fnWf fn
  | .backgroundCommandDone => true
  | .initiateDcAdd hid _ _ _ => below 1024 hid
  | .initiateDcRelease hid _ _ _ => below 1024 hid
  | .addDcExtentReference _ _ => true
  | .getDcdInfo => true
  | .getHostDcRegionConfiguration port _ => below 8 port
  | .getDcRegionExtentLists hid => below 1024 hid
  | .listTags => true
  | .setDcRegionConfiguration => true
  | .fmIdentify => true
  | .getLdInfo port => below 8 port
  | .getLdAllocations port => below 8 port
  | .setLdAllocations port _ => below 8 port
  | .tunnelManagementCommand port _ _ _ => below 8 port
  | .winCtlWrite _ => true
  | .winLeaseClaim => true
  | .winLeaseFree => true
  | .leaseClaim _ => true
  | .leaseFree _ => true
  | .leaseTimeout => true
  | .registerWrite _ _ _ _ _ => true
  | .registerReadClear _ _ _ => true
  | .latchedPairRead _ _ _ => true
  | .windowCaptureRead _ _ _ => true
  | .registerRead _ _ _ _ => true
  | .registerWriteMctp _ _ _ _ => true
  | .setEndpointId _ => true
  | .getEndpointId => true
  | .getMessageTypeSupport => true
  | .getVersionMctp => true
  | .getVersion _ => true
  | .getCapabilities _ => true
  | .negotiateAlgorithms _ _ => true
  | .getDigests _ => true
  | .getCertificate _ => true
  | .challenge _ => true
  | .getMeasurements _ => true
  | .keyExchange _ _ => true
  | .spdmFinish _ _ => true
  | .heartbeat _ => true
  | .heartbeatMissed _ => true
  | .keyUpdate _ => true
  | .endSession _ => true
  | .deliverKey _ t key _ => below 128 t && below (2 ^ 512) key
  | .unlockDebug _ _ => true
  | .evtStatClear _ page _ => below 16384 page
  | .evtEnaWrite _ page _ => below 16384 page
  | .evtForce _ page _ => below 16384 page
  | .vmapDataWrite _ _ => true
  | .dailySelWrite _ _ _ => true
  | .rdSeqWrite _ _ => true
  | .logOverflow => true
  | .logRingUe _ _ => true
  | .hubUe part => below 3 part
  | .dieLink die => below 4 die
  | .mgmtWatchdog => true
  | .railFault rail => below 5 rail
  | .thermalTrip sensor _ => below 8 sensor
  | .thermEmergency sensor _ => below 8 sensor
  | .sensorFault sensor => below 8 sensor
  | .pwrReqRun _ _ => true
  | .pwrReqTrim _ _ => true
  | .pwrReqIdle _ _ => true
  | .pwrReqOff _ _ => true
  | .wakeComplete => true
  | .escrowUe sel port _ => below 9 sel && below 8 port
  | .svcDrain _ kind _ => below 7 kind
  | .svcReturn _ kind _ => below 7 kind
  | .unitDrained kind _ => below 7 kind
  | .quarantineDone kind _ _ _ => below 7 kind
  | .quarantineTimeout kind _ => below 7 kind
  | .trstAssert => true
  | .bypass => true
  | .idcode => true
  | .samplePreload => true
  | .extest => true
  | .jtagOtherInstruction => true
  | .pageDispatch => true
  | .lanePageStart lane owner => below 64 lane && below 130 owner
  | .lanePageDone lane owner _ _ => below 64 lane && below 130 owner
  | .rackFillDone slot _ _ => below 4096 slot
  | .laneFault lane owner _ => below 64 lane && below 130 owner
  | .foldPatWrite _ t _ => below 128 t
  | .commonDefWrite _ _ => true
  | .loadDataWrite _ _ => true
  | .patBegin _ => true
  | .patCommit _ => true
  | .patternInstall => true
  | .patAbort _ => true
  | .patWithdraw _ => true
  | .patRetire _ => true
  | .patRefold _ => true
  | .patRepair _ => true
  | .patternPersist slot _ _ => below 4096 slot
  | .retRead _ => true
  | .retWrite _ => true
  | .retRelease _ => true
  | .retireMigrationDone i => below 1024 i
  | .unitMigrationCopy page _ => below (2 ^ 36) page
  | .refresh chan => below 16 chan
  | .refreshManagementRequest chan => below 16 chan
  | .flush _ => true
  | .chFatal chan _ _ _ _ => below 16 chan
  | .dimmHot chan _ => below 16 chan
  | .flashReadDone page _ _ => below (2 ^ 36) page
  | .flashProgramDone lun _ => below 1024 lun
  | .flashEraseDone lun _ => below 1024 lun
  | .flashReadIssue page => below (2 ^ 36) page
  | .writePointFlush lun => below 1024 lun
  | .sortRelocate lun _ _ => below 1024 lun
  | .lunTimeout lun => below 1024 lun
  | .sretRetire _ => true
  | .sretRead _ => true
  | .sretDone lun => below 1024 lun
  | .inventoryWrite _ _ => true
  | .schFatal chan => below 32 chan
  | .doorbell fn ring _ => below 256 fn && below 4 ring
  | .ringEnable fn ring _ _ => below 256 fn && below 4 ring
  | .ringDisable fn ring _ _ => below 256 fn && below 4 ring
  | .resume fn ring _ _ => below 256 fn && below 4 ring
  | .cueStart ring _ _ => below 512 ring
  | .fill _ _ => true
  | .copyPlain _ _ => true
  | .copyFold _ _ => true
  | .copyUnfold _ _ => true
  | .equal _ _ => true
  | .firstDiff _ _ => true
  | .cas _ _ => true
  | .reduce _ _ => true
  | .callCue _ _ => true
  | .pressCue _ _ => true
  | .layCue _ => true
  | .collectCue _ _ => true
  | .cueComplete _ _ => true
  | .engineFault engine _ => below 32 engine
  | .cueTagWrite _ _ => true
  | .strike press pos _ _ _ => below 288 press && below 10 pos
  | .accFault press _ => below 288 press
  | .deckOwnWrite _ press _ => below 288 press
  | .partWrite _ press part _ => below 288 press && below 3 part
  | .jobAdmit _ => true
  | .prologueVector _ _ _ => true
  | .epilogueVector _ _ => true
  | .jobComplete _ => true
  | .peParity _ _ _ => true
  | .layStart _ => true
  | .layRound _ pos _ _ => below 10 pos
  | .layCommit _ => true
  | .layHold _ => true
  | .holdTimeout _ => true
  | .calibration press deck pos _ _ => below 288 press && below 4 deck && below 10 pos
  | .swatchStore _ => true
  | .storeNow _ => true
  | .link f b => below 8 f && b.wf
  | .dlyReq f b _ _ => below 8 f && b.wf
  | .dlyRsp f b _ => below 8 f && b.wf
  | .marker f b _ _ => below 8 f && b.wf
  | .rd f b _ => below 8 f && b.wf
  | .wr f b _ => below 8 f && b.wf
  | .rsp f b _ => below 8 f && b.wf
  | .cmp f b _ => below 8 f && b.wf
  | .recall f b _ => below 8 f && b.wf
  | .recallRsp f b _ => below 8 f && b.wf
  | .cueFwd f b _ => below 8 f && b.wf
  | .cueCpl f b _ => below 8 f && b.wf
  | .mgmt f b _ => below 8 f && b.wf
  | .replayTimeout f => below 8 f
  | .rspTimeout i => below 4096 i
  | .peerDeadline peer => below 1024 peer
  | .fportLinkUp f _ _ => below 8 f
  | .fportLinkDown f _ => below 8 f
  | .linkRekey f => below 8 f
  | .nodeWrite _ _ => true
  | .peerRead _ => true
  | .peerWrite _ => true
  | .peerInvalidate _ => true
  | .peerClear _ => true
  | .collEntryWrite _ r _ => (r % 4 == 0 && below 0x61 r && !below 0x44 r)
  | .joinSend entry => below 64 entry
  | .join f b _ => below 8 f && b.wf
  | .withdrawColl f b _ => below 8 f && b.wf
  | .goDecision entry => below 64 entry
  | .go f b _ => below 8 f && b.wf
  | .abortColl f b _ => below 8 f && b.wf
  | .pull f b _ => below 8 f && b.wf
  | .up f b _ => below 8 f && b.wf
  | .sum f b _ => below 8 f && b.wf
  | .down f b _ => below 8 f && b.wf
  | .collectiveDone entry => below 64 entry
  | .collDeadline entry => below 64 entry
  | .pullTimeout entry => below 64 entry
  | .collAccFault entry _ => below 64 entry

end Sys2Proof
end

