-- ==== Sys2Proof/Certificates/Slice0/Obligations.lean ====
section
/-!
DEFINITION. The statements for the provers: what each command does, family by family, and the whole-machine rules.
-/

open Sys2Proof Sys2Proof.Machine

/-- A step runs the command at the front of the queue, on the state with the rest of the queue. The queue is the model's own
(log entry 1). -/
def Obligations.StepRunsFrontCommand : Prop :=
  ∀ (s : State) (c : Instr) (rest : List Instr), s.pending = c :: rest → step s = exec c { s with pending := rest }

/-- With an empty queue a step leaves the state as it is: the model's own choice (log entry 1). -/
def Obligations.StepIdlesOnEmptyQueue : Prop := ∀ s : State, s.pending = [] → step s = .next s

/-- No rule of the spec stops the block: every command, in every state, answers a next state; and no command touches the queue
of those that wait. -/
def Obligations.EveryCommandCompletes : Prop :=
  ∀ (c : Instr) (s : State), ∃ t, exec c s = .next t ∧ t.pending = s.pending

/-- The machine after reset meets the invariant. -/
def Obligations.ResetMeetsInvariant : Prop := State.reset.Inv

/-- The invariant of `State.Inv` (R20, R932, R935 to R937, R980, R986) is kept by every step, whatever the command. -/
def Obligations.EveryStepKeepsInvariant : Prop := ∀ s t : State, s.Inv → step s = .next t → t.Inv

/-- R18, R58, R59, R65 (frame number), R931, R949 to R951 (firmware), R934 (debug), R986, R987 (test port): no other command
changes them. -/
def Obligations.OnlyTheirCommandsChangeThem : Prop :=
  ∀ (c : Instr) (s t : State), exec c s = .next t →
    (t.fw ≠ s.fw → c = .deviceReset ∨ (∃ e, c = .rstNDeassert e) ∨ c = .memoryActive ∨ c = .mgmtWatchdog
      ∨ (∃ f n l b v x a, c = .transferFw f n l b v x a) ∨ (∃ f n o w, c = .activateFw f n o w))
    ∧ (s.frame.num < frameWrap → t.frame.num ≠ s.frame.num → c = .deviceReset ∨ (∃ e, c = .rstNDeassert e) ∨ (∃ e, c = .frameEdge e)
      ∨ (∃ o w, c = .frameInPulse o w) ∨ (∃ f b r y, c = .marker f b r y))
    ∧ (t.sys.tap ≠ s.sys.tap → c = .deviceReset ∨ (∃ e, c = .rstNDeassert e)
      ∨ c ∈ [Instr.trstAssert, .bypass, .idcode, .samplePreload, .extest, .jtagOtherInstruction])
    ∧ (t.tables.debug ≠ s.tables.debug → c = .deviceReset ∨ (∃ e, c = .rstNDeassert e) ∨ (∃ v k, c = .unlockDebug v k))

/-- R924, R929, R949 and the rules of the stores that the SPI NOR and the flash hold: DEVICE_RESET leaves each part at its
reset state, or as the store that outlives it. -/
def Obligations.DeviceResetRestoresReset : Prop :=
  ∀ s : State, ∃ t, exec .deviceReset s = .next t
    ∧ Only [.log, .pats, .shelf, .press, .fw, .sys, .out, .freeIx, .pending] State.reset t
    ∧ t.log = { post := s.log.post } ∧ t.pats = { store := s.pats.store, seq := s.pats.seq } ∧ t.shelf = { inv := s.shelf.inv }
    ∧ t.press = { swatch := { s.press.swatch with now := false, fails := 0, last := 0, advised := false } }
    ∧ t.fw = { slot1 := s.fw.slot1, slot2 := s.fw.slot2, recA := s.fw.recA, recB := s.fw.recB, svnMin := s.fw.svnMin,
               trialEnded := s.fw.trialEnded }
    ∧ t.sys = { tap := s.sys.tap } ∧ t.freeIx = s.freeIx ∧ t.pending = s.pending ∧ s.out <+: t.out

/-- R926, R931, R932, R935 to R937, R980, R986: what RST_N deassertion, the health test and the end of the start-up sequence
do to the state of start-up. -/
def Obligations.StartUpProceeds : Prop :=
  (∀ (e : BootEnv) (s : State), s.sys.rstLow = true → ∃ t, exec (.rstNDeassert e) s = .next t
    ∧ t.sys.rstLow = false ∧ t.frame.started = true ∧ t.sys.smbAddr = e.smbAddr % 8 ∧ t.sys.dbgEn = e.dbgEn ∧ t.sys.memActive = false
    ∧ (s.sys.tap = .sample ∨ s.sys.tap = .extest → t.sys.tap = .bypass)
    ∧ (t.fw.recovery = true → t.sys.bootDone = false ∧ t.sys.boot = none)
    ∧ (t.fw.recovery = false → t.sys.bootDone = e.rngOk ∧ t.sys.boot = (if e.rngOk then none else some e)))
  ∧ (∀ (ok : Bool) (s : State), s.sys.rstLow = false → ∃ t, exec (.rngHealthTest ok) s = .next t
    ∧ (ok = false → t.tables.rngBad = true ∧ (t.hdr pgKEY).stat.getLsbD 4 = true ∧ t.sys.boot = s.sys.boot)
    ∧ (ok = true → s.sys.boot.isSome = true → t.sys.boot = none ∧ t.sys.bootDone = true)
    ∧ (ok = true → s.sys.boot = none → t = { s with tables := { s.tables with rngBad := false } }))
  ∧ (∀ s : State, s.sys.bootDone = true → s.sys.memActive = false → s.fw.recovery = false → s.someDram = true →
    ∃ t, exec .memoryActive s = .next t ∧ t.sys.memActive = true ∧ t.sys.dGiB = s.inGiB ∧ (t.hdr pgSYS).stat.getLsbD 0 = true
      ∧ Only [.sys, .fw, .hdrs, .mfn] s t)

/-- R18, R20. A re-seat (R59) adopts the pool's number instead; before RST_N deassertion there are no edges. -/
def Obligations.FrameEdgeCountsFrames : Prop :=
  ∀ (e : EdgeEnv) (s : State), s.frame.num < frameWrap → s.frame.started = true → s.reseatDue = false →
    ∃ t, exec (.frameEdge e) s = .next t ∧ t.frame.num = (if s.frame.num = 0xF9FFFFFFFFFF then 0 else s.frame.num + 1)

/-- R54, R58, R60, R65, R66, R75. -/
def Obligations.SyncEventsMoveSyncState : Prop :=
  (∀ s : State, s.role = roleStandby → s.takeoverReels ≤ s.frame.silent → ∃ t, exec .takeover s = .next t
    ∧ t.role = roleClock ∧ t.frame.epoch = some (((s.frame.epoch.getD 255) + 1) % 256) ∧ t.frame.num = s.frame.num
    ∧ t.frame.phase = s.frame.phase ∧ (t.hdr pgFRAME).stat.getLsbD 3 = true ∧ Only [.frame, .regs, .hdrs, .mfn] s t)
  ∧ (∀ s : State, s.frame.sync = .coast → s.lossReels ≤ s.frame.silent → ∃ t, exec .syncCoastTimeout s = .next t
    ∧ t.frame.sync = .lost ∧ t.frame.slew = -s.frame.integ ∧ t.frame.integ = s.frame.integ ∧ (t.hdr pgFRAME).stat.getLsbD 0 = true
    ∧ Only [.frame, .hdrs, .mfn, .log, .ctrs] s t)
  ∧ (∀ s : State, s.frame.started = true → s.frame.pll = true → s.frame.sync ≠ .lost → ∃ t, exec .framePllUnlock s = .next t
    ∧ t.frame.pll = false ∧ t.frame.sync = .lost ∧ t.frame.num = s.frame.num ∧ (t.hdr pgFRAME).stat.getLsbD 0 = true
    ∧ Only [.frame, .hdrs, .mfn, .log, .ctrs] s t)
  ∧ (∀ s : State, s.frame.started = true → exec .framePllRelock s = .next { s with frame := { s.frame with pll := true } })
  ∧ (∀ (ofs : Int) (width : Nat) (s : State), s.frame.started = true → s.syncSrc = 1 → s.role = roleFollower ∨ s.role = roleStandby →
    ∃ t, exec (.frameInPulse ofs width) s = .next t ∧ t.frame.srcAct = 1 ∧ t.frame.mark.isSome = true
      ∧ (t.frame.ofs = -(ofs + (s.regF pgFRAME 0x58 11 0 : Int)) ∨ t.frame.ofs = 0 ∧ s.frame.joined = false ∧ t.frame.joined = true)
      ∧ (s.frame.sync = .free → t.frame.sync = .acquire) ∧ Only [.frame, .hdrs, .mfn] s t)

/-- R33, R35. -/
def Obligations.SlateDataWriteStoresOrDrops : Prop :=
  ∀ (src : MgmtSrc) (v : Word32) (s : State), s.Reaches src (ofsOf pgFRAME 0x6C) → bitOf (s.reg (ofsOf pgFRAME 0x68)) 16 = false →
    ∃ t, exec (.slateDataWrite src v) s = .next t
      ∧ (s.slate.pend = true → t.slate.shadow = s.slate.shadow ∧ t.slate.wrDrop = true ∧ t.slate.pend = true)
      ∧ (s.slate.pend = false → t.slate.wrDrop = s.slate.wrDrop
          ∧ ∀ k < 4, mapGet slateReset t.slate.shadow
              (slateKey (s.regF pgFRAME 0x68 6 0) (s.regF pgFRAME 0x68 11 8) (4 * s.regF pgFRAME 0x68 13 12 + k)) = BitVec.ofNat 8 (v.toNat / 2 ^ (8 * k)))
      ∧ t.slate.act = s.slate.act ∧ Only regPath s t

/-- R33, R59. -/
def Obligations.SwapAndReseatAreRequested : Prop :=
  (∀ (src : MgmtSrc) (s : State), s.Reaches src (ofsOf pgFRAME 0x64) → ∃ t, exec (.slateSwapRequest src) s = .next t
    ∧ t.slate.pend = true ∧ t.slate.err = false ∧ t.slate.act = s.slate.act ∧ t.slate.shadow = s.slate.shadow ∧ t.slate.bank = s.slate.bank
    ∧ Only regPath s t)
  ∧ (∀ (src : MgmtSrc) (v : Word32) (s : State), s.Reaches src (ofsOf pgFRAME 0x48) → ∃ t, exec (.reseatRequest src v) s = .next t
    ∧ t.frame = { s.frame with reseat := true } ∧ Only (.frame :: .regs :: regPath) s t)

/-- R110, R111, R164, R902. -/
def Obligations.FloorsAreWrittenAndTakeEffect : Prop :=
  (∀ (src : MgmtSrc) (t : Nat) (folded : Bool) (v : Word32) (s : State), t < 128 →
    s.Reaches src (ofsOf (pgTEN t) (if folded then 0x104 else 0x100)) →
    let ofs := ofsOf (pgTEN t) (if folded then 0x104 else 0x100)
    let old := (s.reg ofs).toNat
    let new := v.toNat % 2 ^ 23
    ∃ u, exec (.floorWrite src t folded v) s = .next u
      ∧ ((s.ten t).sealed = true → u.regs = s.regs ∧ u.tenants = s.tenants ∧ (u.hdr pgSYS).stat.getLsbD 3 = true)
      ∧ ((s.ten t).sealed = false → old < new → s.poolMiB < s.writtenFloors true + s.writtenFloors false + new - old →
          u.regs = s.regs ∧ u.tenants = s.tenants ∧ (u.hdr pgTIER).stat.getLsbD 7 = true)
      ∧ ((s.ten t).sealed = false → old < new → s.writtenFloors true + s.writtenFloors false + new - old ≤ s.poolMiB →
          u.reg ofs = BitVec.ofNat 32 new ∧ u.tenants = s.tenants)
      ∧ ((s.ten t).sealed = false → new ≤ old →
          u.reg ofs = BitVec.ofNat 32 new
          ∧ (folded = false → (u.ten t).ofEff = min (s.ten t).ofEff new ∧ (u.ten t).ffEff = (s.ten t).ffEff)
          ∧ (folded = true → (u.ten t).ffEff = min (s.ten t).ffEff new ∧ (u.ten t).ofEff = (s.ten t).ofEff))
      ∧ Only (.regs :: .tenants :: regPath) s u)
  ∧ (∀ (t : Nat) (s : State), t < 128 → s.ofReg t + s.ffReg t ≤ (s.ten t).ofEff + (s.ten t).ffEff
      ∨ (s.ofReg t + s.ffReg t - ((s.ten t).ofEff + (s.ten t).ffEff)) * mib ≤ s.ovfFree →
    ∃ u, exec (.floorIncreaseEffect t) s = .next u ∧ (u.ten t).ofEff = s.ofReg t ∧ (u.ten t).ffEff = s.ffReg t ∧ Only [.tenants] s u)

/-- R139, R140, R905. -/
def Obligations.IdentityCommandsWait : Prop :=
  ∀ (src : MgmtSrc) (s : State), s.Reaches src (ofsOf pgTEN128 0x4C) →
    (s.tables.hidBusy = false →
      (∃ t, exec (.hidRead src) s = .next t ∧ t.reg (ofsOf pgTEN128 0x44) = (s.ident s.hidIdx).lo
        ∧ t.reg (ofsOf pgTEN128 0x48) = (s.ident s.hidIdx).hi ∧ t.tables = { s.tables with hidStat := 0 } ∧ Only (.regs :: .tables :: regPath) s t)
      ∧ (s.sys.cfgReady = true →
        (∃ t, exec (.hidWrite src) s = .next t
          ∧ t.tables = { s.tables with hidBusy := true, cmds := s.tables.cmds ++ [.hidWrite s.hidIdx (s.reg (ofsOf pgTEN128 0x44)) (s.reg (ofsOf pgTEN128 0x48))] }
          ∧ Only (.tables :: regPath) s t)
        ∧ ∃ t, exec (.hidInvalidate src) s = .next t
          ∧ t.tables = { s.tables with hidBusy := true, cmds := s.tables.cmds ++ [.hidInval s.hidIdx] } ∧ Only (.tables :: regPath) s t))
    ∧ (s.tables.hidBusy = true → ∀ c ∈ [Instr.hidRead src, .hidWrite src, .hidInvalidate src],
        ∃ t, exec c s = .next t ∧ t.tables = s.tables ∧ t.regs = s.regs)

/-- R143, R145 to R147, R905. -/
def Obligations.RangeCommandsWait : Prop :=
  ∀ (src : MgmtSrc) (s : State), s.Reaches src (ofsOf pgTEN128 0x74) → s.tables.rgnBusy = false →
    (∃ t, exec (.rgnRead src) s = .next t ∧ (∀ k < 8, t.reg (ofsOf pgTEN128 (0x54 + 4 * k)) = (s.rgn s.rgnIdx).word k)
      ∧ t.tables = { s.tables with rgnStat := if (s.rgn s.rgnIdx).fault then rgnFault else 0 } ∧ Only (.regs :: .tables :: regPath) s t)
    ∧ (∃ t, exec (.rgnBind src) s = .next t
      ∧ t.tables = { s.tables with rgnBusy := true, cmds := s.tables.cmds ++ [.rgnBind s.rgnIdx s.stagedRange] } ∧ Only (.tables :: regPath) s t)
    ∧ (∃ t, exec (.rgnUnbind src) s = .next t
      ∧ t.tables = { s.tables with rgnBusy := true, cmds := s.tables.cmds ++ [.rgnUnbind s.rgnIdx] } ∧ Only (.tables :: regPath) s t)
    ∧ (∃ t, exec (.setSharers src) s = .next t
      ∧ t.tables = { s.tables with rgnBusy := true, cmds := s.tables.cmds ++ [.rgnShare s.rgnIdx (Range.ofWords s.stagedRange).sharers] }
      ∧ Only (.tables :: regPath) s t)

/-- R139, R140, R143, R144, R155, R159, R177: what each command does when it takes effect. -/
def Obligations.TableCommandsTakeEffect : Prop :=
  (∀ (i : Nat) (w : List Word32) (s : State),
    (s.bindStat i w = 0 → (s.tableApply (.rgnBind i w)).rgn i = { Range.ofWords w with valid := true })
    ∧ (s.bindStat i w ≠ 0 → (s.tableApply (.rgnBind i w)).tables.ranges = s.tables.ranges)
    ∧ (s.tableApply (.rgnBind i w)).tables.rgnStat = s.bindStat i w ∧ (s.tableApply (.rgnBind i w)).tables.rgnBusy = false)
  ∧ (∀ (i : Nat) (lo hi : Word32) (s : State), s.hidWriteStat i lo hi ≠ 0 →
    (s.tableApply (.hidWrite i lo hi)).tables = { s.tables with hidBusy := false, hidStat := s.hidWriteStat i lo hi })
  ∧ (∀ (i : Nat) (s : State), (s.ident i).releasing = false → (s.ident i).valid = false →
    (s.tableApply (.hidInval i)) = { s with tables := { s.tables with hidBusy := false, hidStat := 0 } })
  ∧ (∀ (t : Nat) (s : State), s.ownsLocal t = false → s.tables.rngBad = false →
    ((s.tableApply (.rotate t)).ten t).key = none ∧ ((s.tableApply (.rotate t)).ten t).keyBusy = false
    ∧ ((s.tableApply (.rotate t)).ten t).keyGen = ((s.ten t).keyGen + 1) % 65536)
  ∧ (∀ (t k : Nat) (s : State), s.ownsLocal t = false → keyHalvesEqual k = false →
    ((s.tableApply (.deliver t k)).ten t).key = some k ∧ ((s.tableApply (.deliver t k)).ten t).keyBusy = false)

/-- R145, R184 to R186. -/
def Obligations.TableFaultsAndUnbinds : Prop :=
  (∀ (i : Nat) (s : State), i < 1024 → ∃ t, exec (.idEntryFault i) s = .next t
    ∧ t = { s with tables := { s.tables with cmds := s.tables.cmds ++ [.hidFault i] } })
  ∧ (∀ (i : Nat) (s : State), i < 4096 → (s.rgn i).valid = true → (s.rgn i).fault = false → ∃ t, exec (.rangeEntryFault i) s = .next t
    ∧ t.rgn i = { s.rgn i with fault := true } ∧ (∀ j, j ≠ i → t.rgn j = s.rgn j) ∧ (t.hdr pgTEN128).stat.getLsbD 7 = true
    ∧ Only [.tables, .hdrs, .mfn, .log, .ctrs] s t)
  ∧ (∀ (k : Nat) (s : State), k < 128 → ∃ t, exec (.keySlotFault k) s = .next t
    ∧ t.ten k = { s.ten k with keyFault := true } ∧ (∀ j, j ≠ k → t.ten j = s.ten j) ∧ (t.hdr pgKEY).stat.getLsbD 4 = true
    ∧ Only [.tenants, .hdrs, .mfn, .log, .ctrs] s t)
  ∧ (∀ (i : Nat) (s : State), s.unbound i = true → ∃ t, exec (.unbindDone i) s = .next t
    ∧ t.rgn i = {} ∧ (∀ j, j ≠ i → t.rgn j = s.rgn j) ∧ (t.hdr pgTEN128).stat.getLsbD 4 = true
    ∧ Only [.tables, .tier, .poison, .log, .hdrs, .mfn] s t)

/-- R159, R163, R165, R166, R187. -/
def Obligations.KeysAndSealsAreRequested : Prop :=
  (∀ (src : MgmtSrc) (s : State), s.Reaches src (ofsOf pgKEY 0x44) → ∃ t, exec (.rotate src) s = .next t
    ∧ (s.tables.rngBad = true → t.tenants = s.tenants ∧ t.tables = s.tables ∧ (t.hdr pgKEY).stat.getLsbD 1 = true)
    ∧ (s.tables.rngBad = false → t.ten (s.regF pgKEY 0x40 6 0) = { s.ten (s.regF pgKEY 0x40 6 0) with keyBusy := true }
        ∧ t.tables = { s.tables with cmds := s.tables.cmds ++ [.rotate (s.regF pgKEY 0x40 6 0)] })
    ∧ Only (.tenants :: .tables :: regPath) s t)
  ∧ (∀ (src : MgmtSrc) (k : Nat) (s : State), k < 128 → s.Reaches src (ofsOf (pgTEN k) 0x40) →
    (s.sys.memActive = true → ∃ t, exec (.reqSeal src k) s = .next t
      ∧ (t.ten k).reqSeal = true ∧ (t.ten k).reqUnseal = false ∧ (t.ten k).sealed = (s.ten k).sealed ∧ Only (.tenants :: regPath) s t)
    ∧ ∃ t, exec (.reqUnseal src k) s = .next t
      ∧ (t.ten k).reqUnseal = true ∧ (t.ten k).reqSeal = false ∧ (t.ten k).sealed = (s.ten k).sealed ∧ Only (.tenants :: regPath) s t)

/-- R316, R327, R330, R332. -/
def Obligations.IdentityReleasesEnd : Prop :=
  (∀ (h e : Nat) (s : State), (s.ident h).clearing = some e → 2 ≤ framesSince e s.frame.num → ∃ t, exec (.bulkClearDone h) s = .next t
    ∧ (t.ident h).clearing = none
    ∧ ((s.ident h).releasing = true → s.genFull h = false → (t.ident h).releasing = false)
    ∧ ((s.ident h).releasing = true → s.genFull h = true → (t.ident h).releasing = true ∧ (t.ident h).genWait = true ∧ (t.hdr pgDIR).stat.getLsbD 4 = true)
    ∧ ((s.ident h).releasing = false → (s.ident h).valid = true → (t.ident h).lost = (s.ident h).lost)
    ∧ Only [.tables, .hdrs, .mfn] s t)
  ∧ (∀ (src : MgmtSrc) (s : State), s.Reaches src (ofsOf pgDIR 0x58) → ∃ t, exec (.lostClear src) s = .next t
    ∧ ((s.ident (s.regF pgDIR 0x54 9 0)).lost = 1 → (t.ident (s.regF pgDIR 0x54 9 0)).clearReq = true
        ∧ (t.ident (s.regF pgDIR 0x54 9 0)).lost = 1)
    ∧ ((s.ident (s.regF pgDIR 0x54 9 0)).lost ≠ 1 → t.tables = s.tables) ∧ Only (.tables :: regPath) s t)
  ∧ (∀ (h : Nat) (s : State), (s.ident h).genWait = true → s.genFull h = false → ∃ t, exec (.genAdvance h) s = .next t
    ∧ (t.ident h).genWait = false
    ∧ ((s.ident h).releasing = true → (t.ident h).releasing = false ∧ (t.ident h).gen = (s.ident h).gen)
    ∧ ((s.ident h).releasing = false → (t.ident h).lost = 0 ∧ (t.ident h).gen = ((s.ident h).gen + 1) % 16)
    ∧ Only [.tables] s t)
  ∧ (∀ (k : Nat) (s : State), k < 128 → (s.ten k).dirDrain = true →
    (s.dir.ents.any fun e => e.2.valid && (e.2.set / 256) ∈ (s.ten k).dirBlocks && !(e.2.resv && e.2.owner == k)) = false →
    ∃ t, exec (.resDrained k) s = .next t ∧ t.ten k = { s.ten k with dirDrain := false } ∧ (t.hdr pgDIR).stat.getLsbD 2 = true
      ∧ Only [.tenants, .hdrs, .mfn] s t)

/-- R356, R366, R373. -/
def Obligations.ClassAndBucketWritesWait : Prop :=
  (∀ (src : MgmtSrc) (r : Nat) (v : Word32) (c : ClassS) (s : State), r ∈ [0x44, 0x48, 0x4C, 0x50] → s.Reaches src (ofsOf pgRGL r) →
    s.clsIdx < 20 → (s.clsNext s.clsIdx).write r v = some c → ∃ t, exec (.rglClassWrite src r v) s = .next t
      ∧ (s.classSumsOk s.clsIdx c = true → t.clsNext s.clsIdx = c)
      ∧ (s.classSumsOk s.clsIdx c = false → t.rgl = s.rgl ∧ (t.hdr pgRGL).stat.getLsbD 2 = true)
      ∧ t.rgl.cls = s.rgl.cls ∧ Only (.rgl :: regPath) s t)
  ∧ (∀ (src : MgmtSrc) (k : Nat) (hi : Bool) (v : Word32) (s : State), k < 128 → s.Reaches src (ofsOf (pgTEN k) (if hi then 0x124 else 0x120)) →
    let cur := (s.ten k).bktNext.getD ((s.ten k).bktRate, (s.ten k).bktOn, (s.ten k).bktDepth)
    ∃ t, exec (.bucketWrite src k hi v) s = .next t
      ∧ t.ten k = { s.ten k with bktNext := some (if hi then (cur.1, cur.2.1, field v 19 0) else (field v 19 0, bitOf v 31, cur.2.2)) }
      ∧ Only (.tenants :: regPath) s t)

/-- R115, R119, R121, R122. -/
def Obligations.CallsAndWaitsEnd : Prop :=
  (∀ (slot : Nat) (c : Nat × Call) (s : State), (s.tier.calls.find? fun x => x.1 == slot) = some c → c.2.judged = false → ∃ t, exec (.callDeadline slot) s = .next t
    ∧ (s.reached c.2.evalAt = false → t = s)
    ∧ (s.reached c.2.evalAt = true → s.callRemain c.2 = 0 →
        (slot, { c.2 with st := .met, judged := true }) ∈ t.tier.calls ∧ Only [.tier, .fns] s t)
    ∧ (s.reached c.2.evalAt = true → s.callRemain c.2 ≠ 0 →
        (slot, { c.2 with st := .missed, judged := true }) ∈ t.tier.calls ∧ (t.hdr pgTIER).stat.getLsbD 0 = true
        ∧ Only [.tier, .fns, .hdrs, .mfn, .log, .ctrs] s t))
  ∧ (∀ (slot : Nat) (c : Nat × Call) (s : State), (s.tier.calls.find? fun x => x.1 == slot) = some c → c.2.judged = true → s.reached c.2.endAt = true →
    ∃ t, exec (.callRelease slot) s = .next t ∧ t.tier = { s.tier with calls := s.tier.calls.filter fun x => x.1 != slot } ∧ Only [.tier] s t)
  ∧ (∀ (k : Nat) (folded : Bool) (s : State), k < 128 →
    max 1 (s.regF pgTIER 0x5C 31 16) ≤ mapGet (fun _ => 0) s.tier.waits (k * 2 + (if folded then 1 else 0)) →
    k * 2 + (if folded then 1 else 0) ∉ s.tier.expired →
    ∃ t, exec (.waitExpired k folded) s = .next t ∧ t.tier = { s.tier with expired := s.tier.expired ++ [k * 2 + (if folded then 1 else 0)] }
      ∧ (t.hdr pgTIER).stat.getLsbD 3 = true ∧ Only [.tier, .ctrs, .hdrs, .mfn, .fns, .log] s t)

/-- R190 to R196, R209, R224, R236. -/
def Obligations.LinksTrainAndFall : Prop :=
  (∀ (p rate width ndr drs : Nat) (cxl f256 viral : Bool) (s : State), p < 8 → (s.hport p).perst = false → s.linkFits p rate width = true →
    ∃ t, exec (.linkUp p 0 rate width cxl f256 viral ndr drs) s = .next t
      ∧ (let ok := cxl && decide (2 ≤ rate) && decide (2 ≤ width) && (s.flitFor p rate f256 != 0)
         (t.hport p).link0 = { up := true, proto := if ok then 2 else 1, flit := if ok then s.flitFor p rate f256 else 0, rate := rate, width := width })
      ∧ (t.hport p).s2mNdr = ndr ∧ (t.hport p).s2mDrs = drs ∧ (t.hport p).hold = (s.hport p).hold
      ∧ (t.hdr (pgHPORT p)).stat.getLsbD 3 = true ∧ Only [.hports, .hdrs, .mfn, .out] s t)
  ∧ (∀ (p l : Nat) (s : State), p < 8 → l < 2 → ((s.hport p).linkOf l).up = true → ∃ t, exec (.linkDown p l) s = .next t
    ∧ (t.hport p).linkOf l = {} ∧ (t.hdr (pgHPORT p)).stat.getLsbD 4 = true
    ∧ ((s.unit .hport p).st = .inn → (s.hport p).hold = .run ∨ (s.hport p).hold = .releasing → (t.hport p).hold = .freeze ∧ (t.hport p).cause = 1)
    ∧ ((s.unit .hport p).st ≠ .inn → (t.hport p).hold = (s.hport p).hold)
    ∧ Only [.ctrs, .hports, .log, .hdrs, .mfn, .mgmt] s t)
  ∧ (∀ (p l rate width : Nat) (s : State), p < 8 → l < 2 → ((s.hport p).linkOf l).up = true →
    (∃ t, exec (.linkDegraded p l rate width) s = .next t
      ∧ (t.hport p).linkOf l = { (s.hport p).linkOf l with rate := rate, width := width } ∧ (t.hdr (pgHPORT p)).stat.getLsbD 5 = true
      ∧ Only [.hports, .hdrs, .mfn] s t)
    ∧ ∃ t, exec (.flitDown p l rate width) s = .next t
      ∧ (t.hport p).linkOf l = { (s.hport p).linkOf l with flit := 1, rate := rate, width := width }
      ∧ (s.dbOn p = true → (s.hport p).hold = .run ∨ (s.hport p).hold = .releasing → (t.hport p).hold = .freeze ∧ (t.hport p).cause = 5)
      ∧ (s.dbOn p = false → (t.hport p).hold = (s.hport p).hold)
      ∧ Only [.ctrs, .hports, .log, .hdrs, .mfn, .mgmt] s t)

/-- R219, R221, R224, R230, R825. -/
def Obligations.HoldCausesFreeze : Prop :=
  ∀ (p : Nat) (s : State), p < 8 → (s.hport p).hold = .run ∨ (s.hport p).hold = .releasing →
    let Frozen := fun (c : Nat) (t : State) => (t.hport p).hold = .freeze ∧ (t.hport p).cause = c ∧ (t.hdr (pgHPORT p)).stat.getLsbD 0 = true
    (∃ t, exec (.uncorr p) s = .next t ∧ Frozen 2 t ∧ Only [.ctrs, .hports, .log, .hdrs, .mfn, .mgmt] s t)
    ∧ (∃ t, exec (.viralRx p) s = .next t ∧ Frozen 4 t ∧ (t.hport p).viralRx = true ∧ (t.hdr (pgHPORT p)).stat.getLsbD 7 = true
        ∧ Only [.ctrs, .hports, .log, .hdrs, .mfn, .mgmt] s t)
    ∧ ((s.hport p).ideIo = true ∨ (s.hport p).ideMem = true ∨ (s.hport p).ideSel ≠ 0 → ∃ t, exec (.ideFailure p) s = .next t ∧ Frozen 3 t
        ∧ (t.hport p).ideFail = true ∧ (t.hdr (pgHPORT p)).stat.getLsbD 6 = true ∧ Only [.ctrs, .hports, .log, .hdrs, .mfn, .mgmt] s t)
    ∧ (∀ src : MgmtSrc, s.Reaches src (ofsOf (pgHPORT p) 0x50) → ∃ t, exec (.holdForce src p) s = .next t ∧ Frozen 6 t
        ∧ Only (.hports :: .log :: regPath) s t)
    ∧ ((s.hport p).hold = .run → s.regF pgSYS 0x34C 15 0 ≤ (s.hport p).wedge → (s.hport p).wedge ≠ 0 → ∃ t, exec (.wedge p) s = .next t ∧ Frozen 6 t
        ∧ t.sys.full.getLsbD 0 = true ∧ Only [.sys, .ctrs, .hports, .log, .hdrs, .mfn, .mgmt] s t)

/-- R226 to R228. -/
def Obligations.HoldEnds : Prop :=
  (∀ (p : Nat) (s : State), p < 8 → (s.hport p).hold = .freeze → (s.hport p).frozen = false →
    (s.tables.ids.any fun e => e.2.port == p && e.2.clearing.isSome) = false → ∃ t, exec (.portHeld p) s = .next t
      ∧ t.hport p = { s.hport p with hold := .held } ∧ (t.hdr (pgHPORT p)).stat.getLsbD 1 = true ∧ Only [.hports, .hdrs, .mfn] s t)
  ∧ (∀ (src : MgmtSrc) (p : Nat) (s : State), p < 8 → s.Reaches src (ofsOf (pgHPORT p) 0x50) → ∃ t, exec (.holdRelease src p) s = .next t
    ∧ ((s.hport p).hold = .held → t.hport p = { s.hport p with release := true })
    ∧ ((s.hport p).hold ≠ .held → t.hports = s.hports) ∧ Only (.hports :: regPath) s t)
  ∧ (∀ (p : Nat) (s : State), p < 8 → (s.hport p).hold = .releasing → (s.hport p).link0.up = true → (s.hport p).link0.proto = 2 →
    ∃ t, exec (.portRun p) s = .next t ∧ t.hport p = { s.hport p with hold := .run, viralRx := false, ideFail := false }
      ∧ (t.hdr (pgHPORT p)).stat.getLsbD 2 = true ∧ Only [.hports, .hdrs, .mfn, .log, .ctrs, .fns] s t)

/-- R273, R274, R276 to R279. -/
def Obligations.LinkPowerOfAPort : Prop :=
  (∀ (p b : Nat) (s : State), p < 8 → (s.hport p).l0p ≠ 0 → 1888 * 2 ^ ((s.hport p).l0p - 1) / 2 ^ (s.hport p).link0.width < b →
    ∃ t, exec (.l0pWiden p b) s = .next t ∧ t.hport p = { s.hport p with l0p := 0 } ∧ Only [.hports, .out] s t)
  ∧ (∀ (p w : Nat) (s : State), p < 8 → ∃ t, exec (.l0pPartnerRequest p w) s = .next t
    ∧ (s.sealedOnPort p = true → t.hports = s.hports ∧ (t.hdr (pgHPORT p)).stat.getLsbD 15 = true)
    ∧ (s.sealedOnPort p = false → (s.hport p).link0.flit = 2 → bitOf (s.reg (ofsOf (pgHPORT p) 0x80)) 8 = true →
        s.regF (pgHPORT p) 0x80 14 12 ≤ w → w < (s.hport p).link0.width → t.hport p = { s.hport p with l0p := w + 1 } ∧ t.hdrs = s.hdrs)
    ∧ Only [.hports, .out, .hdrs, .mfn] s t)
  ∧ (∀ (p sub : Nat) (s : State), p < 8 → sub ≤ 2 → (s.hport p).lstate = 0 → (s.hport p).link0.up = true → (s.hport p).l0p = 0 →
    s.regF (pgHPORT p) 0x80 7 0 ≤ (s.hport p).idle → s.portIdle p = true → s.noGrantsOn p = true →
    ∃ t, exec (.l1Entry p sub) s = .next t ∧ t.hport p = { s.hport p with lstate := 2 + sub } ∧ Only [.hports, .out] s t)
  ∧ (∀ (p : Nat) (s : State), p < 8 → 2 ≤ (s.hport p).lstate → (s.hport p).lstate ≤ 4 →
    ∃ t, exec (.l1Exit p) s = .next t ∧ t.hport p = { s.hport p with lstate := 0, idle := 0 } ∧ Only [.hports, .out] s t)
  ∧ (∀ (p : Nat) (s : State), p < 8 → (s.hport p).quiesced = true → ∃ t, exec (.l2Entry p) s = .next t
    ∧ (t.hport p).lstate = 5 ∧ (t.hport p).link0.up = false ∧ (t.hport p).link1.up = false ∧ (t.hport p).hold = (s.hport p).hold ∧ Only [.hports] s t)
  ∧ (∀ (p : Nat) (s : State), p < 8 → (s.hport p).perst = false → (s.hport p).turnOff = none → (∀ h ∈ s.idsOn p, s.mLines h = []) →
    ∃ t, exec (.pmeTurnOff p) s = .next t
      ∧ (s.quiet p = true → (t.hport p).quiesced = true ∧ (t.hport p).turnOff = none ∧ t.out = s.out ++ [.pmeToAck p])
      ∧ (s.quiet p = false → (t.hport p).turnOff = some s.frame.num ∧ t.out = s.out) ∧ Only [.hports, .out] s t)
  ∧ (∀ (p f : Nat) (s : State), p < 8 → (s.hport p).turnOff = some f → 125 ≤ framesSince f s.frame.num →
    ∃ t, exec (.quiesceTimeout p) s = .next t ∧ (t.hport p).turnOff = none ∧ t.out = s.out ++ [.pmeToAck p]
      ∧ (t.hdr (pgHPORT p)).stat.getLsbD 16 = true
      ∧ Only [.hports, .out, .press, .fab, .cues, .fns, .ctrs, .hdrs, .mfn, .tier, .freeIx] s t)

/-- R234, R244, R270 to R272, R274, R289, R293, R295. -/
def Obligations.FunctionsAreManaged : Prop :=
  (∀ (p : Nat) (s : State), p < 8 → s.sys.table.isSome = true → (s.hport p).perst = false → (s.hport p).cfgReady = false →
    ∃ t, exec (.configReady p) s = .next t ∧ (t.hport p).cfgReady = true ∧ (∀ k ∈ portFns p, t.fn k = {}) ∧ t.sys.cfgReady = true
      ∧ Only [.hports, .fns, .mfn, .mgmt, .mctp, .sys] s t)
  ∧ (∀ (p : Nat) (bi en : Bool) (q : Nat) (s : State), p < 8 → (s.hport p).perst = true → s.sys.rstLow = false →
    ∃ t, exec (.perstDeassert p bi en q) s = .next t ∧ (t.hport p).perst = false ∧ (t.hport p).bifurc = bi ∧ (t.hport p).lstate = 6
      ∧ (q % 8 = p → t.sys.mgmtEn = en ∧ t.sys.mgmtPort = p) ∧ Only [.hports, .fns, .sys, .out] s t)
  ∧ (∀ (p : Nat) (s : State), p < 8 → (s.hport p).perst = false → ∃ t, exec (.perstAssert p) s = .next t
    ∧ (t.hport p).perst = true ∧ (t.hport p).cfgReady = false
    ∧ ((s.hport p).lstate ≠ 5 → (∀ k ∈ portFns p, t.fn k = {}) ∧ (t.hport p).lstate = 6)
    ∧ ((s.hport p).lstate = 5 → (∀ k ∈ portFns p, t.fn k = { s.fn k with pm := .d0uninit, doe := false }) ∧ (t.hport p).d3cold = true))
  ∧ (∀ (k st : Nat) (c : FnCfg) (s : State), s.presents k = true → ∃ t, exec (.pmStateWrite (some k) st c) s = .next t
    ∧ (st = 0 → (t.fn k).pm = .d0) ∧ (st = 3 → (t.fn k).pm = .d3hot) ∧ (st ≠ 0 → st ≠ 3 → (t.fn k).pm = (s.fn k).pm)
    ∧ (t.fn k).busMaster = c.busMaster ∧ (t.fn k).memSpace = c.memSpace ∧ (t.fn k).msixEn = c.msixEn ∧ (t.fn k).msiEn = c.msiEn
    ∧ (t.fn k).stat = (s.fn k).stat ∧ (t.fn k).ena = (s.fn k).ena ∧ Only [.fns] s t)
  ∧ (∀ (k v : Nat) (s : State), s.presents k = true → v < 32 → ∃ t, exec (.msixUnmask (some k) v) s = .next t
    ∧ v ∈ (t.fn k).unmasked ∧ v ∉ (t.fn k).pending ∧ (v ∈ (s.fn k).pending → v ∈ (t.fn k).now) ∧ Only [.fns] s t)
  ∧ (∀ (k : Nat) (s : State), s.presents k = true →
    (∃ t, exec (.flr (some k)) s = .next t ∧ t.fn k = {} ∧ Only [.press, .fab, .cues, .fns, .ctrs, .hdrs, .mfn, .tier, .freeIx] s t)
    ∧ (∃ t, exec (.cxlReset k) s = .next t
      ∧ ((s.cues.runs.any fun e => e.2.ring < 512 && e.2.fn == k && decide (e.2.phase < 2)) = false →
          (s.cues.rings.any fun r => r.2.fn == some k && (s.ring r.1).st == 1) = false → t = s)
      ∧ Only [.press, .fab, .cues, .fns, .ctrs, .hdrs, .mfn, .tier, .freeIx] s t)
    ∧ (∃ t, exec (.doeAbort (some k)) s = .next t ∧ t.fn k = { s.fn k with doe := false } ∧ Only [.fns] s t))

/-- R222, R250, R864, R874. The order of the values in an answer is the model's own (log entry 31). -/
def Obligations.MailboxQueriesAnswer : Prop :=
  ∀ (f : Option Nat) (s : State), s.mboxUp f = true →
    let Says := fun (c : Instr) (data : List Nat) => ∃ t, exec c s = .next t ∧ s.MailboxAnswers f mbOk data t
    Says (.identify f) [if f.isNone then 0xB12F else 0xB12A]
    ∧ Says (.backgroundOperationStatus f) (match s.bg with | some b => [1, b.opcode, 0] | none => [0, 0, s.bgLast])
    ∧ (∀ l, l ≠ 4 → ∃ es : List LogEntry, (∀ e ∈ es, s.sees f e = true ∧ (l, e) ∈ s.log.records)
        ∧ Says (.getEventRecords f l) (es.map LogEntry.values).flatten)
    ∧ Says (.getEventRecords f 4) ((s.fnOf f).dcRecs.map fun r => [r.1, r.2.1, r.2.2.1, r.2.2.2]).flatten
    ∧ Says (.getEventInterruptPolicy f) [(s.fnOf f).policy]
    ∧ Says (.getTimestamp f) [if s.mfn.tstamp = 0 then 0 else s.mfn.tstamp + 1000 * framesSince s.mfn.tstampAt s.frame.num]
    ∧ Says (.getSupportedLogs f) [0]
    ∧ (∃ es : List LogEntry, (∀ e, e ∈ es ↔ e ∈ s.log.ring ++ s.log.onchip ∧ s.sees f e = true) ∧ Says (.getLog f) (es.map LogEntry.values).flatten)
    ∧ Says (.identifyMemoryDevice f) [0, 0, 0, s.bindMax]
    ∧ (∃ x t, exec (.getHealthInfo f) s = .next t ∧ t.out = s.out ++ [.mbox (fnNum f) mbOk [x]] ∧ Only [.out, .mfn, .freeIx] s t)
    ∧ (∃ ls : List Nat, (∀ l ∈ ls, l ∈ s.log.plist) ∧ (f = none → ls = s.log.plist)
        ∧ (∀ k l, f = some k → l ∈ ls → ∃ t, s.fnTenant k = some t ∧ (s.reach t (granuleOfLine l)).isSome = true)
        ∧ Says (.getPoisonList f) (boolN s.log.plistOvf :: ls))
    ∧ Says (.getDcConfig f) [0, 262144, 1]
    ∧ (∃ xs : List Extent, (∀ x ∈ xs, x ∈ s.extents ∧ x.offered = false ∧ ∀ k, f = some k → s.fnIdent k = some x.hid)
        ∧ Says (.getDcExtentList f) (xs.map fun e => [e.hid, e.base, e.count, e.tag]).flatten)
    ∧ (∀ p, f = none → Says (.getPortHoldStatus f p) [(s.hport p).hold.code, (s.hport p).cause])
    ∧ (∀ k p, f = some k → Says (.getPortHoldStatus f p) [(s.hport (fnPort k)).hold.code, (s.hport (fnPort k)).cause])
    ∧ (∀ q, f = none → Says (.readContinuityLog f q) (((s.log.ring.filter fun e => q ≤ e.seq).take 128).map LogEntry.values).flatten)
    ∧ (∀ k q, f = some k → ∃ t, exec (.readContinuityLog f q) s = .next t ∧ s.MailboxAnswers f mbUnsupported [] t)
    ∧ (∀ op, s.mboxLists f op = false → ∃ t, exec (.mailboxUnsupported f op) s = .next t ∧ s.MailboxAnswers f mbUnsupported [] t)

/-- R203, R222, R874. -/
def Obligations.MailboxCommandsChange : Prop :=
  ∀ (f : Option Nat) (s : State), s.mboxUp f = true →
    (∀ l n, l ≠ 4 → l < (s.fnOf f).cleared.length → ∃ t, exec (.clearEventRecords f l n) s = .next t
      ∧ t.recordsOf f l = (s.recordsOf f l).drop n ∧ (∀ k, k ≠ l → t.recordsOf f k = s.recordsOf f k)
      ∧ t.out = s.out ++ [.mbox (fnNum f) mbOk []] ∧ Only [.out, .fns, .mfn] s t)
    ∧ (∀ n, ∃ t, exec (.clearEventRecords f 4 n) s = .next t ∧ (t.fnOf f).dcRecs = (s.fnOf f).dcRecs.drop n
      ∧ t.out = s.out ++ [.mbox (fnNum f) mbOk []] ∧ Only [.out, .fns, .mfn] s t)
    ∧ (∀ v, ∃ t, exec (.setEventInterruptPolicy f v) s = .next t ∧ (t.fnOf f).policy = v % 32
      ∧ t.out = s.out ++ [.mbox (fnNum f) mbOk []] ∧ Only [.out, .fns, .mfn] s t)
    ∧ (∀ v, ∃ t, exec (.setTimestamp f v) s = .next t
      ∧ (f = none → t.mfn.tstamp = v ∧ t.mfn.tstampAt = s.frame.num ∧ t.out = s.out ++ [.mbox 0 mbOk []] ∧ Only [.out, .mfn] s t)
      ∧ (f ≠ none → s.MailboxAnswers f mbUnsupported [] t))
    ∧ (∀ l, f = none → s.tables.debug = true → ∃ t, exec (.injectPoison f l) s = .next t ∧ t.isPoison l = true ∧ l ∈ t.log.plist
      ∧ (∀ k, k ≠ l → t.isPoison k = s.isPoison k) ∧ t.out = s.out ++ [.mbox 0 mbOk []] ∧ Only [.out, .mfn, .poison, .log] s t)
    ∧ (∀ l d, f = none → s.tables.debug = true → ∃ t, exec (.clearPoison f l d) s = .next t ∧ t.isPoison l = false ∧ l ∉ t.log.plist)
    ∧ (∀ l d, f ≠ none ∨ s.tables.debug = false → (∃ t, exec (.injectPoison f l) s = .next t ∧ s.MailboxAnswers f mbUnsupported [] t)
      ∧ ∃ t, exec (.clearPoison f l d) s = .next t ∧ s.MailboxAnswers f mbUnsupported [] t)
    ∧ (∀ k h b c, f = some k → s.fnIdent k = some h →
      (∃ t, exec (.addDcResponse f b c true) s = .next t
        ∧ t.extents = (s.extents.map fun e => if e.hid = h ∧ e.offered = true ∧ e.base = b ∧ e.count = c then { e with offered := false } else e)
        ∧ t.out = s.out ++ [.mbox (fnNum f) mbOk []] ∧ Only [.out, .extents] s t)
      ∧ ∃ t, exec (.addDcResponse f b c false) s = .next t
        ∧ (∀ e, e ∈ t.extents ↔ e ∈ s.extents ∧ ¬ (e.hid = h ∧ e.offered = true ∧ e.base = b ∧ e.count = c))
        ∧ t.out = s.out ++ [.mbox (fnNum f) mbOk []] ∧ Only [.out, .extents] s t)

/-- R928, R929, R949, R950, R958; R250, R269 (completion). -/
def Obligations.FirmwareIsTransferred : Prop :=
  (∀ s : State, s.mboxUp none = true →
    (∃ t, exec (.getFwInfo none) s = .next t
      ∧ s.MailboxAnswers none mbOk [2, s.fw.running, (s.fw.current.map (·.active)).getD 0, 0, s.fw.slot1.version, s.fw.slot2.version] t)
    ∧ (∀ slot last bad ver svn adv, s.bg = none → slot = 1 ∨ slot = 2 → slot ≠ s.fw.running →
        (s.fw.trial = true → ∀ c, s.fw.current = some c → slot ≠ c.prev) →
        ∃ t, exec (.transferFw none slot last bad ver svn adv) s = .next t
          ∧ (last = true → bad = 0 → t.fw.slot slot = { present := true, bad := 0, version := ver, svn := svn, advance := adv })
          ∧ (last = false ∨ bad ≠ 0 → (t.fw.slot slot).bad ≠ 0)
          ∧ (∀ n, n ≠ slot → t.fw.slot n = s.fw.slot n)
          ∧ (t.bg.map fun b => (b.fn, b.opcode, b.result)) = some (0, 0x0201, if last = true ∧ bad ≠ 0 then mbFwAuth else mbOk)
          ∧ t.out = s.out ++ [.mbox 0 mbStarted []] ∧ Only [.fw, .bg, .out, .mfn] s t)
    ∧ (∀ slot last bad ver svn adv, s.bg = none → (slot ≠ 1 ∧ slot ≠ 2) ∨ slot = s.fw.running →
        ∃ t, exec (.transferFw none slot last bad ver svn adv) s = .next t ∧ s.MailboxAnswers none mbInvalidSlot [] t)
    ∧ (∀ slot last bad ver svn adv, s.bg ≠ none → ∃ t, exec (.transferFw none slot last bad ver svn adv) s = .next t ∧ s.MailboxAnswers none mbBusy [] t)
    ∧ (∀ slot, slot = 1 ∨ slot = 2 → ∃ t, exec (.activateFw none slot false true) s = .next t
        ∧ (∃ r, t.fw.current = some r ∧ r.active = slot ∧ r.trial = true ∧ r.prev = s.fw.running ∧ r.seq = (s.fw.current.elim 0 (·.seq)) + 1)
        ∧ (∀ c, s.fw.current = some c → t.fw.recA = c ∨ t.fw.recB = c) ∧ t.fw.slot1 = s.fw.slot1 ∧ t.fw.slot2 = s.fw.slot2 ∧ t.fw.running = s.fw.running
        ∧ t.out = s.out ++ [.mbox 0 mbOk []] ∧ Only [.fw, .out, .mfn] s t)
    ∧ (∀ slot w, ∃ t, exec (.activateFw none slot true w) s = .next t ∧ s.MailboxAnswers none mbUnsupported [] t))
  ∧ ∀ (s : State) (b : Background), s.bg = some b → ∃ t, exec .backgroundCommandDone s = .next t ∧ t.bg = none ∧ t.bgLast = b.result
      ∧ (b.fn = 0 → 0 ∈ t.mfn.now) ∧ (b.fn ≠ 0 → (t.fn (b.fn - 1)).stat.getLsbD 15 = true) ∧ Only [.bg, .bgLast, .mfn, .fns] s t

/-- R203 to R207, R232. -/
def Obligations.DynamicCapacityMoves : Prop :=
  (∀ (hid base count tag rg : Nat) (r : Range) (s : State), s.sys.cfgReady = true → s.dcAddStat hid base count tag = 0 → s.boundAt base = some (rg, r) →
    ∃ t, exec (.initiateDcAdd hid base count tag) s = .next t ∧ t.extents = s.extents ++ [⟨hid, rg, base, count, tag, true⟩]
      ∧ (t.fn (s.fnOfId hid)).dcRecs = (s.fn (s.fnOfId hid)).dcRecs ++ [(0, base, count, tag)]
      ∧ t.out = s.out ++ [.dcEvent (s.fnOfId hid) 0 base count tag, .fm 0 []] ∧ Only [.extents, .fns, .out] s t)
  ∧ (∀ (hid base count tag : Nat) (s : State), s.sys.cfgReady = true → s.dcAddStat hid base count tag ≠ 0 →
    ∃ t, exec (.initiateDcAdd hid base count tag) s = .next t ∧ (t.hdr (pgHPORT (s.ident hid).port)).stat.getLsbD 10 = true
      ∧ t.out = s.out ++ [.fm (s.dcAddStat hid base count tag) []] ∧ Only [.hdrs, .mfn, .out] s t)
  ∧ (∀ (hid base count tag : Nat) (s : State), s.boundAt base = none ∨ (s.ident hid).valid = false ∨ (s.hport (s.ident hid).port).hold ≠ .run →
    s.dcAddStat hid base count tag ≠ 0)
  ∧ (∀ (hid base count : Nat) (e : Extent) (s : State), s.sys.cfgReady = true → s.extents.find? (Extent.named hid base count) = some e →
    (∃ t, exec (.initiateDcRelease hid base count false) s = .next t ∧ (t.fn (s.fnOfId hid)).dcRecs = (s.fn (s.fnOfId hid)).dcRecs ++ [(1, base, count, e.tag)]
      ∧ t.out = s.out ++ [.dcEvent (s.fnOfId hid) 1 base count e.tag, .fm 0 []] ∧ Only [.fns, .out] s t)
    ∧ (s.DirIdle → (∀ x ∈ s.dir.ents, base ≤ granuleOfLine x.1 → granuleOfLine x.1 < base + count → s.holds x.2 hid = false) →
      let Ended := fun (t : State) => (∀ x, x ∈ t.extents ↔ x ∈ s.extents ∧ Extent.named hid base count x = false)
        ∧ ∀ p, t.page p = if (s.rgn e.rgn).ownerOnly = true ∧ p ∈ s.pageKeys ∧ base ≤ granuleOfPage p ∧ granuleOfPage p < base + count
              ∧ (t.extents.any fun x => x.base ≤ granuleOfPage p && granuleOfPage p < x.base + x.count) = false
            then { s.page p with release := true } else s.page p
      (∃ t, exec (.initiateDcRelease hid base count true) s = .next t ∧ Ended t
        ∧ t.out = s.out ++ [.dcEvent (s.fnOfId hid) 2 base count e.tag, .fm 0 []] ∧ Only [.extents, .tier, .fns, .out] s t)
      ∧ ∀ k, s.mboxUp (some k) = true → s.fnIdent k = some hid → ∃ t, exec (.releaseDc (some k) base count) s = .next t ∧ Ended t
          ∧ t.out = s.out ++ [.mbox (k + 1) mbOk []] ∧ Only [.extents, .tier, .out] s t))
  ∧ (∀ (hid base count : Nat) (f : Bool) (s : State), s.sys.cfgReady = true → s.extents.find? (Extent.named hid base count) = none →
    (∃ t, exec (.initiateDcRelease hid base count f) s = .next t ∧ t.out = s.out ++ [.fm 1 []] ∧ Only [.out] s t)
    ∧ ∀ k, s.mboxUp (some k) = true → s.fnIdent k = some hid → ∃ t, exec (.releaseDc (some k) base count) s = .next t ∧ s.MailboxAnswers (some k) mbInvalid [] t)

/-- R199, R200, R202, R204, R222, R223. -/
def Obligations.FabricManagerIsAnswered : Prop :=
  (∀ s : State, s.sys.cfgReady = true →
    let Says := fun (c : Instr) (code : Nat) (data : List Nat) => ∃ t, exec c s = .next t ∧ t.out = s.out ++ [.fm code data] ∧ Only [.out] s t
    Says .getDcdInfo 0 [1, 1, s.bindMax]
    ∧ (∀ p ld, s.presents (fnKey p 0 ld) = true → Says (.getHostDcRegionConfiguration p ld) 0 [0, 262144, 1])
    ∧ (∀ p ld, s.presents (fnKey p 0 ld) = false → Says (.getHostDcRegionConfiguration p ld) mbInvalid [])
    ∧ (∀ hid, ∃ es : List Extent, (∀ e, e ∈ es ↔ e ∈ s.extents ∧ e.offered = false ∧ e.hid = hid)
        ∧ Says (.getDcRegionExtentLists hid) 0 (es.map fun e => [e.base, e.count, e.tag]).flatten)
    ∧ (∃ l : List Nat, l.Nodup ∧ (∀ g, g ∈ l ↔ (g ≠ 0 ∧ ∃ e ∈ s.extents, e.tag = g) ∨ g ∈ s.mctp.refs) ∧ Says .listTags 0 l)
    ∧ Says .setDcRegionConfiguration mbUnsupported []
    ∧ Says .fmIdentify 0 [0xB12F]
    ∧ (∀ p, p < 8 → Says (.getLdInfo p) 0 [s.lds p, s.bindMax] ∧ Says (.getLdAllocations p) 0 [s.lds p])
    ∧ (∀ p ld op args, s.presents (fnKey p 0 ld) = false → Says (.tunnelManagementCommand p ld op args) mbInvalid [])
    ∧ (∀ p ld op args, s.presents (fnKey p 0 ld) = true → s.mboxUp (some (fnKey p 0 ld)) = true → op ∉ [0x0100, 0x0101, 0x0103, 0x4200, 0x4802, 0x4803] →
        ∃ code data t, exec (.tunnelManagementCommand p ld op args) s = .next t ∧ t.out = s.out ++ [.mbox (fnKey p 0 ld + 1) code data, .fm 0 []] ∧ Only [.out] s t)
    ∧ (∀ tag, (s.extents.any fun e => e.tag == tag) = true → ∃ t, exec (.addDcExtentReference tag true) s = .next t ∧ tag ∈ t.mctp.refs
        ∧ (∀ g, g ≠ tag → (g ∈ t.mctp.refs ↔ g ∈ s.mctp.refs)) ∧ t.out = s.out ++ [.fm 0 []] ∧ Only [.mctp, .out] s t)
    ∧ (∀ tag, (s.extents.any fun e => e.tag == tag) = false → Says (.addDcExtentReference tag true) mbInvalid [])
    ∧ (∀ tag, ∃ t, exec (.addDcExtentReference tag false) s = .next t ∧ (∀ g, g ∈ t.mctp.refs ↔ g ∈ s.mctp.refs ∧ g ≠ tag)
        ∧ t.out = s.out ++ [.fm 0 []] ∧ Only [.mctp, .out] s t))
  ∧ (∀ (f : Option Nat) (s : State), s.mboxUp f = true →
      (∀ t u, (f = none → u = t) → (∀ k, f = some k → s.fnTenant k = some u) → ∃ v, exec (.getTenantStatus f t) s = .next v
        ∧ s.MailboxAnswers f mbOk [s.openBytes u, s.foldBytes u, s.ovfUse u, ((List.range 8).map fun p => mapGet (fun _ => 0) (s.hport p).load u).foldl max 0,
            ((List.range 8).filter fun p => (s.idsOn p).any (fun h => (s.ident h).tenant == u) && (s.hport p).hold != .run).length] v)
      ∧ (∀ g i r, (f = none → s.boundAt g = some (i, r)) → (∀ k, f = some k → ∃ u, s.fnTenant k = some u ∧ s.reach u g = some (i, r)) →
          ∃ v, exec (.getRegionTag f g) s = .next v ∧ s.MailboxAnswers f mbOk [s.regionTag i] v)
      ∧ (∀ k g u, f = some k → s.fnTenant k = some u → s.reach u g = none → ∃ v, exec (.getRegionTag f g) s = .next v ∧ s.MailboxAnswers f mbInvalid [] v))
  ∧ (∀ (p : Nat) (s : State), p < 8 → s.sys.cfgReady = true → ∀ n, 1 ≤ n → n ≤ 16 →
      (s.idsOn p = [] → (List.range 8).foldl (fun m q => m + if q = p then n else s.lds q) 0 ≤ 128 → ¬ (s.idMode p = 2 ∧ (s.hport p).bifurc = true) → s.idMode p ≠ 3 →
        ∃ t, exec (.setLdAllocations p n) s = .next t ∧ t.lds p = n ∧ t.idMode p = s.idMode p ∧ t.out = s.out ++ [.fm 0 [n]] ∧ Only [.regs, .out] s t)
      ∧ (s.idsOn p ≠ [] ∨ 128 < (List.range 8).foldl (fun m q => m + if q = p then n else s.lds q) 0 → ∃ t, exec (.setLdAllocations p n) s = .next t ∧ t.regs = s.regs ∧ (t.hdr (pgHPORT p)).stat.getLsbD 11 = true
          ∧ t.out = s.out ++ [.fm 0 [s.lds p]] ∧ Only [.hdrs, .mfn, .out] s t))
  ∧ (∀ (src : MgmtSrc) (p : Nat) (w : Word32) (s : State), p < 8 → s.Reaches src (ofsOf (pgHPORT p) 0x4C) →
      (s.idsOn p = [] → (List.range 8).foldl (fun m q => m + if q = p then field w 12 8 else s.lds q) 0 ≤ 128 → field w 1 0 < 2 → 1 ≤ field w 12 8 → field w 12 8 ≤ 16 →
        ∃ t, exec (.idCfgWrite src p w) s = .next t ∧ t.lds p = field w 12 8 ∧ t.idMode p = field w 1 0 ∧ Only (.regs :: regPath) s t)
      ∧ (s.idsOn p ≠ [] ∨ 1 ≤ field w 12 8 ∧ field w 12 8 ≤ 16 ∧ 128 < (List.range 8).foldl (fun m q => m + if q = p then field w 12 8 else s.lds q) 0 → ∃ t, exec (.idCfgWrite src p w) s = .next t ∧ t.regs = s.regs ∧ (t.hdr (pgHPORT p)).stat.getLsbD 11 = true ∧ Only regPath s t))

/-- R252, R255, R258, R260, R897, R900, R901, R903, R904, R919; what the relay is answered goes as a bundle (log entry 28). -/
def Obligations.RegistersAreAccessed : Prop :=
  (∀ (src : MgmtSrc) (ofs tag : Nat) (s : State), s.Reaches src ofs → ofs % 4 = 0 → (pageFamily (ofs / 4096)).isSome = true →
    let v := ((s.onPath src).latched src.code ofs).getD ((s.onPath src).regValue ofs)
    let Answered := fun (t : State) => (src ≠ .relay → t.out = s.out ++ [.mgmtAnswer src.code tag v]) ∧ Only (.dir :: .hports :: .sys :: regPath) s t
    (∃ t, exec (.registerRead (.mgmt src) (src.sees ofs) 1 tag) s = .next t ∧ Answered t)
    ∧ (s.isRc ofs = true → ∃ t, exec (.registerReadClear src ofs tag) s = .next t ∧ Answered t
        ∧ ∀ sel, (s.onPath src).rcSel (ofs / 4096) (ofs % 4096) = some sel → src ≠ .relay → t.ctr ofs sel = 0)
    ∧ (latchesHigh ofs = true → windowAt ofs = none → ∃ t, exec (.latchedPairRead (.mgmt src) ofs tag) s = .next t ∧ Answered t
        ∧ t.latched src.code (ofs + 4) = some ((s.onPath src).regValue (ofs + 4)))
    ∧ (∀ o n x, windowAt ofs = some (o, n, x) → ∃ t, exec (.windowCaptureRead src ofs tag) s = .next t ∧ Answered t
        ∧ ∀ k, 0 < k → k < n → t.latched src.code (ofs + 4 * k) = some ((s.onPath src).regValue (ofs + 4 * k))))
  ∧ (∀ (src : MgmtSrc) (ofs tag : Nat) (v : Word32) (s : State), s.Reaches src ofs → ofs % 4 = 0 → (pageFamily (ofs / 4096)).isSome = true →
      (∀ u : State, u.regWrite ofs v = u.writePlain ofs v) → fieldsAt ofs ≠ [] → (∀ t, pageTenant (ofs / 4096) = some t → (s.ten t).sealed = false) →
    let Written := fun (t : State) => t.reg ofs = regMerge (fieldsAt ofs) false (s.reg ofs) v ∧ (∀ o, o ≠ ofs → t.reg o = s.reg o) ∧ Only (.regs :: regPath) s t
    (∃ t, exec (.registerWrite src (src.sees ofs) [v] true tag) s = .next t ∧ Written t)
    ∧ (src = .smbus ∨ src = .i3c → ∃ t, exec (.registerWriteMctp src ofs v tag) s = .next t ∧ Written t ∧ t.out = s.out ++ [.mgmtAnswer src.code tag 0#32]))
  ∧ (∀ (src : MgmtSrc) (ofs tag : Nat) (v : Word32) (s : State), s.Reaches src ofs → src ≠ .window → ofs % 4 ≠ 0 ∨ pageFamily (ofs / 4096) = none →
    (∃ t, exec (.registerWrite src ofs [v] true tag) s = .next t ∧ (t.hdr pgSYS).stat.getLsbD 4 = true ∧ t.mgmt.lastOfs = ofs % 2 ^ 26 ∧ t.mgmt.lastSrc = src.code
      ∧ Only regPath s t)
    ∧ ∃ t, exec (.registerRead (.mgmt src) ofs 1 tag) s = .next t ∧ (t.hdr pgSYS).stat.getLsbD 4 = true ∧ t.mgmt.lastOfs = ofs % 2 ^ 26 ∧ t.mgmt.lastSrc = src.code
      ∧ (src ≠ .relay → t.out = s.out ++ [.mgmtAnswer src.code tag 0#32]) ∧ Only regPath s t)
  ∧ (∀ (src : MgmtSrc) (ofs tag : Nat) (v : Word32) (s : State), src ≠ .window → src ≠ .keaquin → s.sys.cfgReady = false →
    exec (.registerWrite src ofs [v] true tag) s = .next s ∧ exec (.registerRead (.mgmt src) ofs 1 tag) s = .next s)
  ∧ (∀ (src : MgmtSrc) (ofs tag : Nat) (v : Word32) (s : State), src ≠ .window → s.sys.cfgReady = true → 64 ≤ s.mgmt.used → (s.mqueue src.code).length < 32 → s.mgmt.held = [] →
    ∃ t, exec (.registerWrite src ofs [v] true tag) s = .next t
      ∧ t.mqueue src.code = s.mqueue src.code ++ [{ src := src.code, write := true, ofs := ofs, val := v, tag := tag }] ∧ Only [.mgmt] s t)

/-- R255, R262, R264, R266. -/
def Obligations.WindowAndLease : Prop :=
  (∀ s : State, s.windowUp = true → s.sys.cfgReady = true → s.mgmt.used < 64 → s.mgmtIdle = true →
    (∀ v, ∃ t, exec (.winCtlWrite v) s = .next t ∧ t.mgmt.winMode = bitOf v 0 ∧ t.mgmt.winBase = field v 21 16 ∧ t.mgmt.lease = s.mgmt.lease ∧ Only [.mgmt, .ctrs] s t)
    ∧ (∃ t, exec .winLeaseClaim s = .next t ∧ t.mgmt.lease = (if s.mgmt.lease = 0 then 1 else s.mgmt.lease) ∧ t.mgmt.winMode = s.mgmt.winMode ∧ Only [.mgmt, .ctrs] s t)
    ∧ (∃ t, exec .winLeaseFree s = .next t ∧ t.mgmt.lease = (if s.mgmt.lease = 1 then 0 else s.mgmt.lease) ∧ t.mgmt.winMode = s.mgmt.winMode ∧ Only [.mgmt, .ctrs] s t))
  ∧ (∀ (src : MgmtSrc) (s : State), s.sys.cfgReady = true →
    (∃ t, exec (.leaseClaim src) s = .next t ∧ t.mgmt.lease = (if s.mgmt.lease = 0 then src.code else s.mgmt.lease)
      ∧ t.out = s.out ++ [.mctp 0x7E [2, src.code, t.mgmt.lease]] ∧ Only [.mgmt, .out] s t)
    ∧ ∃ t, exec (.leaseFree src) s = .next t ∧ t.mgmt.lease = (if s.mgmt.lease = src.code then 0 else s.mgmt.lease)
      ∧ t.out = s.out ++ [.mctp 0x7E [3, src.code, t.mgmt.lease]] ∧ Only [.mgmt, .out] s t)
  ∧ (∀ s : State, ∃ t, exec .leaseTimeout s = .next t ∧ t.mgmt.lease = (if 125000 ≤ s.mgmt.idle then 0 else s.mgmt.lease) ∧ Only [.mgmt] s t)

/-- R266, R280, R281, R293. -/
def Obligations.SessionsFollowSpdm : Prop :=
  (∀ s : State, s.sys.cfgReady = true →
    (∀ e, ∃ t, exec (.setEndpointId e) s = .next t ∧ t.mctp.eid = e % 256 ∧ t.mgmt.lease = (if s.mgmt.lease = 2 ∨ s.mgmt.lease = 3 then 0 else s.mgmt.lease)
      ∧ t.out = s.out ++ [.mctp 1 [e % 256]] ∧ Only [.mctp, .mgmt, .out] s t)
    ∧ (∃ t, exec .getEndpointId s = .next t ∧ t.out = s.out ++ [.mctp 2 [s.mctp.eid]] ∧ Only [.out] s t)
    ∧ (∃ t, exec .getMessageTypeSupport s = .next t ∧ t.out = s.out ++ [.mctp 5 [0x00, 0x05, 0x06, 0x07, 0x08, 0x7E]] ∧ Only [.out] s t)
    ∧ (∃ x t, exec .getVersionMctp s = .next t ∧ t.out = s.out ++ [.mctp 4 [x]] ∧ Only [.out, .freeIx] s t))
  ∧ (∀ (via : Nat) (s : State), s.spdmUp via = true →
    let Accepted := fun (c : Instr) (req : Nat) (x : Spdm) => ∃ t, exec c s = .next t ∧ t.spdmOf via = x ∧ (∀ v, v ≠ via → t.spdmOf v = s.spdmOf v)
      ∧ t.out = s.out ++ [.spdm via req true] ∧ Only [.mctp, .out, .fns, .mfn] s t
    let Refused := fun (c : Instr) (req : Nat) => ∃ t, exec c s = .next t ∧ t.mctp = s.mctp ∧ t.out = s.out ++ [.spdm via req false] ∧ Only [.out, .fns, .mfn] s t
    let x := s.spdmOf via
    Accepted (.getVersion via) 0x84 { stage := 1 }
    ∧ (if 1 ≤ x.stage then Accepted (.getCapabilities via) 0xE1 { x with stage := 2 } else Refused (.getCapabilities via) 0xE1)
    ∧ (∀ o, if 2 ≤ x.stage ∧ o = true then Accepted (.negotiateAlgorithms via o) 0xE3 { x with stage := 3 } else Refused (.negotiateAlgorithms via o) 0xE3)
    ∧ (if x.stage = 3 then Accepted (.getDigests via) 0x81 x ∧ Accepted (.getCertificate via) 0x82 x ∧ Accepted (.challenge via) 0x83 x ∧ Accepted (.getMeasurements via) 0xE0 x
        ∧ ∀ b, Accepted (.keyExchange via b) 0xE4 { x with opening := true, session := false, mutualAuth := b }
      else Refused (.getDigests via) 0x81 ∧ Refused (.getCertificate via) 0x82 ∧ Refused (.challenge via) 0x83 ∧ Refused (.getMeasurements via) 0xE0
        ∧ ∀ b, Refused (.keyExchange via b) 0xE4)
    ∧ (∀ ok, if x.opening = true ∧ ok = true then Accepted (.spdmFinish via ok) 0xE5 { x with opening := false, session := true } else Refused (.spdmFinish via ok) 0xE5)
    ∧ (if x.session = true then Accepted (.heartbeat via) 0xE8 x ∧ Accepted (.keyUpdate via) 0xE9 { x with keyGen := 1 - x.keyGen }
        ∧ Accepted (.endSession via) 0xEC { x with session := false, opening := false, mutualAuth := false }
      else Refused (.heartbeat via) 0xE8 ∧ Refused (.keyUpdate via) 0xE9 ∧ Refused (.endSession via) 0xEC))
  ∧ (∀ (via : Nat) (s : State), ∃ t, exec (.heartbeatMissed via) s = .next t ∧ (t.spdmOf via).session = false ∧ (t.spdmOf via).mutualAuth = false
      ∧ (∀ v, v ≠ via → t.spdmOf v = s.spdmOf v) ∧ Only [.mctp] s t)

/-- R155, R159, R177, R220, R282, R934. -/
def Obligations.SessionsCarryKeys : Prop :=
  (∀ (via t key : Nat) (chain : Bool) (s : State), t < 128 → s.spdmUp via = true →
    let Good := (s.spdmOf via).session = true ∧ (s.spdmOf via).mutualAuth = true ∧ chain = true ∧ (via < 2 ∨ s.fnTenant (via - 2) = some t)
    ∃ u, exec (.deliverKey via t key chain) s = .next u
      ∧ (Good → u.ten t = { s.ten t with keyBusy := true } ∧ u.tables = { s.tables with cmds := s.tables.cmds ++ [.deliver t (key % 2 ^ 512)] }
          ∧ u.out = s.out ++ [.spdm via 0xFE true] ∧ Only [.tenants, .tables, .out, .fns, .mfn] s u)
      ∧ (¬ Good → u.out = s.out ++ [.spdm via 0xFE false] ∧ Only [.out, .fns, .mfn] s u))
  ∧ (∀ (via : Nat) (token : Bool) (s : State),
    let Good := token = true ∧ (s.spdmOf via).session = true ∧ (s.spdmOf via).mutualAuth = true ∧ ∀ e ∈ s.tables.ranges, e.2.valid = true → e.2.remote = true
    ∃ u, exec (.unlockDebug via token) s = .next u
      ∧ (Good → u.tables = { s.tables with debug := true } ∧ (u.hdr pgSYS).stat.getLsbD 2 = true ∧ u.out = s.out ++ [.spdm via 0x101 true]
          ∧ Only [.tables, .hdrs, .fns, .mfn, .out] s u)
      ∧ (¬ Good → u.tables.debug = s.tables.debug ∧ u.out = s.out ++ [.spdm via 0x101 false] ∧ Only [.out, .fns, .mfn] s u))
  ∧ (∀ (p kind : Nat) (on : Bool) (s : State), p < 8 → (s.hport p).link0.proto = 2 ∨ (s.hport p).link1.proto = 2 →
    ∃ u, exec (.ideKm p kind on) s = .next u
      ∧ (kind = 0 → (u.hport p).ideIo = on ∧ (u.hport p).ideMem = (s.hport p).ideMem ∧ (u.hport p).ideSel = (s.hport p).ideSel)
      ∧ (kind = 1 → (u.hport p).ideSel = (if on = true then min 4 ((s.hport p).ideSel + 1) else (s.hport p).ideSel - 1) ∧ (u.hport p).ideIo = (s.hport p).ideIo ∧ (u.hport p).ideMem = (s.hport p).ideMem)
      ∧ (2 ≤ kind → (u.hport p).ideMem = on ∧ (u.hport p).ideIo = (s.hport p).ideIo ∧ (u.hport p).ideSel = (s.hport p).ideSel)
      ∧ (∀ q, q ≠ p → u.hport q = s.hport q) ∧ Only [.hports] s u)

/-- R873, R882, R892, R893, R908, R911, R914, R915. -/
def Obligations.EventRegistersAct : Prop :=
  (∀ (src : MgmtSrc) (p : Nat) (v : Word32) (s : State), (pageFamily p).isSome = true → src ≠ .relay ∨ p ≠ pgFPORT 0 →
    (s.Reaches src (ofsOf p 0x14) → ∃ t, exec (.evtStatClear src p v) s = .next t
      ∧ (∀ b < 32, (t.hdr p).stat.getLsbD b = ((s.hdr p).stat.getLsbD b && (!v.getLsbD b || (s.hdr p).now.getLsbD b)))
      ∧ ((t.hdr p).stat = 0#32 → (t.hdr p).first = none) ∧ ((t.hdr p).stat ≠ 0#32 → (t.hdr p).first = (s.hdr p).first)
      ∧ (∀ q, q ≠ p → q ≠ pgFPORT 0 → t.hdr q = s.hdr q) ∧ Only regPath s t)
    ∧ (s.Reaches src (ofsOf p 0x18) → ∃ t, exec (.evtEnaWrite src p v) s = .next t
      ∧ (∀ b < 32, (t.hdr p).ena.getLsbD b = (v.getLsbD b && (eventMask p).getLsbD b)) ∧ (t.hdr p).stat = (s.hdr p).stat
      ∧ ((∃ b < 32, (s.hdr p).stat.getLsbD b = true ∧ (t.hdr p).ena.getLsbD b = true ∧ (s.hdr p).ena.getLsbD b = false) → (s.vmapOf p).2 = true →
          (if (s.vmapOf p).1 < 2 then 2 else (s.vmapOf p).1) ∈ t.mfn.now)
      ∧ (∀ q, q ≠ p → q ≠ pgFPORT 0 → t.hdr q = s.hdr q) ∧ Only regPath s t)
    ∧ (s.Reaches src (ofsOf p 0x1C) → ∃ t, exec (.evtForce src p v) s = .next t
      ∧ (∀ b < 32, (t.hdr p).stat.getLsbD b = ((s.hdr p).stat.getLsbD b || (v.getLsbD b && (eventMask p).getLsbD b)))
      ∧ (∀ q, q ≠ p → q ≠ pgFPORT 0 → t.hdr q = s.hdr q) ∧ Only regPath s t))
  ∧ (∀ (src : MgmtSrc) (v : Word32) (s : State), s.Reaches src (ofsOf pgSYS 0x74) → ∃ t, exec (.vmapDataWrite src v) s = .next t
      ∧ (let p := s.regF pgSYS 0x70 13 0
         ((pageFamily p).isSome = true → p ≠ pgFPORT 0 → t.hdr p = { s.hdr p with vmapNext := some (field v 10 0, bitOf v 15) } ∧ t.vmapOf p = s.vmapOf p)
         ∧ ((pageFamily p).isSome = false → ∀ q, q ≠ pgFPORT 0 → t.hdr q = s.hdr q))
      ∧ Only regPath s t)
  ∧ (∀ (src : MgmtSrc) (reel : Nat) (damaged : Bool) (s : State), s.Reaches src (ofsOf pgSYS 0x90) → ∃ t, exec (.dailySelWrite src reel damaged) s = .next t
      ∧ t.daily.sel = reel % 2 ^ 32 ∧ (reel = reelOf s.frame.num → reel < 2 ^ 32 → t.daily.stat = 2)
      ∧ (∀ r b, s.dailyReel (reel % 2 ^ 32) = some r → r ≠ reelOf s.frame.num → s.dailyOf r = some b → t.daily.stat = if damaged = true ∨ r ∈ s.daily.bad then 3 else 0)
      ∧ (∀ r, s.dailyReel (reel % 2 ^ 32) = some r → r ≠ reelOf s.frame.num → s.dailyOf r = none → t.daily.stat = 1)
      ∧ (s.dailyReel (reel % 2 ^ 32) = none → t.daily.stat = 2) ∧ Only regPath s t)
  ∧ (∀ (src : MgmtSrc) (seq : Nat) (s : State), s.Reaches src (ofsOf pgCLOG 0x4C) → ∃ t, exec (.rdSeqWrite src seq) s = .next t
      ∧ t.log = { s.log with rdSeq := seq % 2 ^ 32 } ∧ Only (.log :: regPath) s t)

/-- R833, R866 to R872, R875, R883, R944, R946, R948. -/
def Obligations.DeviceFaultsAreLogged : Prop :=
  (∀ (part : Nat) (s : State), ∃ t, exec (.hubUe part) s = .next t ∧ s.GoesFatal 0x1001 [part] t ∧ Only [.log, .hdrs, .mfn, .ctrs] s t)
  ∧ (∀ (die : Nat) (s : State), die < 4 → ∃ t, exec (.dieLink die) s = .next t ∧ s.GoesFatal 0x1002 [die] t ∧ Only [.log, .hdrs, .mfn, .ctrs] s t)
  ∧ (∀ s : State, ∃ t, exec .mgmtWatchdog s = .next t ∧ s.GoesFatal 0x1003 [] t
      ∧ t.fw = (if s.fw.trial = true then { s.fw with trialEnded := true } else s.fw) ∧ Only [.fw, .log, .hdrs, .mfn, .ctrs] s t)
  ∧ (∀ (rail : Nat) (s : State), rail < 5 → s.sys.rstLow = false →
      ∃ t, exec (.railFault rail) s = .next t ∧ s.GoesFatal 0x1004 [rail] t ∧ Only [.log, .hdrs, .mfn, .ctrs] s t)
  ∧ (∀ (sensor deg : Nat) (s : State), sensor < 8 → 110 ≤ deg → s.power.stopped = false → ∃ t, exec (.thermalTrip sensor deg) s = .next t
      ∧ s.GoesFatal 0x1005 [sensor] t ∧ t.power.stopped = true ∧ (∀ d ∈ diesOf sensor, d ∈ t.power.emerg)
      ∧ Only [.power, .log, .hdrs, .mfn, .ctrs, .sys, .out] s t)
  ∧ (∀ (sensor deg : Nat) (s : State), sensor < 8 → s.tEmerg ≤ deg → deg < 110 → ∃ t, exec (.thermEmergency sensor deg) s = .next t
      ∧ (∀ d ∈ diesOf sensor, d ∈ t.power.emerg) ∧ (t.hdr (pgPRESS 0)).stat.getLsbD 11 = true ∧ t.power.temp = listSet sensor deg s.power.temp
      ∧ (s.power.temp.length = 8 → t.sys.alertPin = true) ∧ t.power.stopped = s.power.stopped ∧ Only [.power, .hdrs, .mfn, .sys, .out] s t)
  ∧ (∀ (i : Nat) (s : State), i < 8 → s.power.silent.getD i 0 = 8 → ∃ t, exec (.sensorFault i) s = .next t
      ∧ s.Records 0x1102 0 none (pgPRESS 0) 0 [i] t ∧ (∀ d ∈ diesOf i, d ∈ t.power.emerg) ∧ (t.hdr (pgPRESS 0)).stat.getLsbD 11 = true
      ∧ Only [.power, .log, .hdrs, .mfn, .ctrs] s t)
  ∧ (∀ s : State, s.log.dropped ≠ 0 → logRoom s.log.onchip 0 = true → ∃ t, exec .logOverflow s = .next t
      ∧ t.log.dropped = 0 ∧ t.log.onchip = s.log.onchip ++ [s.entryNow 0x1010 0 none pgCLOG 0 (x2 s.log.dropped)] ∧ Only [.log, .hdrs, .mfn, .ctrs] s t)
  ∧ (∀ (first n : Nat) (s : State), (∃ e ∈ s.log.ring ++ s.log.onchip, first ≤ e.seq ∧ e.seq < first + n) → ∃ t, exec (.logRingUe first n) s = .next t
      ∧ (∀ e, e ∈ t.log.ring ↔ e ∈ s.log.ring ∧ ¬ (first ≤ e.seq ∧ e.seq < first + n))
      ∧ (∀ e ∈ s.log.ring ++ s.log.onchip, first ≤ e.seq ∧ e.seq < first + n → e.seq ∈ t.log.damaged)
      ∧ (t.hdr pgCLOG).stat.getLsbD 3 = true ∧ Only [.log, .hdrs, .mfn, .ctrs] s t)
  ∧ (∀ (p ix : Nat) (o : Output) (s : State), (s.hport p).respQ[ix]? = some o → ∃ t, exec (.escrowUe 0 p ix) s = .next t
      ∧ t.hport p = { s.hport p with respQ := listSet ix (poisonResp o) (s.hport p).respQ } ∧ (∀ q, q ≠ p → t.hport q = s.hport q)
      ∧ Only [.hports, .ctrs] s t)
  ∧ (∀ (p ix page : Nat) (w : LineWrite) (s : State), (s.sinkWrites p)[ix]? = some (page, w) → ∃ t, exec (.escrowUe 1 p ix) s = .next t
      ∧ (t.page page).held = (s.page page).held.map (fun x => if x = w then { x with poison := true } else x) ∧ (∀ q, q ≠ page → t.page q = s.page q)
      ∧ s.Records 0x0F01 3 (match w.who with | .host r => some r.tenant | _ => none) (pgHPORT p) (64 * w.line) [1] t
      ∧ Only [.tier, .log, .hdrs, .mfn, .ctrs] s t)
  ∧ (∀ (p page : Nat) (s : State), (∀ r ∈ s.shelf.reads, r.page ≠ page) → ∃ t, exec (.escrowUe 3 p page) s = .next t
      ∧ (∀ w ∈ t.lanes.waiting, w.page = page → w.kind = .fetched → w.ue = true) ∧ Only [.lanes] s t)

/-- R938 to R943. -/
def Obligations.PowerStatesAreRequested : Prop :=
  (∀ (src : MgmtSrc) (aw : Bool) (s : State), s.Reaches src (ofsOf (pgPRESS 0) 0x100) → ∃ t, exec (.pwrReqRun src aw) s = .next t
      ∧ t.power.want = (if s.power.st = 3 then some 0 else none) ∧ t.power.offWait = [] ∧ t.power.rej = 0 ∧ t.power.st = s.power.st
      ∧ t.power.wake = (if s.gated = true ∧ s.baseState ≤ 2 then s.power.wake.orElse (fun _ => some s.frame.num) else s.power.wake)
      ∧ bitOf (t.reg (ofsOf (pgPRESS 0) 0x100)) 4 = aw ∧ Only (.power :: .regs :: regPath) s t)
  ∧ (∀ (src : MgmtSrc) (aw : Bool) (k : Nat) (s : State), k = 1 ∨ k = 2 → s.Reaches src (ofsOf (pgPRESS 0) 0x100) →
      ∃ t, exec (if k = 1 then .pwrReqTrim src aw else .pwrReqIdle src aw) s = .next t
      ∧ (s.pressSealed = true → t.power = { s.power with rej := 1 } ∧ (t.hdr (pgPRESS 0)).stat.getLsbD 14 = true)
      ∧ (s.pressSealed = false → t.power = { s.power with want := if s.power.st = k then none else some k, rej := 0, wake := none, offWait := [] })
      ∧ bitOf (t.reg (ofsOf (pgPRESS 0) 0x100)) 4 = aw ∧ Only (.power :: .regs :: regPath) s t)
  ∧ (∀ (src : MgmtSrc) (aw : Bool) (s : State), s.Reaches src (ofsOf (pgPRESS 0) 0x100) → ∃ t, exec (.pwrReqOff src aw) s = .next t
      ∧ t.power.want = (if s.power.st = 3 then none else some 3) ∧ t.power.rej = 0
      ∧ 1 ∈ t.power.offWait ∧ t.press.swatch.now = true ∧ (2 ∈ t.power.offWait ↔ s.shelf.gib ≠ 0)
      ∧ (3 ∈ t.power.offWait ↔ ∃ e ∈ s.pats.slots, e.2.dirty.isSome = true)
      ∧ bitOf (t.reg (ofsOf (pgPRESS 0) 0x100)) 4 = aw ∧ Only (.power :: .regs :: .press :: .shelf :: regPath) s t)
  ∧ (∀ (f : Nat) (s : State), s.power.wake = some f → s.frame.num % 125 = 0 → 2000 ≤ framesSince f s.frame.num → ∃ t, exec .wakeComplete s = .next t
      ∧ t.power = { s.power with wake := none, before := 0, st := if s.power.st = 3 then 3 else 0 }
      ∧ (t.hdr (pgPRESS 0)).stat.getLsbD 13 = true ∧ Only [.power, .press, .hdrs, .mfn] s t)

/-- R837, R838, R841, R857. -/
def Obligations.UnitsAreServiced : Prop :=
  (∀ (src : MgmtSrc) (c i : Nat) (k : UnitKind) (s : State), kindOf c = some k → i < k.count → s.Reaches src (svcReqOfs k i) →
    (k = .lane → s.regF pgPAT 0x100 5 0 = i) → (k = .engine → s.regF pgSYS 0x300 4 0 = i) → ∃ t, exec (.svcDrain src c i) s = .next t
      ∧ (s.drainCause k i = 0 → t.unit k i = { s.unit k i with req := some 1 } ∧ t.svcRej = s.svcRej)
      ∧ (s.drainCause k i ≠ 0 → t.unit k i = s.unit k i ∧ t.svcRej = s.drainCause k i ∧ t.svcEvt.getLsbD 6 = true)
      ∧ Only (.svc :: .svcEvt :: .svcRej :: regPath) s t)
  ∧ (∀ (src : MgmtSrc) (c i : Nat) (k : UnitKind) (s : State), kindOf c = some k → i < k.count → s.Reaches src (svcReqOfs k i) →
    (k = .lane → s.regF pgPAT 0x100 5 0 = i) → (k = .engine → s.regF pgSYS 0x300 4 0 = i) → ∃ t, exec (.svcReturn src c i) s = .next t
      ∧ ((s.unit k i).st = .out → t.unit k i = { s.unit k i with req := some 2 } ∧ t.svcRej = s.svcRej)
      ∧ ((s.unit k i).st ≠ .out → t.unit k i = s.unit k i ∧ t.svcRej = 1 ∧ t.svcEvt.getLsbD 6 = true)
      ∧ Only (.svc :: .svcEvt :: .svcRej :: regPath) s t)
  ∧ (∀ (c i : Nat) (k : UnitKind) (s : State), kindOf c = some k → i < k.count → (s.unit k i).st = .drain → s.drained k i = true →
    ∃ t, exec (.unitDrained c i) s = .next t ∧ t.unit k i = { s.unit k i with req := some 3 } ∧ Only [.svc] s t)
  ∧ (∀ (c i : Nat) (k : UnitKind) (failed : Option Nat) (lost : List (Nat × Nat)) (s : State), kindOf c = some k → i < k.count →
    (s.unit k i).st = .quar → (s.unit k i).result = 1 → ∃ t, exec (.quarantineDone c i failed lost) s = .next t
      ∧ (failed = none → (s.unit k i).fail = none → (t.unit k i) = { s.unit k i with result := 2, req := some 4 } ∧ t.svcEvt.getLsbD 2 = true
          ∧ (k ≠ .press → Only [.svc, .svcEvt, .mfn] s t) ∧ Only [.svc, .svcEvt, .mfn, .press] s t)
      ∧ (∀ n, failed = some n → t.unit k i = { s.unit k i with result := 3, test := n, req := some 5, fail := none } ∧ t.svcEvt.getLsbD 3 = true
          ∧ s.Records 0x0F02 4 none (unitPage k i) i [k.advice, 0xF000 + n] t ∧ Only [.svc, .svcEvt, .log, .hdrs, .mfn, .ctrs] s t))
  ∧ (∀ (c i : Nat) (k : UnitKind) (s : State), kindOf c = some k → i < k.count → (s.unit k i).st = .quar → (s.unit k i).result = 1 →
    s.regF pgSYS 0x364 23 0 * 1000 ≤ framesSince (s.unit k i).since s.frame.num → ∃ t, exec (.quarantineTimeout c i) s = .next t
      ∧ t.unit k i = { s.unit k i with result := 3, test := 15, req := some 5, fail := none } ∧ t.svcEvt.getLsbD 3 = true
      ∧ s.Records 0x0F02 4 none (unitPage k i) i [k.advice, 0xF00F] t ∧ Only [.svc, .svcEvt, .log, .hdrs, .mfn, .ctrs] s t)
  ∧ (∀ s : State, ∃ t, exec .trstAssert s = .next t ∧ t.sys.tap = .idcode ∧ Only [.sys] s t)
  ∧ (∀ s : State, (∃ t, exec .idcode s = .next t ∧ t.sys.tap = .idcode ∧ t.out = s.out ++ [.tdo (State.idcode Config.step)] ∧ Only [.sys, .out] s t)
    ∧ (∃ t, exec .samplePreload s = .next t ∧ t.sys.tap = (if s.sys.rstLow = true then .sample else .bypass) ∧ Only [.sys] s t)
    ∧ (∃ t, exec .jtagOtherInstruction s = .next t ∧ t.sys.tap = (if s.tables.debug = true then .other else .bypass) ∧ Only [.sys] s t))

/-- R97 to R100, R137, R149 to R151, R216, R242, R302, R329, R357. -/
def Obligations.HostReadsAreAnswered : Prop :=
  (∀ (c : Instr) (kind : ReqKind) (m : MemReq) (h : Nat) (g : Range) (s : State),
      (c, kind) ∈ [(Instr.memRd m, ReqKind.rd), (.memRdData m, .rdData), (.memInv m, .inv)] →
      s.Passes m h g → s.Quiet m.port → s.AdmitsAtOnce m.port (s.ident h).tenant (s.ident h).cls → s.Sound m →
      ∃ t, exec c s = .next t
        ∧ ((s.page (pageOfLine m.line)).st = .zero →
            (∃ dev, s.Sent m.port (readAnswer kind m zeroLine (s.isPoison m.line) dev) t) ∧ Only reqPath s t)
        ∧ ((s.page (pageOfLine m.line)).st = .opened ∨ (s.page (pageOfLine m.line)).st = .folding → m.env.dec = .good →
            (∃ dev, s.Sent m.port (readAnswer kind m (s.readLine m.line) (s.isPoison m.line) dev) t)
            ∧ t.page (pageOfLine m.line) = { s.page (pageOfLine m.line) with age := 0, touched := true }
            ∧ (∀ q, q ≠ pageOfLine m.line → t.page q = s.page q) ∧ Only (.tier :: .dram :: reqPath) s t))
  ∧ (∀ (p i : Nat) (r : Req) (g : Range) (s : State), p < 8 → (s.hport p).waiting = [r] → r.m.port = p → r.kind.isWrite = false →
      s.fab.waiting = [] → s.DirIdle → s.AdmitsAtOnce p r.tenant r.cls → s.isDb r.m.line = false →
      s.rgnAt (granuleOfLine r.m.line) = some (i, g) → g.remote = false → s.Sound r.m →
      (s.page (pageOfLine r.m.line)).st = .opened → r.m.env.dec = .good →
      ∃ t dev, exec (.hubRequestAdmit p) s = .next t
        ∧ s.Sent p (readAnswer r.kind r.m (s.readLine r.m.line) (s.isPoison r.m.line) dev) t ∧ (t.hport p).waiting = []
        ∧ t.page (pageOfLine r.m.line) = { s.page (pageOfLine r.m.line) with age := 0, touched := true }
        ∧ (∀ q, q ≠ pageOfLine r.m.line → t.page q = s.page q) ∧ Only (.tier :: .dram :: reqPath) s t)
  ∧ (∀ (c : Instr) (kind : ReqKind) (m : MemReq) (s : State),
      (c, kind) ∈ [(Instr.memRd m, ReqKind.rd), (.memRdData m, .rdData), (.memInv m, .inv), (.memWr m, .wr), (.memWrPtl m, .wrPtl)] →
      (s.accepts m.port m.link = false → ∃ t, exec c s = .next t ∧ Only [.sys] s t)
      ∧ (s.accepts m.port m.link = true →
          let Refused := fun (t : State) => s.Sent m.port (if kind.isWrite then .ndr m.port m.tag 0 0 0 else readAnswer kind m zeroLine true 0) t
            ∧ Only [.ctrs, .daily, .hports, .out, .fns, .hdrs, .mfn, .sys] s t
          (s.sys.memActive = false → ∃ t, exec c s = .next t ∧ Refused t)
          ∧ (s.sys.memActive = true → s.matchId m.port m.link m.src = none →
              ∃ t, exec c s = .next t ∧ Refused t ∧ (t.hdr pgTEN128).stat.getLsbD 2 = true)
          ∧ (∀ h, s.sys.memActive = true → s.matchId m.port m.link m.src = some h → (s.ident h).lost ≠ 0 → ∃ t, exec c s = .next t ∧ Refused t)
          ∧ (∀ h, s.sys.memActive = true → s.matchId m.port m.link m.src = some h → (s.ident h).lost = 0 →
              s.reach (s.ident h).tenant (granuleOfLine m.line) = none
                ∨ (∃ x, s.reach (s.ident h).tenant (granuleOfLine m.line) = some x ∧ ((s.hport m.port).linkOf m.link).flit = 1 ∧ x.2.kind ≠ kPrivate) →
              ∃ t, exec c s = .next t ∧ Refused t ∧ (t.hdr pgTEN128).stat.getLsbD 3 = true)))

/-- R101, R102, R496. -/
def Obligations.HostWritesAreStored : Prop :=
  (∀ (c : Instr) (kind : ReqKind) (be : Nat) (m : MemReq) (h : Nat) (g : Range) (s : State),
      (c, kind, be) ∈ [(Instr.memWr m, ReqKind.wr, fullBe), (.memWrPtl m, .wrPtl, m.be)] →
      s.Passes m h g → s.Quiet m.port → s.AdmitsAtOnce m.port (s.ident h).tenant (s.ident h).cls → s.Sound m →
      ∃ t, exec c s = .next t
        ∧ ((s.page (pageOfLine m.line)).st = .opened → be = fullBe ∨ (s.fcLine m.line).valid = true →
            (∃ dev, s.Sent m.port (.ndr m.port m.tag 0 0 dev) t) ∧ s.LineWritten m.line m.data be m.poison t
            ∧ t.page (pageOfLine m.line) = { s.page (pageOfLine m.line) with age := 0, touched := true }
            ∧ (∀ q, q ≠ pageOfLine m.line → t.page q = s.page q) ∧ Only (.tier :: .dram :: .mem :: .poison :: .log :: reqPath) s t)
        ∧ ((s.page (pageOfLine m.line)).st ≠ .opened →
            (∃ w : LineWrite, (w.line, w.data, w.be, w.poison) = (m.line, m.data, be, m.poison) ∧ (t.page (pageOfLine m.line)).held = [w])
            ∧ (t.page (pageOfLine m.line)).want = true ∧ (t.page (pageOfLine m.line)).st = (s.page (pageOfLine m.line)).st
            ∧ t.out = s.out ∧ (∀ q, q ≠ pageOfLine m.line → t.page q = s.page q) ∧ Only (.tier :: reqPath) s t))
  ∧ (∀ (p : Nat) (w : LineWrite) (r : Req) (s : State), (s.page p).st = .opened → (s.page p).held = [w] → w.who = .host r →
      w.be = fullBe ∨ (s.fcLine w.line).valid = true →
      ∃ t dev, exec (.heldWriteApply p) s = .next t ∧ s.Sent r.m.port (.ndr r.m.port r.m.tag 0 r.grant dev) t ∧ s.LineWritten w.line w.data w.be w.poison t
        ∧ t.page p = { s.page p with held := [], want := false, age := 0 } ∧ (∀ q, q ≠ p → t.page q = s.page q)
        ∧ Only (.tier :: .dram :: .mem :: .poison :: .log :: reqPath) s t)

/-- R322, R323, R326, R327, R329, R334, R335, R343, R820. -/
def Obligations.RecallsAreAnswered : Prop :=
  (∀ (p link src line rsp : Nat) (dirty : Bool) (tr : Trans) (n : Snoop) (s : State), p < 8 → s.Recalling line tr n → s.matchId p link src = some n.hid →
      s.accepts p link = true → (s.ident n.hid).lost = 0 →
      ∃ t, exec (.birsp p link src line rsp dirty) s = .next t
        ∧ (rspFits n.kind rsp = false → t.dir = s.dir ∧ t.ctr (ofsOf pgDIR 0x78) 8 = satAdd 32 (s.ctr (ofsOf pgDIR 0x78) 8) 1 ∧ Only [.ctrs, .sys] s t)
        ∧ (rspFits n.kind rsp = true → (dirty && n.hadM) = false →
            t.dir.trans = [(line, some (tr.without n.hid))]
            ∧ (n.kind = snInv → (s.dirEnt line).coarse = false → (s.dirEnt line).valid = true → t.holds (t.dirEnt line) n.hid = false) ∧ Only [.dir, .sys] s t)
        ∧ (rspFits n.kind rsp = true → (dirty && n.hadM) = true → n.wb = false →
            t.dir.trans = [(line, some (tr.noting n.hid fun m => { m with resp := true, needWb := dirty && m.hadM }))]
            ∧ (∀ l, t.dirEnt l = s.dirEnt l) ∧ Only [.dir, .sys] s t))
  ∧ (∀ (p link src line tag h : Nat) (s : State), p < 8 → s.matchId p link src = some h →
      let due := (s.openSnoop line h).isSome = true ∧ ((∃ tr r, s.trans line = some tr ∧ .req r ∈ tr.wait ∧ r.hid = h) ∨ ∃ r ∈ (s.hport p).waiting, r.hid = h ∧ r.m.line = line)
      (due → ∃ t dev, exec (.biconflict p link src line tag) s = .next t ∧ s.Sent p (.ndr p tag 4 0 dev) t ∧ Only [.ctrs, .hports, .out] s t)
      ∧ (¬ due → exec (.biconflict p link src line tag) s = .next s))
  ∧ (∀ (m : MemReq) (s : State), m.port < 8 →
      (∀ h, s.matchId m.port m.link m.src = some h → s.accepts m.port m.link = true ∧ (s.ident h).lost = 0 ∧ s.openSnoop m.line h = none ∧ s.openSnoop (recallKey m.line) h = none) →
      exec (.rwdWriteback m) s = exec (.memWr m) s)
  ∧ (∀ (m : MemReq) (i : Nat) (g : Range) (tr : Trans) (n : Snoop) (s : State), m.port < 8 → s.Recalling m.line tr n → s.matchId m.port m.link m.src = some n.hid →
      s.accepts m.port m.link = true → (s.ident n.hid).lost = 0 → s.rgnAt (granuleOfLine m.line) = some (i, g) → g.remote = false →
      s.keyBad m.line = false → m.sheetBad = false → (s.page (pageOfLine m.line)).st = .opened → (s.page (pageOfLine m.line)).held = [] →
      ∃ t, exec (.rwdWriteback m) s = .next t ∧ (∃ dev, s.Sent m.port (.ndr m.port m.tag 0 0 dev) t) ∧ s.LineWritten m.line m.data fullBe m.poison t
        ∧ t.dir.trans = [(m.line, some (if n.resp then tr.without n.hid else tr.noting n.hid fun x => { x with wb := true }))]
        ∧ Only [.tier, .mem, .poison, .log, .dram, .dir, .ctrs, .slate, .daily, .rgl, .hports, .out, .tenants, .freeIx, .sys] s t)
  ∧ (∀ (line h f : Nat) (tr : Trans) (n : Snoop) (s : State), line < 2 ^ 42 → s.dir.trans = [(line, some tr)] → s.dir.issue = [] → tr.phase = .recall →
      n.hid = h → tr.snoops.find? (fun m => m.hid == h) = some n → (∃ m ∈ tr.snoops, m.hid ≠ h) → n.sent = some f → (s.ident h).lost = 0 →
      (∀ r, tr.what = .req r → r.hid ≠ h) →
      (framesSince f s.frame.num < 4 → exec (.recallDeadline line false h) s = .next s)
      ∧ (4 ≤ framesSince f s.frame.num → ∃ t, exec (.recallDeadline line false h) s = .next t
          ∧ (t.ident h).lost = 1 ∧ (t.ident h).clearing = some s.frame.num ∧ (∀ l ∈ s.mLines h, t.isPoison l = true)
          ∧ (t.hdr pgDIR).stat.getLsbD 0 = true ∧ (s.mLines h ≠ [] → (t.hdr pgDIR).stat.getLsbD 1 = true)
          ∧ t.dir.trans = [(line, some (tr.without h))]
          ∧ (s.mLines h = [] → s.Records 0x0501 3 (some (s.ident h).tenant) pgDIR (64 * line) [h, 1] t)
          ∧ Only [.tables, .ctrs, .hdrs, .mfn, .log, .dir, .poison] s t))

/-- R439, R441, R465 to R471, R473, R474, R479. -/
def Obligations.PatternsAreLoaded : Prop :=
  (∀ (src : MgmtSrc) (s : State), s.Reaches src (ofsOf pgPAT 0x48) → s.patBusy = false → s.sys.memActive = false → ∀ c ∈ [Instr.patBegin src, .patCommit src,
      .patAbort src, .patWithdraw src, .patRetire src, .patRefold src, .patRepair src],
      ∃ t, exec c s = .next t ∧ t.pats = { s.pats with stat := 12 } ∧ Only (.pats :: regPath) s t)
  ∧ (∀ (src : MgmtSrc) (s : State), s.Reaches src (ofsOf pgPAT 0x48) → s.patBusy = true → ∀ c ∈ [Instr.patBegin src, .patCommit src, .patAbort src, .patWithdraw src,
      .patRetire src, .patRefold src, .patRepair src], ∃ t, exec c s = .next t ∧ Only regPath s t)
  ∧ (∀ (src : MgmtSrc) (s : State), s.Reaches src (ofsOf pgPAT 0x48) → s.patBusy = false → s.sys.memActive = true →
      let n := s.patIdx
      let Says := fun (c : Instr) (code : Nat) => ∃ t, exec c s = .next t ∧ t.pats = { s.pats with stat := code } ∧ Only (.pats :: regPath) s t
      (s.pats.staging.isSome = true → Says (.patBegin src) 9 ∧ Says (.patRepair src) 9)
      ∧ (s.pats.staging = none →
          ((s.pslot n).st = psSTAGING ∨ (s.pslot n).held = true → Says (.patBegin src) 9) ∧ ((s.pslot n).st = psFAULT → Says (.patBegin src) 10)
          ∧ ((s.pslot n).st ≠ psFAULT → Says (.patRepair src) 10) ∧ Says (.patAbort src) 10 ∧ Says (.patCommit src) 10)
      ∧ (∀ k, s.pats.staging = some k → k.1 ≠ n → Says (.patAbort src) 10 ∧ Says (.patCommit src) 10)
      ∧ ∀ c op, (c, op) ∈ [(Instr.patWithdraw src, 4), (.patRetire src, 5), (.patRefold src, 6)] →
          ∃ t, exec c s = .next t ∧ t.pats = { s.pats with cmds := [(op, n)] } ∧ Only (.pats :: regPath) s t)
  ∧ (∀ (src : MgmtSrc) (s : State), s.Reaches src (ofsOf pgPAT 0x48) → s.patBusy = false → s.sys.memActive = true → s.pats.staging = none →
      let n := s.patIdx
      ∀ c repair, (c, repair) ∈ [(Instr.patBegin src, false), (.patRepair src, true)] → (s.pslot n).st = (if repair then psFAULT else psEMPTY) →
      let owner := if repair then (s.pslot n).owner else s.regF pgPAT 0x44 22 16
      ∃ t, exec c s = .next t ∧ t.pats.staging = some (n, repair, owner) ∧ t.pats.staged = [] ∧ t.pats.stat = 0
        ∧ t.pslot n = { s.pslot n with st := psSTAGING, preStage := (s.pslot n).st, owner := if commonSlot n then (s.pslot n).owner else owner }
        ∧ (∀ k, k ≠ n → t.pslot k = s.pslot k) ∧ Only (.pats :: regPath) s t)
  ∧ (∀ (src : MgmtSrc) (r : Bool) (owner : Nat) (s : State), s.Reaches src (ofsOf pgPAT 0x48) → s.patBusy = false → s.sys.memActive = true →
      s.pats.staging = some (s.patIdx, r, owner) →
      let n := s.patIdx
      let code := s.validate n owner r s.pats.staged s.pats.past
      let Closed := fun (t : State) => t.pats.staging = none ∧ t.pats.staged = [] ∧ t.pats.install = none ∧ (t.pslot n).st = (s.pslot n).preStage
        ∧ ∀ k, k ≠ n → t.pslot k = s.pslot k
      (∃ t, exec (.patAbort src) s = .next t ∧ Closed t ∧ t.pats.stat = 0 ∧ Only (.pats :: regPath) s t)
      ∧ (code = 0 → ∃ t, exec (.patCommit src) s = .next t ∧ t.pats = { s.pats with install := some s.frame.num, stat := 0 } ∧ Only (.pats :: regPath) s t)
      ∧ (code ≠ 0 → ∃ t, exec (.patCommit src) s = .next t ∧ Closed t ∧ t.pats.stat = code ∧ (t.hdr pgPAT).stat.getLsbD 1 = true ∧ Only (.pats :: regPath) s t))
  ∧ (∀ (src : MgmtSrc) (v : Word32) (s : State), s.Reaches src (ofsOf pgPAT 0x4C) →
      ∃ t, exec (.loadDataWrite src v) s = .next t ∧ Only (.pats :: regPath) s t
        ∧ (s.pats.staging = none ∨ s.pats.install ≠ none → t.pats = s.pats)
        ∧ (s.pats.staging ≠ none → s.pats.install = none → s.pats.staged.length < 17068 → t.pats = { s.pats with staged := s.pats.staged ++ leBytes 4 v.toNat })
        ∧ (s.pats.staging ≠ none → s.pats.install = none → 17068 ≤ s.pats.staged.length → t.pats = { s.pats with past := true }))
  ∧ (∀ (src : MgmtSrc) (t : Nat) (v : Word32) (s : State), t < 128 → s.Reaches src (ofsOf (pgTEN t) 0x140) →
      let ok := (v.getLsbD 15 = true → s.foldable (field v 11 0) t = true) ∧ (v.getLsbD 31 = true → s.foldable (field v 27 16) t = true)
      ∃ u, exec (.foldPatWrite src t v) s = .next u
        ∧ (ok → u.ten t = { s.ten t with foldPat := v &&& 0x8FFF8FFF#32 } ∧ (∀ k, k ≠ t → u.ten k = s.ten k) ∧ Only (.tenants :: regPath) s u)
        ∧ (¬ ok → u.tenants = s.tenants ∧ (u.hdr pgPAT).stat.getLsbD 23 = true ∧ Only regPath s u))
  ∧ (∀ (src : MgmtSrc) (v : Word32) (s : State), s.Reaches src (ofsOf pgPAT 0x128) →
      let ok := v.getLsbD 15 = true → commonSlot (field v 11 0) = true ∧ (s.pslot (field v 11 0)).st = psACTIVE
      ∃ t, exec (.commonDefWrite src v) s = .next t
        ∧ (ok → t.lanes = { s.lanes with commonDef := v &&& 0x8FFF#32 } ∧ Only (.lanes :: regPath) s t)
        ∧ (¬ ok → t.lanes = s.lanes ∧ (t.hdr pgPAT).stat.getLsbD 23 = true ∧ Only regPath s t))

/-- R436, R455, R467, R469, R470, R476, R482, R483. -/
def Obligations.PatternFilesAreInstalled : Prop :=
  (∀ (n : Nat) (rep : Bool) (owner f : Nat) (s : State), s.pats.staging = some (n, rep, owner) → s.pats.install = some f →
      (s.frame.num = f → exec .patternInstall s = .next s)
      ∧ (s.frame.num ≠ f → ∃ t, exec .patternInstall s = .next t
          ∧ (t.pslot n).st = (if rep = true ∧ (s.pslot n).preFault = psWITHDRAWN then psWITHDRAWN else psACTIVE) ∧ (t.pslot n).file = s.pats.staged
          ∧ (t.pslot n).owner = (if commonSlot n then 0 else owner) ∧ (t.pslot n).uid = fileUid s.pats.staged ∧ (t.pslot n).crc = fileCrc s.pats.staged
          ∧ (t.pslot n).dirty = (if s.pats.hasStore then some s.frame.num else none)
          ∧ (∀ k, k ≠ n → t.pslot k = s.pslot k) ∧ t.pats.staging = none ∧ t.pats.staged = [] ∧ t.pats.install = none
          ∧ (t.hdr pgPAT).stat.getLsbD 0 = true ∧ Only [.pats, .lanes, .slate, .daily, .hdrs, .mfn] s t))
  ∧ (∀ (n : Nat) (target : Nat) (s : State),
      ((s.pslot n).dirty = none ∨ s.pats.hasStore = false → ∀ ok, exec (.patternPersist n ok target) s = .next s)
      ∧ ((s.pslot n).dirty ≠ none → s.pats.hasStore = true →
          (∃ t, exec (.patternPersist n true target) s = .next t ∧ t.pslot n = { s.pslot n with dirty := none, persisted := true, failed := 0 }
            ∧ mapGet (fun _ => ({} : PatRec)) t.pats.store n = { st := (s.pslot n).st, owner := (s.pslot n).owner, file := (s.pslot n).file, seq := s.pats.seq + 1 }
            ∧ t.pats.seq = s.pats.seq + 1 ∧ (∀ k, k ≠ n → t.pslot k = s.pslot k) ∧ Only [.pats] s t)
          ∧ (∃ t, exec (.patternPersist n false target) s = .next t ∧ t.pslot n = { s.pslot n with failed := (s.pslot n).failed + 1 }
            ∧ ((s.pslot n).failed + 1 = 8 → (t.hdr pgPAT).stat.getLsbD 5 = true) ∧ ((s.pslot n).failed + 1 ≠ 8 → Only [.pats] s t)
            ∧ (∀ k, k ≠ n → t.pslot k = s.pslot k) ∧ Only [.pats, .log, .hdrs, .mfn, .ctrs] s t)))
  ∧ (∀ (slot : Nat) (e : Nat × RackEnt) (copyOk : Bool) (s : State), s.lanes.rack.find? (fun e => e.2.filling && e.2.slot == slot) = some e →
      (∃ t, exec (.rackFillDone slot true copyOk) s = .next t ∧ t.rackEnt e.1 = { s.rackEnt e.1 with filling := false, valid := true }
        ∧ (∀ k, k ≠ e.1 → t.rackEnt k = s.rackEnt k) ∧ Only [.lanes] s t)
      ∧ (∃ t, exec (.rackFillDone slot false copyOk) s = .next t ∧ (t.hdr pgPAT).stat.getLsbD 24 = true
        ∧ (let r := mapGet (fun _ => ({} : PatRec)) s.pats.store slot
           let good := copyOk = true ∧ r.file.length = 17068
           (good → t.rackEnt e.1 = {} ∧ t.pslot slot = { s.pslot slot with file := r.file })
           ∧ (¬ good → (∀ x ∈ t.lanes.rack, x.2.slot ≠ slot) ∧ (t.pslot slot).st = psFAULT ∧ (t.pslot slot).preFault = (s.pslot slot).st ∧ (t.hdr pgPAT).stat.getLsbD 4 = true))
        ∧ (∀ k, k ≠ slot → t.pslot k = s.pslot k) ∧ Only [.lanes, .pats, .log, .hdrs, .mfn, .ctrs] s t))

/-- R403 to R407, R424 to R431, R433, R436, R440, R453, R454. -/
def Obligations.LanesFoldAndUnfold : Prop :=
  (∀ (s : State), (∀ w n, s.lanes.waiting.find? (fun w => (s.pickLane w 2).isSome) = some w → s.pickLane w 2 = some n →
        ∃ t e, exec .pageDispatch s = .next t ∧ t.lanes.waiting = s.lanes.waiting.erase w
          ∧ t.lane n = { s.lane n with queue := (s.lane n).queue ++ [{ w with escU := e, partU := 2 - e }] } ∧ (∀ k, k ≠ n → t.lane k = s.lane k)
          ∧ Only [.lanes, .slate, .daily, .sys] s t)
      ∧ (s.lanes.waiting.find? (fun w => (s.pickLane w 2).isSome) = none → ∃ t, exec .pageDispatch s = .next t ∧ Only [.sys] s t))
  ∧ (∀ (n code : Nat) (w : LaneWork) (pat : Option Nat) (avail refused : Bool) (s : State), n < 64 → (s.lane n).busy.any (fun b => b.1 == code) = false →
      s.isIn .lane n = true → s.fits gLANE n 0 code 1 = true → s.nextWork n code = some w → s.patternCase w = (pat, avail, refused) →
      let cached := pat.all fun p => decide (p ∈ (s.lane n).cache)
      let w' := w.starts pat avail (s.ten w.owner).sealed cached
      (cached = false → pat.all s.inRack = false → ∃ t, exec (.lanePageStart n code) s = .next t
          ∧ (t.lane n).queue = (s.lane n).queue.map (fun x => if x.id = w.id then { x with missed := true, pat := pat } else x)
          ∧ (t.lane n).busy = (s.lane n).busy ∧ (∀ k, k ≠ n → t.lane k = s.lane k) ∧ Only [.lanes, .slate, .daily, .sys] s t)
      ∧ (cached = true ∨ pat.all s.inRack = true → ∃ t, exec (.lanePageStart n code) s = .next t
          ∧ (t.lane n).busy = (s.lane n).busy ++ [(code, w')] ∧ (t.lane n).queue = (s.lane n).queue.filter (fun y => y.id != w.id)
          ∧ w'.charge = (if (s.ten w.owner).sealed = true then 390 else if cached = true ∧ w.missed = false then 342 else if w.missed = true then 486 else 390)
          ∧ w'.extra = (if (s.ten w.owner).sealed = true ∨ cached = false then 48 else 0) + (if w.missed = true ∧ w.failed = false then 96 else 0)
          ∧ (refused = true → (t.hdr pgPAT).stat.getLsbD 22 = true)
          ∧ (∀ k, k ≠ n → t.lane k = s.lane k) ∧ Only [.lanes, .ctrs, .hdrs, .mfn, .rgl, .slate, .daily, .sys] s t))
  ∧ (∀ (n code : Nat) (ue : Bool) (flips : List (Nat × Byte)) (w : LaneWork) (s : State), n < 64 → (s.lane n).busy.find? (fun b => b.1 == code) = some (code, w) →
      s.carryOf gLANE n 0 code = 0 → mapGet (fun _ => 0) s.slate.ovrNext (useKey gLANE n 0 code) = 0 →
      (w.kind = .fold → let f := foldPage (w.pat.map fun k => (k, (s.pslot k).file)) (s.readPage w.page) (s.pagePoison w.page)
        w.overran = true ∨ f.base + w.extra ≤ w.charge → (s.page w.page).st = .folding →
        ∃ t, exec (.lanePageDone n code ue flips) s = .next t ∧ (t.page w.page).done = some (.foldOut f.form) ∧ (∀ q, q ≠ w.page → t.page q = s.page q)
          ∧ (t.lane n).busy = (s.lane n).busy.filter (fun b => b.2.id != w.id) ∧ (∀ k, k ≠ n → t.lane k = s.lane k) ∧ Only [.lanes, .ctrs, .daily, .tier] s t)
      ∧ (w.kind ≠ .fold → ∀ st, (s.page w.page).stored = some st → (s.page w.page).st = .unfolding → (s.page w.page).reads = [] → s.dir.trans = [] → s.dir.issue = [] →
        let st1 : Stored := { st with bytes := flipBytes st.bytes flips }
        let d := decodeStored ((ue || w.ue) || st1.bytes.isEmpty) (fun k => if w.avail then some (s.pslot k).file else none) st1
        w.overran = true ∨ d.base + w.extra ≤ w.charge →
        ∃ t, exec (.lanePageDone n code ue flips) s = .next t ∧ (t.page w.page).done = some (.decoded d.bytes d.mask)
          ∧ (t.page w.page).stored = some st1 ∧ (∀ q, q ≠ w.page → t.page q = s.page q) ∧ (t.lane n).busy = (s.lane n).busy.filter (fun b => b.2.id != w.id) ∧ (∀ k, k ≠ n → t.lane k = s.lane k)
          ∧ (d.outcome ≠ .good → (t.hdr pgPAT).stat.getLsbD (if d.outcome = .checkA ∨ d.outcome = .checkB then 16 else 17) = true)
          ∧ Only [.lanes, .ctrs, .daily, .tier, .log, .hdrs, .mfn, .tenants, .poison] s t))
  ∧ (∀ (n code kind : Nat) (s : State), n < 64 → ∃ t, exec (.laneFault n code kind) s = .next t ∧ (t.hdr pgPAT).stat.getLsbD 20 = true ∧ (t.unit .lane n).faults = (s.unit .lane n).faults + 1
      ∧ ((s.unit .lane n).faults ≠ 1 → s.Records 0x0704 0 none pgPAT 0 [n, kind] t)
      ∧ ((s.unit .lane n).faults = 1 → (s.unit .lane n).st = .inn → (t.unit .lane n).req = some 1)
      ∧ ((s.lane n).busy.find? (fun b => b.1 == code) = none → t.lanes = s.lanes ∧ t.tier = s.tier)
      ∧ (∀ w : LaneWork, (s.lane n).busy.find? (fun b => b.1 == code) = some (code, w) → (t.lane n).busy = (s.lane n).busy.filter (fun b => b.2.id != w.id)
        ∧ (w.kind = .fold → (t.page w.page).done = some .laneFault ∧ (t.page w.page).excl = some n ∧ t.lanes.waiting = s.lanes.waiting)
        ∧ (w.kind ≠ .fold → t.tier = s.tier ∧ t.lanes.waiting = s.lanes.waiting ++ [{ w with excl := some n, overran := false, missed := false, escU := 0, partU := 0 }]))
      ∧ (∀ k, k ≠ n → t.lane k = s.lane k) ∧ Only [.log, .hdrs, .mfn, .ctrs, .svc, .lanes, .slate, .tier] s t)

/-- R498, R509 to R512, R517, R523. -/
def Obligations.DramUnitsAreRetired : Prop :=
  (∀ (src : MgmtSrc) (s : State), s.Reaches src (ofsOf (pgMEDIA 0) 0x118) →
      (s.dram.retCmd = none →
        (let e := s.retEntry (field (s.reg (ofsOf (pgMEDIA 0) 0x10C)) 9 0)
          ∃ t, exec (.retRead src) s = .next t ∧ t.reg (ofsOf (pgMEDIA 0) 0x110) = e.lo ∧ t.reg (ofsOf (pgMEDIA 0) 0x114) = e.hi ||| placeB e.done 31
            ∧ (∀ o, o ≠ ofsOf (pgMEDIA 0) 0x110 → o ≠ ofsOf (pgMEDIA 0) 0x114 → t.reg o = s.reg o) ∧ Only (.regs :: regPath) s t)
        ∧ (∀ x ∈ [(Instr.retWrite src, 2), (.retRelease src, 3)], ∃ t, exec x.1 s = .next t
            ∧ t.dram = { s.dram with retCmd := some (field (s.reg (ofsOf (pgMEDIA 0) 0x10C)) 9 0, x.2, s.reg (ofsOf (pgMEDIA 0) 0x110), s.reg (ofsOf (pgMEDIA 0) 0x114)) }
            ∧ Only (.dram :: regPath) s t))
      ∧ (s.dram.retCmd.isSome = true → ∀ c ∈ [Instr.retRead src, .retWrite src, .retRelease src], ∃ t, exec c s = .next t ∧ Only regPath s t))
  ∧ (∀ (i : Nat) (s : State), let e := s.retEntry i
      (e.valid = true ∧ e.active = true ∧ e.done = false → ∃ t, exec (.retireMigrationDone i) s = .next t ∧ t.retEntry i = { e with done := true }
        ∧ (∀ k, k ≠ i → t.retEntry k = s.retEntry k) ∧ (t.hdr (pgMEDIA 0)).stat.getLsbD 8 = true ∧ Only [.dram, .hdrs, .mfn] s t)
      ∧ (e.valid = false ∨ e.active = false ∨ e.done = true → ∃ t, exec (.retireMigrationDone i) s = .next t ∧ Only [] s t))
  ∧ (∀ (p c : Nat) (slips : Bool) (s : State), (if slips = true then (s.page p).slipCh else (s.page p).frameCh) = some c →
      (∀ d, s.pickChan = some d → s.moves c = true → s.unitsFree d ≠ 0 → ∃ t, exec (.unitMigrationCopy p slips) s = .next t
        ∧ t.page p = (if slips = true then { s.page p with slipCh := some d } else { s.page p with frameCh := some d }) ∧ (∀ q, q ≠ p → t.page q = s.page q)
        ∧ Only [.tier, .slate, .daily] s t)
      ∧ (s.pickChan = none ∨ s.moves c = false ∨ (∀ d, s.pickChan = some d → s.unitsFree d = 0) → ∃ t, exec (.unitMigrationCopy p slips) s = .next t ∧ Only [] s t))

/-- R500, R501, R508, R518, R522, R524. -/
def Obligations.ChannelsAreMaintained : Prop :=
  (∀ (c : Nat) (s : State), c < 16 → ∀ i ∈ [Instr.refresh c, .refreshManagementRequest c],
      ((s.chan c).kind = 0 ∨ (s.unit .dram c).st = .out → ∃ t, exec i s = .next t ∧ Only [] s t)
      ∧ ((s.chan c).kind ≠ 0 → (s.unit .dram c).st ≠ .out → let due := (s.chan c).postponed + 1
        let n := min due (s.availOf gDRAM c 0 ownMnt / 8)
        (0 < n → ∃ t, exec i s = .next t ∧ t.chan c = { s.chan c with postponed := due - n } ∧ (∀ k, k ≠ c → t.chan k = s.chan k)
            ∧ t.slate = (s.useTake gDRAM c 0 ownMnt (8 * n)).slate ∧ Only [.slate, .chans] s t)
        ∧ (n = 0 → due ≤ 4 → ∃ t, exec i s = .next t ∧ t.chan c = { s.chan c with postponed := due } ∧ (∀ k, k ≠ c → t.chan k = s.chan k)
            ∧ t.ctr (ofsOf (pgMEDIA c) 0x50) 7 = satAdd 32 (s.ctr (ofsOf (pgMEDIA c) 0x50) 7) 1 ∧ Only [.chans, .ctrs] s t)
        ∧ (n = 0 → 4 < due → ∃ t, exec i s = .next t ∧ t.slate = (s.useTake gDRAM c 0 ownMnt 8).slate ∧ Only [.slate] s t)))
  ∧ (∀ (src : MgmtSrc) (s : State), s.Reaches src (ofsOf (pgMEDIA 0) 0x128) →
      (s.dram.fc.any (fun e => e.2.dirty) = false → ∃ t, exec (.flush src) s = .next t ∧ t.dram = { s.dram with flush := false } ∧ Only (.dram :: regPath) s t)
      ∧ (∀ l f, s.dram.fc = [(l, f)] → f.dirty = true → let c := s.frameChan (pageOfLine l)
        ((s.onPath src).availOf gDRAM c 0 ownMnt = 0 → ∃ t, exec (.flush src) s = .next t ∧ t.dram = { s.dram with flush := true } ∧ Only (.dram :: regPath) s t)
        ∧ (1 ≤ (s.onPath src).availOf gDRAM c 0 ownMnt → ∃ t, exec (.flush src) s = .next t ∧ (t.fcLine l) = { f with dirty := false } ∧ t.dram.flush = false
          ∧ Only (.dram :: regPath) s t)))
  ∧ (∀ (c temp : Nat) (s : State), c < 16 → (s.chan c).kind ≠ 0 → ∃ t, exec (.dimmHot c temp) s = .next t ∧ t.chan c = { s.chan c with temp := temp } ∧ (∀ k, k ≠ c → t.chan k = s.chan k)
      ∧ (t.hdr (pgMEDIA c)).stat.getLsbD 5 = true ∧ s.Records 0x0805 0 none (pgMEDIA c) 0 [c, temp] t ∧ Only [.chans, .log, .hdrs, .mfn, .ctrs] s t)
  ∧ (∀ (c retries : Nat) (s : State), c < 16 → (s.unit .dram c).st ≠ .out → ∃ t, exec (.chFatal c retries [] [] []) s = .next t
      ∧ (t.unit .dram c).st = .out ∧ (t.hdr (pgMEDIA c)).stat.getLsbD 4 = true
      ∧ (∀ p, let r := s.page p
        (t.page p).frameCh = (if r.frameCh = some c then none else r.frameCh) ∧ (t.page p).slipCh = (if r.slipCh = some c then none else r.slipCh)
        ∧ (t.page p).stored = (if r.slipCh = some c then r.stored.map (fun f => { f with bytes := [] }) else r.stored)
        ∧ (r.frameCh = some c → ∀ k, k < 64 → t.isPoison (64 * p + k) = true))
      ∧ (∀ l, s.isPoison l = true → t.isPoison l = true)
      ∧ Only [.svc, .svcEvt, .hdrs, .mfn, .log, .ctrs, .tier, .dram, .rgl, .poison, .tenants] s t)

/-- R26, R530, R531, R539 to R542, R550, R557 to R561. -/
def Obligations.TheShelfReadsAndPrograms : Prop :=
  (∀ (p : Nat) (w : ShelfWork) (s : State), s.shelf.toRead.find? (fun w => w.page == p) = some w →
      (s.recOf p = none ∨ (∃ n r, s.recOf p = some (n, r) ∧ (r.damaged = true ∨ (s.shLun r.lun).fault = true ∨ (s.unit .shelf (lunChan r.lun)).st = .out)) →
        ∃ t, exec (.flashReadIssue p) s = .next t ∧ t.shelf = { s.shelf with toRead := s.shelf.toRead.erase w }
          ∧ t.lanes.waiting = s.lanes.waiting ++ [{ id := s.lanes.serial, kind := .fetched, page := p, owner := w.owner, cls := w.cls, ue := true }]
          ∧ Only [.shelf, .lanes, .sys] s t)
      ∧ (∀ n r, s.recOf p = some (n, r) → r.damaged = false → (s.shLun r.lun).fault = false → (s.unit .shelf (lunChan r.lun)).st ≠ .out →
        let planes := max 1 (s.shTarget (lunTarget r.lun)).planes
        let clash := s.shelf.reads.any fun x => (s.shRec x.rec').lun == r.lun && (s.shRec x.rec').block % planes == r.block % planes
        let busy := (s.shLun r.lun).prog.isSome || (s.shLun r.lun).erasing.isSome
        let fits := s.fits gSHELF (lunChan r.lun) 0 (s.ownerCode w.owner) 7
        (clash = true ∨ fits = false ∨ (busy = true ∧ ((s.shTarget (lunTarget r.lun)).suspend = false ∨ s.suspMax ≤ (s.shLun r.lun).susp)) →
          ∃ t, exec (.flashReadIssue p) s = .next t ∧ Only [.sys] s t)
        ∧ (clash = false → fits = true → (busy = true → (s.shTarget (lunTarget r.lun)).suspend = true ∧ (s.shLun r.lun).susp < s.suspMax) →
          ∃ t, exec (.flashReadIssue p) s = .next t
            ∧ t.shelf.reads = s.shelf.reads ++ [{ page := p, owner := w.owner, cls := w.cls, transient := w.transient, rec' := n, since := s.frame.num }]
            ∧ t.shelf.toRead = s.shelf.toRead.erase w
            ∧ t.shLun r.lun = (if busy = true then { s.shLun r.lun with susp := (s.shLun r.lun).susp + 1 } else s.shLun r.lun)
            ∧ t.slate = (s.charge gSHELF (lunChan r.lun) 0 (s.ownerCode w.owner) 7).slate ∧ Only [.shelf, .slate, .ctrs, .sys] s t)))
  ∧ (∀ (p level : Nat) (good : Bool) (w : ShelfRead) (s : State), s.shelf.reads.find? (fun r => r.page == p) = some w → let r := s.shRec w.rec'
      ∃ t, exec (.flashReadDone p good level) s = .next t ∧ t.shelf.reads = s.shelf.reads.erase w
        ∧ t.lanes.waiting = s.lanes.waiting ++ [{ id := s.lanes.serial, kind := .fetched, page := p, owner := w.owner, cls := w.cls, ue := (!good && level == 9) || r.damaged }]
        ∧ (good = false → level = 9 → (t.hdr (pgMEDIA (16 + lunChan r.lun))).stat.getLsbD 2 = true)
        ∧ (good = false → s.retireLvl ≤ level → (t.shBlock r.lun r.block).use = 4)
        ∧ Only (if good = true then [.shelf, .slate, .daily, .lanes] else [.shelf, .slate, .daily, .lanes, .ctrs, .hdrs, .mfn, .log]) s t)
  ∧ (∀ (k b : Nat) (s : State), k < 1024 → let l := s.shLun k
      (l.buf = [] ∨ l.prog.isSome = true ∨ l.erasing.isSome = true ∨ s.lunOpen k = false → ∃ t, exec (.writePointFlush k) s = .next t ∧ Only [] s t)
      ∧ (l.buf ≠ [] → l.prog = none → l.erasing = none → s.lunOpen k = true → l.used = 64 ∨ s.shFlush ≤ framesSince l.oldest s.frame.num → l.opened = some b →
        let last := decide (l.nextPg + 1 = (s.shTarget (lunTarget k)).ppb)
        ∃ t, exec (.writePointFlush k) s = .next t
          ∧ t.shLun k = { l with prog := some l.buf, progBlk := b, susp := 0, buf := [], used := 0, opened := if last then none else some b, nextPg := if last then 0 else l.nextPg + 1 }
          ∧ (t.shBlock k b).use = (if last then 3 else 2) ∧ (∀ n ∈ l.buf, (t.shRec n).st = 1 ∧ (t.shRec n).block = b ∧ (t.shRec n).pg = l.nextPg)
          ∧ t.daily.acc.shelfB = s.daily.acc.shelfB + 16384 ∧ Only [.shelf, .slate, .daily] s t))
  ∧ (∀ (k n : Nat) (s : State), k < 1024 → (s.shLun k).prog = some [n] → (s.shRec n).copyOf = none → let r := s.shRec n
      (∃ t, exec (.flashProgramDone k true) s = .next t ∧ (t.shLun k).prog = none ∧ (t.shRec n).st = 2
        ∧ (r.live = true → (s.page r.page).st = .shelving → (t.page r.page).done = some .progOk) ∧ (∀ q, q ≠ r.page → t.page q = s.page q) ∧ Only [.shelf, .tier, .sys] s t)
      ∧ (∃ t, exec (.flashProgramDone k false) s = .next t ∧ (t.hdr (pgMEDIA (16 + lunChan k))).stat.getLsbD 0 = true ∧ (t.shBlock k (s.shLun k).progBlk).use = 4
        ∧ (t.shRec n).live = false ∧ (r.live = true → (s.page r.page).st = .shelving → (t.page r.page).done = some .progFail) ∧ (∀ q, q ≠ r.page → t.page q = s.page q)
        ∧ Only [.shelf, .tier, .ctrs, .hdrs, .mfn, .log, .sys] s t))
  ∧ (∀ (k b : Nat) (s : State), k < 1024 → (s.shLun k).erasing = some b →
      (∃ t, exec (.flashEraseDone k true) s = .next t ∧ (t.shLun k).erasing = none ∧ t.shBlock k b = { s.shBlock k b with use := 1, erases := (s.shBlock k b).erases + 1 }
        ∧ t.shelf.recs = s.shelf.recs.filter (fun e => !(e.2.lun == k && e.2.st == 2 && e.2.block == b)) ∧ Only [.shelf] s t)
      ∧ (∃ t, exec (.flashEraseDone k false) s = .next t ∧ (t.hdr (pgMEDIA (16 + lunChan k))).stat.getLsbD 1 = true ∧ (t.shBlock k b).use = 4
        ∧ t.shelf.recs = s.shelf.recs.filter (fun e => !(e.2.lun == k && e.2.st == 2 && e.2.block == b)) ∧ Only [.shelf, .ctrs, .hdrs, .mfn, .log] s t))

/-- R544, R551 to R553, R556, R563. -/
def Obligations.TheShelfIsSortedAndRetired : Prop :=
  (∀ (k b n dst : Nat) (r : ShelfRec) (ue : Bool) (flips : List (Nat × Byte)) (s : State), k < 1024 → (s.shLun k).victim = some b →
      (s.liveIn k b).find? (fun e => !(s.shelf.recs.any fun x => x.2.copyOf == some e.1)) = some (n, r) →
      s.writePoint (s.logOfOwner r.owner) r.slips true (fun x => !s.mustLeave k b || !(x == k || (s.unit .shelf (lunChan x)).st == .drain)) = some dst →
      (s.pickLane { id := 0, kind := .transient, page := 0, owner := r.owner, cls := 19 } 2).isSome = true →
      ∃ t, exec (.sortRelocate k ue flips) s = .next t ∧ t.shelf.serial = s.shelf.serial + 1
        ∧ (let x := t.shRec s.shelf.serial; x.page = r.page ∧ x.lun = dst ∧ x.slips = r.slips ∧ x.owner = r.owner ∧ x.st = 0 ∧ x.live = false ∧ x.copyOf = some n ∧ x.first = (s.shLun dst).used)
        ∧ (t.shLun dst).buf = (s.shLun dst).buf ++ [s.shelf.serial] ∧ (t.shLun dst).used = (s.shLun dst).used + r.slips
        ∧ Only [.shelf, .lanes, .ctrs, .slate, .daily, .tier, .log, .hdrs, .mfn, .sys] s t)
  ∧ (∀ (k : Nat) (s : State), k < 1024 →
      ((s.shLun k).fault = true ∨ k ∉ s.lunKeys → ∃ t, exec (.lunTimeout k) s = .next t ∧ Only [] s t)
      ∧ ((s.shLun k).fault = false → k ∈ s.lunKeys → ∃ t, exec (.lunTimeout k) s = .next t ∧ (t.shLun k).fault = true
        ∧ (t.hdr (pgMEDIA (16 + lunChan k))).stat.getLsbD 4 = true ∧ Only [.shelf, .tier, .lanes, .ctrs, .hdrs, .mfn, .log] s t))
  ∧ (∀ (src : MgmtSrc) (s : State), s.Reaches src (ofsOf (pgMEDIA 16) 0x120) →
      (s.shelf.sretCmd = none →
        (∃ t, exec (.sretRetire src) s = .next t ∧ t.shelf = { s.shelf with sretCmd := some (s.reg (ofsOf (pgMEDIA 16) 0x11C)) } ∧ Only (.shelf :: regPath) s t)
        ∧ (let k := (s.sretLoc (s.reg (ofsOf (pgMEDIA 16) 0x11C))).1
          ∃ t, exec (.sretRead src) s = .next t
            ∧ t.shelf = { s.shelf with sretStat := if (s.shTarget (lunTarget k)).used = true ∧ k % 4 < (s.shTarget (lunTarget k)).luns then 0 else 1 } ∧ Only (.shelf :: regPath) s t))
      ∧ (s.shelf.sretCmd.isSome = true → ∀ c ∈ [Instr.sretRetire src, .sretRead src], ∃ t, exec c s = .next t ∧ Only regPath s t))
  ∧ (∀ (k : Nat) (s : State), k < 1024 → let l := s.shLun k
      let due := l.retPlanes &&& (255 ^^^ l.retDone)
      (due ≠ 0 → s.onPlanes k due = false → ∃ t, exec (.sretDone k) s = .next t ∧ t.shLun k = { l with retDone := l.retPlanes } ∧ (t.hdr (pgMEDIA 16)).stat.getLsbD 10 = true
        ∧ Only [.shelf, .hdrs, .mfn] s t)
      ∧ (due = 0 ∨ s.onPlanes k due = true → ∃ t, exec (.sretDone k) s = .next t ∧ Only [] s t))
  ∧ (∀ (ok : Bool) (target : Nat) (s : State),
      (s.shelf.invScenes < s.regF (pgMEDIA 16) 0x128 15 0 → s.shelf.invFailed = 0 → ∃ t, exec (.inventoryWrite ok target) s = .next t ∧ Only [] s t)
      ∧ (s.regF (pgMEDIA 16) 0x128 15 0 ≤ s.shelf.invScenes ∨ s.shelf.invFailed ≠ 0 →
        (ok = true → ∃ t, exec (.inventoryWrite ok target) s = .next t ∧ t.shelf.inv.seq = s.shelf.inv.seq + 1 ∧ t.shelf.invScenes = 0 ∧ t.shelf.invFailed = 0 ∧ Only [.shelf] s t)
        ∧ (ok = false → ∃ t, exec (.inventoryWrite ok target) s = .next t ∧ t.shelf = { s.shelf with invFailed := s.shelf.invFailed + 1 }
          ∧ (s.shelf.invFailed = 7 → (t.hdr (pgMEDIA 16)).stat.getLsbD 11 = true) ∧ Only (if s.shelf.invFailed = 7 then [.shelf, .hdrs, .mfn, .ctrs, .log] else [.shelf]) s t)))
  ∧ (∀ (ch : Nat) (s : State), ch < 32 →
      ((s.unit .shelf ch).st = .out → ∃ t, exec (.schFatal ch) s = .next t ∧ Only [] s t)
      ∧ ((s.unit .shelf ch).st ≠ .out → ∃ t, exec (.schFatal ch) s = .next t ∧ (t.unit .shelf ch).st = .out ∧ (t.hdr (pgMEDIA (16 + ch))).stat.getLsbD 6 = true
        ∧ s.Records 0x0903 3 none (pgMEDIA (16 + ch)) 0 [ch] t ∧ Only [.shelf, .tier, .lanes, .svc, .svcEvt, .ctrs, .hdrs, .mfn, .log] s t))

/-- R191, R211, R212, R252 to R254, R568 to R574, R583 to R586, R597, R605, R824, R825. -/
def Obligations.HostPagesAndReads : Prop :=
  (∀ (k : Nat) (v : Word32) (s : State), s.presents k = true → s.pageReach k = true →
      (∃ t, exec (.tenantPageWrite k 0x24 v) s = .next t ∧ t.fn k = { s.fn k with ena := v &&& 0x3FFFF#32 } ∧ Only [.fns, .slate, .daily] s t)
      ∧ (∃ t, exec (.tenantPageWrite k 0x20 v) s = .next t
        ∧ t.fn k = { s.fn k with stat := (s.fn k).stat &&& ((v &&& 0x3FFFF#32) ^^^ 0xFFFFFFFF#32 ||| (s.fn k).seen) } ∧ Only [.fns, .slate, .daily] s t))
  ∧ (∀ (k j tail t : Nat) (s : State), s.presents k = true → s.pageReach k = true → s.fnTenant k = some t → let r := 4 * t + j % 4
      let x := s.ring r
      (x.fn ≠ some k ∨ x.st = 0 → ∃ t, exec (.doorbell k j tail) s = .next t ∧ Only [.slate, .daily] s t)
      ∧ (x.fn = some k → x.st ≠ 0 → (tail % 65536 + 65536 - x.head) % 65536 ≤ 2 ^ x.size → ∃ t, exec (.doorbell k j tail) s = .next t ∧ t.ring r = { x with tail := tail % 65536 }
        ∧ (∀ q, q ≠ r → t.ring q = s.ring q) ∧ Only [.cues, .slate, .daily] s t)
      ∧ (x.fn = some k → x.st = 1 → r < 512 → 2 ^ x.size < (tail % 65536 + 65536 - x.head) % 65536 → ∃ t, exec (.doorbell k j tail) s = .next t ∧ (t.ring r).st = 2 ∧ (t.ring r).err = 9
        ∧ (t.ring r).tail = x.tail ∧ (∀ q, q ≠ r → t.ring q = s.ring q) ∧ Only [.cues, .fns, .freeIx, .slate, .daily] s t))
  ∧ (∀ (k j size t : Nat) (inDpa : Bool) (s : State), s.presents k = true → s.pageReach k = true → s.fnTenant k = some t → size < 16 → let r := 4 * t + j % 4
      let x := s.ring r
      (x.st = 0 → x.fn = none → s.sys.memActive = true → 4 ≤ size → size ≤ 12 → ∃ t, exec (.ringEnable k j size inDpa) s = .next t
        ∧ t.ring r = { x with size := size, loc := inDpa, st := 1, fn := some k, head := 0, tail := 0, ready := 0, err := 0, errIdx := 0, disabling := false }
        ∧ (∀ q, q ≠ r → t.ring q = s.ring q) ∧ Only [.cues, .slate, .daily] s t)
      ∧ (x.st ≠ 0 → x.fn = some k →
        (∃ t, exec (.ringEnable k j size inDpa) s = .next t ∧ Only [.slate, .daily] s t)
        ∧ (∃ t, exec (.ringDisable k j size inDpa) s = .next t
          ∧ t.ring r = (if s.runsOf r = [] then { x with st := 0, disabling := false, fn := none } else { x with disabling := true })
          ∧ (∀ q, q ≠ r → t.ring q = s.ring q) ∧ Only [.cues, .slate, .daily] s t)
        ∧ (∃ t, exec (.resume k j size inDpa) s = .next t ∧ t.ring r = (if x.st = 2 then { x with st := 1 } else x)
          ∧ (∀ q, q ≠ r → t.ring q = s.ring q) ∧ Only [.cues, .slate, .daily] s t)))
  ∧ (∀ (port tag : Nat) (data : List Byte) (poison error : Bool) (x : HostRead) (s : State), s.cues.reads.find? (fun x => x.port == port && x.tag == tag) = some x →
      let Ends := fun (c : Instr) => ∃ t, exec c s = .next t ∧ t.cues.reads = s.cues.reads.filter (· != x)
        ∧ t.hport x.port = { s.hport x.port with tagsUsed := (s.hport x.port).tagsUsed - 1 } ∧ (∀ q, q ≠ x.port → t.hport q = s.hport q)
        ∧ (∀ c, s.run x.cue = some c → c.phase < 2 → ∃ d, t.run x.cue = some d ∧ d.phase = 2 ∧ d.status = csHOST ∧ d.r0 = 64 * x.line)
        ∧ Only [.cues, .hports, .fns, .ctrs, .freeIx] s t
      (error = false → ∃ t, exec (.hostReadCompletion port tag data poison error) s = .next t ∧ t.cues = { s.cues with reads := s.cues.reads.filter (· != x) }
        ∧ t.hport x.port = { s.hport x.port with tagsUsed := (s.hport x.port).tagsUsed - 1 } ∧ (∀ q, q ≠ x.port → t.hport q = s.hport q)
        ∧ ((s.run x.cue).isSome = true → t.bufGet (cueKey x.cue) (hostOfs + x.line) = some (data, poison)) ∧ Only [.cues, .hports, .fab] s t)
      ∧ (error = true → Ends (.hostReadCompletion port tag data poison error)) ∧ Ends (.completionTimeout port tag))
  ∧ (∀ (p ndr drs : Nat) (s : State), p < 8 →
      ((s.hport p).respQ = [] → ∃ t, exec (.creditReturn p ndr drs) s = .next t
        ∧ t.hport p = { s.hport p with s2mNdr := (s.hport p).s2mNdr + ndr, s2mDrs := (s.hport p).s2mDrs + drs, wedge := 0 } ∧ (∀ q, q ≠ p → t.hport q = s.hport q) ∧ Only [.hports] s t)
      ∧ (∀ o, (s.hport p).respQ = [o] → (∃ a b c d e, o = .ndr a b c d e) → 0 < (s.hport p).s2mNdr + ndr → ∃ t, exec (.creditReturn p ndr drs) s = .next t ∧ t.out = s.out ++ [o]
        ∧ t.hport p = { s.hport p with s2mNdr := (s.hport p).s2mNdr + ndr - 1, s2mDrs := (s.hport p).s2mDrs + drs, respQ := [], wedge := 0 } ∧ (∀ q, q ≠ p → t.hport q = s.hport q)
        ∧ Only [.hports, .out] s t))
  ∧ (∀ (src : MgmtSrc) (p : Nat) (v : Word32) (s : State), p < 8 → s.Reaches src (ofsOf (pgHPORT p) 0x40) → ∃ t, exec (.retrain src p v) s = .next t
      ∧ t.hport p = { s.hport p with retrain := true } ∧ (∀ q, q ≠ p → t.hport q = s.hport q)
      ∧ t.reg (ofsOf (pgHPORT p) 0x40) = regMerge (fieldsAt (ofsOf (pgHPORT p) 0x40)) false (s.reg (ofsOf (pgHPORT p) 0x40)) (v ||| 0x1000#32) ∧ Only (.regs :: .hports :: regPath) s t)

/-- R586, R587, R595, R596, R599. -/
def Obligations.CuesFillAndCopy : Prop :=
  (∀ (n : Nat) (c : CueRun) (env : List (Nat × ReadEnv)) (s : State), s.running n = some c → c.op = opFILL →
      (c.len ≤ c.ofs → s.cueQuiet n c = true → ∃ t, exec (.fill n env) s = .next t ∧ s.CueEnded n csOK (some c.ofs) (some c.r1) t ∧ Only [.cues, .fns, .ctrs, .freeIx] s t)
      ∧ (c.ofs + 64 = c.len → c.dstHost = false → s.cueRoom c = true → (c.num 0x10 8 + c.ofs) % 64 = 0 → s.LineReady c.tenant ((c.num 0x10 8 + c.ofs) / 64) → s.cueQuiet n c = true →
        ∃ t, exec (.fill n env) s = .next t ∧ s.LineWritten ((c.num 0x10 8 + c.ofs) / 64) (fillBytes ((c.bytes.drop 0x20).take 8) c.ofs 64) fullBe false t
          ∧ s.CueEnded n csOK (some c.len) (some c.r1) t
          ∧ Only [.tier, .ctrs, .slate, .daily, .rgl, .dram, .mem, .poison, .log, .fab, .cues, .tenants, .fns, .freeIx] s t))
  ∧ (∀ (n : Nat) (c : CueRun) (env : List (Nat × ReadEnv)) (s : State), s.running n = some c → c.op = opCOPY → c.mode = 0 →
      (c.len ≤ c.ofs → s.cueQuiet n c = true → ∃ t, exec (.copyPlain n env) s = .next t ∧ s.CueEnded n csOK (some c.ofs) (some c.r1) t ∧ Only [.cues, .fns, .ctrs, .freeIx] s t)
      ∧ (∀ (b : List Byte) (p : Bool), c.ofs + 64 = c.len → c.dstHost = false → s.cueRoom c = true → (c.num 0x10 8 + c.ofs) % 64 = 0 → (c.num 0x18 8 + c.ofs) % 64 = 0 →
        s.LineReady c.tenant ((c.num 0x18 8 + c.ofs) / 64) → s.cueQuiet n c = true → (if c.srcHost then hostOfs else 0) + (c.num 0x10 8 + c.ofs) / 64 ∈ c.asked →
        s.bufGet (cueKey n) ((if c.srcHost then hostOfs else 0) + (c.num 0x10 8 + c.ofs) / 64) = some (b, p) → b.length = 64 →
        ∃ t, exec (.copyPlain n env) s = .next t ∧ s.LineWritten ((c.num 0x18 8 + c.ofs) / 64) b fullBe p t
          ∧ s.CueEnded n csOK (some c.len) (some (c.r1 + if p then 1 else 0)) t
          ∧ Only [.tier, .ctrs, .slate, .daily, .rgl, .dram, .mem, .poison, .log, .fab, .cues, .tenants, .fns, .freeIx] s t))

/-- R590 to R593, R600. -/
def Obligations.CuesCompareAndReduce : Prop :=
  (∀ (i : Nat × Instr) (n : Nat) (c : CueRun) (env : List (Nat × ReadEnv)) (s : State), i ∈ [(0, Instr.equal n env), (1, .firstDiff n env)] → s.running n = some c → c.op = opCOMPARE → c.mode = i.1 →
      (c.len ≤ c.ofs → ∃ t, exec i.2 s = .next t ∧ s.CueEnded n csOK (some (if i.1 = 1 then c.len else 0)) none t ∧ Only [.cues, .fns, .ctrs, .freeIx] s t)
      ∧ (∀ (x y : List Byte × Bool), c.ofs + 64 = c.len → s.cueRoom c = true → (c.num 0x10 8 + c.ofs) % 64 = 0 → (c.num 0x20 8 + c.ofs) % 64 = 0 →
        (c.num 0x10 8 + c.ofs) / 64 ∈ c.asked → (if c.srcHost then hostOfs else 0) + (c.num 0x20 8 + c.ofs) / 64 ∈ c.asked →
        s.bufGet (cueKey n) ((c.num 0x10 8 + c.ofs) / 64) = some x → s.bufGet (cueKey n) ((if c.srcHost then hostOfs else 0) + (c.num 0x20 8 + c.ofs) / 64) = some y →
        let at' := firstStop 0 ((List.range 64).map fun k => (x.1.getD k 0#8, x.2)) ((List.range 64).map fun k => (y.1.getD k 0#8, y.2))
        ∃ t, exec i.2 s = .next t ∧ Only [.cues, .fns, .ctrs, .freeIx, .slate, .daily, .fab] s t
          ∧ (∀ k, at' = some (k, true) → s.CueEnded n csPOISONED (some (c.ofs + k)) none t)
          ∧ (∀ k, at' = some (k, false) → s.CueEnded n csOK (some (if i.1 = 1 then c.ofs + k else 0)) none t ∧ ∃ d, t.run n = some d ∧ d.mismatch = true)
          ∧ (at' = none → s.CueEnded n csOK (some (if i.1 = 1 then c.len else 0)) none t)))
  ∧ (∀ (n : Nat) (c : CueRun) (env : ReadEnv) (s : State), s.running n = some c → c.op = opCOMPARE → c.mode = 2 → s.cueRoom c = true →
      let a := c.num 0x10 8
      let l := a / 64
      let k := c.casSize
      let cmp := (c.bytes.drop 0x20).take k
      let swap := placeBytes (a % 64) ((c.bytes.drop 0x30).take k)
      let old := ((s.readLine l).drop (a % 64)).take k
      let hi := fun (b : List Byte) => if k = 16 then some (leNat (b.drop 8)) else none
      s.devAdmits c.tenant clsCUE = true → (s.reach c.tenant (granuleOfLine l)).isSome = true → s.trans l = none → s.needs l (.device true) = ([], []) → s.keyBad l = false →
      ((s.page (pageOfLine l)).st = .zero → s.isPoison l = false → cmp ≠ List.replicate k 0#8 →
        ∃ t, exec (.cas n env) s = .next t ∧ s.CueEnded n csOK (some (leNat ((List.replicate k 0#8).take 8))) (hi (List.replicate k 0#8)) t
          ∧ (∃ d, t.run n = some d ∧ d.mismatch = true) ∧ Only [.cues, .fns, .ctrs, .freeIx, .slate, .daily, .tenants] s t)
      ∧ ((s.page (pageOfLine l)).st = .opened → (s.page (pageOfLine l)).held = [] → env.dec = .good → s.isPoison l = false → (s.fcLine l).valid = true →
        (old ≠ cmp → ∃ t, exec (.cas n env) s = .next t ∧ s.CueEnded n csOK (some (leNat (old.take 8))) (hi old) t ∧ (∃ d, t.run n = some d ∧ d.mismatch = true)
          ∧ Only [.cues, .fns, .ctrs, .freeIx, .slate, .daily, .tenants, .tier, .rgl, .dram] s t)
        ∧ (old = cmp → ∃ t, exec (.cas n env) s = .next t ∧ s.LineWritten l swap.1 swap.2 false t ∧ s.CueEnded n csOK (some (leNat (old.take 8))) (hi old) t
          ∧ (∃ d, t.run n = some d ∧ d.mismatch = false)
          ∧ Only [.cues, .fns, .ctrs, .freeIx, .slate, .daily, .tenants, .tier, .rgl, .dram, .mem, .poison, .log] s t)))
  ∧ (∀ (n : Nat) (c : CueRun) (lst : List Byte) (env : List (Nat × ReadEnv)) (s : State), s.running n = some c → c.op = opREDUCE → c.recs = [lst] →
      let w := c.num 0x24 2
      let srcs := (splitEls 8 (w % 32) lst).map (· + c.ofs)
      let d := c.num 0x18 8 + c.ofs
      (c.len ≤ c.ofs → s.cueQuiet n c = true → ∃ t, exec (.reduce n env) s = .next t ∧ s.CueEnded n csOK (some c.ofs) (some c.r1) t ∧ Only [.cues, .fns, .ctrs, .freeIx] s t)
      ∧ (c.ofs + 64 = c.len → c.num 0x24 1 % 32 = w % 32 → c.dstHost = false → s.cueRoom c = true → d % 64 = 0 → s.LineReady c.tenant (d / 64) → s.cueQuiet n c = true →
        (∀ a ∈ srcs, a % 64 = 0 ∧ a / 64 ∈ c.asked ∧ s.arrived (cueKey n) (a / 64) = true) →
        let bs := srcs.map fun a => s.bufBytes (cueKey n) 0 a 64
        let r := reduceBytes (w / 4096 % 4) (w / 256 % 4) c.elSize 64 (bs.map (·.1))
        ∃ t, exec (.reduce n env) s = .next t ∧ s.LineWritten (d / 64) r.1 fullBe (bs.any (·.2)) t
          ∧ s.CueEnded n csOK (some c.len) (some (c.r1 + if bs.any (·.2) then 1 else 0)) t ∧ (∃ e, t.run n = some e ∧ e.overflow = (c.overflow || r.2))
          ∧ Only [.tier, .ctrs, .slate, .daily, .rgl, .dram, .mem, .poison, .log, .fab, .cues, .tenants, .fns, .freeIx] s t))

/-- R116, R413, R571, R572, R577, R579, R583, R585, R588, R589, R594 to R598, R607. -/
def Obligations.CuesRunToTheirRecords : Prop :=
  (∀ (n : Nat) (c : CueRun) (env : List (Nat × ReadEnv)) (s : State), s.running n = some c → c.op = opCALL → s.cueRoom c = true →
      let ofs := if c.srcHost then hostOfs else 0
      let a := c.num 0x10 8
      let cnt := leNat (((s.bufBytes (cueKey n) ofs a 32).1.drop 4).take 2)
      let total := 32 + if cnt ≤ 4096 then 16 * cnt else 0
      let b := s.bufBytes (cueKey n) ofs a total
      (∀ l ∈ linesOf a 32 ++ linesOf a total, ofs + l ∈ c.asked ∧ s.arrived (cueKey n) (ofs + l) = true) →
      (b.2 = true → ∃ t, exec (.callCue n env) s = .next t ∧ s.CueEnded n csPOISONED none none t ∧ Only [.cues, .fns, .ctrs, .freeIx, .slate, .daily] s t)
      ∧ (b.2 = false → ∃ t, exec (.callCue n env) s = .next t
        ∧ t.tier = { s.tier with taken := s.tier.taken ++ [{ cue := n, tenant := c.tenant, fn := c.fn, since := s.frame.num, bytes := b.1 }] }
        ∧ t.run n = some { c with phase := 1 } ∧ Only [.tier, .cues, .ctrs, .slate, .daily] s t))
  ∧ (∀ (n : Nat) (c : CueRun) (env : List (Nat × ReadEnv)) (s : State), s.running n = some c → c.op = opCOPY → s.cueRoom c = true → c.len ≤ c.ofs →
      (c.mode = 1 → c.recs = [] → ∃ t, exec (.copyFold n env) s = .next t ∧ s.CueEnded n csOK (some c.outOfs) (some c.pages) t ∧ Only [.cues, .fns, .ctrs, .freeIx] s t)
      ∧ (c.mode = 1 → c.recs ≠ [] → (s.fn c.fn).busMaster = true → s.hostReady c.fn = true → s.availOf (fnPort c.fn) 0 0 (s.ownerCode c.tenant) ≠ 0 →
        let seg := List.replicate ((8 - c.outOfs % 8) % 8) 0#8 ++ wireSegment c.recs
        ∃ t, exec (.copyFold n env) s = .next t ∧ t.out = s.out ++ [.hostWrite (fnPort c.fn) (c.num 0x18 8 + c.outOfs) seg false]
          ∧ (∃ d, t.run n = some d ∧ d.recs = [] ∧ d.outOfs = c.outOfs + seg.length)
          ∧ Only [.out, .hports, .cues, .fns, .ctrs, .slate, .daily, .freeIx] s t))
  ∧ (∀ (n : Nat) (c : CueRun) (env : List (Nat × ReadEnv)) (s : State), s.running n = some c → c.op = opCOPY → c.mode = 2 → s.cueRoom c = true → c.len ≤ c.ofs → s.cueQuiet n c = true →
      (c.toWrite = [] → ∃ t, exec (.copyUnfold n env) s = .next t ∧ s.CueEnded n csOK none (some c.pages) t ∧ Only [.cues, .fns, .ctrs, .freeIx] s t)
      ∧ (∀ (b : List Byte) (i : Nat) (g : Range), let a := c.num 0x18 8 + 4096 * c.pages
        c.toWrite = [(2, b, 0)] → s.reach c.tenant (a / 2 ^ 30) = some (i, g) → g.remote = false → (s.page (a / 4096)).st = .zero →
        ∃ t, exec (.copyUnfold n env) s = .next t ∧ (∀ l, t.isPoison l = if 64 * (a / 4096) ≤ l ∧ l < 64 * (a / 4096) + 64 then false else s.isPoison l)
          ∧ s.CueEnded n csOK none (some (c.pages + 1)) t ∧ Only [.cues, .fns, .ctrs, .freeIx, .poison] s t))
end

