-- ==== Sys2Proof/Laws/Maps.lean ====
section
/-!
SUPPORT. Sparse tables: what a read gives after a write, and that every operation keeps the canonical form.
-/

namespace Sys2Proof.Machine

open Sys2Proof

/-! ### Reads -/

@[simp] theorem mapGet_nil {α : Type} {d : Nat → α} (k : Nat) : mapGet d [] k = d k := rfl

/-- Reading a key that a filter leaves in. -/
theorem mapGet_filter {α : Type} {d : Nat → α} {p : Nat × α → Bool} {k : Nat} (hp : ∀ v, p (k, v) = true) (m : Map α) :
    mapGet d (m.filter p) k = mapGet d m k := by
  induction m with
  | nil => rfl
  | cons e r ih =>
    by_cases hk : e.1 = k
    · have : p e = true := by have h := hp e.2; rwa [← hk] at h
      rw [List.filter_cons_of_pos this]
      simp [mapGet, hk]
    · by_cases he : p e = true
      · rw [List.filter_cons_of_pos he]
        simp only [mapGet, if_neg hk]; exact ih
      · rw [List.filter_cons_of_neg he]
        simp only [mapGet, if_neg hk]; exact ih

/-- Reading a key that a filter leaves out. -/
theorem mapGet_filter_out {α : Type} {d : Nat → α} {p : Nat × α → Bool} {k : Nat} (hp : ∀ v, p (k, v) = false) (m : Map α) :
    mapGet d (m.filter p) k = d k := by
  induction m with
  | nil => rfl
  | cons e r ih =>
    by_cases he : p e = true
    · have hk : ¬ e.1 = k := by intro h; have := hp e.2; rw [← h] at this; simp [this] at he
      rw [List.filter_cons_of_pos he]
      simp only [mapGet, if_neg hk]; exact ih
    · rw [List.filter_cons_of_neg he]; exact ih

theorem mapGet_insert_same {α : Type} {d : Nat → α} (k : Nat) (v : α) (m : Map α) : mapGet d (mapInsert k v m) k = v := by
  induction m with
  | nil => simp [mapInsert, mapGet]
  | cons e r ih =>
    simp only [mapInsert]
    by_cases hk : e.1 = k
    · simp [hk, mapGet]
    · rw [if_neg hk]
      split
      · simp [mapGet]
      · simp only [mapGet, if_neg hk]; exact ih

theorem mapGet_insert_other {α : Type} {d : Nat → α} {k k' : Nat} (v : α) (hne : k' ≠ k) (m : Map α) :
    mapGet d (mapInsert k v m) k' = mapGet d m k' := by
  have h' : ¬ k = k' := Ne.symm hne
  induction m with
  | nil => simp [mapInsert, mapGet, h']
  | cons e r ih =>
    simp only [mapInsert]
    by_cases hk : e.1 = k
    · have : ¬ e.1 = k' := fun h => hne (h.symm.trans hk)
      simp [hk, mapGet, h']
    · rw [if_neg hk]
      split
      · simp [mapGet, h']
      · simp only [mapGet]
        split
        · rfl
        · exact ih

section
variable {α : Type} [DecidableEq α] {d : Nat → α}

/-- Reading the key just written. -/
@[simp] theorem mapGet_put_same (k : Nat) (v : α) (m : Map α) : mapGet d (mapPut d k v m) k = v := by
  simp only [mapPut]
  split
  · rename_i hv; rw [mapGet_filter_out (by intro w; simp), hv]
  · exact mapGet_insert_same k v m

/-- Reading another key. -/
theorem mapGet_put_other {k k' : Nat} (v : α) (hne : k' ≠ k) (m : Map α) : mapGet d (mapPut d k v m) k' = mapGet d m k' := by
  simp only [mapPut]
  split
  · exact mapGet_filter (by intro w; simp [hne]) m
  · exact mapGet_insert_other v hne m

/-- Reading any key after a write. -/
theorem mapGet_put (k k' : Nat) (v : α) (m : Map α) : mapGet d (mapPut d k v m) k' = if k' = k then v else mapGet d m k' := by
  split
  · rename_i h; rw [h]; exact mapGet_put_same k v m
  · rename_i h; exact mapGet_put_other v h m

@[simp] theorem mapGet_upd_same (k : Nat) (f : α → α) (m : Map α) : mapGet d (mapUpd d k f m) k = f (mapGet d m k) := mapGet_put_same k _ m

theorem mapGet_upd_other {k k' : Nat} (f : α → α) (hne : k' ≠ k) (m : Map α) : mapGet d (mapUpd d k f m) k' = mapGet d m k' :=
  mapGet_put_other _ hne m

theorem mapGet_upd (k k' : Nat) (f : α → α) (m : Map α) :
    mapGet d (mapUpd d k f m) k' = if k' = k then f (mapGet d m k) else mapGet d m k' := mapGet_put k k' _ m

/-! ### The canonical form -/

theorem mapWfFrom_le {lo lo' : Nat} {m : Map α} (h : mapWfFrom d lo' m) (hl : lo ≤ lo') : mapWfFrom d lo m := by
  cases m with
  | nil => rfl
  | cons e r =>
    simp only [mapWfFrom, Bool.and_eq_true, decide_eq_true_eq] at h ⊢
    exact ⟨⟨by omega, h.1.2⟩, h.2⟩

theorem mapWfFrom_filter (p : Nat × α → Bool) {lo : Nat} {m : Map α} (h : mapWfFrom d lo m) : mapWfFrom d lo (m.filter p) := by
  induction m generalizing lo with
  | nil => rfl
  | cons e r ih =>
    simp only [mapWfFrom, Bool.and_eq_true, decide_eq_true_eq] at h
    obtain ⟨⟨h1, h2⟩, h3⟩ := h
    by_cases hp : p e
    · rw [List.filter_cons_of_pos hp]
      simp only [mapWfFrom, Bool.and_eq_true, decide_eq_true_eq]
      exact ⟨⟨h1, h2⟩, ih h3⟩
    · rw [List.filter_cons_of_neg hp]
      exact mapWfFrom_le (ih h3) (by omega)

theorem mapWfFrom_insert {k : Nat} {v : α} (hv : v ≠ d k) {lo : Nat} {m : Map α} (h : mapWfFrom d lo m) (hl : lo ≤ k) :
    mapWfFrom d lo (mapInsert k v m) := by
  induction m generalizing lo with
  | nil => simp [mapInsert, mapWfFrom, hl, hv]
  | cons e r ih =>
    have h0 := h
    simp only [mapWfFrom, Bool.and_eq_true, decide_eq_true_eq] at h
    obtain ⟨⟨h1, h2⟩, h3⟩ := h
    simp only [mapInsert]
    by_cases hk : e.1 = k
    · rw [if_pos hk]
      simp only [mapWfFrom, Bool.and_eq_true, decide_eq_true_eq]
      exact ⟨⟨hl, hv⟩, by rw [← hk]; exact h3⟩
    · rw [if_neg hk]
      split
      · simp only [mapWfFrom, Bool.and_eq_true, decide_eq_true_eq]
        exact ⟨⟨hl, hv⟩, ⟨by omega, h2⟩, h3⟩
      · simp only [mapWfFrom, Bool.and_eq_true, decide_eq_true_eq]
        exact ⟨⟨h1, h2⟩, ih h3 (by omega)⟩

/-- Leaving some keys out keeps the canonical form. -/
theorem mapWf_filter (p : Nat × α → Bool) {m : Map α} (h : mapWf d m) : mapWf d (m.filter p) := mapWfFrom_filter p h

/-- A write keeps the canonical form. -/
theorem mapPut_wf (k : Nat) (v : α) {m : Map α} (h : mapWf d m) : mapWf d (mapPut d k v m) := by
  simp only [mapPut]
  split
  · exact mapWf_filter _ h
  · rename_i hv; exact mapWfFrom_insert hv h (Nat.zero_le _)

theorem mapUpd_wf (k : Nat) (f : α → α) {m : Map α} (h : mapWf d m) : mapWf d (mapUpd d k f m) := mapPut_wf k _ h

/-- A change of every value keeps the canonical form. -/
theorem mapAll_wf (f : Nat → α → α) {m : Map α} (h : mapWf d m) : mapWf d (mapAll d f m) := by
  have key : ∀ (m : Map α) (lo : Nat), mapWfFrom d lo m → mapWfFrom d lo (mapAll d f m) := by
    intro m
    induction m with
    | nil => intro _ _; rfl
    | cons e r ih =>
      intro lo h
      simp only [mapWfFrom, Bool.and_eq_true, decide_eq_true_eq] at h
      obtain ⟨⟨h1, h2⟩, h3⟩ := h
      simp only [mapAll]
      split
      · exact mapWfFrom_le (ih _ h3) (by omega)
      · rename_i hv
        simp only [mapWfFrom, Bool.and_eq_true, decide_eq_true_eq]
        exact ⟨⟨h1, hv⟩, ih _ h3⟩
  exact key m 0 h

end

end Sys2Proof.Machine
end

