-- ==== Sys2Proof/Laws/State.lean ====
section
/-!
SUPPORT. What each update leaves as it was: one lemma for each field it does not write, so that no proof unfolds a record.
-/

namespace Sys2Proof.Machine

open Sys2Proof

variable (s : State)

/-! ### A choice between two states -/

@[simp] theorem ite_frame {c : Prop} [Decidable c] (a b : State) : (if c then a else b).frame = if c then a.frame else b.frame := by split <;> rfl
@[simp] theorem ite_slate {c : Prop} [Decidable c] (a b : State) : (if c then a else b).slate = if c then a.slate else b.slate := by split <;> rfl
@[simp] theorem ite_regs {c : Prop} [Decidable c] (a b : State) : (if c then a else b).regs = if c then a.regs else b.regs := by split <;> rfl
@[simp] theorem ite_ctrs {c : Prop} [Decidable c] (a b : State) : (if c then a else b).ctrs = if c then a.ctrs else b.ctrs := by split <;> rfl
@[simp] theorem ite_hdrs {c : Prop} [Decidable c] (a b : State) : (if c then a else b).hdrs = if c then a.hdrs else b.hdrs := by split <;> rfl
@[simp] theorem ite_mgmt {c : Prop} [Decidable c] (a b : State) : (if c then a else b).mgmt = if c then a.mgmt else b.mgmt := by split <;> rfl
@[simp] theorem ite_log {c : Prop} [Decidable c] (a b : State) : (if c then a else b).log = if c then a.log else b.log := by split <;> rfl
@[simp] theorem ite_daily {c : Prop} [Decidable c] (a b : State) : (if c then a else b).daily = if c then a.daily else b.daily := by split <;> rfl
@[simp] theorem ite_svc {c : Prop} [Decidable c] (a b : State) : (if c then a else b).svc = if c then a.svc else b.svc := by split <;> rfl
@[simp] theorem ite_svcEvt {c : Prop} [Decidable c] (a b : State) : (if c then a else b).svcEvt = if c then a.svcEvt else b.svcEvt := by split <;> rfl
@[simp] theorem ite_svcRej {c : Prop} [Decidable c] (a b : State) : (if c then a else b).svcRej = if c then a.svcRej else b.svcRej := by split <;> rfl
@[simp] theorem ite_mem {c : Prop} [Decidable c] (a b : State) : (if c then a else b).mem = if c then a.mem else b.mem := by split <;> rfl
@[simp] theorem ite_poison {c : Prop} [Decidable c] (a b : State) : (if c then a else b).poison = if c then a.poison else b.poison := by split <;> rfl
@[simp] theorem ite_tier {c : Prop} [Decidable c] (a b : State) : (if c then a else b).tier = if c then a.tier else b.tier := by split <;> rfl
@[simp] theorem ite_tenants {c : Prop} [Decidable c] (a b : State) : (if c then a else b).tenants = if c then a.tenants else b.tenants := by split <;> rfl
@[simp] theorem ite_tables {c : Prop} [Decidable c] (a b : State) : (if c then a else b).tables = if c then a.tables else b.tables := by split <;> rfl
@[simp] theorem ite_hports {c : Prop} [Decidable c] (a b : State) : (if c then a else b).hports = if c then a.hports else b.hports := by split <;> rfl
@[simp] theorem ite_extents {c : Prop} [Decidable c] (a b : State) : (if c then a else b).extents = if c then a.extents else b.extents := by split <;> rfl
@[simp] theorem ite_fns {c : Prop} [Decidable c] (a b : State) : (if c then a else b).fns = if c then a.fns else b.fns := by split <;> rfl
@[simp] theorem ite_mfn {c : Prop} [Decidable c] (a b : State) : (if c then a else b).mfn = if c then a.mfn else b.mfn := by split <;> rfl
@[simp] theorem ite_bg {c : Prop} [Decidable c] (a b : State) : (if c then a else b).bg = if c then a.bg else b.bg := by split <;> rfl
@[simp] theorem ite_bgLast {c : Prop} [Decidable c] (a b : State) : (if c then a else b).bgLast = if c then a.bgLast else b.bgLast := by split <;> rfl
@[simp] theorem ite_mctp {c : Prop} [Decidable c] (a b : State) : (if c then a else b).mctp = if c then a.mctp else b.mctp := by split <;> rfl
@[simp] theorem ite_dir {c : Prop} [Decidable c] (a b : State) : (if c then a else b).dir = if c then a.dir else b.dir := by split <;> rfl
@[simp] theorem ite_rgl {c : Prop} [Decidable c] (a b : State) : (if c then a else b).rgl = if c then a.rgl else b.rgl := by split <;> rfl
@[simp] theorem ite_fab {c : Prop} [Decidable c] (a b : State) : (if c then a else b).fab = if c then a.fab else b.fab := by split <;> rfl
@[simp] theorem ite_lanes {c : Prop} [Decidable c] (a b : State) : (if c then a else b).lanes = if c then a.lanes else b.lanes := by split <;> rfl
@[simp] theorem ite_pats {c : Prop} [Decidable c] (a b : State) : (if c then a else b).pats = if c then a.pats else b.pats := by split <;> rfl
@[simp] theorem ite_chans {c : Prop} [Decidable c] (a b : State) : (if c then a else b).chans = if c then a.chans else b.chans := by split <;> rfl
@[simp] theorem ite_dram {c : Prop} [Decidable c] (a b : State) : (if c then a else b).dram = if c then a.dram else b.dram := by split <;> rfl
@[simp] theorem ite_shelf {c : Prop} [Decidable c] (a b : State) : (if c then a else b).shelf = if c then a.shelf else b.shelf := by split <;> rfl
@[simp] theorem ite_cues {c : Prop} [Decidable c] (a b : State) : (if c then a else b).cues = if c then a.cues else b.cues := by split <;> rfl
@[simp] theorem ite_press {c : Prop} [Decidable c] (a b : State) : (if c then a else b).press = if c then a.press else b.press := by split <;> rfl
@[simp] theorem ite_coll {c : Prop} [Decidable c] (a b : State) : (if c then a else b).coll = if c then a.coll else b.coll := by split <;> rfl
@[simp] theorem ite_power {c : Prop} [Decidable c] (a b : State) : (if c then a else b).power = if c then a.power else b.power := by split <;> rfl
@[simp] theorem ite_fw {c : Prop} [Decidable c] (a b : State) : (if c then a else b).fw = if c then a.fw else b.fw := by split <;> rfl
@[simp] theorem ite_sys {c : Prop} [Decidable c] (a b : State) : (if c then a else b).sys = if c then a.sys else b.sys := by split <;> rfl
@[simp] theorem ite_out {c : Prop} [Decidable c] (a b : State) : (if c then a else b).out = if c then a.out else b.out := by split <;> rfl
@[simp] theorem ite_freeIx {c : Prop} [Decidable c] (a b : State) : (if c then a else b).freeIx = if c then a.freeIx else b.freeIx := by split <;> rfl
@[simp] theorem ite_pending {c : Prop} [Decidable c] (a b : State) : (if c then a else b).pending = if c then a.pending else b.pending := by split <;> rfl

/-! ### Updates -/

@[simp] theorem emit_frame o : (s.emit o).frame = s.frame := rfl
@[simp] theorem emit_slate o : (s.emit o).slate = s.slate := rfl
@[simp] theorem emit_regs o : (s.emit o).regs = s.regs := rfl
@[simp] theorem emit_ctrs o : (s.emit o).ctrs = s.ctrs := rfl
@[simp] theorem emit_hdrs o : (s.emit o).hdrs = s.hdrs := rfl
@[simp] theorem emit_mgmt o : (s.emit o).mgmt = s.mgmt := rfl
@[simp] theorem emit_log o : (s.emit o).log = s.log := rfl
@[simp] theorem emit_daily o : (s.emit o).daily = s.daily := rfl
@[simp] theorem emit_svc o : (s.emit o).svc = s.svc := rfl
@[simp] theorem emit_svcEvt o : (s.emit o).svcEvt = s.svcEvt := rfl
@[simp] theorem emit_svcRej o : (s.emit o).svcRej = s.svcRej := rfl
@[simp] theorem emit_mem o : (s.emit o).mem = s.mem := rfl
@[simp] theorem emit_poison o : (s.emit o).poison = s.poison := rfl
@[simp] theorem emit_tier o : (s.emit o).tier = s.tier := rfl
@[simp] theorem emit_tenants o : (s.emit o).tenants = s.tenants := rfl
@[simp] theorem emit_tables o : (s.emit o).tables = s.tables := rfl
@[simp] theorem emit_hports o : (s.emit o).hports = s.hports := rfl
@[simp] theorem emit_extents o : (s.emit o).extents = s.extents := rfl
@[simp] theorem emit_fns o : (s.emit o).fns = s.fns := rfl
@[simp] theorem emit_mfn o : (s.emit o).mfn = s.mfn := rfl
@[simp] theorem emit_bg o : (s.emit o).bg = s.bg := rfl
@[simp] theorem emit_bgLast o : (s.emit o).bgLast = s.bgLast := rfl
@[simp] theorem emit_mctp o : (s.emit o).mctp = s.mctp := rfl
@[simp] theorem emit_dir o : (s.emit o).dir = s.dir := rfl
@[simp] theorem emit_rgl o : (s.emit o).rgl = s.rgl := rfl
@[simp] theorem emit_fab o : (s.emit o).fab = s.fab := rfl
@[simp] theorem emit_lanes o : (s.emit o).lanes = s.lanes := rfl
@[simp] theorem emit_pats o : (s.emit o).pats = s.pats := rfl
@[simp] theorem emit_chans o : (s.emit o).chans = s.chans := rfl
@[simp] theorem emit_dram o : (s.emit o).dram = s.dram := rfl
@[simp] theorem emit_shelf o : (s.emit o).shelf = s.shelf := rfl
@[simp] theorem emit_cues o : (s.emit o).cues = s.cues := rfl
@[simp] theorem emit_press o : (s.emit o).press = s.press := rfl
@[simp] theorem emit_coll o : (s.emit o).coll = s.coll := rfl
@[simp] theorem emit_power o : (s.emit o).power = s.power := rfl
@[simp] theorem emit_fw o : (s.emit o).fw = s.fw := rfl
@[simp] theorem emit_sys o : (s.emit o).sys = s.sys := rfl
@[simp] theorem emit_freeIx o : (s.emit o).freeIx = s.freeIx := rfl
@[simp] theorem emit_pending o : (s.emit o).pending = s.pending := rfl

@[simp] theorem setReg_frame ofs v : (s.setReg ofs v).frame = s.frame := rfl
@[simp] theorem setReg_slate ofs v : (s.setReg ofs v).slate = s.slate := rfl
@[simp] theorem setReg_ctrs ofs v : (s.setReg ofs v).ctrs = s.ctrs := rfl
@[simp] theorem setReg_hdrs ofs v : (s.setReg ofs v).hdrs = s.hdrs := rfl
@[simp] theorem setReg_mgmt ofs v : (s.setReg ofs v).mgmt = s.mgmt := rfl
@[simp] theorem setReg_log ofs v : (s.setReg ofs v).log = s.log := rfl
@[simp] theorem setReg_daily ofs v : (s.setReg ofs v).daily = s.daily := rfl
@[simp] theorem setReg_svc ofs v : (s.setReg ofs v).svc = s.svc := rfl
@[simp] theorem setReg_svcEvt ofs v : (s.setReg ofs v).svcEvt = s.svcEvt := rfl
@[simp] theorem setReg_svcRej ofs v : (s.setReg ofs v).svcRej = s.svcRej := rfl
@[simp] theorem setReg_mem ofs v : (s.setReg ofs v).mem = s.mem := rfl
@[simp] theorem setReg_poison ofs v : (s.setReg ofs v).poison = s.poison := rfl
@[simp] theorem setReg_tier ofs v : (s.setReg ofs v).tier = s.tier := rfl
@[simp] theorem setReg_tenants ofs v : (s.setReg ofs v).tenants = s.tenants := rfl
@[simp] theorem setReg_tables ofs v : (s.setReg ofs v).tables = s.tables := rfl
@[simp] theorem setReg_hports ofs v : (s.setReg ofs v).hports = s.hports := rfl
@[simp] theorem setReg_extents ofs v : (s.setReg ofs v).extents = s.extents := rfl
@[simp] theorem setReg_fns ofs v : (s.setReg ofs v).fns = s.fns := rfl
@[simp] theorem setReg_mfn ofs v : (s.setReg ofs v).mfn = s.mfn := rfl
@[simp] theorem setReg_bg ofs v : (s.setReg ofs v).bg = s.bg := rfl
@[simp] theorem setReg_bgLast ofs v : (s.setReg ofs v).bgLast = s.bgLast := rfl
@[simp] theorem setReg_mctp ofs v : (s.setReg ofs v).mctp = s.mctp := rfl
@[simp] theorem setReg_dir ofs v : (s.setReg ofs v).dir = s.dir := rfl
@[simp] theorem setReg_rgl ofs v : (s.setReg ofs v).rgl = s.rgl := rfl
@[simp] theorem setReg_fab ofs v : (s.setReg ofs v).fab = s.fab := rfl
@[simp] theorem setReg_lanes ofs v : (s.setReg ofs v).lanes = s.lanes := rfl
@[simp] theorem setReg_pats ofs v : (s.setReg ofs v).pats = s.pats := rfl
@[simp] theorem setReg_chans ofs v : (s.setReg ofs v).chans = s.chans := rfl
@[simp] theorem setReg_dram ofs v : (s.setReg ofs v).dram = s.dram := rfl
@[simp] theorem setReg_shelf ofs v : (s.setReg ofs v).shelf = s.shelf := rfl
@[simp] theorem setReg_cues ofs v : (s.setReg ofs v).cues = s.cues := rfl
@[simp] theorem setReg_press ofs v : (s.setReg ofs v).press = s.press := rfl
@[simp] theorem setReg_coll ofs v : (s.setReg ofs v).coll = s.coll := rfl
@[simp] theorem setReg_power ofs v : (s.setReg ofs v).power = s.power := rfl
@[simp] theorem setReg_fw ofs v : (s.setReg ofs v).fw = s.fw := rfl
@[simp] theorem setReg_sys ofs v : (s.setReg ofs v).sys = s.sys := rfl
@[simp] theorem setReg_out ofs v : (s.setReg ofs v).out = s.out := rfl
@[simp] theorem setReg_freeIx ofs v : (s.setReg ofs v).freeIx = s.freeIx := rfl
@[simp] theorem setReg_pending ofs v : (s.setReg ofs v).pending = s.pending := rfl

@[simp] theorem bump_frame ofs sel n : (s.bump ofs sel n).frame = s.frame := rfl
@[simp] theorem bump_slate ofs sel n : (s.bump ofs sel n).slate = s.slate := rfl
@[simp] theorem bump_regs ofs sel n : (s.bump ofs sel n).regs = s.regs := rfl
@[simp] theorem bump_hdrs ofs sel n : (s.bump ofs sel n).hdrs = s.hdrs := rfl
@[simp] theorem bump_mgmt ofs sel n : (s.bump ofs sel n).mgmt = s.mgmt := rfl
@[simp] theorem bump_log ofs sel n : (s.bump ofs sel n).log = s.log := rfl
@[simp] theorem bump_daily ofs sel n : (s.bump ofs sel n).daily = s.daily := rfl
@[simp] theorem bump_svc ofs sel n : (s.bump ofs sel n).svc = s.svc := rfl
@[simp] theorem bump_svcEvt ofs sel n : (s.bump ofs sel n).svcEvt = s.svcEvt := rfl
@[simp] theorem bump_svcRej ofs sel n : (s.bump ofs sel n).svcRej = s.svcRej := rfl
@[simp] theorem bump_mem ofs sel n : (s.bump ofs sel n).mem = s.mem := rfl
@[simp] theorem bump_poison ofs sel n : (s.bump ofs sel n).poison = s.poison := rfl
@[simp] theorem bump_tier ofs sel n : (s.bump ofs sel n).tier = s.tier := rfl
@[simp] theorem bump_tenants ofs sel n : (s.bump ofs sel n).tenants = s.tenants := rfl
@[simp] theorem bump_tables ofs sel n : (s.bump ofs sel n).tables = s.tables := rfl
@[simp] theorem bump_hports ofs sel n : (s.bump ofs sel n).hports = s.hports := rfl
@[simp] theorem bump_extents ofs sel n : (s.bump ofs sel n).extents = s.extents := rfl
@[simp] theorem bump_fns ofs sel n : (s.bump ofs sel n).fns = s.fns := rfl
@[simp] theorem bump_mfn ofs sel n : (s.bump ofs sel n).mfn = s.mfn := rfl
@[simp] theorem bump_bg ofs sel n : (s.bump ofs sel n).bg = s.bg := rfl
@[simp] theorem bump_bgLast ofs sel n : (s.bump ofs sel n).bgLast = s.bgLast := rfl
@[simp] theorem bump_mctp ofs sel n : (s.bump ofs sel n).mctp = s.mctp := rfl
@[simp] theorem bump_dir ofs sel n : (s.bump ofs sel n).dir = s.dir := rfl
@[simp] theorem bump_rgl ofs sel n : (s.bump ofs sel n).rgl = s.rgl := rfl
@[simp] theorem bump_fab ofs sel n : (s.bump ofs sel n).fab = s.fab := rfl
@[simp] theorem bump_lanes ofs sel n : (s.bump ofs sel n).lanes = s.lanes := rfl
@[simp] theorem bump_pats ofs sel n : (s.bump ofs sel n).pats = s.pats := rfl
@[simp] theorem bump_chans ofs sel n : (s.bump ofs sel n).chans = s.chans := rfl
@[simp] theorem bump_dram ofs sel n : (s.bump ofs sel n).dram = s.dram := rfl
@[simp] theorem bump_shelf ofs sel n : (s.bump ofs sel n).shelf = s.shelf := rfl
@[simp] theorem bump_cues ofs sel n : (s.bump ofs sel n).cues = s.cues := rfl
@[simp] theorem bump_press ofs sel n : (s.bump ofs sel n).press = s.press := rfl
@[simp] theorem bump_coll ofs sel n : (s.bump ofs sel n).coll = s.coll := rfl
@[simp] theorem bump_power ofs sel n : (s.bump ofs sel n).power = s.power := rfl
@[simp] theorem bump_fw ofs sel n : (s.bump ofs sel n).fw = s.fw := rfl
@[simp] theorem bump_sys ofs sel n : (s.bump ofs sel n).sys = s.sys := rfl
@[simp] theorem bump_out ofs sel n : (s.bump ofs sel n).out = s.out := rfl
@[simp] theorem bump_freeIx ofs sel n : (s.bump ofs sel n).freeIx = s.freeIx := rfl
@[simp] theorem bump_pending ofs sel n : (s.bump ofs sel n).pending = s.pending := rfl

@[simp] theorem clearCtr_frame ofs sel : (s.clearCtr ofs sel).frame = s.frame := rfl
@[simp] theorem clearCtr_slate ofs sel : (s.clearCtr ofs sel).slate = s.slate := rfl
@[simp] theorem clearCtr_regs ofs sel : (s.clearCtr ofs sel).regs = s.regs := rfl
@[simp] theorem clearCtr_hdrs ofs sel : (s.clearCtr ofs sel).hdrs = s.hdrs := rfl
@[simp] theorem clearCtr_mgmt ofs sel : (s.clearCtr ofs sel).mgmt = s.mgmt := rfl
@[simp] theorem clearCtr_log ofs sel : (s.clearCtr ofs sel).log = s.log := rfl
@[simp] theorem clearCtr_daily ofs sel : (s.clearCtr ofs sel).daily = s.daily := rfl
@[simp] theorem clearCtr_svc ofs sel : (s.clearCtr ofs sel).svc = s.svc := rfl
@[simp] theorem clearCtr_svcEvt ofs sel : (s.clearCtr ofs sel).svcEvt = s.svcEvt := rfl
@[simp] theorem clearCtr_svcRej ofs sel : (s.clearCtr ofs sel).svcRej = s.svcRej := rfl
@[simp] theorem clearCtr_mem ofs sel : (s.clearCtr ofs sel).mem = s.mem := rfl
@[simp] theorem clearCtr_poison ofs sel : (s.clearCtr ofs sel).poison = s.poison := rfl
@[simp] theorem clearCtr_tier ofs sel : (s.clearCtr ofs sel).tier = s.tier := rfl
@[simp] theorem clearCtr_tenants ofs sel : (s.clearCtr ofs sel).tenants = s.tenants := rfl
@[simp] theorem clearCtr_tables ofs sel : (s.clearCtr ofs sel).tables = s.tables := rfl
@[simp] theorem clearCtr_hports ofs sel : (s.clearCtr ofs sel).hports = s.hports := rfl
@[simp] theorem clearCtr_extents ofs sel : (s.clearCtr ofs sel).extents = s.extents := rfl
@[simp] theorem clearCtr_fns ofs sel : (s.clearCtr ofs sel).fns = s.fns := rfl
@[simp] theorem clearCtr_mfn ofs sel : (s.clearCtr ofs sel).mfn = s.mfn := rfl
@[simp] theorem clearCtr_bg ofs sel : (s.clearCtr ofs sel).bg = s.bg := rfl
@[simp] theorem clearCtr_bgLast ofs sel : (s.clearCtr ofs sel).bgLast = s.bgLast := rfl
@[simp] theorem clearCtr_mctp ofs sel : (s.clearCtr ofs sel).mctp = s.mctp := rfl
@[simp] theorem clearCtr_dir ofs sel : (s.clearCtr ofs sel).dir = s.dir := rfl
@[simp] theorem clearCtr_rgl ofs sel : (s.clearCtr ofs sel).rgl = s.rgl := rfl
@[simp] theorem clearCtr_fab ofs sel : (s.clearCtr ofs sel).fab = s.fab := rfl
@[simp] theorem clearCtr_lanes ofs sel : (s.clearCtr ofs sel).lanes = s.lanes := rfl
@[simp] theorem clearCtr_pats ofs sel : (s.clearCtr ofs sel).pats = s.pats := rfl
@[simp] theorem clearCtr_chans ofs sel : (s.clearCtr ofs sel).chans = s.chans := rfl
@[simp] theorem clearCtr_dram ofs sel : (s.clearCtr ofs sel).dram = s.dram := rfl
@[simp] theorem clearCtr_shelf ofs sel : (s.clearCtr ofs sel).shelf = s.shelf := rfl
@[simp] theorem clearCtr_cues ofs sel : (s.clearCtr ofs sel).cues = s.cues := rfl
@[simp] theorem clearCtr_press ofs sel : (s.clearCtr ofs sel).press = s.press := rfl
@[simp] theorem clearCtr_coll ofs sel : (s.clearCtr ofs sel).coll = s.coll := rfl
@[simp] theorem clearCtr_power ofs sel : (s.clearCtr ofs sel).power = s.power := rfl
@[simp] theorem clearCtr_fw ofs sel : (s.clearCtr ofs sel).fw = s.fw := rfl
@[simp] theorem clearCtr_sys ofs sel : (s.clearCtr ofs sel).sys = s.sys := rfl
@[simp] theorem clearCtr_out ofs sel : (s.clearCtr ofs sel).out = s.out := rfl
@[simp] theorem clearCtr_freeIx ofs sel : (s.clearCtr ofs sel).freeIx = s.freeIx := rfl
@[simp] theorem clearCtr_pending ofs sel : (s.clearCtr ofs sel).pending = s.pending := rfl

@[simp] theorem updHdr_frame p f : (s.updHdr p f).frame = s.frame := rfl
@[simp] theorem updHdr_slate p f : (s.updHdr p f).slate = s.slate := rfl
@[simp] theorem updHdr_regs p f : (s.updHdr p f).regs = s.regs := rfl
@[simp] theorem updHdr_ctrs p f : (s.updHdr p f).ctrs = s.ctrs := rfl
@[simp] theorem updHdr_mgmt p f : (s.updHdr p f).mgmt = s.mgmt := rfl
@[simp] theorem updHdr_log p f : (s.updHdr p f).log = s.log := rfl
@[simp] theorem updHdr_daily p f : (s.updHdr p f).daily = s.daily := rfl
@[simp] theorem updHdr_svc p f : (s.updHdr p f).svc = s.svc := rfl
@[simp] theorem updHdr_svcEvt p f : (s.updHdr p f).svcEvt = s.svcEvt := rfl
@[simp] theorem updHdr_svcRej p f : (s.updHdr p f).svcRej = s.svcRej := rfl
@[simp] theorem updHdr_mem p f : (s.updHdr p f).mem = s.mem := rfl
@[simp] theorem updHdr_poison p f : (s.updHdr p f).poison = s.poison := rfl
@[simp] theorem updHdr_tier p f : (s.updHdr p f).tier = s.tier := rfl
@[simp] theorem updHdr_tenants p f : (s.updHdr p f).tenants = s.tenants := rfl
@[simp] theorem updHdr_tables p f : (s.updHdr p f).tables = s.tables := rfl
@[simp] theorem updHdr_hports p f : (s.updHdr p f).hports = s.hports := rfl
@[simp] theorem updHdr_extents p f : (s.updHdr p f).extents = s.extents := rfl
@[simp] theorem updHdr_fns p f : (s.updHdr p f).fns = s.fns := rfl
@[simp] theorem updHdr_mfn p f : (s.updHdr p f).mfn = s.mfn := rfl
@[simp] theorem updHdr_bg p f : (s.updHdr p f).bg = s.bg := rfl
@[simp] theorem updHdr_bgLast p f : (s.updHdr p f).bgLast = s.bgLast := rfl
@[simp] theorem updHdr_mctp p f : (s.updHdr p f).mctp = s.mctp := rfl
@[simp] theorem updHdr_dir p f : (s.updHdr p f).dir = s.dir := rfl
@[simp] theorem updHdr_rgl p f : (s.updHdr p f).rgl = s.rgl := rfl
@[simp] theorem updHdr_fab p f : (s.updHdr p f).fab = s.fab := rfl
@[simp] theorem updHdr_lanes p f : (s.updHdr p f).lanes = s.lanes := rfl
@[simp] theorem updHdr_pats p f : (s.updHdr p f).pats = s.pats := rfl
@[simp] theorem updHdr_chans p f : (s.updHdr p f).chans = s.chans := rfl
@[simp] theorem updHdr_dram p f : (s.updHdr p f).dram = s.dram := rfl
@[simp] theorem updHdr_shelf p f : (s.updHdr p f).shelf = s.shelf := rfl
@[simp] theorem updHdr_cues p f : (s.updHdr p f).cues = s.cues := rfl
@[simp] theorem updHdr_press p f : (s.updHdr p f).press = s.press := rfl
@[simp] theorem updHdr_coll p f : (s.updHdr p f).coll = s.coll := rfl
@[simp] theorem updHdr_power p f : (s.updHdr p f).power = s.power := rfl
@[simp] theorem updHdr_fw p f : (s.updHdr p f).fw = s.fw := rfl
@[simp] theorem updHdr_sys p f : (s.updHdr p f).sys = s.sys := rfl
@[simp] theorem updHdr_out p f : (s.updHdr p f).out = s.out := rfl
@[simp] theorem updHdr_freeIx p f : (s.updHdr p f).freeIx = s.freeIx := rfl
@[simp] theorem updHdr_pending p f : (s.updHdr p f).pending = s.pending := rfl

@[simp] theorem mgmtCause_frame v : (s.mgmtCause v).frame = s.frame := rfl
@[simp] theorem mgmtCause_slate v : (s.mgmtCause v).slate = s.slate := rfl
@[simp] theorem mgmtCause_regs v : (s.mgmtCause v).regs = s.regs := rfl
@[simp] theorem mgmtCause_ctrs v : (s.mgmtCause v).ctrs = s.ctrs := rfl
@[simp] theorem mgmtCause_hdrs v : (s.mgmtCause v).hdrs = s.hdrs := rfl
@[simp] theorem mgmtCause_mgmt v : (s.mgmtCause v).mgmt = s.mgmt := rfl
@[simp] theorem mgmtCause_log v : (s.mgmtCause v).log = s.log := rfl
@[simp] theorem mgmtCause_daily v : (s.mgmtCause v).daily = s.daily := rfl
@[simp] theorem mgmtCause_svc v : (s.mgmtCause v).svc = s.svc := rfl
@[simp] theorem mgmtCause_svcEvt v : (s.mgmtCause v).svcEvt = s.svcEvt := rfl
@[simp] theorem mgmtCause_svcRej v : (s.mgmtCause v).svcRej = s.svcRej := rfl
@[simp] theorem mgmtCause_mem v : (s.mgmtCause v).mem = s.mem := rfl
@[simp] theorem mgmtCause_poison v : (s.mgmtCause v).poison = s.poison := rfl
@[simp] theorem mgmtCause_tier v : (s.mgmtCause v).tier = s.tier := rfl
@[simp] theorem mgmtCause_tenants v : (s.mgmtCause v).tenants = s.tenants := rfl
@[simp] theorem mgmtCause_tables v : (s.mgmtCause v).tables = s.tables := rfl
@[simp] theorem mgmtCause_hports v : (s.mgmtCause v).hports = s.hports := rfl
@[simp] theorem mgmtCause_extents v : (s.mgmtCause v).extents = s.extents := rfl
@[simp] theorem mgmtCause_fns v : (s.mgmtCause v).fns = s.fns := rfl
@[simp] theorem mgmtCause_bg v : (s.mgmtCause v).bg = s.bg := rfl
@[simp] theorem mgmtCause_bgLast v : (s.mgmtCause v).bgLast = s.bgLast := rfl
@[simp] theorem mgmtCause_mctp v : (s.mgmtCause v).mctp = s.mctp := rfl
@[simp] theorem mgmtCause_dir v : (s.mgmtCause v).dir = s.dir := rfl
@[simp] theorem mgmtCause_rgl v : (s.mgmtCause v).rgl = s.rgl := rfl
@[simp] theorem mgmtCause_fab v : (s.mgmtCause v).fab = s.fab := rfl
@[simp] theorem mgmtCause_lanes v : (s.mgmtCause v).lanes = s.lanes := rfl
@[simp] theorem mgmtCause_pats v : (s.mgmtCause v).pats = s.pats := rfl
@[simp] theorem mgmtCause_chans v : (s.mgmtCause v).chans = s.chans := rfl
@[simp] theorem mgmtCause_dram v : (s.mgmtCause v).dram = s.dram := rfl
@[simp] theorem mgmtCause_shelf v : (s.mgmtCause v).shelf = s.shelf := rfl
@[simp] theorem mgmtCause_cues v : (s.mgmtCause v).cues = s.cues := rfl
@[simp] theorem mgmtCause_press v : (s.mgmtCause v).press = s.press := rfl
@[simp] theorem mgmtCause_coll v : (s.mgmtCause v).coll = s.coll := rfl
@[simp] theorem mgmtCause_power v : (s.mgmtCause v).power = s.power := rfl
@[simp] theorem mgmtCause_fw v : (s.mgmtCause v).fw = s.fw := rfl
@[simp] theorem mgmtCause_sys v : (s.mgmtCause v).sys = s.sys := rfl
@[simp] theorem mgmtCause_out v : (s.mgmtCause v).out = s.out := rfl
@[simp] theorem mgmtCause_freeIx v : (s.mgmtCause v).freeIx = s.freeIx := rfl
@[simp] theorem mgmtCause_pending v : (s.mgmtCause v).pending = s.pending := rfl

@[simp] theorem updUnit_frame k i f : (s.updUnit k i f).frame = s.frame := rfl
@[simp] theorem updUnit_slate k i f : (s.updUnit k i f).slate = s.slate := rfl
@[simp] theorem updUnit_regs k i f : (s.updUnit k i f).regs = s.regs := rfl
@[simp] theorem updUnit_ctrs k i f : (s.updUnit k i f).ctrs = s.ctrs := rfl
@[simp] theorem updUnit_hdrs k i f : (s.updUnit k i f).hdrs = s.hdrs := rfl
@[simp] theorem updUnit_mgmt k i f : (s.updUnit k i f).mgmt = s.mgmt := rfl
@[simp] theorem updUnit_log k i f : (s.updUnit k i f).log = s.log := rfl
@[simp] theorem updUnit_daily k i f : (s.updUnit k i f).daily = s.daily := rfl
@[simp] theorem updUnit_svcEvt k i f : (s.updUnit k i f).svcEvt = s.svcEvt := rfl
@[simp] theorem updUnit_svcRej k i f : (s.updUnit k i f).svcRej = s.svcRej := rfl
@[simp] theorem updUnit_mem k i f : (s.updUnit k i f).mem = s.mem := rfl
@[simp] theorem updUnit_poison k i f : (s.updUnit k i f).poison = s.poison := rfl
@[simp] theorem updUnit_tier k i f : (s.updUnit k i f).tier = s.tier := rfl
@[simp] theorem updUnit_tenants k i f : (s.updUnit k i f).tenants = s.tenants := rfl
@[simp] theorem updUnit_tables k i f : (s.updUnit k i f).tables = s.tables := rfl
@[simp] theorem updUnit_hports k i f : (s.updUnit k i f).hports = s.hports := rfl
@[simp] theorem updUnit_extents k i f : (s.updUnit k i f).extents = s.extents := rfl
@[simp] theorem updUnit_fns k i f : (s.updUnit k i f).fns = s.fns := rfl
@[simp] theorem updUnit_mfn k i f : (s.updUnit k i f).mfn = s.mfn := rfl
@[simp] theorem updUnit_bg k i f : (s.updUnit k i f).bg = s.bg := rfl
@[simp] theorem updUnit_bgLast k i f : (s.updUnit k i f).bgLast = s.bgLast := rfl
@[simp] theorem updUnit_mctp k i f : (s.updUnit k i f).mctp = s.mctp := rfl
@[simp] theorem updUnit_dir k i f : (s.updUnit k i f).dir = s.dir := rfl
@[simp] theorem updUnit_rgl k i f : (s.updUnit k i f).rgl = s.rgl := rfl
@[simp] theorem updUnit_fab k i f : (s.updUnit k i f).fab = s.fab := rfl
@[simp] theorem updUnit_lanes k i f : (s.updUnit k i f).lanes = s.lanes := rfl
@[simp] theorem updUnit_pats k i f : (s.updUnit k i f).pats = s.pats := rfl
@[simp] theorem updUnit_chans k i f : (s.updUnit k i f).chans = s.chans := rfl
@[simp] theorem updUnit_dram k i f : (s.updUnit k i f).dram = s.dram := rfl
@[simp] theorem updUnit_shelf k i f : (s.updUnit k i f).shelf = s.shelf := rfl
@[simp] theorem updUnit_cues k i f : (s.updUnit k i f).cues = s.cues := rfl
@[simp] theorem updUnit_press k i f : (s.updUnit k i f).press = s.press := rfl
@[simp] theorem updUnit_coll k i f : (s.updUnit k i f).coll = s.coll := rfl
@[simp] theorem updUnit_power k i f : (s.updUnit k i f).power = s.power := rfl
@[simp] theorem updUnit_fw k i f : (s.updUnit k i f).fw = s.fw := rfl
@[simp] theorem updUnit_sys k i f : (s.updUnit k i f).sys = s.sys := rfl
@[simp] theorem updUnit_out k i f : (s.updUnit k i f).out = s.out := rfl
@[simp] theorem updUnit_freeIx k i f : (s.updUnit k i f).freeIx = s.freeIx := rfl
@[simp] theorem updUnit_pending k i f : (s.updUnit k i f).pending = s.pending := rfl

@[simp] theorem useTake_frame g i sub o c : (s.useTake g i sub o c).frame = s.frame := rfl
@[simp] theorem useTake_regs g i sub o c : (s.useTake g i sub o c).regs = s.regs := rfl
@[simp] theorem useTake_ctrs g i sub o c : (s.useTake g i sub o c).ctrs = s.ctrs := rfl
@[simp] theorem useTake_hdrs g i sub o c : (s.useTake g i sub o c).hdrs = s.hdrs := rfl
@[simp] theorem useTake_mgmt g i sub o c : (s.useTake g i sub o c).mgmt = s.mgmt := rfl
@[simp] theorem useTake_log g i sub o c : (s.useTake g i sub o c).log = s.log := rfl
@[simp] theorem useTake_daily g i sub o c : (s.useTake g i sub o c).daily = s.daily := rfl
@[simp] theorem useTake_svc g i sub o c : (s.useTake g i sub o c).svc = s.svc := rfl
@[simp] theorem useTake_svcEvt g i sub o c : (s.useTake g i sub o c).svcEvt = s.svcEvt := rfl
@[simp] theorem useTake_svcRej g i sub o c : (s.useTake g i sub o c).svcRej = s.svcRej := rfl
@[simp] theorem useTake_mem g i sub o c : (s.useTake g i sub o c).mem = s.mem := rfl
@[simp] theorem useTake_poison g i sub o c : (s.useTake g i sub o c).poison = s.poison := rfl
@[simp] theorem useTake_tier g i sub o c : (s.useTake g i sub o c).tier = s.tier := rfl
@[simp] theorem useTake_tenants g i sub o c : (s.useTake g i sub o c).tenants = s.tenants := rfl
@[simp] theorem useTake_tables g i sub o c : (s.useTake g i sub o c).tables = s.tables := rfl
@[simp] theorem useTake_hports g i sub o c : (s.useTake g i sub o c).hports = s.hports := rfl
@[simp] theorem useTake_extents g i sub o c : (s.useTake g i sub o c).extents = s.extents := rfl
@[simp] theorem useTake_fns g i sub o c : (s.useTake g i sub o c).fns = s.fns := rfl
@[simp] theorem useTake_mfn g i sub o c : (s.useTake g i sub o c).mfn = s.mfn := rfl
@[simp] theorem useTake_bg g i sub o c : (s.useTake g i sub o c).bg = s.bg := rfl
@[simp] theorem useTake_bgLast g i sub o c : (s.useTake g i sub o c).bgLast = s.bgLast := rfl
@[simp] theorem useTake_mctp g i sub o c : (s.useTake g i sub o c).mctp = s.mctp := rfl
@[simp] theorem useTake_dir g i sub o c : (s.useTake g i sub o c).dir = s.dir := rfl
@[simp] theorem useTake_rgl g i sub o c : (s.useTake g i sub o c).rgl = s.rgl := rfl
@[simp] theorem useTake_fab g i sub o c : (s.useTake g i sub o c).fab = s.fab := rfl
@[simp] theorem useTake_lanes g i sub o c : (s.useTake g i sub o c).lanes = s.lanes := rfl
@[simp] theorem useTake_pats g i sub o c : (s.useTake g i sub o c).pats = s.pats := rfl
@[simp] theorem useTake_chans g i sub o c : (s.useTake g i sub o c).chans = s.chans := rfl
@[simp] theorem useTake_dram g i sub o c : (s.useTake g i sub o c).dram = s.dram := rfl
@[simp] theorem useTake_shelf g i sub o c : (s.useTake g i sub o c).shelf = s.shelf := rfl
@[simp] theorem useTake_cues g i sub o c : (s.useTake g i sub o c).cues = s.cues := rfl
@[simp] theorem useTake_press g i sub o c : (s.useTake g i sub o c).press = s.press := rfl
@[simp] theorem useTake_coll g i sub o c : (s.useTake g i sub o c).coll = s.coll := rfl
@[simp] theorem useTake_power g i sub o c : (s.useTake g i sub o c).power = s.power := rfl
@[simp] theorem useTake_fw g i sub o c : (s.useTake g i sub o c).fw = s.fw := rfl
@[simp] theorem useTake_sys g i sub o c : (s.useTake g i sub o c).sys = s.sys := rfl
@[simp] theorem useTake_out g i sub o c : (s.useTake g i sub o c).out = s.out := rfl
@[simp] theorem useTake_freeIx g i sub o c : (s.useTake g i sub o c).freeIx = s.freeIx := rfl
@[simp] theorem useTake_pending g i sub o c : (s.useTake g i sub o c).pending = s.pending := rfl

@[simp] theorem overrun_frame g i o x : (s.overrun g i o x).frame = s.frame := rfl
@[simp] theorem overrun_regs g i o x : (s.overrun g i o x).regs = s.regs := rfl
@[simp] theorem overrun_ctrs g i o x : (s.overrun g i o x).ctrs = s.ctrs := rfl
@[simp] theorem overrun_hdrs g i o x : (s.overrun g i o x).hdrs = s.hdrs := rfl
@[simp] theorem overrun_mgmt g i o x : (s.overrun g i o x).mgmt = s.mgmt := rfl
@[simp] theorem overrun_log g i o x : (s.overrun g i o x).log = s.log := rfl
@[simp] theorem overrun_daily g i o x : (s.overrun g i o x).daily = s.daily := rfl
@[simp] theorem overrun_svc g i o x : (s.overrun g i o x).svc = s.svc := rfl
@[simp] theorem overrun_svcEvt g i o x : (s.overrun g i o x).svcEvt = s.svcEvt := rfl
@[simp] theorem overrun_svcRej g i o x : (s.overrun g i o x).svcRej = s.svcRej := rfl
@[simp] theorem overrun_mem g i o x : (s.overrun g i o x).mem = s.mem := rfl
@[simp] theorem overrun_poison g i o x : (s.overrun g i o x).poison = s.poison := rfl
@[simp] theorem overrun_tier g i o x : (s.overrun g i o x).tier = s.tier := rfl
@[simp] theorem overrun_tenants g i o x : (s.overrun g i o x).tenants = s.tenants := rfl
@[simp] theorem overrun_tables g i o x : (s.overrun g i o x).tables = s.tables := rfl
@[simp] theorem overrun_hports g i o x : (s.overrun g i o x).hports = s.hports := rfl
@[simp] theorem overrun_extents g i o x : (s.overrun g i o x).extents = s.extents := rfl
@[simp] theorem overrun_fns g i o x : (s.overrun g i o x).fns = s.fns := rfl
@[simp] theorem overrun_mfn g i o x : (s.overrun g i o x).mfn = s.mfn := rfl
@[simp] theorem overrun_bg g i o x : (s.overrun g i o x).bg = s.bg := rfl
@[simp] theorem overrun_bgLast g i o x : (s.overrun g i o x).bgLast = s.bgLast := rfl
@[simp] theorem overrun_mctp g i o x : (s.overrun g i o x).mctp = s.mctp := rfl
@[simp] theorem overrun_dir g i o x : (s.overrun g i o x).dir = s.dir := rfl
@[simp] theorem overrun_rgl g i o x : (s.overrun g i o x).rgl = s.rgl := rfl
@[simp] theorem overrun_fab g i o x : (s.overrun g i o x).fab = s.fab := rfl
@[simp] theorem overrun_lanes g i o x : (s.overrun g i o x).lanes = s.lanes := rfl
@[simp] theorem overrun_pats g i o x : (s.overrun g i o x).pats = s.pats := rfl
@[simp] theorem overrun_chans g i o x : (s.overrun g i o x).chans = s.chans := rfl
@[simp] theorem overrun_dram g i o x : (s.overrun g i o x).dram = s.dram := rfl
@[simp] theorem overrun_shelf g i o x : (s.overrun g i o x).shelf = s.shelf := rfl
@[simp] theorem overrun_cues g i o x : (s.overrun g i o x).cues = s.cues := rfl
@[simp] theorem overrun_press g i o x : (s.overrun g i o x).press = s.press := rfl
@[simp] theorem overrun_coll g i o x : (s.overrun g i o x).coll = s.coll := rfl
@[simp] theorem overrun_power g i o x : (s.overrun g i o x).power = s.power := rfl
@[simp] theorem overrun_fw g i o x : (s.overrun g i o x).fw = s.fw := rfl
@[simp] theorem overrun_sys g i o x : (s.overrun g i o x).sys = s.sys := rfl
@[simp] theorem overrun_out g i o x : (s.overrun g i o x).out = s.out := rfl
@[simp] theorem overrun_freeIx g i o x : (s.overrun g i o x).freeIx = s.freeIx := rfl
@[simp] theorem overrun_pending g i o x : (s.overrun g i o x).pending = s.pending := rfl

@[simp] theorem updChan_frame c f : (s.updChan c f).frame = s.frame := rfl
@[simp] theorem updChan_slate c f : (s.updChan c f).slate = s.slate := rfl
@[simp] theorem updChan_regs c f : (s.updChan c f).regs = s.regs := rfl
@[simp] theorem updChan_ctrs c f : (s.updChan c f).ctrs = s.ctrs := rfl
@[simp] theorem updChan_hdrs c f : (s.updChan c f).hdrs = s.hdrs := rfl
@[simp] theorem updChan_mgmt c f : (s.updChan c f).mgmt = s.mgmt := rfl
@[simp] theorem updChan_log c f : (s.updChan c f).log = s.log := rfl
@[simp] theorem updChan_daily c f : (s.updChan c f).daily = s.daily := rfl
@[simp] theorem updChan_svc c f : (s.updChan c f).svc = s.svc := rfl
@[simp] theorem updChan_svcEvt c f : (s.updChan c f).svcEvt = s.svcEvt := rfl
@[simp] theorem updChan_svcRej c f : (s.updChan c f).svcRej = s.svcRej := rfl
@[simp] theorem updChan_mem c f : (s.updChan c f).mem = s.mem := rfl
@[simp] theorem updChan_poison c f : (s.updChan c f).poison = s.poison := rfl
@[simp] theorem updChan_tier c f : (s.updChan c f).tier = s.tier := rfl
@[simp] theorem updChan_tenants c f : (s.updChan c f).tenants = s.tenants := rfl
@[simp] theorem updChan_tables c f : (s.updChan c f).tables = s.tables := rfl
@[simp] theorem updChan_hports c f : (s.updChan c f).hports = s.hports := rfl
@[simp] theorem updChan_extents c f : (s.updChan c f).extents = s.extents := rfl
@[simp] theorem updChan_fns c f : (s.updChan c f).fns = s.fns := rfl
@[simp] theorem updChan_mfn c f : (s.updChan c f).mfn = s.mfn := rfl
@[simp] theorem updChan_bg c f : (s.updChan c f).bg = s.bg := rfl
@[simp] theorem updChan_bgLast c f : (s.updChan c f).bgLast = s.bgLast := rfl
@[simp] theorem updChan_mctp c f : (s.updChan c f).mctp = s.mctp := rfl
@[simp] theorem updChan_dir c f : (s.updChan c f).dir = s.dir := rfl
@[simp] theorem updChan_rgl c f : (s.updChan c f).rgl = s.rgl := rfl
@[simp] theorem updChan_fab c f : (s.updChan c f).fab = s.fab := rfl
@[simp] theorem updChan_lanes c f : (s.updChan c f).lanes = s.lanes := rfl
@[simp] theorem updChan_pats c f : (s.updChan c f).pats = s.pats := rfl
@[simp] theorem updChan_dram c f : (s.updChan c f).dram = s.dram := rfl
@[simp] theorem updChan_shelf c f : (s.updChan c f).shelf = s.shelf := rfl
@[simp] theorem updChan_cues c f : (s.updChan c f).cues = s.cues := rfl
@[simp] theorem updChan_press c f : (s.updChan c f).press = s.press := rfl
@[simp] theorem updChan_coll c f : (s.updChan c f).coll = s.coll := rfl
@[simp] theorem updChan_power c f : (s.updChan c f).power = s.power := rfl
@[simp] theorem updChan_fw c f : (s.updChan c f).fw = s.fw := rfl
@[simp] theorem updChan_sys c f : (s.updChan c f).sys = s.sys := rfl
@[simp] theorem updChan_out c f : (s.updChan c f).out = s.out := rfl
@[simp] theorem updChan_freeIx c f : (s.updChan c f).freeIx = s.freeIx := rfl
@[simp] theorem updChan_pending c f : (s.updChan c f).pending = s.pending := rfl

@[simp] theorem updFc_frame l f : (s.updFc l f).frame = s.frame := rfl
@[simp] theorem updFc_slate l f : (s.updFc l f).slate = s.slate := rfl
@[simp] theorem updFc_regs l f : (s.updFc l f).regs = s.regs := rfl
@[simp] theorem updFc_ctrs l f : (s.updFc l f).ctrs = s.ctrs := rfl
@[simp] theorem updFc_hdrs l f : (s.updFc l f).hdrs = s.hdrs := rfl
@[simp] theorem updFc_mgmt l f : (s.updFc l f).mgmt = s.mgmt := rfl
@[simp] theorem updFc_log l f : (s.updFc l f).log = s.log := rfl
@[simp] theorem updFc_daily l f : (s.updFc l f).daily = s.daily := rfl
@[simp] theorem updFc_svc l f : (s.updFc l f).svc = s.svc := rfl
@[simp] theorem updFc_svcEvt l f : (s.updFc l f).svcEvt = s.svcEvt := rfl
@[simp] theorem updFc_svcRej l f : (s.updFc l f).svcRej = s.svcRej := rfl
@[simp] theorem updFc_mem l f : (s.updFc l f).mem = s.mem := rfl
@[simp] theorem updFc_poison l f : (s.updFc l f).poison = s.poison := rfl
@[simp] theorem updFc_tier l f : (s.updFc l f).tier = s.tier := rfl
@[simp] theorem updFc_tenants l f : (s.updFc l f).tenants = s.tenants := rfl
@[simp] theorem updFc_tables l f : (s.updFc l f).tables = s.tables := rfl
@[simp] theorem updFc_hports l f : (s.updFc l f).hports = s.hports := rfl
@[simp] theorem updFc_extents l f : (s.updFc l f).extents = s.extents := rfl
@[simp] theorem updFc_fns l f : (s.updFc l f).fns = s.fns := rfl
@[simp] theorem updFc_mfn l f : (s.updFc l f).mfn = s.mfn := rfl
@[simp] theorem updFc_bg l f : (s.updFc l f).bg = s.bg := rfl
@[simp] theorem updFc_bgLast l f : (s.updFc l f).bgLast = s.bgLast := rfl
@[simp] theorem updFc_mctp l f : (s.updFc l f).mctp = s.mctp := rfl
@[simp] theorem updFc_dir l f : (s.updFc l f).dir = s.dir := rfl
@[simp] theorem updFc_rgl l f : (s.updFc l f).rgl = s.rgl := rfl
@[simp] theorem updFc_fab l f : (s.updFc l f).fab = s.fab := rfl
@[simp] theorem updFc_lanes l f : (s.updFc l f).lanes = s.lanes := rfl
@[simp] theorem updFc_pats l f : (s.updFc l f).pats = s.pats := rfl
@[simp] theorem updFc_chans l f : (s.updFc l f).chans = s.chans := rfl
@[simp] theorem updFc_shelf l f : (s.updFc l f).shelf = s.shelf := rfl
@[simp] theorem updFc_cues l f : (s.updFc l f).cues = s.cues := rfl
@[simp] theorem updFc_press l f : (s.updFc l f).press = s.press := rfl
@[simp] theorem updFc_coll l f : (s.updFc l f).coll = s.coll := rfl
@[simp] theorem updFc_power l f : (s.updFc l f).power = s.power := rfl
@[simp] theorem updFc_fw l f : (s.updFc l f).fw = s.fw := rfl
@[simp] theorem updFc_sys l f : (s.updFc l f).sys = s.sys := rfl
@[simp] theorem updFc_out l f : (s.updFc l f).out = s.out := rfl
@[simp] theorem updFc_freeIx l f : (s.updFc l f).freeIx = s.freeIx := rfl
@[simp] theorem updFc_pending l f : (s.updFc l f).pending = s.pending := rfl

@[simp] theorem updRet_frame i f : (s.updRet i f).frame = s.frame := rfl
@[simp] theorem updRet_slate i f : (s.updRet i f).slate = s.slate := rfl
@[simp] theorem updRet_regs i f : (s.updRet i f).regs = s.regs := rfl
@[simp] theorem updRet_ctrs i f : (s.updRet i f).ctrs = s.ctrs := rfl
@[simp] theorem updRet_hdrs i f : (s.updRet i f).hdrs = s.hdrs := rfl
@[simp] theorem updRet_mgmt i f : (s.updRet i f).mgmt = s.mgmt := rfl
@[simp] theorem updRet_log i f : (s.updRet i f).log = s.log := rfl
@[simp] theorem updRet_daily i f : (s.updRet i f).daily = s.daily := rfl
@[simp] theorem updRet_svc i f : (s.updRet i f).svc = s.svc := rfl
@[simp] theorem updRet_svcEvt i f : (s.updRet i f).svcEvt = s.svcEvt := rfl
@[simp] theorem updRet_svcRej i f : (s.updRet i f).svcRej = s.svcRej := rfl
@[simp] theorem updRet_mem i f : (s.updRet i f).mem = s.mem := rfl
@[simp] theorem updRet_poison i f : (s.updRet i f).poison = s.poison := rfl
@[simp] theorem updRet_tier i f : (s.updRet i f).tier = s.tier := rfl
@[simp] theorem updRet_tenants i f : (s.updRet i f).tenants = s.tenants := rfl
@[simp] theorem updRet_tables i f : (s.updRet i f).tables = s.tables := rfl
@[simp] theorem updRet_hports i f : (s.updRet i f).hports = s.hports := rfl
@[simp] theorem updRet_extents i f : (s.updRet i f).extents = s.extents := rfl
@[simp] theorem updRet_fns i f : (s.updRet i f).fns = s.fns := rfl
@[simp] theorem updRet_mfn i f : (s.updRet i f).mfn = s.mfn := rfl
@[simp] theorem updRet_bg i f : (s.updRet i f).bg = s.bg := rfl
@[simp] theorem updRet_bgLast i f : (s.updRet i f).bgLast = s.bgLast := rfl
@[simp] theorem updRet_mctp i f : (s.updRet i f).mctp = s.mctp := rfl
@[simp] theorem updRet_dir i f : (s.updRet i f).dir = s.dir := rfl
@[simp] theorem updRet_rgl i f : (s.updRet i f).rgl = s.rgl := rfl
@[simp] theorem updRet_fab i f : (s.updRet i f).fab = s.fab := rfl
@[simp] theorem updRet_lanes i f : (s.updRet i f).lanes = s.lanes := rfl
@[simp] theorem updRet_pats i f : (s.updRet i f).pats = s.pats := rfl
@[simp] theorem updRet_chans i f : (s.updRet i f).chans = s.chans := rfl
@[simp] theorem updRet_shelf i f : (s.updRet i f).shelf = s.shelf := rfl
@[simp] theorem updRet_cues i f : (s.updRet i f).cues = s.cues := rfl
@[simp] theorem updRet_press i f : (s.updRet i f).press = s.press := rfl
@[simp] theorem updRet_coll i f : (s.updRet i f).coll = s.coll := rfl
@[simp] theorem updRet_power i f : (s.updRet i f).power = s.power := rfl
@[simp] theorem updRet_fw i f : (s.updRet i f).fw = s.fw := rfl
@[simp] theorem updRet_sys i f : (s.updRet i f).sys = s.sys := rfl
@[simp] theorem updRet_out i f : (s.updRet i f).out = s.out := rfl
@[simp] theorem updRet_freeIx i f : (s.updRet i f).freeIx = s.freeIx := rfl
@[simp] theorem updRet_pending i f : (s.updRet i f).pending = s.pending := rfl

@[simp] theorem setLatch_frame a b v : (s.setLatch a b v).frame = s.frame := rfl
@[simp] theorem setLatch_slate a b v : (s.setLatch a b v).slate = s.slate := rfl
@[simp] theorem setLatch_regs a b v : (s.setLatch a b v).regs = s.regs := rfl
@[simp] theorem setLatch_ctrs a b v : (s.setLatch a b v).ctrs = s.ctrs := rfl
@[simp] theorem setLatch_hdrs a b v : (s.setLatch a b v).hdrs = s.hdrs := rfl
@[simp] theorem setLatch_log a b v : (s.setLatch a b v).log = s.log := rfl
@[simp] theorem setLatch_daily a b v : (s.setLatch a b v).daily = s.daily := rfl
@[simp] theorem setLatch_svc a b v : (s.setLatch a b v).svc = s.svc := rfl
@[simp] theorem setLatch_svcEvt a b v : (s.setLatch a b v).svcEvt = s.svcEvt := rfl
@[simp] theorem setLatch_svcRej a b v : (s.setLatch a b v).svcRej = s.svcRej := rfl
@[simp] theorem setLatch_mem a b v : (s.setLatch a b v).mem = s.mem := rfl
@[simp] theorem setLatch_poison a b v : (s.setLatch a b v).poison = s.poison := rfl
@[simp] theorem setLatch_tier a b v : (s.setLatch a b v).tier = s.tier := rfl
@[simp] theorem setLatch_tenants a b v : (s.setLatch a b v).tenants = s.tenants := rfl
@[simp] theorem setLatch_tables a b v : (s.setLatch a b v).tables = s.tables := rfl
@[simp] theorem setLatch_hports a b v : (s.setLatch a b v).hports = s.hports := rfl
@[simp] theorem setLatch_extents a b v : (s.setLatch a b v).extents = s.extents := rfl
@[simp] theorem setLatch_fns a b v : (s.setLatch a b v).fns = s.fns := rfl
@[simp] theorem setLatch_mfn a b v : (s.setLatch a b v).mfn = s.mfn := rfl
@[simp] theorem setLatch_bg a b v : (s.setLatch a b v).bg = s.bg := rfl
@[simp] theorem setLatch_bgLast a b v : (s.setLatch a b v).bgLast = s.bgLast := rfl
@[simp] theorem setLatch_mctp a b v : (s.setLatch a b v).mctp = s.mctp := rfl
@[simp] theorem setLatch_dir a b v : (s.setLatch a b v).dir = s.dir := rfl
@[simp] theorem setLatch_rgl a b v : (s.setLatch a b v).rgl = s.rgl := rfl
@[simp] theorem setLatch_fab a b v : (s.setLatch a b v).fab = s.fab := rfl
@[simp] theorem setLatch_lanes a b v : (s.setLatch a b v).lanes = s.lanes := rfl
@[simp] theorem setLatch_pats a b v : (s.setLatch a b v).pats = s.pats := rfl
@[simp] theorem setLatch_chans a b v : (s.setLatch a b v).chans = s.chans := rfl
@[simp] theorem setLatch_dram a b v : (s.setLatch a b v).dram = s.dram := rfl
@[simp] theorem setLatch_shelf a b v : (s.setLatch a b v).shelf = s.shelf := rfl
@[simp] theorem setLatch_cues a b v : (s.setLatch a b v).cues = s.cues := rfl
@[simp] theorem setLatch_press a b v : (s.setLatch a b v).press = s.press := rfl
@[simp] theorem setLatch_coll a b v : (s.setLatch a b v).coll = s.coll := rfl
@[simp] theorem setLatch_power a b v : (s.setLatch a b v).power = s.power := rfl
@[simp] theorem setLatch_fw a b v : (s.setLatch a b v).fw = s.fw := rfl
@[simp] theorem setLatch_sys a b v : (s.setLatch a b v).sys = s.sys := rfl
@[simp] theorem setLatch_out a b v : (s.setLatch a b v).out = s.out := rfl
@[simp] theorem setLatch_freeIx a b v : (s.setLatch a b v).freeIx = s.freeIx := rfl
@[simp] theorem setLatch_pending a b v : (s.setLatch a b v).pending = s.pending := rfl

@[simp] theorem mgmtTake_frame src : (s.mgmtTake src).frame = s.frame := rfl
@[simp] theorem mgmtTake_slate src : (s.mgmtTake src).slate = s.slate := rfl
@[simp] theorem mgmtTake_regs src : (s.mgmtTake src).regs = s.regs := rfl
@[simp] theorem mgmtTake_ctrs src : (s.mgmtTake src).ctrs = s.ctrs := rfl
@[simp] theorem mgmtTake_hdrs src : (s.mgmtTake src).hdrs = s.hdrs := rfl
@[simp] theorem mgmtTake_log src : (s.mgmtTake src).log = s.log := rfl
@[simp] theorem mgmtTake_daily src : (s.mgmtTake src).daily = s.daily := rfl
@[simp] theorem mgmtTake_svc src : (s.mgmtTake src).svc = s.svc := rfl
@[simp] theorem mgmtTake_svcEvt src : (s.mgmtTake src).svcEvt = s.svcEvt := rfl
@[simp] theorem mgmtTake_svcRej src : (s.mgmtTake src).svcRej = s.svcRej := rfl
@[simp] theorem mgmtTake_mem src : (s.mgmtTake src).mem = s.mem := rfl
@[simp] theorem mgmtTake_poison src : (s.mgmtTake src).poison = s.poison := rfl
@[simp] theorem mgmtTake_tier src : (s.mgmtTake src).tier = s.tier := rfl
@[simp] theorem mgmtTake_tenants src : (s.mgmtTake src).tenants = s.tenants := rfl
@[simp] theorem mgmtTake_tables src : (s.mgmtTake src).tables = s.tables := rfl
@[simp] theorem mgmtTake_hports src : (s.mgmtTake src).hports = s.hports := rfl
@[simp] theorem mgmtTake_extents src : (s.mgmtTake src).extents = s.extents := rfl
@[simp] theorem mgmtTake_fns src : (s.mgmtTake src).fns = s.fns := rfl
@[simp] theorem mgmtTake_mfn src : (s.mgmtTake src).mfn = s.mfn := rfl
@[simp] theorem mgmtTake_bg src : (s.mgmtTake src).bg = s.bg := rfl
@[simp] theorem mgmtTake_bgLast src : (s.mgmtTake src).bgLast = s.bgLast := rfl
@[simp] theorem mgmtTake_mctp src : (s.mgmtTake src).mctp = s.mctp := rfl
@[simp] theorem mgmtTake_dir src : (s.mgmtTake src).dir = s.dir := rfl
@[simp] theorem mgmtTake_rgl src : (s.mgmtTake src).rgl = s.rgl := rfl
@[simp] theorem mgmtTake_fab src : (s.mgmtTake src).fab = s.fab := rfl
@[simp] theorem mgmtTake_lanes src : (s.mgmtTake src).lanes = s.lanes := rfl
@[simp] theorem mgmtTake_pats src : (s.mgmtTake src).pats = s.pats := rfl
@[simp] theorem mgmtTake_chans src : (s.mgmtTake src).chans = s.chans := rfl
@[simp] theorem mgmtTake_dram src : (s.mgmtTake src).dram = s.dram := rfl
@[simp] theorem mgmtTake_shelf src : (s.mgmtTake src).shelf = s.shelf := rfl
@[simp] theorem mgmtTake_cues src : (s.mgmtTake src).cues = s.cues := rfl
@[simp] theorem mgmtTake_press src : (s.mgmtTake src).press = s.press := rfl
@[simp] theorem mgmtTake_coll src : (s.mgmtTake src).coll = s.coll := rfl
@[simp] theorem mgmtTake_power src : (s.mgmtTake src).power = s.power := rfl
@[simp] theorem mgmtTake_fw src : (s.mgmtTake src).fw = s.fw := rfl
@[simp] theorem mgmtTake_sys src : (s.mgmtTake src).sys = s.sys := rfl
@[simp] theorem mgmtTake_out src : (s.mgmtTake src).out = s.out := rfl
@[simp] theorem mgmtTake_freeIx src : (s.mgmtTake src).freeIx = s.freeIx := rfl
@[simp] theorem mgmtTake_pending src : (s.mgmtTake src).pending = s.pending := rfl

@[simp] theorem updRing_frame r f : (s.updRing r f).frame = s.frame := rfl
@[simp] theorem updRing_slate r f : (s.updRing r f).slate = s.slate := rfl
@[simp] theorem updRing_regs r f : (s.updRing r f).regs = s.regs := rfl
@[simp] theorem updRing_ctrs r f : (s.updRing r f).ctrs = s.ctrs := rfl
@[simp] theorem updRing_hdrs r f : (s.updRing r f).hdrs = s.hdrs := rfl
@[simp] theorem updRing_mgmt r f : (s.updRing r f).mgmt = s.mgmt := rfl
@[simp] theorem updRing_log r f : (s.updRing r f).log = s.log := rfl
@[simp] theorem updRing_daily r f : (s.updRing r f).daily = s.daily := rfl
@[simp] theorem updRing_svc r f : (s.updRing r f).svc = s.svc := rfl
@[simp] theorem updRing_svcEvt r f : (s.updRing r f).svcEvt = s.svcEvt := rfl
@[simp] theorem updRing_svcRej r f : (s.updRing r f).svcRej = s.svcRej := rfl
@[simp] theorem updRing_mem r f : (s.updRing r f).mem = s.mem := rfl
@[simp] theorem updRing_poison r f : (s.updRing r f).poison = s.poison := rfl
@[simp] theorem updRing_tier r f : (s.updRing r f).tier = s.tier := rfl
@[simp] theorem updRing_tenants r f : (s.updRing r f).tenants = s.tenants := rfl
@[simp] theorem updRing_tables r f : (s.updRing r f).tables = s.tables := rfl
@[simp] theorem updRing_hports r f : (s.updRing r f).hports = s.hports := rfl
@[simp] theorem updRing_extents r f : (s.updRing r f).extents = s.extents := rfl
@[simp] theorem updRing_fns r f : (s.updRing r f).fns = s.fns := rfl
@[simp] theorem updRing_mfn r f : (s.updRing r f).mfn = s.mfn := rfl
@[simp] theorem updRing_bg r f : (s.updRing r f).bg = s.bg := rfl
@[simp] theorem updRing_bgLast r f : (s.updRing r f).bgLast = s.bgLast := rfl
@[simp] theorem updRing_mctp r f : (s.updRing r f).mctp = s.mctp := rfl
@[simp] theorem updRing_dir r f : (s.updRing r f).dir = s.dir := rfl
@[simp] theorem updRing_rgl r f : (s.updRing r f).rgl = s.rgl := rfl
@[simp] theorem updRing_fab r f : (s.updRing r f).fab = s.fab := rfl
@[simp] theorem updRing_lanes r f : (s.updRing r f).lanes = s.lanes := rfl
@[simp] theorem updRing_pats r f : (s.updRing r f).pats = s.pats := rfl
@[simp] theorem updRing_chans r f : (s.updRing r f).chans = s.chans := rfl
@[simp] theorem updRing_dram r f : (s.updRing r f).dram = s.dram := rfl
@[simp] theorem updRing_shelf r f : (s.updRing r f).shelf = s.shelf := rfl
@[simp] theorem updRing_press r f : (s.updRing r f).press = s.press := rfl
@[simp] theorem updRing_coll r f : (s.updRing r f).coll = s.coll := rfl
@[simp] theorem updRing_power r f : (s.updRing r f).power = s.power := rfl
@[simp] theorem updRing_fw r f : (s.updRing r f).fw = s.fw := rfl
@[simp] theorem updRing_sys r f : (s.updRing r f).sys = s.sys := rfl
@[simp] theorem updRing_out r f : (s.updRing r f).out = s.out := rfl
@[simp] theorem updRing_freeIx r f : (s.updRing r f).freeIx = s.freeIx := rfl
@[simp] theorem updRing_pending r f : (s.updRing r f).pending = s.pending := rfl

@[simp] theorem updRunOf_frame n f : (s.updRunOf n f).frame = s.frame := rfl
@[simp] theorem updRunOf_slate n f : (s.updRunOf n f).slate = s.slate := rfl
@[simp] theorem updRunOf_regs n f : (s.updRunOf n f).regs = s.regs := rfl
@[simp] theorem updRunOf_ctrs n f : (s.updRunOf n f).ctrs = s.ctrs := rfl
@[simp] theorem updRunOf_hdrs n f : (s.updRunOf n f).hdrs = s.hdrs := rfl
@[simp] theorem updRunOf_mgmt n f : (s.updRunOf n f).mgmt = s.mgmt := rfl
@[simp] theorem updRunOf_log n f : (s.updRunOf n f).log = s.log := rfl
@[simp] theorem updRunOf_daily n f : (s.updRunOf n f).daily = s.daily := rfl
@[simp] theorem updRunOf_svc n f : (s.updRunOf n f).svc = s.svc := rfl
@[simp] theorem updRunOf_svcEvt n f : (s.updRunOf n f).svcEvt = s.svcEvt := rfl
@[simp] theorem updRunOf_svcRej n f : (s.updRunOf n f).svcRej = s.svcRej := rfl
@[simp] theorem updRunOf_mem n f : (s.updRunOf n f).mem = s.mem := rfl
@[simp] theorem updRunOf_poison n f : (s.updRunOf n f).poison = s.poison := rfl
@[simp] theorem updRunOf_tier n f : (s.updRunOf n f).tier = s.tier := rfl
@[simp] theorem updRunOf_tenants n f : (s.updRunOf n f).tenants = s.tenants := rfl
@[simp] theorem updRunOf_tables n f : (s.updRunOf n f).tables = s.tables := rfl
@[simp] theorem updRunOf_hports n f : (s.updRunOf n f).hports = s.hports := rfl
@[simp] theorem updRunOf_extents n f : (s.updRunOf n f).extents = s.extents := rfl
@[simp] theorem updRunOf_fns n f : (s.updRunOf n f).fns = s.fns := rfl
@[simp] theorem updRunOf_mfn n f : (s.updRunOf n f).mfn = s.mfn := rfl
@[simp] theorem updRunOf_bg n f : (s.updRunOf n f).bg = s.bg := rfl
@[simp] theorem updRunOf_bgLast n f : (s.updRunOf n f).bgLast = s.bgLast := rfl
@[simp] theorem updRunOf_mctp n f : (s.updRunOf n f).mctp = s.mctp := rfl
@[simp] theorem updRunOf_dir n f : (s.updRunOf n f).dir = s.dir := rfl
@[simp] theorem updRunOf_rgl n f : (s.updRunOf n f).rgl = s.rgl := rfl
@[simp] theorem updRunOf_fab n f : (s.updRunOf n f).fab = s.fab := rfl
@[simp] theorem updRunOf_lanes n f : (s.updRunOf n f).lanes = s.lanes := rfl
@[simp] theorem updRunOf_pats n f : (s.updRunOf n f).pats = s.pats := rfl
@[simp] theorem updRunOf_chans n f : (s.updRunOf n f).chans = s.chans := rfl
@[simp] theorem updRunOf_dram n f : (s.updRunOf n f).dram = s.dram := rfl
@[simp] theorem updRunOf_shelf n f : (s.updRunOf n f).shelf = s.shelf := rfl
@[simp] theorem updRunOf_press n f : (s.updRunOf n f).press = s.press := rfl
@[simp] theorem updRunOf_coll n f : (s.updRunOf n f).coll = s.coll := rfl
@[simp] theorem updRunOf_power n f : (s.updRunOf n f).power = s.power := rfl
@[simp] theorem updRunOf_fw n f : (s.updRunOf n f).fw = s.fw := rfl
@[simp] theorem updRunOf_sys n f : (s.updRunOf n f).sys = s.sys := rfl
@[simp] theorem updRunOf_out n f : (s.updRunOf n f).out = s.out := rfl
@[simp] theorem updRunOf_freeIx n f : (s.updRunOf n f).freeIx = s.freeIx := rfl
@[simp] theorem updRunOf_pending n f : (s.updRunOf n f).pending = s.pending := rfl

@[simp] theorem updLun_frame k f : (s.updLun k f).frame = s.frame := rfl
@[simp] theorem updLun_slate k f : (s.updLun k f).slate = s.slate := rfl
@[simp] theorem updLun_regs k f : (s.updLun k f).regs = s.regs := rfl
@[simp] theorem updLun_ctrs k f : (s.updLun k f).ctrs = s.ctrs := rfl
@[simp] theorem updLun_hdrs k f : (s.updLun k f).hdrs = s.hdrs := rfl
@[simp] theorem updLun_mgmt k f : (s.updLun k f).mgmt = s.mgmt := rfl
@[simp] theorem updLun_log k f : (s.updLun k f).log = s.log := rfl
@[simp] theorem updLun_daily k f : (s.updLun k f).daily = s.daily := rfl
@[simp] theorem updLun_svc k f : (s.updLun k f).svc = s.svc := rfl
@[simp] theorem updLun_svcEvt k f : (s.updLun k f).svcEvt = s.svcEvt := rfl
@[simp] theorem updLun_svcRej k f : (s.updLun k f).svcRej = s.svcRej := rfl
@[simp] theorem updLun_mem k f : (s.updLun k f).mem = s.mem := rfl
@[simp] theorem updLun_poison k f : (s.updLun k f).poison = s.poison := rfl
@[simp] theorem updLun_tier k f : (s.updLun k f).tier = s.tier := rfl
@[simp] theorem updLun_tenants k f : (s.updLun k f).tenants = s.tenants := rfl
@[simp] theorem updLun_tables k f : (s.updLun k f).tables = s.tables := rfl
@[simp] theorem updLun_hports k f : (s.updLun k f).hports = s.hports := rfl
@[simp] theorem updLun_extents k f : (s.updLun k f).extents = s.extents := rfl
@[simp] theorem updLun_fns k f : (s.updLun k f).fns = s.fns := rfl
@[simp] theorem updLun_mfn k f : (s.updLun k f).mfn = s.mfn := rfl
@[simp] theorem updLun_bg k f : (s.updLun k f).bg = s.bg := rfl
@[simp] theorem updLun_bgLast k f : (s.updLun k f).bgLast = s.bgLast := rfl
@[simp] theorem updLun_mctp k f : (s.updLun k f).mctp = s.mctp := rfl
@[simp] theorem updLun_dir k f : (s.updLun k f).dir = s.dir := rfl
@[simp] theorem updLun_rgl k f : (s.updLun k f).rgl = s.rgl := rfl
@[simp] theorem updLun_fab k f : (s.updLun k f).fab = s.fab := rfl
@[simp] theorem updLun_lanes k f : (s.updLun k f).lanes = s.lanes := rfl
@[simp] theorem updLun_pats k f : (s.updLun k f).pats = s.pats := rfl
@[simp] theorem updLun_chans k f : (s.updLun k f).chans = s.chans := rfl
@[simp] theorem updLun_dram k f : (s.updLun k f).dram = s.dram := rfl
@[simp] theorem updLun_cues k f : (s.updLun k f).cues = s.cues := rfl
@[simp] theorem updLun_press k f : (s.updLun k f).press = s.press := rfl
@[simp] theorem updLun_coll k f : (s.updLun k f).coll = s.coll := rfl
@[simp] theorem updLun_power k f : (s.updLun k f).power = s.power := rfl
@[simp] theorem updLun_fw k f : (s.updLun k f).fw = s.fw := rfl
@[simp] theorem updLun_sys k f : (s.updLun k f).sys = s.sys := rfl
@[simp] theorem updLun_out k f : (s.updLun k f).out = s.out := rfl
@[simp] theorem updLun_freeIx k f : (s.updLun k f).freeIx = s.freeIx := rfl
@[simp] theorem updLun_pending k f : (s.updLun k f).pending = s.pending := rfl

@[simp] theorem updRec_frame n f : (s.updRec n f).frame = s.frame := rfl
@[simp] theorem updRec_slate n f : (s.updRec n f).slate = s.slate := rfl
@[simp] theorem updRec_regs n f : (s.updRec n f).regs = s.regs := rfl
@[simp] theorem updRec_ctrs n f : (s.updRec n f).ctrs = s.ctrs := rfl
@[simp] theorem updRec_hdrs n f : (s.updRec n f).hdrs = s.hdrs := rfl
@[simp] theorem updRec_mgmt n f : (s.updRec n f).mgmt = s.mgmt := rfl
@[simp] theorem updRec_log n f : (s.updRec n f).log = s.log := rfl
@[simp] theorem updRec_daily n f : (s.updRec n f).daily = s.daily := rfl
@[simp] theorem updRec_svc n f : (s.updRec n f).svc = s.svc := rfl
@[simp] theorem updRec_svcEvt n f : (s.updRec n f).svcEvt = s.svcEvt := rfl
@[simp] theorem updRec_svcRej n f : (s.updRec n f).svcRej = s.svcRej := rfl
@[simp] theorem updRec_mem n f : (s.updRec n f).mem = s.mem := rfl
@[simp] theorem updRec_poison n f : (s.updRec n f).poison = s.poison := rfl
@[simp] theorem updRec_tier n f : (s.updRec n f).tier = s.tier := rfl
@[simp] theorem updRec_tenants n f : (s.updRec n f).tenants = s.tenants := rfl
@[simp] theorem updRec_tables n f : (s.updRec n f).tables = s.tables := rfl
@[simp] theorem updRec_hports n f : (s.updRec n f).hports = s.hports := rfl
@[simp] theorem updRec_extents n f : (s.updRec n f).extents = s.extents := rfl
@[simp] theorem updRec_fns n f : (s.updRec n f).fns = s.fns := rfl
@[simp] theorem updRec_mfn n f : (s.updRec n f).mfn = s.mfn := rfl
@[simp] theorem updRec_bg n f : (s.updRec n f).bg = s.bg := rfl
@[simp] theorem updRec_bgLast n f : (s.updRec n f).bgLast = s.bgLast := rfl
@[simp] theorem updRec_mctp n f : (s.updRec n f).mctp = s.mctp := rfl
@[simp] theorem updRec_dir n f : (s.updRec n f).dir = s.dir := rfl
@[simp] theorem updRec_rgl n f : (s.updRec n f).rgl = s.rgl := rfl
@[simp] theorem updRec_fab n f : (s.updRec n f).fab = s.fab := rfl
@[simp] theorem updRec_lanes n f : (s.updRec n f).lanes = s.lanes := rfl
@[simp] theorem updRec_pats n f : (s.updRec n f).pats = s.pats := rfl
@[simp] theorem updRec_chans n f : (s.updRec n f).chans = s.chans := rfl
@[simp] theorem updRec_dram n f : (s.updRec n f).dram = s.dram := rfl
@[simp] theorem updRec_cues n f : (s.updRec n f).cues = s.cues := rfl
@[simp] theorem updRec_press n f : (s.updRec n f).press = s.press := rfl
@[simp] theorem updRec_coll n f : (s.updRec n f).coll = s.coll := rfl
@[simp] theorem updRec_power n f : (s.updRec n f).power = s.power := rfl
@[simp] theorem updRec_fw n f : (s.updRec n f).fw = s.fw := rfl
@[simp] theorem updRec_sys n f : (s.updRec n f).sys = s.sys := rfl
@[simp] theorem updRec_out n f : (s.updRec n f).out = s.out := rfl
@[simp] theorem updRec_freeIx n f : (s.updRec n f).freeIx = s.freeIx := rfl
@[simp] theorem updRec_pending n f : (s.updRec n f).pending = s.pending := rfl

@[simp] theorem updBlock_frame l b f : (s.updBlock l b f).frame = s.frame := rfl
@[simp] theorem updBlock_slate l b f : (s.updBlock l b f).slate = s.slate := rfl
@[simp] theorem updBlock_regs l b f : (s.updBlock l b f).regs = s.regs := rfl
@[simp] theorem updBlock_ctrs l b f : (s.updBlock l b f).ctrs = s.ctrs := rfl
@[simp] theorem updBlock_hdrs l b f : (s.updBlock l b f).hdrs = s.hdrs := rfl
@[simp] theorem updBlock_mgmt l b f : (s.updBlock l b f).mgmt = s.mgmt := rfl
@[simp] theorem updBlock_log l b f : (s.updBlock l b f).log = s.log := rfl
@[simp] theorem updBlock_daily l b f : (s.updBlock l b f).daily = s.daily := rfl
@[simp] theorem updBlock_svc l b f : (s.updBlock l b f).svc = s.svc := rfl
@[simp] theorem updBlock_svcEvt l b f : (s.updBlock l b f).svcEvt = s.svcEvt := rfl
@[simp] theorem updBlock_svcRej l b f : (s.updBlock l b f).svcRej = s.svcRej := rfl
@[simp] theorem updBlock_mem l b f : (s.updBlock l b f).mem = s.mem := rfl
@[simp] theorem updBlock_poison l b f : (s.updBlock l b f).poison = s.poison := rfl
@[simp] theorem updBlock_tier l b f : (s.updBlock l b f).tier = s.tier := rfl
@[simp] theorem updBlock_tenants l b f : (s.updBlock l b f).tenants = s.tenants := rfl
@[simp] theorem updBlock_tables l b f : (s.updBlock l b f).tables = s.tables := rfl
@[simp] theorem updBlock_hports l b f : (s.updBlock l b f).hports = s.hports := rfl
@[simp] theorem updBlock_extents l b f : (s.updBlock l b f).extents = s.extents := rfl
@[simp] theorem updBlock_fns l b f : (s.updBlock l b f).fns = s.fns := rfl
@[simp] theorem updBlock_mfn l b f : (s.updBlock l b f).mfn = s.mfn := rfl
@[simp] theorem updBlock_bg l b f : (s.updBlock l b f).bg = s.bg := rfl
@[simp] theorem updBlock_bgLast l b f : (s.updBlock l b f).bgLast = s.bgLast := rfl
@[simp] theorem updBlock_mctp l b f : (s.updBlock l b f).mctp = s.mctp := rfl
@[simp] theorem updBlock_dir l b f : (s.updBlock l b f).dir = s.dir := rfl
@[simp] theorem updBlock_rgl l b f : (s.updBlock l b f).rgl = s.rgl := rfl
@[simp] theorem updBlock_fab l b f : (s.updBlock l b f).fab = s.fab := rfl
@[simp] theorem updBlock_lanes l b f : (s.updBlock l b f).lanes = s.lanes := rfl
@[simp] theorem updBlock_pats l b f : (s.updBlock l b f).pats = s.pats := rfl
@[simp] theorem updBlock_chans l b f : (s.updBlock l b f).chans = s.chans := rfl
@[simp] theorem updBlock_dram l b f : (s.updBlock l b f).dram = s.dram := rfl
@[simp] theorem updBlock_cues l b f : (s.updBlock l b f).cues = s.cues := rfl
@[simp] theorem updBlock_press l b f : (s.updBlock l b f).press = s.press := rfl
@[simp] theorem updBlock_coll l b f : (s.updBlock l b f).coll = s.coll := rfl
@[simp] theorem updBlock_power l b f : (s.updBlock l b f).power = s.power := rfl
@[simp] theorem updBlock_fw l b f : (s.updBlock l b f).fw = s.fw := rfl
@[simp] theorem updBlock_sys l b f : (s.updBlock l b f).sys = s.sys := rfl
@[simp] theorem updBlock_out l b f : (s.updBlock l b f).out = s.out := rfl
@[simp] theorem updBlock_freeIx l b f : (s.updBlock l b f).freeIx = s.freeIx := rfl
@[simp] theorem updBlock_pending l b f : (s.updBlock l b f).pending = s.pending := rfl

@[simp] theorem setEnt_frame l e : (s.setEnt l e).frame = s.frame := rfl
@[simp] theorem setEnt_slate l e : (s.setEnt l e).slate = s.slate := rfl
@[simp] theorem setEnt_regs l e : (s.setEnt l e).regs = s.regs := rfl
@[simp] theorem setEnt_ctrs l e : (s.setEnt l e).ctrs = s.ctrs := rfl
@[simp] theorem setEnt_hdrs l e : (s.setEnt l e).hdrs = s.hdrs := rfl
@[simp] theorem setEnt_mgmt l e : (s.setEnt l e).mgmt = s.mgmt := rfl
@[simp] theorem setEnt_log l e : (s.setEnt l e).log = s.log := rfl
@[simp] theorem setEnt_daily l e : (s.setEnt l e).daily = s.daily := rfl
@[simp] theorem setEnt_svc l e : (s.setEnt l e).svc = s.svc := rfl
@[simp] theorem setEnt_svcEvt l e : (s.setEnt l e).svcEvt = s.svcEvt := rfl
@[simp] theorem setEnt_svcRej l e : (s.setEnt l e).svcRej = s.svcRej := rfl
@[simp] theorem setEnt_mem l e : (s.setEnt l e).mem = s.mem := rfl
@[simp] theorem setEnt_poison l e : (s.setEnt l e).poison = s.poison := rfl
@[simp] theorem setEnt_tier l e : (s.setEnt l e).tier = s.tier := rfl
@[simp] theorem setEnt_tenants l e : (s.setEnt l e).tenants = s.tenants := rfl
@[simp] theorem setEnt_tables l e : (s.setEnt l e).tables = s.tables := rfl
@[simp] theorem setEnt_hports l e : (s.setEnt l e).hports = s.hports := rfl
@[simp] theorem setEnt_extents l e : (s.setEnt l e).extents = s.extents := rfl
@[simp] theorem setEnt_fns l e : (s.setEnt l e).fns = s.fns := rfl
@[simp] theorem setEnt_mfn l e : (s.setEnt l e).mfn = s.mfn := rfl
@[simp] theorem setEnt_bg l e : (s.setEnt l e).bg = s.bg := rfl
@[simp] theorem setEnt_bgLast l e : (s.setEnt l e).bgLast = s.bgLast := rfl
@[simp] theorem setEnt_mctp l e : (s.setEnt l e).mctp = s.mctp := rfl
@[simp] theorem setEnt_rgl l e : (s.setEnt l e).rgl = s.rgl := rfl
@[simp] theorem setEnt_fab l e : (s.setEnt l e).fab = s.fab := rfl
@[simp] theorem setEnt_lanes l e : (s.setEnt l e).lanes = s.lanes := rfl
@[simp] theorem setEnt_pats l e : (s.setEnt l e).pats = s.pats := rfl
@[simp] theorem setEnt_chans l e : (s.setEnt l e).chans = s.chans := rfl
@[simp] theorem setEnt_dram l e : (s.setEnt l e).dram = s.dram := rfl
@[simp] theorem setEnt_shelf l e : (s.setEnt l e).shelf = s.shelf := rfl
@[simp] theorem setEnt_cues l e : (s.setEnt l e).cues = s.cues := rfl
@[simp] theorem setEnt_press l e : (s.setEnt l e).press = s.press := rfl
@[simp] theorem setEnt_coll l e : (s.setEnt l e).coll = s.coll := rfl
@[simp] theorem setEnt_power l e : (s.setEnt l e).power = s.power := rfl
@[simp] theorem setEnt_fw l e : (s.setEnt l e).fw = s.fw := rfl
@[simp] theorem setEnt_sys l e : (s.setEnt l e).sys = s.sys := rfl
@[simp] theorem setEnt_out l e : (s.setEnt l e).out = s.out := rfl
@[simp] theorem setEnt_freeIx l e : (s.setEnt l e).freeIx = s.freeIx := rfl
@[simp] theorem setEnt_pending l e : (s.setEnt l e).pending = s.pending := rfl

@[simp] theorem setTrans_frame k t : (s.setTrans k t).frame = s.frame := rfl
@[simp] theorem setTrans_slate k t : (s.setTrans k t).slate = s.slate := rfl
@[simp] theorem setTrans_regs k t : (s.setTrans k t).regs = s.regs := rfl
@[simp] theorem setTrans_ctrs k t : (s.setTrans k t).ctrs = s.ctrs := rfl
@[simp] theorem setTrans_hdrs k t : (s.setTrans k t).hdrs = s.hdrs := rfl
@[simp] theorem setTrans_mgmt k t : (s.setTrans k t).mgmt = s.mgmt := rfl
@[simp] theorem setTrans_log k t : (s.setTrans k t).log = s.log := rfl
@[simp] theorem setTrans_daily k t : (s.setTrans k t).daily = s.daily := rfl
@[simp] theorem setTrans_svc k t : (s.setTrans k t).svc = s.svc := rfl
@[simp] theorem setTrans_svcEvt k t : (s.setTrans k t).svcEvt = s.svcEvt := rfl
@[simp] theorem setTrans_svcRej k t : (s.setTrans k t).svcRej = s.svcRej := rfl
@[simp] theorem setTrans_mem k t : (s.setTrans k t).mem = s.mem := rfl
@[simp] theorem setTrans_poison k t : (s.setTrans k t).poison = s.poison := rfl
@[simp] theorem setTrans_tier k t : (s.setTrans k t).tier = s.tier := rfl
@[simp] theorem setTrans_tenants k t : (s.setTrans k t).tenants = s.tenants := rfl
@[simp] theorem setTrans_tables k t : (s.setTrans k t).tables = s.tables := rfl
@[simp] theorem setTrans_hports k t : (s.setTrans k t).hports = s.hports := rfl
@[simp] theorem setTrans_extents k t : (s.setTrans k t).extents = s.extents := rfl
@[simp] theorem setTrans_fns k t : (s.setTrans k t).fns = s.fns := rfl
@[simp] theorem setTrans_mfn k t : (s.setTrans k t).mfn = s.mfn := rfl
@[simp] theorem setTrans_bg k t : (s.setTrans k t).bg = s.bg := rfl
@[simp] theorem setTrans_bgLast k t : (s.setTrans k t).bgLast = s.bgLast := rfl
@[simp] theorem setTrans_mctp k t : (s.setTrans k t).mctp = s.mctp := rfl
@[simp] theorem setTrans_rgl k t : (s.setTrans k t).rgl = s.rgl := rfl
@[simp] theorem setTrans_fab k t : (s.setTrans k t).fab = s.fab := rfl
@[simp] theorem setTrans_lanes k t : (s.setTrans k t).lanes = s.lanes := rfl
@[simp] theorem setTrans_pats k t : (s.setTrans k t).pats = s.pats := rfl
@[simp] theorem setTrans_chans k t : (s.setTrans k t).chans = s.chans := rfl
@[simp] theorem setTrans_dram k t : (s.setTrans k t).dram = s.dram := rfl
@[simp] theorem setTrans_shelf k t : (s.setTrans k t).shelf = s.shelf := rfl
@[simp] theorem setTrans_cues k t : (s.setTrans k t).cues = s.cues := rfl
@[simp] theorem setTrans_press k t : (s.setTrans k t).press = s.press := rfl
@[simp] theorem setTrans_coll k t : (s.setTrans k t).coll = s.coll := rfl
@[simp] theorem setTrans_power k t : (s.setTrans k t).power = s.power := rfl
@[simp] theorem setTrans_fw k t : (s.setTrans k t).fw = s.fw := rfl
@[simp] theorem setTrans_sys k t : (s.setTrans k t).sys = s.sys := rfl
@[simp] theorem setTrans_out k t : (s.setTrans k t).out = s.out := rfl
@[simp] theorem setTrans_freeIx k t : (s.setTrans k t).freeIx = s.freeIx := rfl
@[simp] theorem setTrans_pending k t : (s.setTrans k t).pending = s.pending := rfl

@[simp] theorem updPeer_frame p f : (s.updPeer p f).frame = s.frame := rfl
@[simp] theorem updPeer_slate p f : (s.updPeer p f).slate = s.slate := rfl
@[simp] theorem updPeer_regs p f : (s.updPeer p f).regs = s.regs := rfl
@[simp] theorem updPeer_ctrs p f : (s.updPeer p f).ctrs = s.ctrs := rfl
@[simp] theorem updPeer_hdrs p f : (s.updPeer p f).hdrs = s.hdrs := rfl
@[simp] theorem updPeer_mgmt p f : (s.updPeer p f).mgmt = s.mgmt := rfl
@[simp] theorem updPeer_log p f : (s.updPeer p f).log = s.log := rfl
@[simp] theorem updPeer_daily p f : (s.updPeer p f).daily = s.daily := rfl
@[simp] theorem updPeer_svc p f : (s.updPeer p f).svc = s.svc := rfl
@[simp] theorem updPeer_svcEvt p f : (s.updPeer p f).svcEvt = s.svcEvt := rfl
@[simp] theorem updPeer_svcRej p f : (s.updPeer p f).svcRej = s.svcRej := rfl
@[simp] theorem updPeer_mem p f : (s.updPeer p f).mem = s.mem := rfl
@[simp] theorem updPeer_poison p f : (s.updPeer p f).poison = s.poison := rfl
@[simp] theorem updPeer_tier p f : (s.updPeer p f).tier = s.tier := rfl
@[simp] theorem updPeer_tenants p f : (s.updPeer p f).tenants = s.tenants := rfl
@[simp] theorem updPeer_tables p f : (s.updPeer p f).tables = s.tables := rfl
@[simp] theorem updPeer_hports p f : (s.updPeer p f).hports = s.hports := rfl
@[simp] theorem updPeer_extents p f : (s.updPeer p f).extents = s.extents := rfl
@[simp] theorem updPeer_fns p f : (s.updPeer p f).fns = s.fns := rfl
@[simp] theorem updPeer_mfn p f : (s.updPeer p f).mfn = s.mfn := rfl
@[simp] theorem updPeer_bg p f : (s.updPeer p f).bg = s.bg := rfl
@[simp] theorem updPeer_bgLast p f : (s.updPeer p f).bgLast = s.bgLast := rfl
@[simp] theorem updPeer_mctp p f : (s.updPeer p f).mctp = s.mctp := rfl
@[simp] theorem updPeer_dir p f : (s.updPeer p f).dir = s.dir := rfl
@[simp] theorem updPeer_rgl p f : (s.updPeer p f).rgl = s.rgl := rfl
@[simp] theorem updPeer_lanes p f : (s.updPeer p f).lanes = s.lanes := rfl
@[simp] theorem updPeer_pats p f : (s.updPeer p f).pats = s.pats := rfl
@[simp] theorem updPeer_chans p f : (s.updPeer p f).chans = s.chans := rfl
@[simp] theorem updPeer_dram p f : (s.updPeer p f).dram = s.dram := rfl
@[simp] theorem updPeer_shelf p f : (s.updPeer p f).shelf = s.shelf := rfl
@[simp] theorem updPeer_cues p f : (s.updPeer p f).cues = s.cues := rfl
@[simp] theorem updPeer_press p f : (s.updPeer p f).press = s.press := rfl
@[simp] theorem updPeer_coll p f : (s.updPeer p f).coll = s.coll := rfl
@[simp] theorem updPeer_power p f : (s.updPeer p f).power = s.power := rfl
@[simp] theorem updPeer_fw p f : (s.updPeer p f).fw = s.fw := rfl
@[simp] theorem updPeer_sys p f : (s.updPeer p f).sys = s.sys := rfl
@[simp] theorem updPeer_out p f : (s.updPeer p f).out = s.out := rfl
@[simp] theorem updPeer_freeIx p f : (s.updPeer p f).freeIx = s.freeIx := rfl
@[simp] theorem updPeer_pending p f : (s.updPeer p f).pending = s.pending := rfl

@[simp] theorem setPent_frame l e : (s.setPent l e).frame = s.frame := rfl
@[simp] theorem setPent_slate l e : (s.setPent l e).slate = s.slate := rfl
@[simp] theorem setPent_regs l e : (s.setPent l e).regs = s.regs := rfl
@[simp] theorem setPent_ctrs l e : (s.setPent l e).ctrs = s.ctrs := rfl
@[simp] theorem setPent_hdrs l e : (s.setPent l e).hdrs = s.hdrs := rfl
@[simp] theorem setPent_mgmt l e : (s.setPent l e).mgmt = s.mgmt := rfl
@[simp] theorem setPent_log l e : (s.setPent l e).log = s.log := rfl
@[simp] theorem setPent_daily l e : (s.setPent l e).daily = s.daily := rfl
@[simp] theorem setPent_svc l e : (s.setPent l e).svc = s.svc := rfl
@[simp] theorem setPent_svcEvt l e : (s.setPent l e).svcEvt = s.svcEvt := rfl
@[simp] theorem setPent_svcRej l e : (s.setPent l e).svcRej = s.svcRej := rfl
@[simp] theorem setPent_mem l e : (s.setPent l e).mem = s.mem := rfl
@[simp] theorem setPent_poison l e : (s.setPent l e).poison = s.poison := rfl
@[simp] theorem setPent_tier l e : (s.setPent l e).tier = s.tier := rfl
@[simp] theorem setPent_tenants l e : (s.setPent l e).tenants = s.tenants := rfl
@[simp] theorem setPent_tables l e : (s.setPent l e).tables = s.tables := rfl
@[simp] theorem setPent_hports l e : (s.setPent l e).hports = s.hports := rfl
@[simp] theorem setPent_extents l e : (s.setPent l e).extents = s.extents := rfl
@[simp] theorem setPent_fns l e : (s.setPent l e).fns = s.fns := rfl
@[simp] theorem setPent_mfn l e : (s.setPent l e).mfn = s.mfn := rfl
@[simp] theorem setPent_bg l e : (s.setPent l e).bg = s.bg := rfl
@[simp] theorem setPent_bgLast l e : (s.setPent l e).bgLast = s.bgLast := rfl
@[simp] theorem setPent_mctp l e : (s.setPent l e).mctp = s.mctp := rfl
@[simp] theorem setPent_dir l e : (s.setPent l e).dir = s.dir := rfl
@[simp] theorem setPent_rgl l e : (s.setPent l e).rgl = s.rgl := rfl
@[simp] theorem setPent_lanes l e : (s.setPent l e).lanes = s.lanes := rfl
@[simp] theorem setPent_pats l e : (s.setPent l e).pats = s.pats := rfl
@[simp] theorem setPent_chans l e : (s.setPent l e).chans = s.chans := rfl
@[simp] theorem setPent_dram l e : (s.setPent l e).dram = s.dram := rfl
@[simp] theorem setPent_shelf l e : (s.setPent l e).shelf = s.shelf := rfl
@[simp] theorem setPent_cues l e : (s.setPent l e).cues = s.cues := rfl
@[simp] theorem setPent_press l e : (s.setPent l e).press = s.press := rfl
@[simp] theorem setPent_coll l e : (s.setPent l e).coll = s.coll := rfl
@[simp] theorem setPent_power l e : (s.setPent l e).power = s.power := rfl
@[simp] theorem setPent_fw l e : (s.setPent l e).fw = s.fw := rfl
@[simp] theorem setPent_sys l e : (s.setPent l e).sys = s.sys := rfl
@[simp] theorem setPent_out l e : (s.setPent l e).out = s.out := rfl
@[simp] theorem setPent_freeIx l e : (s.setPent l e).freeIx = s.freeIx := rfl
@[simp] theorem setPent_pending l e : (s.setPent l e).pending = s.pending := rfl

@[simp] theorem setReq_frame i r : (s.setReq i r).frame = s.frame := rfl
@[simp] theorem setReq_slate i r : (s.setReq i r).slate = s.slate := rfl
@[simp] theorem setReq_regs i r : (s.setReq i r).regs = s.regs := rfl
@[simp] theorem setReq_ctrs i r : (s.setReq i r).ctrs = s.ctrs := rfl
@[simp] theorem setReq_hdrs i r : (s.setReq i r).hdrs = s.hdrs := rfl
@[simp] theorem setReq_mgmt i r : (s.setReq i r).mgmt = s.mgmt := rfl
@[simp] theorem setReq_log i r : (s.setReq i r).log = s.log := rfl
@[simp] theorem setReq_daily i r : (s.setReq i r).daily = s.daily := rfl
@[simp] theorem setReq_svc i r : (s.setReq i r).svc = s.svc := rfl
@[simp] theorem setReq_svcEvt i r : (s.setReq i r).svcEvt = s.svcEvt := rfl
@[simp] theorem setReq_svcRej i r : (s.setReq i r).svcRej = s.svcRej := rfl
@[simp] theorem setReq_mem i r : (s.setReq i r).mem = s.mem := rfl
@[simp] theorem setReq_poison i r : (s.setReq i r).poison = s.poison := rfl
@[simp] theorem setReq_tier i r : (s.setReq i r).tier = s.tier := rfl
@[simp] theorem setReq_tenants i r : (s.setReq i r).tenants = s.tenants := rfl
@[simp] theorem setReq_tables i r : (s.setReq i r).tables = s.tables := rfl
@[simp] theorem setReq_hports i r : (s.setReq i r).hports = s.hports := rfl
@[simp] theorem setReq_extents i r : (s.setReq i r).extents = s.extents := rfl
@[simp] theorem setReq_fns i r : (s.setReq i r).fns = s.fns := rfl
@[simp] theorem setReq_mfn i r : (s.setReq i r).mfn = s.mfn := rfl
@[simp] theorem setReq_bg i r : (s.setReq i r).bg = s.bg := rfl
@[simp] theorem setReq_bgLast i r : (s.setReq i r).bgLast = s.bgLast := rfl
@[simp] theorem setReq_mctp i r : (s.setReq i r).mctp = s.mctp := rfl
@[simp] theorem setReq_dir i r : (s.setReq i r).dir = s.dir := rfl
@[simp] theorem setReq_rgl i r : (s.setReq i r).rgl = s.rgl := rfl
@[simp] theorem setReq_lanes i r : (s.setReq i r).lanes = s.lanes := rfl
@[simp] theorem setReq_pats i r : (s.setReq i r).pats = s.pats := rfl
@[simp] theorem setReq_chans i r : (s.setReq i r).chans = s.chans := rfl
@[simp] theorem setReq_dram i r : (s.setReq i r).dram = s.dram := rfl
@[simp] theorem setReq_shelf i r : (s.setReq i r).shelf = s.shelf := rfl
@[simp] theorem setReq_cues i r : (s.setReq i r).cues = s.cues := rfl
@[simp] theorem setReq_press i r : (s.setReq i r).press = s.press := rfl
@[simp] theorem setReq_coll i r : (s.setReq i r).coll = s.coll := rfl
@[simp] theorem setReq_power i r : (s.setReq i r).power = s.power := rfl
@[simp] theorem setReq_fw i r : (s.setReq i r).fw = s.fw := rfl
@[simp] theorem setReq_sys i r : (s.setReq i r).sys = s.sys := rfl
@[simp] theorem setReq_out i r : (s.setReq i r).out = s.out := rfl
@[simp] theorem setReq_freeIx i r : (s.setReq i r).freeIx = s.freeIx := rfl
@[simp] theorem setReq_pending i r : (s.setReq i r).pending = s.pending := rfl

@[simp] theorem updFport_frame f g : (s.updFport f g).frame = s.frame := rfl
@[simp] theorem updFport_slate f g : (s.updFport f g).slate = s.slate := rfl
@[simp] theorem updFport_regs f g : (s.updFport f g).regs = s.regs := rfl
@[simp] theorem updFport_ctrs f g : (s.updFport f g).ctrs = s.ctrs := rfl
@[simp] theorem updFport_hdrs f g : (s.updFport f g).hdrs = s.hdrs := rfl
@[simp] theorem updFport_mgmt f g : (s.updFport f g).mgmt = s.mgmt := rfl
@[simp] theorem updFport_log f g : (s.updFport f g).log = s.log := rfl
@[simp] theorem updFport_daily f g : (s.updFport f g).daily = s.daily := rfl
@[simp] theorem updFport_svc f g : (s.updFport f g).svc = s.svc := rfl
@[simp] theorem updFport_svcEvt f g : (s.updFport f g).svcEvt = s.svcEvt := rfl
@[simp] theorem updFport_svcRej f g : (s.updFport f g).svcRej = s.svcRej := rfl
@[simp] theorem updFport_mem f g : (s.updFport f g).mem = s.mem := rfl
@[simp] theorem updFport_poison f g : (s.updFport f g).poison = s.poison := rfl
@[simp] theorem updFport_tier f g : (s.updFport f g).tier = s.tier := rfl
@[simp] theorem updFport_tenants f g : (s.updFport f g).tenants = s.tenants := rfl
@[simp] theorem updFport_tables f g : (s.updFport f g).tables = s.tables := rfl
@[simp] theorem updFport_hports f g : (s.updFport f g).hports = s.hports := rfl
@[simp] theorem updFport_extents f g : (s.updFport f g).extents = s.extents := rfl
@[simp] theorem updFport_fns f g : (s.updFport f g).fns = s.fns := rfl
@[simp] theorem updFport_mfn f g : (s.updFport f g).mfn = s.mfn := rfl
@[simp] theorem updFport_bg f g : (s.updFport f g).bg = s.bg := rfl
@[simp] theorem updFport_bgLast f g : (s.updFport f g).bgLast = s.bgLast := rfl
@[simp] theorem updFport_mctp f g : (s.updFport f g).mctp = s.mctp := rfl
@[simp] theorem updFport_dir f g : (s.updFport f g).dir = s.dir := rfl
@[simp] theorem updFport_rgl f g : (s.updFport f g).rgl = s.rgl := rfl
@[simp] theorem updFport_lanes f g : (s.updFport f g).lanes = s.lanes := rfl
@[simp] theorem updFport_pats f g : (s.updFport f g).pats = s.pats := rfl
@[simp] theorem updFport_chans f g : (s.updFport f g).chans = s.chans := rfl
@[simp] theorem updFport_dram f g : (s.updFport f g).dram = s.dram := rfl
@[simp] theorem updFport_shelf f g : (s.updFport f g).shelf = s.shelf := rfl
@[simp] theorem updFport_cues f g : (s.updFport f g).cues = s.cues := rfl
@[simp] theorem updFport_press f g : (s.updFport f g).press = s.press := rfl
@[simp] theorem updFport_coll f g : (s.updFport f g).coll = s.coll := rfl
@[simp] theorem updFport_power f g : (s.updFport f g).power = s.power := rfl
@[simp] theorem updFport_fw f g : (s.updFport f g).fw = s.fw := rfl
@[simp] theorem updFport_sys f g : (s.updFport f g).sys = s.sys := rfl
@[simp] theorem updFport_out f g : (s.updFport f g).out = s.out := rfl
@[simp] theorem updFport_freeIx f g : (s.updFport f g).freeIx = s.freeIx := rfl
@[simp] theorem updFport_pending f g : (s.updFport f g).pending = s.pending := rfl

@[simp] theorem updTen_frame t f : (s.updTen t f).frame = s.frame := rfl
@[simp] theorem updTen_slate t f : (s.updTen t f).slate = s.slate := rfl
@[simp] theorem updTen_regs t f : (s.updTen t f).regs = s.regs := rfl
@[simp] theorem updTen_ctrs t f : (s.updTen t f).ctrs = s.ctrs := rfl
@[simp] theorem updTen_hdrs t f : (s.updTen t f).hdrs = s.hdrs := rfl
@[simp] theorem updTen_mgmt t f : (s.updTen t f).mgmt = s.mgmt := rfl
@[simp] theorem updTen_log t f : (s.updTen t f).log = s.log := rfl
@[simp] theorem updTen_daily t f : (s.updTen t f).daily = s.daily := rfl
@[simp] theorem updTen_svc t f : (s.updTen t f).svc = s.svc := rfl
@[simp] theorem updTen_svcEvt t f : (s.updTen t f).svcEvt = s.svcEvt := rfl
@[simp] theorem updTen_svcRej t f : (s.updTen t f).svcRej = s.svcRej := rfl
@[simp] theorem updTen_mem t f : (s.updTen t f).mem = s.mem := rfl
@[simp] theorem updTen_poison t f : (s.updTen t f).poison = s.poison := rfl
@[simp] theorem updTen_tier t f : (s.updTen t f).tier = s.tier := rfl
@[simp] theorem updTen_tables t f : (s.updTen t f).tables = s.tables := rfl
@[simp] theorem updTen_hports t f : (s.updTen t f).hports = s.hports := rfl
@[simp] theorem updTen_extents t f : (s.updTen t f).extents = s.extents := rfl
@[simp] theorem updTen_fns t f : (s.updTen t f).fns = s.fns := rfl
@[simp] theorem updTen_mfn t f : (s.updTen t f).mfn = s.mfn := rfl
@[simp] theorem updTen_bg t f : (s.updTen t f).bg = s.bg := rfl
@[simp] theorem updTen_bgLast t f : (s.updTen t f).bgLast = s.bgLast := rfl
@[simp] theorem updTen_mctp t f : (s.updTen t f).mctp = s.mctp := rfl
@[simp] theorem updTen_dir t f : (s.updTen t f).dir = s.dir := rfl
@[simp] theorem updTen_rgl t f : (s.updTen t f).rgl = s.rgl := rfl
@[simp] theorem updTen_fab t f : (s.updTen t f).fab = s.fab := rfl
@[simp] theorem updTen_lanes t f : (s.updTen t f).lanes = s.lanes := rfl
@[simp] theorem updTen_pats t f : (s.updTen t f).pats = s.pats := rfl
@[simp] theorem updTen_chans t f : (s.updTen t f).chans = s.chans := rfl
@[simp] theorem updTen_dram t f : (s.updTen t f).dram = s.dram := rfl
@[simp] theorem updTen_shelf t f : (s.updTen t f).shelf = s.shelf := rfl
@[simp] theorem updTen_cues t f : (s.updTen t f).cues = s.cues := rfl
@[simp] theorem updTen_press t f : (s.updTen t f).press = s.press := rfl
@[simp] theorem updTen_coll t f : (s.updTen t f).coll = s.coll := rfl
@[simp] theorem updTen_power t f : (s.updTen t f).power = s.power := rfl
@[simp] theorem updTen_fw t f : (s.updTen t f).fw = s.fw := rfl
@[simp] theorem updTen_sys t f : (s.updTen t f).sys = s.sys := rfl
@[simp] theorem updTen_out t f : (s.updTen t f).out = s.out := rfl
@[simp] theorem updTen_freeIx t f : (s.updTen t f).freeIx = s.freeIx := rfl
@[simp] theorem updTen_pending t f : (s.updTen t f).pending = s.pending := rfl

@[simp] theorem updId_frame h f : (s.updId h f).frame = s.frame := rfl
@[simp] theorem updId_slate h f : (s.updId h f).slate = s.slate := rfl
@[simp] theorem updId_regs h f : (s.updId h f).regs = s.regs := rfl
@[simp] theorem updId_ctrs h f : (s.updId h f).ctrs = s.ctrs := rfl
@[simp] theorem updId_hdrs h f : (s.updId h f).hdrs = s.hdrs := rfl
@[simp] theorem updId_mgmt h f : (s.updId h f).mgmt = s.mgmt := rfl
@[simp] theorem updId_log h f : (s.updId h f).log = s.log := rfl
@[simp] theorem updId_daily h f : (s.updId h f).daily = s.daily := rfl
@[simp] theorem updId_svc h f : (s.updId h f).svc = s.svc := rfl
@[simp] theorem updId_svcEvt h f : (s.updId h f).svcEvt = s.svcEvt := rfl
@[simp] theorem updId_svcRej h f : (s.updId h f).svcRej = s.svcRej := rfl
@[simp] theorem updId_mem h f : (s.updId h f).mem = s.mem := rfl
@[simp] theorem updId_poison h f : (s.updId h f).poison = s.poison := rfl
@[simp] theorem updId_tier h f : (s.updId h f).tier = s.tier := rfl
@[simp] theorem updId_tenants h f : (s.updId h f).tenants = s.tenants := rfl
@[simp] theorem updId_hports h f : (s.updId h f).hports = s.hports := rfl
@[simp] theorem updId_extents h f : (s.updId h f).extents = s.extents := rfl
@[simp] theorem updId_fns h f : (s.updId h f).fns = s.fns := rfl
@[simp] theorem updId_mfn h f : (s.updId h f).mfn = s.mfn := rfl
@[simp] theorem updId_bg h f : (s.updId h f).bg = s.bg := rfl
@[simp] theorem updId_bgLast h f : (s.updId h f).bgLast = s.bgLast := rfl
@[simp] theorem updId_mctp h f : (s.updId h f).mctp = s.mctp := rfl
@[simp] theorem updId_dir h f : (s.updId h f).dir = s.dir := rfl
@[simp] theorem updId_rgl h f : (s.updId h f).rgl = s.rgl := rfl
@[simp] theorem updId_fab h f : (s.updId h f).fab = s.fab := rfl
@[simp] theorem updId_lanes h f : (s.updId h f).lanes = s.lanes := rfl
@[simp] theorem updId_pats h f : (s.updId h f).pats = s.pats := rfl
@[simp] theorem updId_chans h f : (s.updId h f).chans = s.chans := rfl
@[simp] theorem updId_dram h f : (s.updId h f).dram = s.dram := rfl
@[simp] theorem updId_shelf h f : (s.updId h f).shelf = s.shelf := rfl
@[simp] theorem updId_cues h f : (s.updId h f).cues = s.cues := rfl
@[simp] theorem updId_press h f : (s.updId h f).press = s.press := rfl
@[simp] theorem updId_coll h f : (s.updId h f).coll = s.coll := rfl
@[simp] theorem updId_power h f : (s.updId h f).power = s.power := rfl
@[simp] theorem updId_fw h f : (s.updId h f).fw = s.fw := rfl
@[simp] theorem updId_sys h f : (s.updId h f).sys = s.sys := rfl
@[simp] theorem updId_out h f : (s.updId h f).out = s.out := rfl
@[simp] theorem updId_freeIx h f : (s.updId h f).freeIx = s.freeIx := rfl
@[simp] theorem updId_pending h f : (s.updId h f).pending = s.pending := rfl

@[simp] theorem updRgn_frame r f : (s.updRgn r f).frame = s.frame := rfl
@[simp] theorem updRgn_slate r f : (s.updRgn r f).slate = s.slate := rfl
@[simp] theorem updRgn_regs r f : (s.updRgn r f).regs = s.regs := rfl
@[simp] theorem updRgn_ctrs r f : (s.updRgn r f).ctrs = s.ctrs := rfl
@[simp] theorem updRgn_hdrs r f : (s.updRgn r f).hdrs = s.hdrs := rfl
@[simp] theorem updRgn_mgmt r f : (s.updRgn r f).mgmt = s.mgmt := rfl
@[simp] theorem updRgn_log r f : (s.updRgn r f).log = s.log := rfl
@[simp] theorem updRgn_daily r f : (s.updRgn r f).daily = s.daily := rfl
@[simp] theorem updRgn_svc r f : (s.updRgn r f).svc = s.svc := rfl
@[simp] theorem updRgn_svcEvt r f : (s.updRgn r f).svcEvt = s.svcEvt := rfl
@[simp] theorem updRgn_svcRej r f : (s.updRgn r f).svcRej = s.svcRej := rfl
@[simp] theorem updRgn_mem r f : (s.updRgn r f).mem = s.mem := rfl
@[simp] theorem updRgn_poison r f : (s.updRgn r f).poison = s.poison := rfl
@[simp] theorem updRgn_tier r f : (s.updRgn r f).tier = s.tier := rfl
@[simp] theorem updRgn_tenants r f : (s.updRgn r f).tenants = s.tenants := rfl
@[simp] theorem updRgn_hports r f : (s.updRgn r f).hports = s.hports := rfl
@[simp] theorem updRgn_extents r f : (s.updRgn r f).extents = s.extents := rfl
@[simp] theorem updRgn_fns r f : (s.updRgn r f).fns = s.fns := rfl
@[simp] theorem updRgn_mfn r f : (s.updRgn r f).mfn = s.mfn := rfl
@[simp] theorem updRgn_bg r f : (s.updRgn r f).bg = s.bg := rfl
@[simp] theorem updRgn_bgLast r f : (s.updRgn r f).bgLast = s.bgLast := rfl
@[simp] theorem updRgn_mctp r f : (s.updRgn r f).mctp = s.mctp := rfl
@[simp] theorem updRgn_dir r f : (s.updRgn r f).dir = s.dir := rfl
@[simp] theorem updRgn_rgl r f : (s.updRgn r f).rgl = s.rgl := rfl
@[simp] theorem updRgn_fab r f : (s.updRgn r f).fab = s.fab := rfl
@[simp] theorem updRgn_lanes r f : (s.updRgn r f).lanes = s.lanes := rfl
@[simp] theorem updRgn_pats r f : (s.updRgn r f).pats = s.pats := rfl
@[simp] theorem updRgn_chans r f : (s.updRgn r f).chans = s.chans := rfl
@[simp] theorem updRgn_dram r f : (s.updRgn r f).dram = s.dram := rfl
@[simp] theorem updRgn_shelf r f : (s.updRgn r f).shelf = s.shelf := rfl
@[simp] theorem updRgn_cues r f : (s.updRgn r f).cues = s.cues := rfl
@[simp] theorem updRgn_press r f : (s.updRgn r f).press = s.press := rfl
@[simp] theorem updRgn_coll r f : (s.updRgn r f).coll = s.coll := rfl
@[simp] theorem updRgn_power r f : (s.updRgn r f).power = s.power := rfl
@[simp] theorem updRgn_fw r f : (s.updRgn r f).fw = s.fw := rfl
@[simp] theorem updRgn_sys r f : (s.updRgn r f).sys = s.sys := rfl
@[simp] theorem updRgn_out r f : (s.updRgn r f).out = s.out := rfl
@[simp] theorem updRgn_freeIx r f : (s.updRgn r f).freeIx = s.freeIx := rfl
@[simp] theorem updRgn_pending r f : (s.updRgn r f).pending = s.pending := rfl

@[simp] theorem queueCmd_frame c : (s.queueCmd c).frame = s.frame := rfl
@[simp] theorem queueCmd_slate c : (s.queueCmd c).slate = s.slate := rfl
@[simp] theorem queueCmd_regs c : (s.queueCmd c).regs = s.regs := rfl
@[simp] theorem queueCmd_ctrs c : (s.queueCmd c).ctrs = s.ctrs := rfl
@[simp] theorem queueCmd_hdrs c : (s.queueCmd c).hdrs = s.hdrs := rfl
@[simp] theorem queueCmd_mgmt c : (s.queueCmd c).mgmt = s.mgmt := rfl
@[simp] theorem queueCmd_log c : (s.queueCmd c).log = s.log := rfl
@[simp] theorem queueCmd_daily c : (s.queueCmd c).daily = s.daily := rfl
@[simp] theorem queueCmd_svc c : (s.queueCmd c).svc = s.svc := rfl
@[simp] theorem queueCmd_svcEvt c : (s.queueCmd c).svcEvt = s.svcEvt := rfl
@[simp] theorem queueCmd_svcRej c : (s.queueCmd c).svcRej = s.svcRej := rfl
@[simp] theorem queueCmd_mem c : (s.queueCmd c).mem = s.mem := rfl
@[simp] theorem queueCmd_poison c : (s.queueCmd c).poison = s.poison := rfl
@[simp] theorem queueCmd_tier c : (s.queueCmd c).tier = s.tier := rfl
@[simp] theorem queueCmd_tenants c : (s.queueCmd c).tenants = s.tenants := rfl
@[simp] theorem queueCmd_hports c : (s.queueCmd c).hports = s.hports := rfl
@[simp] theorem queueCmd_extents c : (s.queueCmd c).extents = s.extents := rfl
@[simp] theorem queueCmd_fns c : (s.queueCmd c).fns = s.fns := rfl
@[simp] theorem queueCmd_mfn c : (s.queueCmd c).mfn = s.mfn := rfl
@[simp] theorem queueCmd_bg c : (s.queueCmd c).bg = s.bg := rfl
@[simp] theorem queueCmd_bgLast c : (s.queueCmd c).bgLast = s.bgLast := rfl
@[simp] theorem queueCmd_mctp c : (s.queueCmd c).mctp = s.mctp := rfl
@[simp] theorem queueCmd_dir c : (s.queueCmd c).dir = s.dir := rfl
@[simp] theorem queueCmd_rgl c : (s.queueCmd c).rgl = s.rgl := rfl
@[simp] theorem queueCmd_fab c : (s.queueCmd c).fab = s.fab := rfl
@[simp] theorem queueCmd_lanes c : (s.queueCmd c).lanes = s.lanes := rfl
@[simp] theorem queueCmd_pats c : (s.queueCmd c).pats = s.pats := rfl
@[simp] theorem queueCmd_chans c : (s.queueCmd c).chans = s.chans := rfl
@[simp] theorem queueCmd_dram c : (s.queueCmd c).dram = s.dram := rfl
@[simp] theorem queueCmd_shelf c : (s.queueCmd c).shelf = s.shelf := rfl
@[simp] theorem queueCmd_cues c : (s.queueCmd c).cues = s.cues := rfl
@[simp] theorem queueCmd_press c : (s.queueCmd c).press = s.press := rfl
@[simp] theorem queueCmd_coll c : (s.queueCmd c).coll = s.coll := rfl
@[simp] theorem queueCmd_power c : (s.queueCmd c).power = s.power := rfl
@[simp] theorem queueCmd_fw c : (s.queueCmd c).fw = s.fw := rfl
@[simp] theorem queueCmd_sys c : (s.queueCmd c).sys = s.sys := rfl
@[simp] theorem queueCmd_out c : (s.queueCmd c).out = s.out := rfl
@[simp] theorem queueCmd_freeIx c : (s.queueCmd c).freeIx = s.freeIx := rfl
@[simp] theorem queueCmd_pending c : (s.queueCmd c).pending = s.pending := rfl

@[simp] theorem updPort_frame p f : (s.updPort p f).frame = s.frame := rfl
@[simp] theorem updPort_slate p f : (s.updPort p f).slate = s.slate := rfl
@[simp] theorem updPort_regs p f : (s.updPort p f).regs = s.regs := rfl
@[simp] theorem updPort_ctrs p f : (s.updPort p f).ctrs = s.ctrs := rfl
@[simp] theorem updPort_hdrs p f : (s.updPort p f).hdrs = s.hdrs := rfl
@[simp] theorem updPort_mgmt p f : (s.updPort p f).mgmt = s.mgmt := rfl
@[simp] theorem updPort_log p f : (s.updPort p f).log = s.log := rfl
@[simp] theorem updPort_daily p f : (s.updPort p f).daily = s.daily := rfl
@[simp] theorem updPort_svc p f : (s.updPort p f).svc = s.svc := rfl
@[simp] theorem updPort_svcEvt p f : (s.updPort p f).svcEvt = s.svcEvt := rfl
@[simp] theorem updPort_svcRej p f : (s.updPort p f).svcRej = s.svcRej := rfl
@[simp] theorem updPort_mem p f : (s.updPort p f).mem = s.mem := rfl
@[simp] theorem updPort_poison p f : (s.updPort p f).poison = s.poison := rfl
@[simp] theorem updPort_tier p f : (s.updPort p f).tier = s.tier := rfl
@[simp] theorem updPort_tenants p f : (s.updPort p f).tenants = s.tenants := rfl
@[simp] theorem updPort_tables p f : (s.updPort p f).tables = s.tables := rfl
@[simp] theorem updPort_extents p f : (s.updPort p f).extents = s.extents := rfl
@[simp] theorem updPort_fns p f : (s.updPort p f).fns = s.fns := rfl
@[simp] theorem updPort_mfn p f : (s.updPort p f).mfn = s.mfn := rfl
@[simp] theorem updPort_bg p f : (s.updPort p f).bg = s.bg := rfl
@[simp] theorem updPort_bgLast p f : (s.updPort p f).bgLast = s.bgLast := rfl
@[simp] theorem updPort_mctp p f : (s.updPort p f).mctp = s.mctp := rfl
@[simp] theorem updPort_dir p f : (s.updPort p f).dir = s.dir := rfl
@[simp] theorem updPort_rgl p f : (s.updPort p f).rgl = s.rgl := rfl
@[simp] theorem updPort_fab p f : (s.updPort p f).fab = s.fab := rfl
@[simp] theorem updPort_lanes p f : (s.updPort p f).lanes = s.lanes := rfl
@[simp] theorem updPort_pats p f : (s.updPort p f).pats = s.pats := rfl
@[simp] theorem updPort_chans p f : (s.updPort p f).chans = s.chans := rfl
@[simp] theorem updPort_dram p f : (s.updPort p f).dram = s.dram := rfl
@[simp] theorem updPort_shelf p f : (s.updPort p f).shelf = s.shelf := rfl
@[simp] theorem updPort_cues p f : (s.updPort p f).cues = s.cues := rfl
@[simp] theorem updPort_press p f : (s.updPort p f).press = s.press := rfl
@[simp] theorem updPort_coll p f : (s.updPort p f).coll = s.coll := rfl
@[simp] theorem updPort_power p f : (s.updPort p f).power = s.power := rfl
@[simp] theorem updPort_fw p f : (s.updPort p f).fw = s.fw := rfl
@[simp] theorem updPort_sys p f : (s.updPort p f).sys = s.sys := rfl
@[simp] theorem updPort_out p f : (s.updPort p f).out = s.out := rfl
@[simp] theorem updPort_freeIx p f : (s.updPort p f).freeIx = s.freeIx := rfl
@[simp] theorem updPort_pending p f : (s.updPort p f).pending = s.pending := rfl

@[simp] theorem updColl_frame i f : (s.updColl i f).frame = s.frame := rfl
@[simp] theorem updColl_slate i f : (s.updColl i f).slate = s.slate := rfl
@[simp] theorem updColl_regs i f : (s.updColl i f).regs = s.regs := rfl
@[simp] theorem updColl_ctrs i f : (s.updColl i f).ctrs = s.ctrs := rfl
@[simp] theorem updColl_hdrs i f : (s.updColl i f).hdrs = s.hdrs := rfl
@[simp] theorem updColl_mgmt i f : (s.updColl i f).mgmt = s.mgmt := rfl
@[simp] theorem updColl_log i f : (s.updColl i f).log = s.log := rfl
@[simp] theorem updColl_daily i f : (s.updColl i f).daily = s.daily := rfl
@[simp] theorem updColl_svc i f : (s.updColl i f).svc = s.svc := rfl
@[simp] theorem updColl_svcEvt i f : (s.updColl i f).svcEvt = s.svcEvt := rfl
@[simp] theorem updColl_svcRej i f : (s.updColl i f).svcRej = s.svcRej := rfl
@[simp] theorem updColl_mem i f : (s.updColl i f).mem = s.mem := rfl
@[simp] theorem updColl_poison i f : (s.updColl i f).poison = s.poison := rfl
@[simp] theorem updColl_tier i f : (s.updColl i f).tier = s.tier := rfl
@[simp] theorem updColl_tenants i f : (s.updColl i f).tenants = s.tenants := rfl
@[simp] theorem updColl_tables i f : (s.updColl i f).tables = s.tables := rfl
@[simp] theorem updColl_hports i f : (s.updColl i f).hports = s.hports := rfl
@[simp] theorem updColl_extents i f : (s.updColl i f).extents = s.extents := rfl
@[simp] theorem updColl_fns i f : (s.updColl i f).fns = s.fns := rfl
@[simp] theorem updColl_mfn i f : (s.updColl i f).mfn = s.mfn := rfl
@[simp] theorem updColl_bg i f : (s.updColl i f).bg = s.bg := rfl
@[simp] theorem updColl_bgLast i f : (s.updColl i f).bgLast = s.bgLast := rfl
@[simp] theorem updColl_mctp i f : (s.updColl i f).mctp = s.mctp := rfl
@[simp] theorem updColl_dir i f : (s.updColl i f).dir = s.dir := rfl
@[simp] theorem updColl_rgl i f : (s.updColl i f).rgl = s.rgl := rfl
@[simp] theorem updColl_fab i f : (s.updColl i f).fab = s.fab := rfl
@[simp] theorem updColl_lanes i f : (s.updColl i f).lanes = s.lanes := rfl
@[simp] theorem updColl_pats i f : (s.updColl i f).pats = s.pats := rfl
@[simp] theorem updColl_chans i f : (s.updColl i f).chans = s.chans := rfl
@[simp] theorem updColl_dram i f : (s.updColl i f).dram = s.dram := rfl
@[simp] theorem updColl_shelf i f : (s.updColl i f).shelf = s.shelf := rfl
@[simp] theorem updColl_cues i f : (s.updColl i f).cues = s.cues := rfl
@[simp] theorem updColl_press i f : (s.updColl i f).press = s.press := rfl
@[simp] theorem updColl_power i f : (s.updColl i f).power = s.power := rfl
@[simp] theorem updColl_fw i f : (s.updColl i f).fw = s.fw := rfl
@[simp] theorem updColl_sys i f : (s.updColl i f).sys = s.sys := rfl
@[simp] theorem updColl_out i f : (s.updColl i f).out = s.out := rfl
@[simp] theorem updColl_freeIx i f : (s.updColl i f).freeIx = s.freeIx := rfl
@[simp] theorem updColl_pending i f : (s.updColl i f).pending = s.pending := rfl

@[simp] theorem updCrun_frame i f : (s.updCrun i f).frame = s.frame := rfl
@[simp] theorem updCrun_slate i f : (s.updCrun i f).slate = s.slate := rfl
@[simp] theorem updCrun_regs i f : (s.updCrun i f).regs = s.regs := rfl
@[simp] theorem updCrun_ctrs i f : (s.updCrun i f).ctrs = s.ctrs := rfl
@[simp] theorem updCrun_hdrs i f : (s.updCrun i f).hdrs = s.hdrs := rfl
@[simp] theorem updCrun_mgmt i f : (s.updCrun i f).mgmt = s.mgmt := rfl
@[simp] theorem updCrun_log i f : (s.updCrun i f).log = s.log := rfl
@[simp] theorem updCrun_daily i f : (s.updCrun i f).daily = s.daily := rfl
@[simp] theorem updCrun_svc i f : (s.updCrun i f).svc = s.svc := rfl
@[simp] theorem updCrun_svcEvt i f : (s.updCrun i f).svcEvt = s.svcEvt := rfl
@[simp] theorem updCrun_svcRej i f : (s.updCrun i f).svcRej = s.svcRej := rfl
@[simp] theorem updCrun_mem i f : (s.updCrun i f).mem = s.mem := rfl
@[simp] theorem updCrun_poison i f : (s.updCrun i f).poison = s.poison := rfl
@[simp] theorem updCrun_tier i f : (s.updCrun i f).tier = s.tier := rfl
@[simp] theorem updCrun_tenants i f : (s.updCrun i f).tenants = s.tenants := rfl
@[simp] theorem updCrun_tables i f : (s.updCrun i f).tables = s.tables := rfl
@[simp] theorem updCrun_hports i f : (s.updCrun i f).hports = s.hports := rfl
@[simp] theorem updCrun_extents i f : (s.updCrun i f).extents = s.extents := rfl
@[simp] theorem updCrun_fns i f : (s.updCrun i f).fns = s.fns := rfl
@[simp] theorem updCrun_mfn i f : (s.updCrun i f).mfn = s.mfn := rfl
@[simp] theorem updCrun_bg i f : (s.updCrun i f).bg = s.bg := rfl
@[simp] theorem updCrun_bgLast i f : (s.updCrun i f).bgLast = s.bgLast := rfl
@[simp] theorem updCrun_mctp i f : (s.updCrun i f).mctp = s.mctp := rfl
@[simp] theorem updCrun_dir i f : (s.updCrun i f).dir = s.dir := rfl
@[simp] theorem updCrun_rgl i f : (s.updCrun i f).rgl = s.rgl := rfl
@[simp] theorem updCrun_fab i f : (s.updCrun i f).fab = s.fab := rfl
@[simp] theorem updCrun_lanes i f : (s.updCrun i f).lanes = s.lanes := rfl
@[simp] theorem updCrun_pats i f : (s.updCrun i f).pats = s.pats := rfl
@[simp] theorem updCrun_chans i f : (s.updCrun i f).chans = s.chans := rfl
@[simp] theorem updCrun_dram i f : (s.updCrun i f).dram = s.dram := rfl
@[simp] theorem updCrun_shelf i f : (s.updCrun i f).shelf = s.shelf := rfl
@[simp] theorem updCrun_cues i f : (s.updCrun i f).cues = s.cues := rfl
@[simp] theorem updCrun_press i f : (s.updCrun i f).press = s.press := rfl
@[simp] theorem updCrun_power i f : (s.updCrun i f).power = s.power := rfl
@[simp] theorem updCrun_fw i f : (s.updCrun i f).fw = s.fw := rfl
@[simp] theorem updCrun_sys i f : (s.updCrun i f).sys = s.sys := rfl
@[simp] theorem updCrun_out i f : (s.updCrun i f).out = s.out := rfl
@[simp] theorem updCrun_freeIx i f : (s.updCrun i f).freeIx = s.freeIx := rfl
@[simp] theorem updCrun_pending i f : (s.updCrun i f).pending = s.pending := rfl

@[simp] theorem updLane_frame n f : (s.updLane n f).frame = s.frame := rfl
@[simp] theorem updLane_slate n f : (s.updLane n f).slate = s.slate := rfl
@[simp] theorem updLane_regs n f : (s.updLane n f).regs = s.regs := rfl
@[simp] theorem updLane_ctrs n f : (s.updLane n f).ctrs = s.ctrs := rfl
@[simp] theorem updLane_hdrs n f : (s.updLane n f).hdrs = s.hdrs := rfl
@[simp] theorem updLane_mgmt n f : (s.updLane n f).mgmt = s.mgmt := rfl
@[simp] theorem updLane_log n f : (s.updLane n f).log = s.log := rfl
@[simp] theorem updLane_daily n f : (s.updLane n f).daily = s.daily := rfl
@[simp] theorem updLane_svc n f : (s.updLane n f).svc = s.svc := rfl
@[simp] theorem updLane_svcEvt n f : (s.updLane n f).svcEvt = s.svcEvt := rfl
@[simp] theorem updLane_svcRej n f : (s.updLane n f).svcRej = s.svcRej := rfl
@[simp] theorem updLane_mem n f : (s.updLane n f).mem = s.mem := rfl
@[simp] theorem updLane_poison n f : (s.updLane n f).poison = s.poison := rfl
@[simp] theorem updLane_tier n f : (s.updLane n f).tier = s.tier := rfl
@[simp] theorem updLane_tenants n f : (s.updLane n f).tenants = s.tenants := rfl
@[simp] theorem updLane_tables n f : (s.updLane n f).tables = s.tables := rfl
@[simp] theorem updLane_hports n f : (s.updLane n f).hports = s.hports := rfl
@[simp] theorem updLane_extents n f : (s.updLane n f).extents = s.extents := rfl
@[simp] theorem updLane_fns n f : (s.updLane n f).fns = s.fns := rfl
@[simp] theorem updLane_mfn n f : (s.updLane n f).mfn = s.mfn := rfl
@[simp] theorem updLane_bg n f : (s.updLane n f).bg = s.bg := rfl
@[simp] theorem updLane_bgLast n f : (s.updLane n f).bgLast = s.bgLast := rfl
@[simp] theorem updLane_mctp n f : (s.updLane n f).mctp = s.mctp := rfl
@[simp] theorem updLane_dir n f : (s.updLane n f).dir = s.dir := rfl
@[simp] theorem updLane_rgl n f : (s.updLane n f).rgl = s.rgl := rfl
@[simp] theorem updLane_fab n f : (s.updLane n f).fab = s.fab := rfl
@[simp] theorem updLane_pats n f : (s.updLane n f).pats = s.pats := rfl
@[simp] theorem updLane_chans n f : (s.updLane n f).chans = s.chans := rfl
@[simp] theorem updLane_dram n f : (s.updLane n f).dram = s.dram := rfl
@[simp] theorem updLane_shelf n f : (s.updLane n f).shelf = s.shelf := rfl
@[simp] theorem updLane_cues n f : (s.updLane n f).cues = s.cues := rfl
@[simp] theorem updLane_press n f : (s.updLane n f).press = s.press := rfl
@[simp] theorem updLane_coll n f : (s.updLane n f).coll = s.coll := rfl
@[simp] theorem updLane_power n f : (s.updLane n f).power = s.power := rfl
@[simp] theorem updLane_fw n f : (s.updLane n f).fw = s.fw := rfl
@[simp] theorem updLane_sys n f : (s.updLane n f).sys = s.sys := rfl
@[simp] theorem updLane_out n f : (s.updLane n f).out = s.out := rfl
@[simp] theorem updLane_freeIx n f : (s.updLane n f).freeIx = s.freeIx := rfl
@[simp] theorem updLane_pending n f : (s.updLane n f).pending = s.pending := rfl

@[simp] theorem updPu_frame p f : (s.updPu p f).frame = s.frame := rfl
@[simp] theorem updPu_slate p f : (s.updPu p f).slate = s.slate := rfl
@[simp] theorem updPu_regs p f : (s.updPu p f).regs = s.regs := rfl
@[simp] theorem updPu_ctrs p f : (s.updPu p f).ctrs = s.ctrs := rfl
@[simp] theorem updPu_hdrs p f : (s.updPu p f).hdrs = s.hdrs := rfl
@[simp] theorem updPu_mgmt p f : (s.updPu p f).mgmt = s.mgmt := rfl
@[simp] theorem updPu_log p f : (s.updPu p f).log = s.log := rfl
@[simp] theorem updPu_daily p f : (s.updPu p f).daily = s.daily := rfl
@[simp] theorem updPu_svc p f : (s.updPu p f).svc = s.svc := rfl
@[simp] theorem updPu_svcEvt p f : (s.updPu p f).svcEvt = s.svcEvt := rfl
@[simp] theorem updPu_svcRej p f : (s.updPu p f).svcRej = s.svcRej := rfl
@[simp] theorem updPu_mem p f : (s.updPu p f).mem = s.mem := rfl
@[simp] theorem updPu_poison p f : (s.updPu p f).poison = s.poison := rfl
@[simp] theorem updPu_tier p f : (s.updPu p f).tier = s.tier := rfl
@[simp] theorem updPu_tenants p f : (s.updPu p f).tenants = s.tenants := rfl
@[simp] theorem updPu_tables p f : (s.updPu p f).tables = s.tables := rfl
@[simp] theorem updPu_hports p f : (s.updPu p f).hports = s.hports := rfl
@[simp] theorem updPu_extents p f : (s.updPu p f).extents = s.extents := rfl
@[simp] theorem updPu_fns p f : (s.updPu p f).fns = s.fns := rfl
@[simp] theorem updPu_mfn p f : (s.updPu p f).mfn = s.mfn := rfl
@[simp] theorem updPu_bg p f : (s.updPu p f).bg = s.bg := rfl
@[simp] theorem updPu_bgLast p f : (s.updPu p f).bgLast = s.bgLast := rfl
@[simp] theorem updPu_mctp p f : (s.updPu p f).mctp = s.mctp := rfl
@[simp] theorem updPu_dir p f : (s.updPu p f).dir = s.dir := rfl
@[simp] theorem updPu_rgl p f : (s.updPu p f).rgl = s.rgl := rfl
@[simp] theorem updPu_fab p f : (s.updPu p f).fab = s.fab := rfl
@[simp] theorem updPu_lanes p f : (s.updPu p f).lanes = s.lanes := rfl
@[simp] theorem updPu_pats p f : (s.updPu p f).pats = s.pats := rfl
@[simp] theorem updPu_chans p f : (s.updPu p f).chans = s.chans := rfl
@[simp] theorem updPu_dram p f : (s.updPu p f).dram = s.dram := rfl
@[simp] theorem updPu_shelf p f : (s.updPu p f).shelf = s.shelf := rfl
@[simp] theorem updPu_cues p f : (s.updPu p f).cues = s.cues := rfl
@[simp] theorem updPu_coll p f : (s.updPu p f).coll = s.coll := rfl
@[simp] theorem updPu_power p f : (s.updPu p f).power = s.power := rfl
@[simp] theorem updPu_fw p f : (s.updPu p f).fw = s.fw := rfl
@[simp] theorem updPu_sys p f : (s.updPu p f).sys = s.sys := rfl
@[simp] theorem updPu_out p f : (s.updPu p f).out = s.out := rfl
@[simp] theorem updPu_freeIx p f : (s.updPu p f).freeIx = s.freeIx := rfl
@[simp] theorem updPu_pending p f : (s.updPu p f).pending = s.pending := rfl

@[simp] theorem updPart_frame p a d f : (s.updPart p a d f).frame = s.frame := rfl
@[simp] theorem updPart_slate p a d f : (s.updPart p a d f).slate = s.slate := rfl
@[simp] theorem updPart_regs p a d f : (s.updPart p a d f).regs = s.regs := rfl
@[simp] theorem updPart_ctrs p a d f : (s.updPart p a d f).ctrs = s.ctrs := rfl
@[simp] theorem updPart_hdrs p a d f : (s.updPart p a d f).hdrs = s.hdrs := rfl
@[simp] theorem updPart_mgmt p a d f : (s.updPart p a d f).mgmt = s.mgmt := rfl
@[simp] theorem updPart_log p a d f : (s.updPart p a d f).log = s.log := rfl
@[simp] theorem updPart_daily p a d f : (s.updPart p a d f).daily = s.daily := rfl
@[simp] theorem updPart_svc p a d f : (s.updPart p a d f).svc = s.svc := rfl
@[simp] theorem updPart_svcEvt p a d f : (s.updPart p a d f).svcEvt = s.svcEvt := rfl
@[simp] theorem updPart_svcRej p a d f : (s.updPart p a d f).svcRej = s.svcRej := rfl
@[simp] theorem updPart_mem p a d f : (s.updPart p a d f).mem = s.mem := rfl
@[simp] theorem updPart_poison p a d f : (s.updPart p a d f).poison = s.poison := rfl
@[simp] theorem updPart_tier p a d f : (s.updPart p a d f).tier = s.tier := rfl
@[simp] theorem updPart_tenants p a d f : (s.updPart p a d f).tenants = s.tenants := rfl
@[simp] theorem updPart_tables p a d f : (s.updPart p a d f).tables = s.tables := rfl
@[simp] theorem updPart_hports p a d f : (s.updPart p a d f).hports = s.hports := rfl
@[simp] theorem updPart_extents p a d f : (s.updPart p a d f).extents = s.extents := rfl
@[simp] theorem updPart_fns p a d f : (s.updPart p a d f).fns = s.fns := rfl
@[simp] theorem updPart_mfn p a d f : (s.updPart p a d f).mfn = s.mfn := rfl
@[simp] theorem updPart_bg p a d f : (s.updPart p a d f).bg = s.bg := rfl
@[simp] theorem updPart_bgLast p a d f : (s.updPart p a d f).bgLast = s.bgLast := rfl
@[simp] theorem updPart_mctp p a d f : (s.updPart p a d f).mctp = s.mctp := rfl
@[simp] theorem updPart_dir p a d f : (s.updPart p a d f).dir = s.dir := rfl
@[simp] theorem updPart_rgl p a d f : (s.updPart p a d f).rgl = s.rgl := rfl
@[simp] theorem updPart_fab p a d f : (s.updPart p a d f).fab = s.fab := rfl
@[simp] theorem updPart_lanes p a d f : (s.updPart p a d f).lanes = s.lanes := rfl
@[simp] theorem updPart_pats p a d f : (s.updPart p a d f).pats = s.pats := rfl
@[simp] theorem updPart_chans p a d f : (s.updPart p a d f).chans = s.chans := rfl
@[simp] theorem updPart_dram p a d f : (s.updPart p a d f).dram = s.dram := rfl
@[simp] theorem updPart_shelf p a d f : (s.updPart p a d f).shelf = s.shelf := rfl
@[simp] theorem updPart_cues p a d f : (s.updPart p a d f).cues = s.cues := rfl
@[simp] theorem updPart_coll p a d f : (s.updPart p a d f).coll = s.coll := rfl
@[simp] theorem updPart_power p a d f : (s.updPart p a d f).power = s.power := rfl
@[simp] theorem updPart_fw p a d f : (s.updPart p a d f).fw = s.fw := rfl
@[simp] theorem updPart_sys p a d f : (s.updPart p a d f).sys = s.sys := rfl
@[simp] theorem updPart_out p a d f : (s.updPart p a d f).out = s.out := rfl
@[simp] theorem updPart_freeIx p a d f : (s.updPart p a d f).freeIx = s.freeIx := rfl
@[simp] theorem updPart_pending p a d f : (s.updPart p a d f).pending = s.pending := rfl

@[simp] theorem updArr_frame p a f : (s.updArr p a f).frame = s.frame := rfl
@[simp] theorem updArr_slate p a f : (s.updArr p a f).slate = s.slate := rfl
@[simp] theorem updArr_regs p a f : (s.updArr p a f).regs = s.regs := rfl
@[simp] theorem updArr_ctrs p a f : (s.updArr p a f).ctrs = s.ctrs := rfl
@[simp] theorem updArr_hdrs p a f : (s.updArr p a f).hdrs = s.hdrs := rfl
@[simp] theorem updArr_mgmt p a f : (s.updArr p a f).mgmt = s.mgmt := rfl
@[simp] theorem updArr_log p a f : (s.updArr p a f).log = s.log := rfl
@[simp] theorem updArr_daily p a f : (s.updArr p a f).daily = s.daily := rfl
@[simp] theorem updArr_svc p a f : (s.updArr p a f).svc = s.svc := rfl
@[simp] theorem updArr_svcEvt p a f : (s.updArr p a f).svcEvt = s.svcEvt := rfl
@[simp] theorem updArr_svcRej p a f : (s.updArr p a f).svcRej = s.svcRej := rfl
@[simp] theorem updArr_mem p a f : (s.updArr p a f).mem = s.mem := rfl
@[simp] theorem updArr_poison p a f : (s.updArr p a f).poison = s.poison := rfl
@[simp] theorem updArr_tier p a f : (s.updArr p a f).tier = s.tier := rfl
@[simp] theorem updArr_tenants p a f : (s.updArr p a f).tenants = s.tenants := rfl
@[simp] theorem updArr_tables p a f : (s.updArr p a f).tables = s.tables := rfl
@[simp] theorem updArr_hports p a f : (s.updArr p a f).hports = s.hports := rfl
@[simp] theorem updArr_extents p a f : (s.updArr p a f).extents = s.extents := rfl
@[simp] theorem updArr_fns p a f : (s.updArr p a f).fns = s.fns := rfl
@[simp] theorem updArr_mfn p a f : (s.updArr p a f).mfn = s.mfn := rfl
@[simp] theorem updArr_bg p a f : (s.updArr p a f).bg = s.bg := rfl
@[simp] theorem updArr_bgLast p a f : (s.updArr p a f).bgLast = s.bgLast := rfl
@[simp] theorem updArr_mctp p a f : (s.updArr p a f).mctp = s.mctp := rfl
@[simp] theorem updArr_dir p a f : (s.updArr p a f).dir = s.dir := rfl
@[simp] theorem updArr_rgl p a f : (s.updArr p a f).rgl = s.rgl := rfl
@[simp] theorem updArr_fab p a f : (s.updArr p a f).fab = s.fab := rfl
@[simp] theorem updArr_lanes p a f : (s.updArr p a f).lanes = s.lanes := rfl
@[simp] theorem updArr_pats p a f : (s.updArr p a f).pats = s.pats := rfl
@[simp] theorem updArr_chans p a f : (s.updArr p a f).chans = s.chans := rfl
@[simp] theorem updArr_dram p a f : (s.updArr p a f).dram = s.dram := rfl
@[simp] theorem updArr_shelf p a f : (s.updArr p a f).shelf = s.shelf := rfl
@[simp] theorem updArr_cues p a f : (s.updArr p a f).cues = s.cues := rfl
@[simp] theorem updArr_coll p a f : (s.updArr p a f).coll = s.coll := rfl
@[simp] theorem updArr_power p a f : (s.updArr p a f).power = s.power := rfl
@[simp] theorem updArr_fw p a f : (s.updArr p a f).fw = s.fw := rfl
@[simp] theorem updArr_sys p a f : (s.updArr p a f).sys = s.sys := rfl
@[simp] theorem updArr_out p a f : (s.updArr p a f).out = s.out := rfl
@[simp] theorem updArr_freeIx p a f : (s.updArr p a f).freeIx = s.freeIx := rfl
@[simp] theorem updArr_pending p a f : (s.updArr p a f).pending = s.pending := rfl

@[simp] theorem updJob_frame n f : (s.updJob n f).frame = s.frame := rfl
@[simp] theorem updJob_slate n f : (s.updJob n f).slate = s.slate := rfl
@[simp] theorem updJob_regs n f : (s.updJob n f).regs = s.regs := rfl
@[simp] theorem updJob_ctrs n f : (s.updJob n f).ctrs = s.ctrs := rfl
@[simp] theorem updJob_hdrs n f : (s.updJob n f).hdrs = s.hdrs := rfl
@[simp] theorem updJob_mgmt n f : (s.updJob n f).mgmt = s.mgmt := rfl
@[simp] theorem updJob_log n f : (s.updJob n f).log = s.log := rfl
@[simp] theorem updJob_daily n f : (s.updJob n f).daily = s.daily := rfl
@[simp] theorem updJob_svc n f : (s.updJob n f).svc = s.svc := rfl
@[simp] theorem updJob_svcEvt n f : (s.updJob n f).svcEvt = s.svcEvt := rfl
@[simp] theorem updJob_svcRej n f : (s.updJob n f).svcRej = s.svcRej := rfl
@[simp] theorem updJob_mem n f : (s.updJob n f).mem = s.mem := rfl
@[simp] theorem updJob_poison n f : (s.updJob n f).poison = s.poison := rfl
@[simp] theorem updJob_tier n f : (s.updJob n f).tier = s.tier := rfl
@[simp] theorem updJob_tenants n f : (s.updJob n f).tenants = s.tenants := rfl
@[simp] theorem updJob_tables n f : (s.updJob n f).tables = s.tables := rfl
@[simp] theorem updJob_hports n f : (s.updJob n f).hports = s.hports := rfl
@[simp] theorem updJob_extents n f : (s.updJob n f).extents = s.extents := rfl
@[simp] theorem updJob_fns n f : (s.updJob n f).fns = s.fns := rfl
@[simp] theorem updJob_mfn n f : (s.updJob n f).mfn = s.mfn := rfl
@[simp] theorem updJob_bg n f : (s.updJob n f).bg = s.bg := rfl
@[simp] theorem updJob_bgLast n f : (s.updJob n f).bgLast = s.bgLast := rfl
@[simp] theorem updJob_mctp n f : (s.updJob n f).mctp = s.mctp := rfl
@[simp] theorem updJob_dir n f : (s.updJob n f).dir = s.dir := rfl
@[simp] theorem updJob_rgl n f : (s.updJob n f).rgl = s.rgl := rfl
@[simp] theorem updJob_fab n f : (s.updJob n f).fab = s.fab := rfl
@[simp] theorem updJob_lanes n f : (s.updJob n f).lanes = s.lanes := rfl
@[simp] theorem updJob_pats n f : (s.updJob n f).pats = s.pats := rfl
@[simp] theorem updJob_chans n f : (s.updJob n f).chans = s.chans := rfl
@[simp] theorem updJob_dram n f : (s.updJob n f).dram = s.dram := rfl
@[simp] theorem updJob_shelf n f : (s.updJob n f).shelf = s.shelf := rfl
@[simp] theorem updJob_cues n f : (s.updJob n f).cues = s.cues := rfl
@[simp] theorem updJob_coll n f : (s.updJob n f).coll = s.coll := rfl
@[simp] theorem updJob_power n f : (s.updJob n f).power = s.power := rfl
@[simp] theorem updJob_fw n f : (s.updJob n f).fw = s.fw := rfl
@[simp] theorem updJob_sys n f : (s.updJob n f).sys = s.sys := rfl
@[simp] theorem updJob_out n f : (s.updJob n f).out = s.out := rfl
@[simp] theorem updJob_freeIx n f : (s.updJob n f).freeIx = s.freeIx := rfl
@[simp] theorem updJob_pending n f : (s.updJob n f).pending = s.pending := rfl

@[simp] theorem updLay_frame n f : (s.updLay n f).frame = s.frame := rfl
@[simp] theorem updLay_slate n f : (s.updLay n f).slate = s.slate := rfl
@[simp] theorem updLay_regs n f : (s.updLay n f).regs = s.regs := rfl
@[simp] theorem updLay_ctrs n f : (s.updLay n f).ctrs = s.ctrs := rfl
@[simp] theorem updLay_hdrs n f : (s.updLay n f).hdrs = s.hdrs := rfl
@[simp] theorem updLay_mgmt n f : (s.updLay n f).mgmt = s.mgmt := rfl
@[simp] theorem updLay_log n f : (s.updLay n f).log = s.log := rfl
@[simp] theorem updLay_daily n f : (s.updLay n f).daily = s.daily := rfl
@[simp] theorem updLay_svc n f : (s.updLay n f).svc = s.svc := rfl
@[simp] theorem updLay_svcEvt n f : (s.updLay n f).svcEvt = s.svcEvt := rfl
@[simp] theorem updLay_svcRej n f : (s.updLay n f).svcRej = s.svcRej := rfl
@[simp] theorem updLay_mem n f : (s.updLay n f).mem = s.mem := rfl
@[simp] theorem updLay_poison n f : (s.updLay n f).poison = s.poison := rfl
@[simp] theorem updLay_tier n f : (s.updLay n f).tier = s.tier := rfl
@[simp] theorem updLay_tenants n f : (s.updLay n f).tenants = s.tenants := rfl
@[simp] theorem updLay_tables n f : (s.updLay n f).tables = s.tables := rfl
@[simp] theorem updLay_hports n f : (s.updLay n f).hports = s.hports := rfl
@[simp] theorem updLay_extents n f : (s.updLay n f).extents = s.extents := rfl
@[simp] theorem updLay_fns n f : (s.updLay n f).fns = s.fns := rfl
@[simp] theorem updLay_mfn n f : (s.updLay n f).mfn = s.mfn := rfl
@[simp] theorem updLay_bg n f : (s.updLay n f).bg = s.bg := rfl
@[simp] theorem updLay_bgLast n f : (s.updLay n f).bgLast = s.bgLast := rfl
@[simp] theorem updLay_mctp n f : (s.updLay n f).mctp = s.mctp := rfl
@[simp] theorem updLay_dir n f : (s.updLay n f).dir = s.dir := rfl
@[simp] theorem updLay_rgl n f : (s.updLay n f).rgl = s.rgl := rfl
@[simp] theorem updLay_fab n f : (s.updLay n f).fab = s.fab := rfl
@[simp] theorem updLay_lanes n f : (s.updLay n f).lanes = s.lanes := rfl
@[simp] theorem updLay_pats n f : (s.updLay n f).pats = s.pats := rfl
@[simp] theorem updLay_chans n f : (s.updLay n f).chans = s.chans := rfl
@[simp] theorem updLay_dram n f : (s.updLay n f).dram = s.dram := rfl
@[simp] theorem updLay_shelf n f : (s.updLay n f).shelf = s.shelf := rfl
@[simp] theorem updLay_cues n f : (s.updLay n f).cues = s.cues := rfl
@[simp] theorem updLay_coll n f : (s.updLay n f).coll = s.coll := rfl
@[simp] theorem updLay_power n f : (s.updLay n f).power = s.power := rfl
@[simp] theorem updLay_fw n f : (s.updLay n f).fw = s.fw := rfl
@[simp] theorem updLay_sys n f : (s.updLay n f).sys = s.sys := rfl
@[simp] theorem updLay_out n f : (s.updLay n f).out = s.out := rfl
@[simp] theorem updLay_freeIx n f : (s.updLay n f).freeIx = s.freeIx := rfl
@[simp] theorem updLay_pending n f : (s.updLay n f).pending = s.pending := rfl

@[simp] theorem updFn_frame k f : (s.updFn k f).frame = s.frame := rfl
@[simp] theorem updFn_slate k f : (s.updFn k f).slate = s.slate := rfl
@[simp] theorem updFn_regs k f : (s.updFn k f).regs = s.regs := rfl
@[simp] theorem updFn_ctrs k f : (s.updFn k f).ctrs = s.ctrs := rfl
@[simp] theorem updFn_hdrs k f : (s.updFn k f).hdrs = s.hdrs := rfl
@[simp] theorem updFn_mgmt k f : (s.updFn k f).mgmt = s.mgmt := rfl
@[simp] theorem updFn_log k f : (s.updFn k f).log = s.log := rfl
@[simp] theorem updFn_daily k f : (s.updFn k f).daily = s.daily := rfl
@[simp] theorem updFn_svc k f : (s.updFn k f).svc = s.svc := rfl
@[simp] theorem updFn_svcEvt k f : (s.updFn k f).svcEvt = s.svcEvt := rfl
@[simp] theorem updFn_svcRej k f : (s.updFn k f).svcRej = s.svcRej := rfl
@[simp] theorem updFn_mem k f : (s.updFn k f).mem = s.mem := rfl
@[simp] theorem updFn_poison k f : (s.updFn k f).poison = s.poison := rfl
@[simp] theorem updFn_tier k f : (s.updFn k f).tier = s.tier := rfl
@[simp] theorem updFn_tenants k f : (s.updFn k f).tenants = s.tenants := rfl
@[simp] theorem updFn_tables k f : (s.updFn k f).tables = s.tables := rfl
@[simp] theorem updFn_hports k f : (s.updFn k f).hports = s.hports := rfl
@[simp] theorem updFn_extents k f : (s.updFn k f).extents = s.extents := rfl
@[simp] theorem updFn_mfn k f : (s.updFn k f).mfn = s.mfn := rfl
@[simp] theorem updFn_bg k f : (s.updFn k f).bg = s.bg := rfl
@[simp] theorem updFn_bgLast k f : (s.updFn k f).bgLast = s.bgLast := rfl
@[simp] theorem updFn_mctp k f : (s.updFn k f).mctp = s.mctp := rfl
@[simp] theorem updFn_dir k f : (s.updFn k f).dir = s.dir := rfl
@[simp] theorem updFn_rgl k f : (s.updFn k f).rgl = s.rgl := rfl
@[simp] theorem updFn_fab k f : (s.updFn k f).fab = s.fab := rfl
@[simp] theorem updFn_lanes k f : (s.updFn k f).lanes = s.lanes := rfl
@[simp] theorem updFn_pats k f : (s.updFn k f).pats = s.pats := rfl
@[simp] theorem updFn_chans k f : (s.updFn k f).chans = s.chans := rfl
@[simp] theorem updFn_dram k f : (s.updFn k f).dram = s.dram := rfl
@[simp] theorem updFn_shelf k f : (s.updFn k f).shelf = s.shelf := rfl
@[simp] theorem updFn_cues k f : (s.updFn k f).cues = s.cues := rfl
@[simp] theorem updFn_press k f : (s.updFn k f).press = s.press := rfl
@[simp] theorem updFn_coll k f : (s.updFn k f).coll = s.coll := rfl
@[simp] theorem updFn_power k f : (s.updFn k f).power = s.power := rfl
@[simp] theorem updFn_fw k f : (s.updFn k f).fw = s.fw := rfl
@[simp] theorem updFn_sys k f : (s.updFn k f).sys = s.sys := rfl
@[simp] theorem updFn_out k f : (s.updFn k f).out = s.out := rfl
@[simp] theorem updFn_freeIx k f : (s.updFn k f).freeIx = s.freeIx := rfl
@[simp] theorem updFn_pending k f : (s.updFn k f).pending = s.pending := rfl

@[simp] theorem fnCause_frame k c : (s.fnCause k c).frame = s.frame := rfl
@[simp] theorem fnCause_slate k c : (s.fnCause k c).slate = s.slate := rfl
@[simp] theorem fnCause_regs k c : (s.fnCause k c).regs = s.regs := rfl
@[simp] theorem fnCause_ctrs k c : (s.fnCause k c).ctrs = s.ctrs := rfl
@[simp] theorem fnCause_hdrs k c : (s.fnCause k c).hdrs = s.hdrs := rfl
@[simp] theorem fnCause_mgmt k c : (s.fnCause k c).mgmt = s.mgmt := rfl
@[simp] theorem fnCause_log k c : (s.fnCause k c).log = s.log := rfl
@[simp] theorem fnCause_daily k c : (s.fnCause k c).daily = s.daily := rfl
@[simp] theorem fnCause_svc k c : (s.fnCause k c).svc = s.svc := rfl
@[simp] theorem fnCause_svcEvt k c : (s.fnCause k c).svcEvt = s.svcEvt := rfl
@[simp] theorem fnCause_svcRej k c : (s.fnCause k c).svcRej = s.svcRej := rfl
@[simp] theorem fnCause_mem k c : (s.fnCause k c).mem = s.mem := rfl
@[simp] theorem fnCause_poison k c : (s.fnCause k c).poison = s.poison := rfl
@[simp] theorem fnCause_tier k c : (s.fnCause k c).tier = s.tier := rfl
@[simp] theorem fnCause_tenants k c : (s.fnCause k c).tenants = s.tenants := rfl
@[simp] theorem fnCause_tables k c : (s.fnCause k c).tables = s.tables := rfl
@[simp] theorem fnCause_hports k c : (s.fnCause k c).hports = s.hports := rfl
@[simp] theorem fnCause_extents k c : (s.fnCause k c).extents = s.extents := rfl
@[simp] theorem fnCause_mfn k c : (s.fnCause k c).mfn = s.mfn := rfl
@[simp] theorem fnCause_bg k c : (s.fnCause k c).bg = s.bg := rfl
@[simp] theorem fnCause_bgLast k c : (s.fnCause k c).bgLast = s.bgLast := rfl
@[simp] theorem fnCause_mctp k c : (s.fnCause k c).mctp = s.mctp := rfl
@[simp] theorem fnCause_dir k c : (s.fnCause k c).dir = s.dir := rfl
@[simp] theorem fnCause_rgl k c : (s.fnCause k c).rgl = s.rgl := rfl
@[simp] theorem fnCause_fab k c : (s.fnCause k c).fab = s.fab := rfl
@[simp] theorem fnCause_lanes k c : (s.fnCause k c).lanes = s.lanes := rfl
@[simp] theorem fnCause_pats k c : (s.fnCause k c).pats = s.pats := rfl
@[simp] theorem fnCause_chans k c : (s.fnCause k c).chans = s.chans := rfl
@[simp] theorem fnCause_dram k c : (s.fnCause k c).dram = s.dram := rfl
@[simp] theorem fnCause_shelf k c : (s.fnCause k c).shelf = s.shelf := rfl
@[simp] theorem fnCause_cues k c : (s.fnCause k c).cues = s.cues := rfl
@[simp] theorem fnCause_press k c : (s.fnCause k c).press = s.press := rfl
@[simp] theorem fnCause_coll k c : (s.fnCause k c).coll = s.coll := rfl
@[simp] theorem fnCause_power k c : (s.fnCause k c).power = s.power := rfl
@[simp] theorem fnCause_fw k c : (s.fnCause k c).fw = s.fw := rfl
@[simp] theorem fnCause_sys k c : (s.fnCause k c).sys = s.sys := rfl
@[simp] theorem fnCause_out k c : (s.fnCause k c).out = s.out := rfl
@[simp] theorem fnCause_freeIx k c : (s.fnCause k c).freeIx = s.freeIx := rfl
@[simp] theorem fnCause_pending k c : (s.fnCause k c).pending = s.pending := rfl

@[simp] theorem tierCount_frame sel : (s.tierCount sel).frame = s.frame := rfl
@[simp] theorem tierCount_slate sel : (s.tierCount sel).slate = s.slate := rfl
@[simp] theorem tierCount_regs sel : (s.tierCount sel).regs = s.regs := rfl
@[simp] theorem tierCount_hdrs sel : (s.tierCount sel).hdrs = s.hdrs := rfl
@[simp] theorem tierCount_mgmt sel : (s.tierCount sel).mgmt = s.mgmt := rfl
@[simp] theorem tierCount_log sel : (s.tierCount sel).log = s.log := rfl
@[simp] theorem tierCount_daily sel : (s.tierCount sel).daily = s.daily := rfl
@[simp] theorem tierCount_svc sel : (s.tierCount sel).svc = s.svc := rfl
@[simp] theorem tierCount_svcEvt sel : (s.tierCount sel).svcEvt = s.svcEvt := rfl
@[simp] theorem tierCount_svcRej sel : (s.tierCount sel).svcRej = s.svcRej := rfl
@[simp] theorem tierCount_mem sel : (s.tierCount sel).mem = s.mem := rfl
@[simp] theorem tierCount_poison sel : (s.tierCount sel).poison = s.poison := rfl
@[simp] theorem tierCount_tier sel : (s.tierCount sel).tier = s.tier := rfl
@[simp] theorem tierCount_tenants sel : (s.tierCount sel).tenants = s.tenants := rfl
@[simp] theorem tierCount_tables sel : (s.tierCount sel).tables = s.tables := rfl
@[simp] theorem tierCount_hports sel : (s.tierCount sel).hports = s.hports := rfl
@[simp] theorem tierCount_extents sel : (s.tierCount sel).extents = s.extents := rfl
@[simp] theorem tierCount_fns sel : (s.tierCount sel).fns = s.fns := rfl
@[simp] theorem tierCount_mfn sel : (s.tierCount sel).mfn = s.mfn := rfl
@[simp] theorem tierCount_bg sel : (s.tierCount sel).bg = s.bg := rfl
@[simp] theorem tierCount_bgLast sel : (s.tierCount sel).bgLast = s.bgLast := rfl
@[simp] theorem tierCount_mctp sel : (s.tierCount sel).mctp = s.mctp := rfl
@[simp] theorem tierCount_dir sel : (s.tierCount sel).dir = s.dir := rfl
@[simp] theorem tierCount_rgl sel : (s.tierCount sel).rgl = s.rgl := rfl
@[simp] theorem tierCount_fab sel : (s.tierCount sel).fab = s.fab := rfl
@[simp] theorem tierCount_lanes sel : (s.tierCount sel).lanes = s.lanes := rfl
@[simp] theorem tierCount_pats sel : (s.tierCount sel).pats = s.pats := rfl
@[simp] theorem tierCount_chans sel : (s.tierCount sel).chans = s.chans := rfl
@[simp] theorem tierCount_dram sel : (s.tierCount sel).dram = s.dram := rfl
@[simp] theorem tierCount_shelf sel : (s.tierCount sel).shelf = s.shelf := rfl
@[simp] theorem tierCount_cues sel : (s.tierCount sel).cues = s.cues := rfl
@[simp] theorem tierCount_press sel : (s.tierCount sel).press = s.press := rfl
@[simp] theorem tierCount_coll sel : (s.tierCount sel).coll = s.coll := rfl
@[simp] theorem tierCount_power sel : (s.tierCount sel).power = s.power := rfl
@[simp] theorem tierCount_fw sel : (s.tierCount sel).fw = s.fw := rfl
@[simp] theorem tierCount_sys sel : (s.tierCount sel).sys = s.sys := rfl
@[simp] theorem tierCount_out sel : (s.tierCount sel).out = s.out := rfl
@[simp] theorem tierCount_freeIx sel : (s.tierCount sel).freeIx = s.freeIx := rfl
@[simp] theorem tierCount_pending sel : (s.tierCount sel).pending = s.pending := rfl

@[simp] theorem dirCount_frame sel n : (s.dirCount sel n).frame = s.frame := rfl
@[simp] theorem dirCount_slate sel n : (s.dirCount sel n).slate = s.slate := rfl
@[simp] theorem dirCount_regs sel n : (s.dirCount sel n).regs = s.regs := rfl
@[simp] theorem dirCount_hdrs sel n : (s.dirCount sel n).hdrs = s.hdrs := rfl
@[simp] theorem dirCount_mgmt sel n : (s.dirCount sel n).mgmt = s.mgmt := rfl
@[simp] theorem dirCount_log sel n : (s.dirCount sel n).log = s.log := rfl
@[simp] theorem dirCount_daily sel n : (s.dirCount sel n).daily = s.daily := rfl
@[simp] theorem dirCount_svc sel n : (s.dirCount sel n).svc = s.svc := rfl
@[simp] theorem dirCount_svcEvt sel n : (s.dirCount sel n).svcEvt = s.svcEvt := rfl
@[simp] theorem dirCount_svcRej sel n : (s.dirCount sel n).svcRej = s.svcRej := rfl
@[simp] theorem dirCount_mem sel n : (s.dirCount sel n).mem = s.mem := rfl
@[simp] theorem dirCount_poison sel n : (s.dirCount sel n).poison = s.poison := rfl
@[simp] theorem dirCount_tier sel n : (s.dirCount sel n).tier = s.tier := rfl
@[simp] theorem dirCount_tenants sel n : (s.dirCount sel n).tenants = s.tenants := rfl
@[simp] theorem dirCount_tables sel n : (s.dirCount sel n).tables = s.tables := rfl
@[simp] theorem dirCount_hports sel n : (s.dirCount sel n).hports = s.hports := rfl
@[simp] theorem dirCount_extents sel n : (s.dirCount sel n).extents = s.extents := rfl
@[simp] theorem dirCount_fns sel n : (s.dirCount sel n).fns = s.fns := rfl
@[simp] theorem dirCount_mfn sel n : (s.dirCount sel n).mfn = s.mfn := rfl
@[simp] theorem dirCount_bg sel n : (s.dirCount sel n).bg = s.bg := rfl
@[simp] theorem dirCount_bgLast sel n : (s.dirCount sel n).bgLast = s.bgLast := rfl
@[simp] theorem dirCount_mctp sel n : (s.dirCount sel n).mctp = s.mctp := rfl
@[simp] theorem dirCount_dir sel n : (s.dirCount sel n).dir = s.dir := rfl
@[simp] theorem dirCount_rgl sel n : (s.dirCount sel n).rgl = s.rgl := rfl
@[simp] theorem dirCount_fab sel n : (s.dirCount sel n).fab = s.fab := rfl
@[simp] theorem dirCount_lanes sel n : (s.dirCount sel n).lanes = s.lanes := rfl
@[simp] theorem dirCount_pats sel n : (s.dirCount sel n).pats = s.pats := rfl
@[simp] theorem dirCount_chans sel n : (s.dirCount sel n).chans = s.chans := rfl
@[simp] theorem dirCount_dram sel n : (s.dirCount sel n).dram = s.dram := rfl
@[simp] theorem dirCount_shelf sel n : (s.dirCount sel n).shelf = s.shelf := rfl
@[simp] theorem dirCount_cues sel n : (s.dirCount sel n).cues = s.cues := rfl
@[simp] theorem dirCount_press sel n : (s.dirCount sel n).press = s.press := rfl
@[simp] theorem dirCount_coll sel n : (s.dirCount sel n).coll = s.coll := rfl
@[simp] theorem dirCount_power sel n : (s.dirCount sel n).power = s.power := rfl
@[simp] theorem dirCount_fw sel n : (s.dirCount sel n).fw = s.fw := rfl
@[simp] theorem dirCount_sys sel n : (s.dirCount sel n).sys = s.sys := rfl
@[simp] theorem dirCount_out sel n : (s.dirCount sel n).out = s.out := rfl
@[simp] theorem dirCount_freeIx sel n : (s.dirCount sel n).freeIx = s.freeIx := rfl
@[simp] theorem dirCount_pending sel n : (s.dirCount sel n).pending = s.pending := rfl

@[simp] theorem updSpdm_frame v f : (s.updSpdm v f).frame = s.frame := rfl
@[simp] theorem updSpdm_slate v f : (s.updSpdm v f).slate = s.slate := rfl
@[simp] theorem updSpdm_regs v f : (s.updSpdm v f).regs = s.regs := rfl
@[simp] theorem updSpdm_ctrs v f : (s.updSpdm v f).ctrs = s.ctrs := rfl
@[simp] theorem updSpdm_hdrs v f : (s.updSpdm v f).hdrs = s.hdrs := rfl
@[simp] theorem updSpdm_mgmt v f : (s.updSpdm v f).mgmt = s.mgmt := rfl
@[simp] theorem updSpdm_log v f : (s.updSpdm v f).log = s.log := rfl
@[simp] theorem updSpdm_daily v f : (s.updSpdm v f).daily = s.daily := rfl
@[simp] theorem updSpdm_svc v f : (s.updSpdm v f).svc = s.svc := rfl
@[simp] theorem updSpdm_svcEvt v f : (s.updSpdm v f).svcEvt = s.svcEvt := rfl
@[simp] theorem updSpdm_svcRej v f : (s.updSpdm v f).svcRej = s.svcRej := rfl
@[simp] theorem updSpdm_mem v f : (s.updSpdm v f).mem = s.mem := rfl
@[simp] theorem updSpdm_poison v f : (s.updSpdm v f).poison = s.poison := rfl
@[simp] theorem updSpdm_tier v f : (s.updSpdm v f).tier = s.tier := rfl
@[simp] theorem updSpdm_tenants v f : (s.updSpdm v f).tenants = s.tenants := rfl
@[simp] theorem updSpdm_tables v f : (s.updSpdm v f).tables = s.tables := rfl
@[simp] theorem updSpdm_hports v f : (s.updSpdm v f).hports = s.hports := rfl
@[simp] theorem updSpdm_extents v f : (s.updSpdm v f).extents = s.extents := rfl
@[simp] theorem updSpdm_fns v f : (s.updSpdm v f).fns = s.fns := rfl
@[simp] theorem updSpdm_mfn v f : (s.updSpdm v f).mfn = s.mfn := rfl
@[simp] theorem updSpdm_bg v f : (s.updSpdm v f).bg = s.bg := rfl
@[simp] theorem updSpdm_bgLast v f : (s.updSpdm v f).bgLast = s.bgLast := rfl
@[simp] theorem updSpdm_dir v f : (s.updSpdm v f).dir = s.dir := rfl
@[simp] theorem updSpdm_rgl v f : (s.updSpdm v f).rgl = s.rgl := rfl
@[simp] theorem updSpdm_fab v f : (s.updSpdm v f).fab = s.fab := rfl
@[simp] theorem updSpdm_lanes v f : (s.updSpdm v f).lanes = s.lanes := rfl
@[simp] theorem updSpdm_pats v f : (s.updSpdm v f).pats = s.pats := rfl
@[simp] theorem updSpdm_chans v f : (s.updSpdm v f).chans = s.chans := rfl
@[simp] theorem updSpdm_dram v f : (s.updSpdm v f).dram = s.dram := rfl
@[simp] theorem updSpdm_shelf v f : (s.updSpdm v f).shelf = s.shelf := rfl
@[simp] theorem updSpdm_cues v f : (s.updSpdm v f).cues = s.cues := rfl
@[simp] theorem updSpdm_press v f : (s.updSpdm v f).press = s.press := rfl
@[simp] theorem updSpdm_coll v f : (s.updSpdm v f).coll = s.coll := rfl
@[simp] theorem updSpdm_power v f : (s.updSpdm v f).power = s.power := rfl
@[simp] theorem updSpdm_fw v f : (s.updSpdm v f).fw = s.fw := rfl
@[simp] theorem updSpdm_sys v f : (s.updSpdm v f).sys = s.sys := rfl
@[simp] theorem updSpdm_out v f : (s.updSpdm v f).out = s.out := rfl
@[simp] theorem updSpdm_freeIx v f : (s.updSpdm v f).freeIx = s.freeIx := rfl
@[simp] theorem updSpdm_pending v f : (s.updSpdm v f).pending = s.pending := rfl

@[simp] theorem updPage_frame p f : (s.updPage p f).frame = s.frame := rfl
@[simp] theorem updPage_slate p f : (s.updPage p f).slate = s.slate := rfl
@[simp] theorem updPage_regs p f : (s.updPage p f).regs = s.regs := rfl
@[simp] theorem updPage_ctrs p f : (s.updPage p f).ctrs = s.ctrs := rfl
@[simp] theorem updPage_hdrs p f : (s.updPage p f).hdrs = s.hdrs := rfl
@[simp] theorem updPage_mgmt p f : (s.updPage p f).mgmt = s.mgmt := rfl
@[simp] theorem updPage_log p f : (s.updPage p f).log = s.log := rfl
@[simp] theorem updPage_daily p f : (s.updPage p f).daily = s.daily := rfl
@[simp] theorem updPage_svc p f : (s.updPage p f).svc = s.svc := rfl
@[simp] theorem updPage_svcEvt p f : (s.updPage p f).svcEvt = s.svcEvt := rfl
@[simp] theorem updPage_svcRej p f : (s.updPage p f).svcRej = s.svcRej := rfl
@[simp] theorem updPage_mem p f : (s.updPage p f).mem = s.mem := rfl
@[simp] theorem updPage_poison p f : (s.updPage p f).poison = s.poison := rfl
@[simp] theorem updPage_tenants p f : (s.updPage p f).tenants = s.tenants := rfl
@[simp] theorem updPage_tables p f : (s.updPage p f).tables = s.tables := rfl
@[simp] theorem updPage_hports p f : (s.updPage p f).hports = s.hports := rfl
@[simp] theorem updPage_extents p f : (s.updPage p f).extents = s.extents := rfl
@[simp] theorem updPage_fns p f : (s.updPage p f).fns = s.fns := rfl
@[simp] theorem updPage_mfn p f : (s.updPage p f).mfn = s.mfn := rfl
@[simp] theorem updPage_bg p f : (s.updPage p f).bg = s.bg := rfl
@[simp] theorem updPage_bgLast p f : (s.updPage p f).bgLast = s.bgLast := rfl
@[simp] theorem updPage_mctp p f : (s.updPage p f).mctp = s.mctp := rfl
@[simp] theorem updPage_dir p f : (s.updPage p f).dir = s.dir := rfl
@[simp] theorem updPage_rgl p f : (s.updPage p f).rgl = s.rgl := rfl
@[simp] theorem updPage_fab p f : (s.updPage p f).fab = s.fab := rfl
@[simp] theorem updPage_lanes p f : (s.updPage p f).lanes = s.lanes := rfl
@[simp] theorem updPage_pats p f : (s.updPage p f).pats = s.pats := rfl
@[simp] theorem updPage_chans p f : (s.updPage p f).chans = s.chans := rfl
@[simp] theorem updPage_dram p f : (s.updPage p f).dram = s.dram := rfl
@[simp] theorem updPage_shelf p f : (s.updPage p f).shelf = s.shelf := rfl
@[simp] theorem updPage_cues p f : (s.updPage p f).cues = s.cues := rfl
@[simp] theorem updPage_press p f : (s.updPage p f).press = s.press := rfl
@[simp] theorem updPage_coll p f : (s.updPage p f).coll = s.coll := rfl
@[simp] theorem updPage_power p f : (s.updPage p f).power = s.power := rfl
@[simp] theorem updPage_fw p f : (s.updPage p f).fw = s.fw := rfl
@[simp] theorem updPage_sys p f : (s.updPage p f).sys = s.sys := rfl
@[simp] theorem updPage_out p f : (s.updPage p f).out = s.out := rfl
@[simp] theorem updPage_freeIx p f : (s.updPage p f).freeIx = s.freeIx := rfl
@[simp] theorem updPage_pending p f : (s.updPage p f).pending = s.pending := rfl

@[simp] theorem writeByte_frame a b : (s.writeByte a b).frame = s.frame := rfl
@[simp] theorem writeByte_slate a b : (s.writeByte a b).slate = s.slate := rfl
@[simp] theorem writeByte_regs a b : (s.writeByte a b).regs = s.regs := rfl
@[simp] theorem writeByte_ctrs a b : (s.writeByte a b).ctrs = s.ctrs := rfl
@[simp] theorem writeByte_hdrs a b : (s.writeByte a b).hdrs = s.hdrs := rfl
@[simp] theorem writeByte_mgmt a b : (s.writeByte a b).mgmt = s.mgmt := rfl
@[simp] theorem writeByte_log a b : (s.writeByte a b).log = s.log := rfl
@[simp] theorem writeByte_daily a b : (s.writeByte a b).daily = s.daily := rfl
@[simp] theorem writeByte_svc a b : (s.writeByte a b).svc = s.svc := rfl
@[simp] theorem writeByte_svcEvt a b : (s.writeByte a b).svcEvt = s.svcEvt := rfl
@[simp] theorem writeByte_svcRej a b : (s.writeByte a b).svcRej = s.svcRej := rfl
@[simp] theorem writeByte_poison a b : (s.writeByte a b).poison = s.poison := rfl
@[simp] theorem writeByte_tier a b : (s.writeByte a b).tier = s.tier := rfl
@[simp] theorem writeByte_tenants a b : (s.writeByte a b).tenants = s.tenants := rfl
@[simp] theorem writeByte_tables a b : (s.writeByte a b).tables = s.tables := rfl
@[simp] theorem writeByte_hports a b : (s.writeByte a b).hports = s.hports := rfl
@[simp] theorem writeByte_extents a b : (s.writeByte a b).extents = s.extents := rfl
@[simp] theorem writeByte_fns a b : (s.writeByte a b).fns = s.fns := rfl
@[simp] theorem writeByte_mfn a b : (s.writeByte a b).mfn = s.mfn := rfl
@[simp] theorem writeByte_bg a b : (s.writeByte a b).bg = s.bg := rfl
@[simp] theorem writeByte_bgLast a b : (s.writeByte a b).bgLast = s.bgLast := rfl
@[simp] theorem writeByte_mctp a b : (s.writeByte a b).mctp = s.mctp := rfl
@[simp] theorem writeByte_dir a b : (s.writeByte a b).dir = s.dir := rfl
@[simp] theorem writeByte_rgl a b : (s.writeByte a b).rgl = s.rgl := rfl
@[simp] theorem writeByte_fab a b : (s.writeByte a b).fab = s.fab := rfl
@[simp] theorem writeByte_lanes a b : (s.writeByte a b).lanes = s.lanes := rfl
@[simp] theorem writeByte_pats a b : (s.writeByte a b).pats = s.pats := rfl
@[simp] theorem writeByte_chans a b : (s.writeByte a b).chans = s.chans := rfl
@[simp] theorem writeByte_dram a b : (s.writeByte a b).dram = s.dram := rfl
@[simp] theorem writeByte_shelf a b : (s.writeByte a b).shelf = s.shelf := rfl
@[simp] theorem writeByte_cues a b : (s.writeByte a b).cues = s.cues := rfl
@[simp] theorem writeByte_press a b : (s.writeByte a b).press = s.press := rfl
@[simp] theorem writeByte_coll a b : (s.writeByte a b).coll = s.coll := rfl
@[simp] theorem writeByte_power a b : (s.writeByte a b).power = s.power := rfl
@[simp] theorem writeByte_fw a b : (s.writeByte a b).fw = s.fw := rfl
@[simp] theorem writeByte_sys a b : (s.writeByte a b).sys = s.sys := rfl
@[simp] theorem writeByte_out a b : (s.writeByte a b).out = s.out := rfl
@[simp] theorem writeByte_freeIx a b : (s.writeByte a b).freeIx = s.freeIx := rfl
@[simp] theorem writeByte_pending a b : (s.writeByte a b).pending = s.pending := rfl

@[simp] theorem setPoison_frame l b : (s.setPoison l b).frame = s.frame := rfl
@[simp] theorem setPoison_slate l b : (s.setPoison l b).slate = s.slate := rfl
@[simp] theorem setPoison_regs l b : (s.setPoison l b).regs = s.regs := rfl
@[simp] theorem setPoison_ctrs l b : (s.setPoison l b).ctrs = s.ctrs := rfl
@[simp] theorem setPoison_hdrs l b : (s.setPoison l b).hdrs = s.hdrs := rfl
@[simp] theorem setPoison_mgmt l b : (s.setPoison l b).mgmt = s.mgmt := rfl
@[simp] theorem setPoison_log l b : (s.setPoison l b).log = s.log := rfl
@[simp] theorem setPoison_daily l b : (s.setPoison l b).daily = s.daily := rfl
@[simp] theorem setPoison_svc l b : (s.setPoison l b).svc = s.svc := rfl
@[simp] theorem setPoison_svcEvt l b : (s.setPoison l b).svcEvt = s.svcEvt := rfl
@[simp] theorem setPoison_svcRej l b : (s.setPoison l b).svcRej = s.svcRej := rfl
@[simp] theorem setPoison_mem l b : (s.setPoison l b).mem = s.mem := rfl
@[simp] theorem setPoison_tier l b : (s.setPoison l b).tier = s.tier := rfl
@[simp] theorem setPoison_tenants l b : (s.setPoison l b).tenants = s.tenants := rfl
@[simp] theorem setPoison_tables l b : (s.setPoison l b).tables = s.tables := rfl
@[simp] theorem setPoison_hports l b : (s.setPoison l b).hports = s.hports := rfl
@[simp] theorem setPoison_extents l b : (s.setPoison l b).extents = s.extents := rfl
@[simp] theorem setPoison_fns l b : (s.setPoison l b).fns = s.fns := rfl
@[simp] theorem setPoison_mfn l b : (s.setPoison l b).mfn = s.mfn := rfl
@[simp] theorem setPoison_bg l b : (s.setPoison l b).bg = s.bg := rfl
@[simp] theorem setPoison_bgLast l b : (s.setPoison l b).bgLast = s.bgLast := rfl
@[simp] theorem setPoison_mctp l b : (s.setPoison l b).mctp = s.mctp := rfl
@[simp] theorem setPoison_dir l b : (s.setPoison l b).dir = s.dir := rfl
@[simp] theorem setPoison_rgl l b : (s.setPoison l b).rgl = s.rgl := rfl
@[simp] theorem setPoison_fab l b : (s.setPoison l b).fab = s.fab := rfl
@[simp] theorem setPoison_lanes l b : (s.setPoison l b).lanes = s.lanes := rfl
@[simp] theorem setPoison_pats l b : (s.setPoison l b).pats = s.pats := rfl
@[simp] theorem setPoison_chans l b : (s.setPoison l b).chans = s.chans := rfl
@[simp] theorem setPoison_dram l b : (s.setPoison l b).dram = s.dram := rfl
@[simp] theorem setPoison_shelf l b : (s.setPoison l b).shelf = s.shelf := rfl
@[simp] theorem setPoison_cues l b : (s.setPoison l b).cues = s.cues := rfl
@[simp] theorem setPoison_press l b : (s.setPoison l b).press = s.press := rfl
@[simp] theorem setPoison_coll l b : (s.setPoison l b).coll = s.coll := rfl
@[simp] theorem setPoison_power l b : (s.setPoison l b).power = s.power := rfl
@[simp] theorem setPoison_fw l b : (s.setPoison l b).fw = s.fw := rfl
@[simp] theorem setPoison_sys l b : (s.setPoison l b).sys = s.sys := rfl
@[simp] theorem setPoison_out l b : (s.setPoison l b).out = s.out := rfl
@[simp] theorem setPoison_freeIx l b : (s.setPoison l b).freeIx = s.freeIx := rfl
@[simp] theorem setPoison_pending l b : (s.setPoison l b).pending = s.pending := rfl

@[simp] theorem inFrame_slate n : (s.inFrame n).slate = s.slate := rfl
@[simp] theorem inFrame_regs n : (s.inFrame n).regs = s.regs := rfl
@[simp] theorem inFrame_ctrs n : (s.inFrame n).ctrs = s.ctrs := rfl
@[simp] theorem inFrame_hdrs n : (s.inFrame n).hdrs = s.hdrs := rfl
@[simp] theorem inFrame_mgmt n : (s.inFrame n).mgmt = s.mgmt := rfl
@[simp] theorem inFrame_log n : (s.inFrame n).log = s.log := rfl
@[simp] theorem inFrame_daily n : (s.inFrame n).daily = s.daily := rfl
@[simp] theorem inFrame_svc n : (s.inFrame n).svc = s.svc := rfl
@[simp] theorem inFrame_svcEvt n : (s.inFrame n).svcEvt = s.svcEvt := rfl
@[simp] theorem inFrame_svcRej n : (s.inFrame n).svcRej = s.svcRej := rfl
@[simp] theorem inFrame_mem n : (s.inFrame n).mem = s.mem := rfl
@[simp] theorem inFrame_poison n : (s.inFrame n).poison = s.poison := rfl
@[simp] theorem inFrame_tier n : (s.inFrame n).tier = s.tier := rfl
@[simp] theorem inFrame_tenants n : (s.inFrame n).tenants = s.tenants := rfl
@[simp] theorem inFrame_tables n : (s.inFrame n).tables = s.tables := rfl
@[simp] theorem inFrame_hports n : (s.inFrame n).hports = s.hports := rfl
@[simp] theorem inFrame_extents n : (s.inFrame n).extents = s.extents := rfl
@[simp] theorem inFrame_fns n : (s.inFrame n).fns = s.fns := rfl
@[simp] theorem inFrame_mfn n : (s.inFrame n).mfn = s.mfn := rfl
@[simp] theorem inFrame_bg n : (s.inFrame n).bg = s.bg := rfl
@[simp] theorem inFrame_bgLast n : (s.inFrame n).bgLast = s.bgLast := rfl
@[simp] theorem inFrame_mctp n : (s.inFrame n).mctp = s.mctp := rfl
@[simp] theorem inFrame_dir n : (s.inFrame n).dir = s.dir := rfl
@[simp] theorem inFrame_rgl n : (s.inFrame n).rgl = s.rgl := rfl
@[simp] theorem inFrame_fab n : (s.inFrame n).fab = s.fab := rfl
@[simp] theorem inFrame_lanes n : (s.inFrame n).lanes = s.lanes := rfl
@[simp] theorem inFrame_pats n : (s.inFrame n).pats = s.pats := rfl
@[simp] theorem inFrame_chans n : (s.inFrame n).chans = s.chans := rfl
@[simp] theorem inFrame_dram n : (s.inFrame n).dram = s.dram := rfl
@[simp] theorem inFrame_shelf n : (s.inFrame n).shelf = s.shelf := rfl
@[simp] theorem inFrame_cues n : (s.inFrame n).cues = s.cues := rfl
@[simp] theorem inFrame_press n : (s.inFrame n).press = s.press := rfl
@[simp] theorem inFrame_coll n : (s.inFrame n).coll = s.coll := rfl
@[simp] theorem inFrame_power n : (s.inFrame n).power = s.power := rfl
@[simp] theorem inFrame_fw n : (s.inFrame n).fw = s.fw := rfl
@[simp] theorem inFrame_sys n : (s.inFrame n).sys = s.sys := rfl
@[simp] theorem inFrame_out n : (s.inFrame n).out = s.out := rfl
@[simp] theorem inFrame_freeIx n : (s.inFrame n).freeIx = s.freeIx := rfl
@[simp] theorem inFrame_pending n : (s.inFrame n).pending = s.pending := rfl

end Sys2Proof.Machine
end

