-- ==== Sys2Proof/Laws/Shared.lean ====
section
/-!
SUPPORT. What each shared operation leaves as it was: one lemma for each field it never writes.
-/

namespace Sys2Proof.Machine

open Sys2Proof

variable (s : State)

@[simp] theorem pageCause_frame p : (s.pageCause p).frame = s.frame := by simp [State.pageCause]
@[simp] theorem pageCause_slate p : (s.pageCause p).slate = s.slate := by simp [State.pageCause]
@[simp] theorem pageCause_regs p : (s.pageCause p).regs = s.regs := by simp [State.pageCause]
@[simp] theorem pageCause_ctrs p : (s.pageCause p).ctrs = s.ctrs := by simp [State.pageCause]
@[simp] theorem pageCause_hdrs p : (s.pageCause p).hdrs = s.hdrs := by simp [State.pageCause]
@[simp] theorem pageCause_mgmt p : (s.pageCause p).mgmt = s.mgmt := by simp [State.pageCause]
@[simp] theorem pageCause_log p : (s.pageCause p).log = s.log := by simp [State.pageCause]
@[simp] theorem pageCause_daily p : (s.pageCause p).daily = s.daily := by simp [State.pageCause]
@[simp] theorem pageCause_svc p : (s.pageCause p).svc = s.svc := by simp [State.pageCause]
@[simp] theorem pageCause_svcEvt p : (s.pageCause p).svcEvt = s.svcEvt := by simp [State.pageCause]
@[simp] theorem pageCause_svcRej p : (s.pageCause p).svcRej = s.svcRej := by simp [State.pageCause]
@[simp] theorem pageCause_mem p : (s.pageCause p).mem = s.mem := by simp [State.pageCause]
@[simp] theorem pageCause_poison p : (s.pageCause p).poison = s.poison := by simp [State.pageCause]
@[simp] theorem pageCause_tier p : (s.pageCause p).tier = s.tier := by simp [State.pageCause]
@[simp] theorem pageCause_tenants p : (s.pageCause p).tenants = s.tenants := by simp [State.pageCause]
@[simp] theorem pageCause_tables p : (s.pageCause p).tables = s.tables := by simp [State.pageCause]
@[simp] theorem pageCause_hports p : (s.pageCause p).hports = s.hports := by simp [State.pageCause]
@[simp] theorem pageCause_extents p : (s.pageCause p).extents = s.extents := by simp [State.pageCause]
@[simp] theorem pageCause_fns p : (s.pageCause p).fns = s.fns := by simp [State.pageCause]
@[simp] theorem pageCause_bg p : (s.pageCause p).bg = s.bg := by simp [State.pageCause]
@[simp] theorem pageCause_bgLast p : (s.pageCause p).bgLast = s.bgLast := by simp [State.pageCause]
@[simp] theorem pageCause_mctp p : (s.pageCause p).mctp = s.mctp := by simp [State.pageCause]
@[simp] theorem pageCause_dir p : (s.pageCause p).dir = s.dir := by simp [State.pageCause]
@[simp] theorem pageCause_rgl p : (s.pageCause p).rgl = s.rgl := by simp [State.pageCause]
@[simp] theorem pageCause_fab p : (s.pageCause p).fab = s.fab := by simp [State.pageCause]
@[simp] theorem pageCause_lanes p : (s.pageCause p).lanes = s.lanes := by simp [State.pageCause]
@[simp] theorem pageCause_pats p : (s.pageCause p).pats = s.pats := by simp [State.pageCause]
@[simp] theorem pageCause_chans p : (s.pageCause p).chans = s.chans := by simp [State.pageCause]
@[simp] theorem pageCause_dram p : (s.pageCause p).dram = s.dram := by simp [State.pageCause]
@[simp] theorem pageCause_shelf p : (s.pageCause p).shelf = s.shelf := by simp [State.pageCause]
@[simp] theorem pageCause_cues p : (s.pageCause p).cues = s.cues := by simp [State.pageCause]
@[simp] theorem pageCause_press p : (s.pageCause p).press = s.press := by simp [State.pageCause]
@[simp] theorem pageCause_coll p : (s.pageCause p).coll = s.coll := by simp [State.pageCause]
@[simp] theorem pageCause_power p : (s.pageCause p).power = s.power := by simp [State.pageCause]
@[simp] theorem pageCause_fw p : (s.pageCause p).fw = s.fw := by simp [State.pageCause]
@[simp] theorem pageCause_sys p : (s.pageCause p).sys = s.sys := by simp [State.pageCause]
@[simp] theorem pageCause_out p : (s.pageCause p).out = s.out := by simp [State.pageCause]
@[simp] theorem pageCause_freeIx p : (s.pageCause p).freeIx = s.freeIx := by simp [State.pageCause]
@[simp] theorem pageCause_pending p : (s.pageCause p).pending = s.pending := by simp [State.pageCause]

@[simp] theorem setEvt_frame p b : (s.setEvt p b).frame = s.frame := by simp [State.setEvt]
@[simp] theorem setEvt_slate p b : (s.setEvt p b).slate = s.slate := by simp [State.setEvt]
@[simp] theorem setEvt_regs p b : (s.setEvt p b).regs = s.regs := by simp [State.setEvt]
@[simp] theorem setEvt_ctrs p b : (s.setEvt p b).ctrs = s.ctrs := by simp [State.setEvt]
@[simp] theorem setEvt_mgmt p b : (s.setEvt p b).mgmt = s.mgmt := by simp [State.setEvt]
@[simp] theorem setEvt_log p b : (s.setEvt p b).log = s.log := by simp [State.setEvt]
@[simp] theorem setEvt_daily p b : (s.setEvt p b).daily = s.daily := by simp [State.setEvt]
@[simp] theorem setEvt_svc p b : (s.setEvt p b).svc = s.svc := by simp [State.setEvt]
@[simp] theorem setEvt_svcEvt p b : (s.setEvt p b).svcEvt = s.svcEvt := by simp [State.setEvt]
@[simp] theorem setEvt_svcRej p b : (s.setEvt p b).svcRej = s.svcRej := by simp [State.setEvt]
@[simp] theorem setEvt_mem p b : (s.setEvt p b).mem = s.mem := by simp [State.setEvt]
@[simp] theorem setEvt_poison p b : (s.setEvt p b).poison = s.poison := by simp [State.setEvt]
@[simp] theorem setEvt_tier p b : (s.setEvt p b).tier = s.tier := by simp [State.setEvt]
@[simp] theorem setEvt_tenants p b : (s.setEvt p b).tenants = s.tenants := by simp [State.setEvt]
@[simp] theorem setEvt_tables p b : (s.setEvt p b).tables = s.tables := by simp [State.setEvt]
@[simp] theorem setEvt_hports p b : (s.setEvt p b).hports = s.hports := by simp [State.setEvt]
@[simp] theorem setEvt_extents p b : (s.setEvt p b).extents = s.extents := by simp [State.setEvt]
@[simp] theorem setEvt_fns p b : (s.setEvt p b).fns = s.fns := by simp [State.setEvt]
@[simp] theorem setEvt_bg p b : (s.setEvt p b).bg = s.bg := by simp [State.setEvt]
@[simp] theorem setEvt_bgLast p b : (s.setEvt p b).bgLast = s.bgLast := by simp [State.setEvt]
@[simp] theorem setEvt_mctp p b : (s.setEvt p b).mctp = s.mctp := by simp [State.setEvt]
@[simp] theorem setEvt_dir p b : (s.setEvt p b).dir = s.dir := by simp [State.setEvt]
@[simp] theorem setEvt_rgl p b : (s.setEvt p b).rgl = s.rgl := by simp [State.setEvt]
@[simp] theorem setEvt_fab p b : (s.setEvt p b).fab = s.fab := by simp [State.setEvt]
@[simp] theorem setEvt_lanes p b : (s.setEvt p b).lanes = s.lanes := by simp [State.setEvt]
@[simp] theorem setEvt_pats p b : (s.setEvt p b).pats = s.pats := by simp [State.setEvt]
@[simp] theorem setEvt_chans p b : (s.setEvt p b).chans = s.chans := by simp [State.setEvt]
@[simp] theorem setEvt_dram p b : (s.setEvt p b).dram = s.dram := by simp [State.setEvt]
@[simp] theorem setEvt_shelf p b : (s.setEvt p b).shelf = s.shelf := by simp [State.setEvt]
@[simp] theorem setEvt_cues p b : (s.setEvt p b).cues = s.cues := by simp [State.setEvt]
@[simp] theorem setEvt_press p b : (s.setEvt p b).press = s.press := by simp [State.setEvt]
@[simp] theorem setEvt_coll p b : (s.setEvt p b).coll = s.coll := by simp [State.setEvt]
@[simp] theorem setEvt_power p b : (s.setEvt p b).power = s.power := by simp [State.setEvt]
@[simp] theorem setEvt_fw p b : (s.setEvt p b).fw = s.fw := by simp [State.setEvt]
@[simp] theorem setEvt_sys p b : (s.setEvt p b).sys = s.sys := by simp [State.setEvt]
@[simp] theorem setEvt_out p b : (s.setEvt p b).out = s.out := by simp [State.setEvt]
@[simp] theorem setEvt_freeIx p b : (s.setEvt p b).freeIx = s.freeIx := by simp [State.setEvt]
@[simp] theorem setEvt_pending p b : (s.setEvt p b).pending = s.pending := by simp [State.setEvt]

@[simp] theorem setSvcEvt_frame b : (s.setSvcEvt b).frame = s.frame := by simp [State.setSvcEvt]
@[simp] theorem setSvcEvt_slate b : (s.setSvcEvt b).slate = s.slate := by simp [State.setSvcEvt]
@[simp] theorem setSvcEvt_regs b : (s.setSvcEvt b).regs = s.regs := by simp [State.setSvcEvt]
@[simp] theorem setSvcEvt_ctrs b : (s.setSvcEvt b).ctrs = s.ctrs := by simp [State.setSvcEvt]
@[simp] theorem setSvcEvt_hdrs b : (s.setSvcEvt b).hdrs = s.hdrs := by simp [State.setSvcEvt]
@[simp] theorem setSvcEvt_mgmt b : (s.setSvcEvt b).mgmt = s.mgmt := by simp [State.setSvcEvt]
@[simp] theorem setSvcEvt_log b : (s.setSvcEvt b).log = s.log := by simp [State.setSvcEvt]
@[simp] theorem setSvcEvt_daily b : (s.setSvcEvt b).daily = s.daily := by simp [State.setSvcEvt]
@[simp] theorem setSvcEvt_svc b : (s.setSvcEvt b).svc = s.svc := by simp [State.setSvcEvt]
@[simp] theorem setSvcEvt_svcRej b : (s.setSvcEvt b).svcRej = s.svcRej := by simp [State.setSvcEvt]
@[simp] theorem setSvcEvt_mem b : (s.setSvcEvt b).mem = s.mem := by simp [State.setSvcEvt]
@[simp] theorem setSvcEvt_poison b : (s.setSvcEvt b).poison = s.poison := by simp [State.setSvcEvt]
@[simp] theorem setSvcEvt_tier b : (s.setSvcEvt b).tier = s.tier := by simp [State.setSvcEvt]
@[simp] theorem setSvcEvt_tenants b : (s.setSvcEvt b).tenants = s.tenants := by simp [State.setSvcEvt]
@[simp] theorem setSvcEvt_tables b : (s.setSvcEvt b).tables = s.tables := by simp [State.setSvcEvt]
@[simp] theorem setSvcEvt_hports b : (s.setSvcEvt b).hports = s.hports := by simp [State.setSvcEvt]
@[simp] theorem setSvcEvt_extents b : (s.setSvcEvt b).extents = s.extents := by simp [State.setSvcEvt]
@[simp] theorem setSvcEvt_fns b : (s.setSvcEvt b).fns = s.fns := by simp [State.setSvcEvt]
@[simp] theorem setSvcEvt_bg b : (s.setSvcEvt b).bg = s.bg := by simp [State.setSvcEvt]
@[simp] theorem setSvcEvt_bgLast b : (s.setSvcEvt b).bgLast = s.bgLast := by simp [State.setSvcEvt]
@[simp] theorem setSvcEvt_mctp b : (s.setSvcEvt b).mctp = s.mctp := by simp [State.setSvcEvt]
@[simp] theorem setSvcEvt_dir b : (s.setSvcEvt b).dir = s.dir := by simp [State.setSvcEvt]
@[simp] theorem setSvcEvt_rgl b : (s.setSvcEvt b).rgl = s.rgl := by simp [State.setSvcEvt]
@[simp] theorem setSvcEvt_fab b : (s.setSvcEvt b).fab = s.fab := by simp [State.setSvcEvt]
@[simp] theorem setSvcEvt_lanes b : (s.setSvcEvt b).lanes = s.lanes := by simp [State.setSvcEvt]
@[simp] theorem setSvcEvt_pats b : (s.setSvcEvt b).pats = s.pats := by simp [State.setSvcEvt]
@[simp] theorem setSvcEvt_chans b : (s.setSvcEvt b).chans = s.chans := by simp [State.setSvcEvt]
@[simp] theorem setSvcEvt_dram b : (s.setSvcEvt b).dram = s.dram := by simp [State.setSvcEvt]
@[simp] theorem setSvcEvt_shelf b : (s.setSvcEvt b).shelf = s.shelf := by simp [State.setSvcEvt]
@[simp] theorem setSvcEvt_cues b : (s.setSvcEvt b).cues = s.cues := by simp [State.setSvcEvt]
@[simp] theorem setSvcEvt_press b : (s.setSvcEvt b).press = s.press := by simp [State.setSvcEvt]
@[simp] theorem setSvcEvt_coll b : (s.setSvcEvt b).coll = s.coll := by simp [State.setSvcEvt]
@[simp] theorem setSvcEvt_power b : (s.setSvcEvt b).power = s.power := by simp [State.setSvcEvt]
@[simp] theorem setSvcEvt_fw b : (s.setSvcEvt b).fw = s.fw := by simp [State.setSvcEvt]
@[simp] theorem setSvcEvt_sys b : (s.setSvcEvt b).sys = s.sys := by simp [State.setSvcEvt]
@[simp] theorem setSvcEvt_out b : (s.setSvcEvt b).out = s.out := by simp [State.setSvcEvt]
@[simp] theorem setSvcEvt_freeIx b : (s.setSvcEvt b).freeIx = s.freeIx := by simp [State.setSvcEvt]
@[simp] theorem setSvcEvt_pending b : (s.setSvcEvt b).pending = s.pending := by simp [State.setSvcEvt]

@[simp] theorem charge_frame g i sub o c : (s.charge g i sub o c).frame = s.frame := by simp [State.charge]
@[simp] theorem charge_regs g i sub o c : (s.charge g i sub o c).regs = s.regs := by simp [State.charge]
@[simp] theorem charge_ctrs g i sub o c : (s.charge g i sub o c).ctrs = s.ctrs := by simp [State.charge]
@[simp] theorem charge_hdrs g i sub o c : (s.charge g i sub o c).hdrs = s.hdrs := by simp [State.charge]
@[simp] theorem charge_mgmt g i sub o c : (s.charge g i sub o c).mgmt = s.mgmt := by simp [State.charge]
@[simp] theorem charge_log g i sub o c : (s.charge g i sub o c).log = s.log := by simp [State.charge]
@[simp] theorem charge_svc g i sub o c : (s.charge g i sub o c).svc = s.svc := by simp [State.charge]
@[simp] theorem charge_svcEvt g i sub o c : (s.charge g i sub o c).svcEvt = s.svcEvt := by simp [State.charge]
@[simp] theorem charge_svcRej g i sub o c : (s.charge g i sub o c).svcRej = s.svcRej := by simp [State.charge]
@[simp] theorem charge_mem g i sub o c : (s.charge g i sub o c).mem = s.mem := by simp [State.charge]
@[simp] theorem charge_poison g i sub o c : (s.charge g i sub o c).poison = s.poison := by simp [State.charge]
@[simp] theorem charge_tier g i sub o c : (s.charge g i sub o c).tier = s.tier := by simp [State.charge]
@[simp] theorem charge_tenants g i sub o c : (s.charge g i sub o c).tenants = s.tenants := by simp [State.charge]
@[simp] theorem charge_tables g i sub o c : (s.charge g i sub o c).tables = s.tables := by simp [State.charge]
@[simp] theorem charge_hports g i sub o c : (s.charge g i sub o c).hports = s.hports := by simp [State.charge]
@[simp] theorem charge_extents g i sub o c : (s.charge g i sub o c).extents = s.extents := by simp [State.charge]
@[simp] theorem charge_fns g i sub o c : (s.charge g i sub o c).fns = s.fns := by simp [State.charge]
@[simp] theorem charge_mfn g i sub o c : (s.charge g i sub o c).mfn = s.mfn := by simp [State.charge]
@[simp] theorem charge_bg g i sub o c : (s.charge g i sub o c).bg = s.bg := by simp [State.charge]
@[simp] theorem charge_bgLast g i sub o c : (s.charge g i sub o c).bgLast = s.bgLast := by simp [State.charge]
@[simp] theorem charge_mctp g i sub o c : (s.charge g i sub o c).mctp = s.mctp := by simp [State.charge]
@[simp] theorem charge_dir g i sub o c : (s.charge g i sub o c).dir = s.dir := by simp [State.charge]
@[simp] theorem charge_rgl g i sub o c : (s.charge g i sub o c).rgl = s.rgl := by simp [State.charge]
@[simp] theorem charge_fab g i sub o c : (s.charge g i sub o c).fab = s.fab := by simp [State.charge]
@[simp] theorem charge_lanes g i sub o c : (s.charge g i sub o c).lanes = s.lanes := by simp [State.charge]
@[simp] theorem charge_pats g i sub o c : (s.charge g i sub o c).pats = s.pats := by simp [State.charge]
@[simp] theorem charge_chans g i sub o c : (s.charge g i sub o c).chans = s.chans := by simp [State.charge]
@[simp] theorem charge_dram g i sub o c : (s.charge g i sub o c).dram = s.dram := by simp [State.charge]
@[simp] theorem charge_shelf g i sub o c : (s.charge g i sub o c).shelf = s.shelf := by simp [State.charge]
@[simp] theorem charge_cues g i sub o c : (s.charge g i sub o c).cues = s.cues := by simp [State.charge]
@[simp] theorem charge_press g i sub o c : (s.charge g i sub o c).press = s.press := by simp [State.charge]
@[simp] theorem charge_coll g i sub o c : (s.charge g i sub o c).coll = s.coll := by simp [State.charge]
@[simp] theorem charge_power g i sub o c : (s.charge g i sub o c).power = s.power := by simp [State.charge]
@[simp] theorem charge_fw g i sub o c : (s.charge g i sub o c).fw = s.fw := by simp [State.charge]
@[simp] theorem charge_sys g i sub o c : (s.charge g i sub o c).sys = s.sys := by simp [State.charge]
@[simp] theorem charge_out g i sub o c : (s.charge g i sub o c).out = s.out := by simp [State.charge]
@[simp] theorem charge_freeIx g i sub o c : (s.charge g i sub o c).freeIx = s.freeIx := by simp [State.charge]
@[simp] theorem charge_pending g i sub o c : (s.charge g i sub o c).pending = s.pending := by simp [State.charge]

@[simp] theorem chargeSplit_frame g i sub o c : (s.chargeSplit g i sub o c).frame = s.frame := by simp [State.chargeSplit]
@[simp] theorem chargeSplit_regs g i sub o c : (s.chargeSplit g i sub o c).regs = s.regs := by simp [State.chargeSplit]
@[simp] theorem chargeSplit_ctrs g i sub o c : (s.chargeSplit g i sub o c).ctrs = s.ctrs := by simp [State.chargeSplit]
@[simp] theorem chargeSplit_hdrs g i sub o c : (s.chargeSplit g i sub o c).hdrs = s.hdrs := by simp [State.chargeSplit]
@[simp] theorem chargeSplit_mgmt g i sub o c : (s.chargeSplit g i sub o c).mgmt = s.mgmt := by simp [State.chargeSplit]
@[simp] theorem chargeSplit_log g i sub o c : (s.chargeSplit g i sub o c).log = s.log := by simp [State.chargeSplit]
@[simp] theorem chargeSplit_svc g i sub o c : (s.chargeSplit g i sub o c).svc = s.svc := by simp [State.chargeSplit]
@[simp] theorem chargeSplit_svcEvt g i sub o c : (s.chargeSplit g i sub o c).svcEvt = s.svcEvt := by simp [State.chargeSplit]
@[simp] theorem chargeSplit_svcRej g i sub o c : (s.chargeSplit g i sub o c).svcRej = s.svcRej := by simp [State.chargeSplit]
@[simp] theorem chargeSplit_mem g i sub o c : (s.chargeSplit g i sub o c).mem = s.mem := by simp [State.chargeSplit]
@[simp] theorem chargeSplit_poison g i sub o c : (s.chargeSplit g i sub o c).poison = s.poison := by simp [State.chargeSplit]
@[simp] theorem chargeSplit_tier g i sub o c : (s.chargeSplit g i sub o c).tier = s.tier := by simp [State.chargeSplit]
@[simp] theorem chargeSplit_tenants g i sub o c : (s.chargeSplit g i sub o c).tenants = s.tenants := by simp [State.chargeSplit]
@[simp] theorem chargeSplit_tables g i sub o c : (s.chargeSplit g i sub o c).tables = s.tables := by simp [State.chargeSplit]
@[simp] theorem chargeSplit_hports g i sub o c : (s.chargeSplit g i sub o c).hports = s.hports := by simp [State.chargeSplit]
@[simp] theorem chargeSplit_extents g i sub o c : (s.chargeSplit g i sub o c).extents = s.extents := by simp [State.chargeSplit]
@[simp] theorem chargeSplit_fns g i sub o c : (s.chargeSplit g i sub o c).fns = s.fns := by simp [State.chargeSplit]
@[simp] theorem chargeSplit_mfn g i sub o c : (s.chargeSplit g i sub o c).mfn = s.mfn := by simp [State.chargeSplit]
@[simp] theorem chargeSplit_bg g i sub o c : (s.chargeSplit g i sub o c).bg = s.bg := by simp [State.chargeSplit]
@[simp] theorem chargeSplit_bgLast g i sub o c : (s.chargeSplit g i sub o c).bgLast = s.bgLast := by simp [State.chargeSplit]
@[simp] theorem chargeSplit_mctp g i sub o c : (s.chargeSplit g i sub o c).mctp = s.mctp := by simp [State.chargeSplit]
@[simp] theorem chargeSplit_dir g i sub o c : (s.chargeSplit g i sub o c).dir = s.dir := by simp [State.chargeSplit]
@[simp] theorem chargeSplit_rgl g i sub o c : (s.chargeSplit g i sub o c).rgl = s.rgl := by simp [State.chargeSplit]
@[simp] theorem chargeSplit_fab g i sub o c : (s.chargeSplit g i sub o c).fab = s.fab := by simp [State.chargeSplit]
@[simp] theorem chargeSplit_lanes g i sub o c : (s.chargeSplit g i sub o c).lanes = s.lanes := by simp [State.chargeSplit]
@[simp] theorem chargeSplit_pats g i sub o c : (s.chargeSplit g i sub o c).pats = s.pats := by simp [State.chargeSplit]
@[simp] theorem chargeSplit_chans g i sub o c : (s.chargeSplit g i sub o c).chans = s.chans := by simp [State.chargeSplit]
@[simp] theorem chargeSplit_dram g i sub o c : (s.chargeSplit g i sub o c).dram = s.dram := by simp [State.chargeSplit]
@[simp] theorem chargeSplit_shelf g i sub o c : (s.chargeSplit g i sub o c).shelf = s.shelf := by simp [State.chargeSplit]
@[simp] theorem chargeSplit_cues g i sub o c : (s.chargeSplit g i sub o c).cues = s.cues := by simp [State.chargeSplit]
@[simp] theorem chargeSplit_press g i sub o c : (s.chargeSplit g i sub o c).press = s.press := by simp [State.chargeSplit]
@[simp] theorem chargeSplit_coll g i sub o c : (s.chargeSplit g i sub o c).coll = s.coll := by simp [State.chargeSplit]
@[simp] theorem chargeSplit_power g i sub o c : (s.chargeSplit g i sub o c).power = s.power := by simp [State.chargeSplit]
@[simp] theorem chargeSplit_fw g i sub o c : (s.chargeSplit g i sub o c).fw = s.fw := by simp [State.chargeSplit]
@[simp] theorem chargeSplit_sys g i sub o c : (s.chargeSplit g i sub o c).sys = s.sys := by simp [State.chargeSplit]
@[simp] theorem chargeSplit_out g i sub o c : (s.chargeSplit g i sub o c).out = s.out := by simp [State.chargeSplit]
@[simp] theorem chargeSplit_freeIx g i sub o c : (s.chargeSplit g i sub o c).freeIx = s.freeIx := by simp [State.chargeSplit]
@[simp] theorem chargeSplit_pending g i sub o c : (s.chargeSplit g i sub o c).pending = s.pending := by simp [State.chargeSplit]

@[simp] theorem updFnOf_frame x f : (s.updFnOf x f).frame = s.frame := by unfold State.updFnOf; split <;> simp
@[simp] theorem updFnOf_slate x f : (s.updFnOf x f).slate = s.slate := by unfold State.updFnOf; split <;> simp
@[simp] theorem updFnOf_regs x f : (s.updFnOf x f).regs = s.regs := by unfold State.updFnOf; split <;> simp
@[simp] theorem updFnOf_ctrs x f : (s.updFnOf x f).ctrs = s.ctrs := by unfold State.updFnOf; split <;> simp
@[simp] theorem updFnOf_hdrs x f : (s.updFnOf x f).hdrs = s.hdrs := by unfold State.updFnOf; split <;> simp
@[simp] theorem updFnOf_mgmt x f : (s.updFnOf x f).mgmt = s.mgmt := by unfold State.updFnOf; split <;> simp
@[simp] theorem updFnOf_log x f : (s.updFnOf x f).log = s.log := by unfold State.updFnOf; split <;> simp
@[simp] theorem updFnOf_daily x f : (s.updFnOf x f).daily = s.daily := by unfold State.updFnOf; split <;> simp
@[simp] theorem updFnOf_svc x f : (s.updFnOf x f).svc = s.svc := by unfold State.updFnOf; split <;> simp
@[simp] theorem updFnOf_svcEvt x f : (s.updFnOf x f).svcEvt = s.svcEvt := by unfold State.updFnOf; split <;> simp
@[simp] theorem updFnOf_svcRej x f : (s.updFnOf x f).svcRej = s.svcRej := by unfold State.updFnOf; split <;> simp
@[simp] theorem updFnOf_mem x f : (s.updFnOf x f).mem = s.mem := by unfold State.updFnOf; split <;> simp
@[simp] theorem updFnOf_poison x f : (s.updFnOf x f).poison = s.poison := by unfold State.updFnOf; split <;> simp
@[simp] theorem updFnOf_tier x f : (s.updFnOf x f).tier = s.tier := by unfold State.updFnOf; split <;> simp
@[simp] theorem updFnOf_tenants x f : (s.updFnOf x f).tenants = s.tenants := by unfold State.updFnOf; split <;> simp
@[simp] theorem updFnOf_tables x f : (s.updFnOf x f).tables = s.tables := by unfold State.updFnOf; split <;> simp
@[simp] theorem updFnOf_hports x f : (s.updFnOf x f).hports = s.hports := by unfold State.updFnOf; split <;> simp
@[simp] theorem updFnOf_extents x f : (s.updFnOf x f).extents = s.extents := by unfold State.updFnOf; split <;> simp
@[simp] theorem updFnOf_bg x f : (s.updFnOf x f).bg = s.bg := by unfold State.updFnOf; split <;> simp
@[simp] theorem updFnOf_bgLast x f : (s.updFnOf x f).bgLast = s.bgLast := by unfold State.updFnOf; split <;> simp
@[simp] theorem updFnOf_mctp x f : (s.updFnOf x f).mctp = s.mctp := by unfold State.updFnOf; split <;> simp
@[simp] theorem updFnOf_dir x f : (s.updFnOf x f).dir = s.dir := by unfold State.updFnOf; split <;> simp
@[simp] theorem updFnOf_rgl x f : (s.updFnOf x f).rgl = s.rgl := by unfold State.updFnOf; split <;> simp
@[simp] theorem updFnOf_fab x f : (s.updFnOf x f).fab = s.fab := by unfold State.updFnOf; split <;> simp
@[simp] theorem updFnOf_lanes x f : (s.updFnOf x f).lanes = s.lanes := by unfold State.updFnOf; split <;> simp
@[simp] theorem updFnOf_pats x f : (s.updFnOf x f).pats = s.pats := by unfold State.updFnOf; split <;> simp
@[simp] theorem updFnOf_chans x f : (s.updFnOf x f).chans = s.chans := by unfold State.updFnOf; split <;> simp
@[simp] theorem updFnOf_dram x f : (s.updFnOf x f).dram = s.dram := by unfold State.updFnOf; split <;> simp
@[simp] theorem updFnOf_shelf x f : (s.updFnOf x f).shelf = s.shelf := by unfold State.updFnOf; split <;> simp
@[simp] theorem updFnOf_cues x f : (s.updFnOf x f).cues = s.cues := by unfold State.updFnOf; split <;> simp
@[simp] theorem updFnOf_press x f : (s.updFnOf x f).press = s.press := by unfold State.updFnOf; split <;> simp
@[simp] theorem updFnOf_coll x f : (s.updFnOf x f).coll = s.coll := by unfold State.updFnOf; split <;> simp
@[simp] theorem updFnOf_power x f : (s.updFnOf x f).power = s.power := by unfold State.updFnOf; split <;> simp
@[simp] theorem updFnOf_fw x f : (s.updFnOf x f).fw = s.fw := by unfold State.updFnOf; split <;> simp
@[simp] theorem updFnOf_sys x f : (s.updFnOf x f).sys = s.sys := by unfold State.updFnOf; split <;> simp
@[simp] theorem updFnOf_out x f : (s.updFnOf x f).out = s.out := by unfold State.updFnOf; split <;> simp
@[simp] theorem updFnOf_freeIx x f : (s.updFnOf x f).freeIx = s.freeIx := by unfold State.updFnOf; split <;> simp
@[simp] theorem updFnOf_pending x f : (s.updFnOf x f).pending = s.pending := by unfold State.updFnOf; split <;> simp

@[simp] theorem doePut_frame v : (s.doePut v).frame = s.frame := by simp [State.doePut]
@[simp] theorem doePut_slate v : (s.doePut v).slate = s.slate := by simp [State.doePut]
@[simp] theorem doePut_regs v : (s.doePut v).regs = s.regs := by simp [State.doePut]
@[simp] theorem doePut_ctrs v : (s.doePut v).ctrs = s.ctrs := by simp [State.doePut]
@[simp] theorem doePut_hdrs v : (s.doePut v).hdrs = s.hdrs := by simp [State.doePut]
@[simp] theorem doePut_mgmt v : (s.doePut v).mgmt = s.mgmt := by simp [State.doePut]
@[simp] theorem doePut_log v : (s.doePut v).log = s.log := by simp [State.doePut]
@[simp] theorem doePut_daily v : (s.doePut v).daily = s.daily := by simp [State.doePut]
@[simp] theorem doePut_svc v : (s.doePut v).svc = s.svc := by simp [State.doePut]
@[simp] theorem doePut_svcEvt v : (s.doePut v).svcEvt = s.svcEvt := by simp [State.doePut]
@[simp] theorem doePut_svcRej v : (s.doePut v).svcRej = s.svcRej := by simp [State.doePut]
@[simp] theorem doePut_mem v : (s.doePut v).mem = s.mem := by simp [State.doePut]
@[simp] theorem doePut_poison v : (s.doePut v).poison = s.poison := by simp [State.doePut]
@[simp] theorem doePut_tier v : (s.doePut v).tier = s.tier := by simp [State.doePut]
@[simp] theorem doePut_tenants v : (s.doePut v).tenants = s.tenants := by simp [State.doePut]
@[simp] theorem doePut_tables v : (s.doePut v).tables = s.tables := by simp [State.doePut]
@[simp] theorem doePut_hports v : (s.doePut v).hports = s.hports := by simp [State.doePut]
@[simp] theorem doePut_extents v : (s.doePut v).extents = s.extents := by simp [State.doePut]
@[simp] theorem doePut_bg v : (s.doePut v).bg = s.bg := by simp [State.doePut]
@[simp] theorem doePut_bgLast v : (s.doePut v).bgLast = s.bgLast := by simp [State.doePut]
@[simp] theorem doePut_mctp v : (s.doePut v).mctp = s.mctp := by simp [State.doePut]
@[simp] theorem doePut_dir v : (s.doePut v).dir = s.dir := by simp [State.doePut]
@[simp] theorem doePut_rgl v : (s.doePut v).rgl = s.rgl := by simp [State.doePut]
@[simp] theorem doePut_fab v : (s.doePut v).fab = s.fab := by simp [State.doePut]
@[simp] theorem doePut_lanes v : (s.doePut v).lanes = s.lanes := by simp [State.doePut]
@[simp] theorem doePut_pats v : (s.doePut v).pats = s.pats := by simp [State.doePut]
@[simp] theorem doePut_chans v : (s.doePut v).chans = s.chans := by simp [State.doePut]
@[simp] theorem doePut_dram v : (s.doePut v).dram = s.dram := by simp [State.doePut]
@[simp] theorem doePut_shelf v : (s.doePut v).shelf = s.shelf := by simp [State.doePut]
@[simp] theorem doePut_cues v : (s.doePut v).cues = s.cues := by simp [State.doePut]
@[simp] theorem doePut_press v : (s.doePut v).press = s.press := by simp [State.doePut]
@[simp] theorem doePut_coll v : (s.doePut v).coll = s.coll := by simp [State.doePut]
@[simp] theorem doePut_power v : (s.doePut v).power = s.power := by simp [State.doePut]
@[simp] theorem doePut_fw v : (s.doePut v).fw = s.fw := by simp [State.doePut]
@[simp] theorem doePut_sys v : (s.doePut v).sys = s.sys := by simp [State.doePut]
@[simp] theorem doePut_out v : (s.doePut v).out = s.out := by simp [State.doePut]
@[simp] theorem doePut_freeIx v : (s.doePut v).freeIx = s.freeIx := by simp [State.doePut]
@[simp] theorem doePut_pending v : (s.doePut v).pending = s.pending := by simp [State.doePut]

@[simp] theorem keepEntry_frame e : (s.keepEntry e).frame = s.frame := by simp [State.keepEntry]
@[simp] theorem keepEntry_slate e : (s.keepEntry e).slate = s.slate := by simp [State.keepEntry]
@[simp] theorem keepEntry_regs e : (s.keepEntry e).regs = s.regs := by simp [State.keepEntry]
@[simp] theorem keepEntry_mgmt e : (s.keepEntry e).mgmt = s.mgmt := by simp [State.keepEntry]
@[simp] theorem keepEntry_daily e : (s.keepEntry e).daily = s.daily := by simp [State.keepEntry]
@[simp] theorem keepEntry_svc e : (s.keepEntry e).svc = s.svc := by simp [State.keepEntry]
@[simp] theorem keepEntry_svcEvt e : (s.keepEntry e).svcEvt = s.svcEvt := by simp [State.keepEntry]
@[simp] theorem keepEntry_svcRej e : (s.keepEntry e).svcRej = s.svcRej := by simp [State.keepEntry]
@[simp] theorem keepEntry_mem e : (s.keepEntry e).mem = s.mem := by simp [State.keepEntry]
@[simp] theorem keepEntry_poison e : (s.keepEntry e).poison = s.poison := by simp [State.keepEntry]
@[simp] theorem keepEntry_tier e : (s.keepEntry e).tier = s.tier := by simp [State.keepEntry]
@[simp] theorem keepEntry_tenants e : (s.keepEntry e).tenants = s.tenants := by simp [State.keepEntry]
@[simp] theorem keepEntry_tables e : (s.keepEntry e).tables = s.tables := by simp [State.keepEntry]
@[simp] theorem keepEntry_hports e : (s.keepEntry e).hports = s.hports := by simp [State.keepEntry]
@[simp] theorem keepEntry_extents e : (s.keepEntry e).extents = s.extents := by simp [State.keepEntry]
@[simp] theorem keepEntry_fns e : (s.keepEntry e).fns = s.fns := by simp [State.keepEntry]
@[simp] theorem keepEntry_bg e : (s.keepEntry e).bg = s.bg := by simp [State.keepEntry]
@[simp] theorem keepEntry_bgLast e : (s.keepEntry e).bgLast = s.bgLast := by simp [State.keepEntry]
@[simp] theorem keepEntry_mctp e : (s.keepEntry e).mctp = s.mctp := by simp [State.keepEntry]
@[simp] theorem keepEntry_dir e : (s.keepEntry e).dir = s.dir := by simp [State.keepEntry]
@[simp] theorem keepEntry_rgl e : (s.keepEntry e).rgl = s.rgl := by simp [State.keepEntry]
@[simp] theorem keepEntry_fab e : (s.keepEntry e).fab = s.fab := by simp [State.keepEntry]
@[simp] theorem keepEntry_lanes e : (s.keepEntry e).lanes = s.lanes := by simp [State.keepEntry]
@[simp] theorem keepEntry_pats e : (s.keepEntry e).pats = s.pats := by simp [State.keepEntry]
@[simp] theorem keepEntry_chans e : (s.keepEntry e).chans = s.chans := by simp [State.keepEntry]
@[simp] theorem keepEntry_dram e : (s.keepEntry e).dram = s.dram := by simp [State.keepEntry]
@[simp] theorem keepEntry_shelf e : (s.keepEntry e).shelf = s.shelf := by simp [State.keepEntry]
@[simp] theorem keepEntry_cues e : (s.keepEntry e).cues = s.cues := by simp [State.keepEntry]
@[simp] theorem keepEntry_press e : (s.keepEntry e).press = s.press := by simp [State.keepEntry]
@[simp] theorem keepEntry_coll e : (s.keepEntry e).coll = s.coll := by simp [State.keepEntry]
@[simp] theorem keepEntry_power e : (s.keepEntry e).power = s.power := by simp [State.keepEntry]
@[simp] theorem keepEntry_fw e : (s.keepEntry e).fw = s.fw := by simp [State.keepEntry]
@[simp] theorem keepEntry_sys e : (s.keepEntry e).sys = s.sys := by simp [State.keepEntry]
@[simp] theorem keepEntry_out e : (s.keepEntry e).out = s.out := by simp [State.keepEntry]
@[simp] theorem keepEntry_freeIx e : (s.keepEntry e).freeIx = s.freeIx := by simp [State.keepEntry]
@[simp] theorem keepEntry_pending e : (s.keepEntry e).pending = s.pending := by simp [State.keepEntry]

@[simp] theorem logE_frame ev sev t p a v : (s.logE ev sev t p a v).frame = s.frame := by simp [State.logE]
@[simp] theorem logE_slate ev sev t p a v : (s.logE ev sev t p a v).slate = s.slate := by simp [State.logE]
@[simp] theorem logE_regs ev sev t p a v : (s.logE ev sev t p a v).regs = s.regs := by simp [State.logE]
@[simp] theorem logE_mgmt ev sev t p a v : (s.logE ev sev t p a v).mgmt = s.mgmt := by simp [State.logE]
@[simp] theorem logE_daily ev sev t p a v : (s.logE ev sev t p a v).daily = s.daily := by simp [State.logE]
@[simp] theorem logE_svc ev sev t p a v : (s.logE ev sev t p a v).svc = s.svc := by simp [State.logE]
@[simp] theorem logE_svcEvt ev sev t p a v : (s.logE ev sev t p a v).svcEvt = s.svcEvt := by simp [State.logE]
@[simp] theorem logE_svcRej ev sev t p a v : (s.logE ev sev t p a v).svcRej = s.svcRej := by simp [State.logE]
@[simp] theorem logE_mem ev sev t p a v : (s.logE ev sev t p a v).mem = s.mem := by simp [State.logE]
@[simp] theorem logE_poison ev sev t p a v : (s.logE ev sev t p a v).poison = s.poison := by simp [State.logE]
@[simp] theorem logE_tier ev sev t p a v : (s.logE ev sev t p a v).tier = s.tier := by simp [State.logE]
@[simp] theorem logE_tenants ev sev t p a v : (s.logE ev sev t p a v).tenants = s.tenants := by simp [State.logE]
@[simp] theorem logE_tables ev sev t p a v : (s.logE ev sev t p a v).tables = s.tables := by simp [State.logE]
@[simp] theorem logE_hports ev sev t p a v : (s.logE ev sev t p a v).hports = s.hports := by simp [State.logE]
@[simp] theorem logE_extents ev sev t p a v : (s.logE ev sev t p a v).extents = s.extents := by simp [State.logE]
@[simp] theorem logE_fns ev sev t p a v : (s.logE ev sev t p a v).fns = s.fns := by simp [State.logE]
@[simp] theorem logE_bg ev sev t p a v : (s.logE ev sev t p a v).bg = s.bg := by simp [State.logE]
@[simp] theorem logE_bgLast ev sev t p a v : (s.logE ev sev t p a v).bgLast = s.bgLast := by simp [State.logE]
@[simp] theorem logE_mctp ev sev t p a v : (s.logE ev sev t p a v).mctp = s.mctp := by simp [State.logE]
@[simp] theorem logE_dir ev sev t p a v : (s.logE ev sev t p a v).dir = s.dir := by simp [State.logE]
@[simp] theorem logE_rgl ev sev t p a v : (s.logE ev sev t p a v).rgl = s.rgl := by simp [State.logE]
@[simp] theorem logE_fab ev sev t p a v : (s.logE ev sev t p a v).fab = s.fab := by simp [State.logE]
@[simp] theorem logE_lanes ev sev t p a v : (s.logE ev sev t p a v).lanes = s.lanes := by simp [State.logE]
@[simp] theorem logE_pats ev sev t p a v : (s.logE ev sev t p a v).pats = s.pats := by simp [State.logE]
@[simp] theorem logE_chans ev sev t p a v : (s.logE ev sev t p a v).chans = s.chans := by simp [State.logE]
@[simp] theorem logE_dram ev sev t p a v : (s.logE ev sev t p a v).dram = s.dram := by simp [State.logE]
@[simp] theorem logE_shelf ev sev t p a v : (s.logE ev sev t p a v).shelf = s.shelf := by simp [State.logE]
@[simp] theorem logE_cues ev sev t p a v : (s.logE ev sev t p a v).cues = s.cues := by simp [State.logE]
@[simp] theorem logE_press ev sev t p a v : (s.logE ev sev t p a v).press = s.press := by simp [State.logE]
@[simp] theorem logE_coll ev sev t p a v : (s.logE ev sev t p a v).coll = s.coll := by simp [State.logE]
@[simp] theorem logE_power ev sev t p a v : (s.logE ev sev t p a v).power = s.power := by simp [State.logE]
@[simp] theorem logE_fw ev sev t p a v : (s.logE ev sev t p a v).fw = s.fw := by simp [State.logE]
@[simp] theorem logE_sys ev sev t p a v : (s.logE ev sev t p a v).sys = s.sys := by simp [State.logE]
@[simp] theorem logE_out ev sev t p a v : (s.logE ev sev t p a v).out = s.out := by simp [State.logE]
@[simp] theorem logE_freeIx ev sev t p a v : (s.logE ev sev t p a v).freeIx = s.freeIx := by simp [State.logE]
@[simp] theorem logE_pending ev sev t p a v : (s.logE ev sev t p a v).pending = s.pending := by simp [State.logE]

@[simp] theorem retireAdvice_frame k r l p : (s.retireAdvice k r l p).frame = s.frame := by simp [State.retireAdvice]
@[simp] theorem retireAdvice_slate k r l p : (s.retireAdvice k r l p).slate = s.slate := by simp [State.retireAdvice]
@[simp] theorem retireAdvice_regs k r l p : (s.retireAdvice k r l p).regs = s.regs := by simp [State.retireAdvice]
@[simp] theorem retireAdvice_mgmt k r l p : (s.retireAdvice k r l p).mgmt = s.mgmt := by simp [State.retireAdvice]
@[simp] theorem retireAdvice_daily k r l p : (s.retireAdvice k r l p).daily = s.daily := by simp [State.retireAdvice]
@[simp] theorem retireAdvice_svc k r l p : (s.retireAdvice k r l p).svc = s.svc := by simp [State.retireAdvice]
@[simp] theorem retireAdvice_svcEvt k r l p : (s.retireAdvice k r l p).svcEvt = s.svcEvt := by simp [State.retireAdvice]
@[simp] theorem retireAdvice_svcRej k r l p : (s.retireAdvice k r l p).svcRej = s.svcRej := by simp [State.retireAdvice]
@[simp] theorem retireAdvice_mem k r l p : (s.retireAdvice k r l p).mem = s.mem := by simp [State.retireAdvice]
@[simp] theorem retireAdvice_poison k r l p : (s.retireAdvice k r l p).poison = s.poison := by simp [State.retireAdvice]
@[simp] theorem retireAdvice_tier k r l p : (s.retireAdvice k r l p).tier = s.tier := by simp [State.retireAdvice]
@[simp] theorem retireAdvice_tenants k r l p : (s.retireAdvice k r l p).tenants = s.tenants := by simp [State.retireAdvice]
@[simp] theorem retireAdvice_tables k r l p : (s.retireAdvice k r l p).tables = s.tables := by simp [State.retireAdvice]
@[simp] theorem retireAdvice_hports k r l p : (s.retireAdvice k r l p).hports = s.hports := by simp [State.retireAdvice]
@[simp] theorem retireAdvice_extents k r l p : (s.retireAdvice k r l p).extents = s.extents := by simp [State.retireAdvice]
@[simp] theorem retireAdvice_fns k r l p : (s.retireAdvice k r l p).fns = s.fns := by simp [State.retireAdvice]
@[simp] theorem retireAdvice_bg k r l p : (s.retireAdvice k r l p).bg = s.bg := by simp [State.retireAdvice]
@[simp] theorem retireAdvice_bgLast k r l p : (s.retireAdvice k r l p).bgLast = s.bgLast := by simp [State.retireAdvice]
@[simp] theorem retireAdvice_mctp k r l p : (s.retireAdvice k r l p).mctp = s.mctp := by simp [State.retireAdvice]
@[simp] theorem retireAdvice_dir k r l p : (s.retireAdvice k r l p).dir = s.dir := by simp [State.retireAdvice]
@[simp] theorem retireAdvice_rgl k r l p : (s.retireAdvice k r l p).rgl = s.rgl := by simp [State.retireAdvice]
@[simp] theorem retireAdvice_fab k r l p : (s.retireAdvice k r l p).fab = s.fab := by simp [State.retireAdvice]
@[simp] theorem retireAdvice_lanes k r l p : (s.retireAdvice k r l p).lanes = s.lanes := by simp [State.retireAdvice]
@[simp] theorem retireAdvice_pats k r l p : (s.retireAdvice k r l p).pats = s.pats := by simp [State.retireAdvice]
@[simp] theorem retireAdvice_chans k r l p : (s.retireAdvice k r l p).chans = s.chans := by simp [State.retireAdvice]
@[simp] theorem retireAdvice_dram k r l p : (s.retireAdvice k r l p).dram = s.dram := by simp [State.retireAdvice]
@[simp] theorem retireAdvice_shelf k r l p : (s.retireAdvice k r l p).shelf = s.shelf := by simp [State.retireAdvice]
@[simp] theorem retireAdvice_cues k r l p : (s.retireAdvice k r l p).cues = s.cues := by simp [State.retireAdvice]
@[simp] theorem retireAdvice_press k r l p : (s.retireAdvice k r l p).press = s.press := by simp [State.retireAdvice]
@[simp] theorem retireAdvice_coll k r l p : (s.retireAdvice k r l p).coll = s.coll := by simp [State.retireAdvice]
@[simp] theorem retireAdvice_power k r l p : (s.retireAdvice k r l p).power = s.power := by simp [State.retireAdvice]
@[simp] theorem retireAdvice_fw k r l p : (s.retireAdvice k r l p).fw = s.fw := by simp [State.retireAdvice]
@[simp] theorem retireAdvice_sys k r l p : (s.retireAdvice k r l p).sys = s.sys := by simp [State.retireAdvice]
@[simp] theorem retireAdvice_out k r l p : (s.retireAdvice k r l p).out = s.out := by simp [State.retireAdvice]
@[simp] theorem retireAdvice_freeIx k r l p : (s.retireAdvice k r l p).freeIx = s.freeIx := by simp [State.retireAdvice]
@[simp] theorem retireAdvice_pending k r l p : (s.retireAdvice k r l p).pending = s.pending := by simp [State.retireAdvice]

@[simp] theorem lockWrite_frame : (s.lockWrite).frame = s.frame := by simp [State.lockWrite]
@[simp] theorem lockWrite_slate : (s.lockWrite).slate = s.slate := by simp [State.lockWrite]
@[simp] theorem lockWrite_regs : (s.lockWrite).regs = s.regs := by simp [State.lockWrite]
@[simp] theorem lockWrite_mgmt : (s.lockWrite).mgmt = s.mgmt := by simp [State.lockWrite]
@[simp] theorem lockWrite_log : (s.lockWrite).log = s.log := by simp [State.lockWrite]
@[simp] theorem lockWrite_daily : (s.lockWrite).daily = s.daily := by simp [State.lockWrite]
@[simp] theorem lockWrite_svc : (s.lockWrite).svc = s.svc := by simp [State.lockWrite]
@[simp] theorem lockWrite_svcEvt : (s.lockWrite).svcEvt = s.svcEvt := by simp [State.lockWrite]
@[simp] theorem lockWrite_svcRej : (s.lockWrite).svcRej = s.svcRej := by simp [State.lockWrite]
@[simp] theorem lockWrite_mem : (s.lockWrite).mem = s.mem := by simp [State.lockWrite]
@[simp] theorem lockWrite_poison : (s.lockWrite).poison = s.poison := by simp [State.lockWrite]
@[simp] theorem lockWrite_tier : (s.lockWrite).tier = s.tier := by simp [State.lockWrite]
@[simp] theorem lockWrite_tenants : (s.lockWrite).tenants = s.tenants := by simp [State.lockWrite]
@[simp] theorem lockWrite_tables : (s.lockWrite).tables = s.tables := by simp [State.lockWrite]
@[simp] theorem lockWrite_hports : (s.lockWrite).hports = s.hports := by simp [State.lockWrite]
@[simp] theorem lockWrite_extents : (s.lockWrite).extents = s.extents := by simp [State.lockWrite]
@[simp] theorem lockWrite_fns : (s.lockWrite).fns = s.fns := by simp [State.lockWrite]
@[simp] theorem lockWrite_bg : (s.lockWrite).bg = s.bg := by simp [State.lockWrite]
@[simp] theorem lockWrite_bgLast : (s.lockWrite).bgLast = s.bgLast := by simp [State.lockWrite]
@[simp] theorem lockWrite_mctp : (s.lockWrite).mctp = s.mctp := by simp [State.lockWrite]
@[simp] theorem lockWrite_dir : (s.lockWrite).dir = s.dir := by simp [State.lockWrite]
@[simp] theorem lockWrite_rgl : (s.lockWrite).rgl = s.rgl := by simp [State.lockWrite]
@[simp] theorem lockWrite_fab : (s.lockWrite).fab = s.fab := by simp [State.lockWrite]
@[simp] theorem lockWrite_lanes : (s.lockWrite).lanes = s.lanes := by simp [State.lockWrite]
@[simp] theorem lockWrite_pats : (s.lockWrite).pats = s.pats := by simp [State.lockWrite]
@[simp] theorem lockWrite_chans : (s.lockWrite).chans = s.chans := by simp [State.lockWrite]
@[simp] theorem lockWrite_dram : (s.lockWrite).dram = s.dram := by simp [State.lockWrite]
@[simp] theorem lockWrite_shelf : (s.lockWrite).shelf = s.shelf := by simp [State.lockWrite]
@[simp] theorem lockWrite_cues : (s.lockWrite).cues = s.cues := by simp [State.lockWrite]
@[simp] theorem lockWrite_press : (s.lockWrite).press = s.press := by simp [State.lockWrite]
@[simp] theorem lockWrite_coll : (s.lockWrite).coll = s.coll := by simp [State.lockWrite]
@[simp] theorem lockWrite_power : (s.lockWrite).power = s.power := by simp [State.lockWrite]
@[simp] theorem lockWrite_fw : (s.lockWrite).fw = s.fw := by simp [State.lockWrite]
@[simp] theorem lockWrite_sys : (s.lockWrite).sys = s.sys := by simp [State.lockWrite]
@[simp] theorem lockWrite_out : (s.lockWrite).out = s.out := by simp [State.lockWrite]
@[simp] theorem lockWrite_freeIx : (s.lockWrite).freeIx = s.freeIx := by simp [State.lockWrite]
@[simp] theorem lockWrite_pending : (s.lockWrite).pending = s.pending := by simp [State.lockWrite]

@[simp] theorem transmit_frame f q : (s.transmit f q).frame = s.frame := by simp [State.transmit]
@[simp] theorem transmit_regs f q : (s.transmit f q).regs = s.regs := by simp [State.transmit]
@[simp] theorem transmit_ctrs f q : (s.transmit f q).ctrs = s.ctrs := by simp [State.transmit]
@[simp] theorem transmit_hdrs f q : (s.transmit f q).hdrs = s.hdrs := by simp [State.transmit]
@[simp] theorem transmit_mgmt f q : (s.transmit f q).mgmt = s.mgmt := by simp [State.transmit]
@[simp] theorem transmit_log f q : (s.transmit f q).log = s.log := by simp [State.transmit]
@[simp] theorem transmit_svc f q : (s.transmit f q).svc = s.svc := by simp [State.transmit]
@[simp] theorem transmit_svcEvt f q : (s.transmit f q).svcEvt = s.svcEvt := by simp [State.transmit]
@[simp] theorem transmit_svcRej f q : (s.transmit f q).svcRej = s.svcRej := by simp [State.transmit]
@[simp] theorem transmit_mem f q : (s.transmit f q).mem = s.mem := by simp [State.transmit]
@[simp] theorem transmit_poison f q : (s.transmit f q).poison = s.poison := by simp [State.transmit]
@[simp] theorem transmit_tier f q : (s.transmit f q).tier = s.tier := by simp [State.transmit]
@[simp] theorem transmit_tenants f q : (s.transmit f q).tenants = s.tenants := by simp [State.transmit]
@[simp] theorem transmit_tables f q : (s.transmit f q).tables = s.tables := by simp [State.transmit]
@[simp] theorem transmit_hports f q : (s.transmit f q).hports = s.hports := by simp [State.transmit]
@[simp] theorem transmit_extents f q : (s.transmit f q).extents = s.extents := by simp [State.transmit]
@[simp] theorem transmit_fns f q : (s.transmit f q).fns = s.fns := by simp [State.transmit]
@[simp] theorem transmit_mfn f q : (s.transmit f q).mfn = s.mfn := by simp [State.transmit]
@[simp] theorem transmit_bg f q : (s.transmit f q).bg = s.bg := by simp [State.transmit]
@[simp] theorem transmit_bgLast f q : (s.transmit f q).bgLast = s.bgLast := by simp [State.transmit]
@[simp] theorem transmit_mctp f q : (s.transmit f q).mctp = s.mctp := by simp [State.transmit]
@[simp] theorem transmit_dir f q : (s.transmit f q).dir = s.dir := by simp [State.transmit]
@[simp] theorem transmit_rgl f q : (s.transmit f q).rgl = s.rgl := by simp [State.transmit]
@[simp] theorem transmit_lanes f q : (s.transmit f q).lanes = s.lanes := by simp [State.transmit]
@[simp] theorem transmit_pats f q : (s.transmit f q).pats = s.pats := by simp [State.transmit]
@[simp] theorem transmit_chans f q : (s.transmit f q).chans = s.chans := by simp [State.transmit]
@[simp] theorem transmit_dram f q : (s.transmit f q).dram = s.dram := by simp [State.transmit]
@[simp] theorem transmit_shelf f q : (s.transmit f q).shelf = s.shelf := by simp [State.transmit]
@[simp] theorem transmit_cues f q : (s.transmit f q).cues = s.cues := by simp [State.transmit]
@[simp] theorem transmit_press f q : (s.transmit f q).press = s.press := by simp [State.transmit]
@[simp] theorem transmit_coll f q : (s.transmit f q).coll = s.coll := by simp [State.transmit]
@[simp] theorem transmit_power f q : (s.transmit f q).power = s.power := by simp [State.transmit]
@[simp] theorem transmit_fw f q : (s.transmit f q).fw = s.fw := by simp [State.transmit]
@[simp] theorem transmit_sys f q : (s.transmit f q).sys = s.sys := by simp [State.transmit]
@[simp] theorem transmit_freeIx f q : (s.transmit f q).freeIx = s.freeIx := by simp [State.transmit]
@[simp] theorem transmit_pending f q : (s.transmit f q).pending = s.pending := by simp [State.transmit]

@[simp] theorem sendRaw_frame f b : (s.sendRaw f b).frame = s.frame := by simp [State.sendRaw]
@[simp] theorem sendRaw_regs f b : (s.sendRaw f b).regs = s.regs := by simp [State.sendRaw]
@[simp] theorem sendRaw_ctrs f b : (s.sendRaw f b).ctrs = s.ctrs := by simp [State.sendRaw]
@[simp] theorem sendRaw_hdrs f b : (s.sendRaw f b).hdrs = s.hdrs := by simp [State.sendRaw]
@[simp] theorem sendRaw_mgmt f b : (s.sendRaw f b).mgmt = s.mgmt := by simp [State.sendRaw]
@[simp] theorem sendRaw_log f b : (s.sendRaw f b).log = s.log := by simp [State.sendRaw]
@[simp] theorem sendRaw_svc f b : (s.sendRaw f b).svc = s.svc := by simp [State.sendRaw]
@[simp] theorem sendRaw_svcEvt f b : (s.sendRaw f b).svcEvt = s.svcEvt := by simp [State.sendRaw]
@[simp] theorem sendRaw_svcRej f b : (s.sendRaw f b).svcRej = s.svcRej := by simp [State.sendRaw]
@[simp] theorem sendRaw_mem f b : (s.sendRaw f b).mem = s.mem := by simp [State.sendRaw]
@[simp] theorem sendRaw_poison f b : (s.sendRaw f b).poison = s.poison := by simp [State.sendRaw]
@[simp] theorem sendRaw_tier f b : (s.sendRaw f b).tier = s.tier := by simp [State.sendRaw]
@[simp] theorem sendRaw_tenants f b : (s.sendRaw f b).tenants = s.tenants := by simp [State.sendRaw]
@[simp] theorem sendRaw_tables f b : (s.sendRaw f b).tables = s.tables := by simp [State.sendRaw]
@[simp] theorem sendRaw_hports f b : (s.sendRaw f b).hports = s.hports := by simp [State.sendRaw]
@[simp] theorem sendRaw_extents f b : (s.sendRaw f b).extents = s.extents := by simp [State.sendRaw]
@[simp] theorem sendRaw_fns f b : (s.sendRaw f b).fns = s.fns := by simp [State.sendRaw]
@[simp] theorem sendRaw_mfn f b : (s.sendRaw f b).mfn = s.mfn := by simp [State.sendRaw]
@[simp] theorem sendRaw_bg f b : (s.sendRaw f b).bg = s.bg := by simp [State.sendRaw]
@[simp] theorem sendRaw_bgLast f b : (s.sendRaw f b).bgLast = s.bgLast := by simp [State.sendRaw]
@[simp] theorem sendRaw_mctp f b : (s.sendRaw f b).mctp = s.mctp := by simp [State.sendRaw]
@[simp] theorem sendRaw_dir f b : (s.sendRaw f b).dir = s.dir := by simp [State.sendRaw]
@[simp] theorem sendRaw_rgl f b : (s.sendRaw f b).rgl = s.rgl := by simp [State.sendRaw]
@[simp] theorem sendRaw_lanes f b : (s.sendRaw f b).lanes = s.lanes := by simp [State.sendRaw]
@[simp] theorem sendRaw_pats f b : (s.sendRaw f b).pats = s.pats := by simp [State.sendRaw]
@[simp] theorem sendRaw_chans f b : (s.sendRaw f b).chans = s.chans := by simp [State.sendRaw]
@[simp] theorem sendRaw_dram f b : (s.sendRaw f b).dram = s.dram := by simp [State.sendRaw]
@[simp] theorem sendRaw_shelf f b : (s.sendRaw f b).shelf = s.shelf := by simp [State.sendRaw]
@[simp] theorem sendRaw_cues f b : (s.sendRaw f b).cues = s.cues := by simp [State.sendRaw]
@[simp] theorem sendRaw_press f b : (s.sendRaw f b).press = s.press := by simp [State.sendRaw]
@[simp] theorem sendRaw_coll f b : (s.sendRaw f b).coll = s.coll := by simp [State.sendRaw]
@[simp] theorem sendRaw_power f b : (s.sendRaw f b).power = s.power := by simp [State.sendRaw]
@[simp] theorem sendRaw_fw f b : (s.sendRaw f b).fw = s.fw := by simp [State.sendRaw]
@[simp] theorem sendRaw_sys f b : (s.sendRaw f b).sys = s.sys := by simp [State.sendRaw]
@[simp] theorem sendRaw_freeIx f b : (s.sendRaw f b).freeIx = s.freeIx := by simp [State.sendRaw]
@[simp] theorem sendRaw_pending f b : (s.sendRaw f b).pending = s.pending := by simp [State.sendRaw]

@[simp] theorem mbReply_frame f c d : (s.mbReply f c d).frame = s.frame := by simp [State.mbReply]
@[simp] theorem mbReply_slate f c d : (s.mbReply f c d).slate = s.slate := by simp [State.mbReply]
@[simp] theorem mbReply_regs f c d : (s.mbReply f c d).regs = s.regs := by simp [State.mbReply]
@[simp] theorem mbReply_ctrs f c d : (s.mbReply f c d).ctrs = s.ctrs := by simp [State.mbReply]
@[simp] theorem mbReply_hdrs f c d : (s.mbReply f c d).hdrs = s.hdrs := by simp [State.mbReply]
@[simp] theorem mbReply_mgmt f c d : (s.mbReply f c d).mgmt = s.mgmt := by simp [State.mbReply]
@[simp] theorem mbReply_log f c d : (s.mbReply f c d).log = s.log := by simp [State.mbReply]
@[simp] theorem mbReply_daily f c d : (s.mbReply f c d).daily = s.daily := by simp [State.mbReply]
@[simp] theorem mbReply_svc f c d : (s.mbReply f c d).svc = s.svc := by simp [State.mbReply]
@[simp] theorem mbReply_svcEvt f c d : (s.mbReply f c d).svcEvt = s.svcEvt := by simp [State.mbReply]
@[simp] theorem mbReply_svcRej f c d : (s.mbReply f c d).svcRej = s.svcRej := by simp [State.mbReply]
@[simp] theorem mbReply_mem f c d : (s.mbReply f c d).mem = s.mem := by simp [State.mbReply]
@[simp] theorem mbReply_poison f c d : (s.mbReply f c d).poison = s.poison := by simp [State.mbReply]
@[simp] theorem mbReply_tier f c d : (s.mbReply f c d).tier = s.tier := by simp [State.mbReply]
@[simp] theorem mbReply_tenants f c d : (s.mbReply f c d).tenants = s.tenants := by simp [State.mbReply]
@[simp] theorem mbReply_tables f c d : (s.mbReply f c d).tables = s.tables := by simp [State.mbReply]
@[simp] theorem mbReply_hports f c d : (s.mbReply f c d).hports = s.hports := by simp [State.mbReply]
@[simp] theorem mbReply_extents f c d : (s.mbReply f c d).extents = s.extents := by simp [State.mbReply]
@[simp] theorem mbReply_fns f c d : (s.mbReply f c d).fns = s.fns := by simp [State.mbReply]
@[simp] theorem mbReply_bg f c d : (s.mbReply f c d).bg = s.bg := by simp [State.mbReply]
@[simp] theorem mbReply_bgLast f c d : (s.mbReply f c d).bgLast = s.bgLast := by simp [State.mbReply]
@[simp] theorem mbReply_mctp f c d : (s.mbReply f c d).mctp = s.mctp := by simp [State.mbReply]
@[simp] theorem mbReply_dir f c d : (s.mbReply f c d).dir = s.dir := by simp [State.mbReply]
@[simp] theorem mbReply_rgl f c d : (s.mbReply f c d).rgl = s.rgl := by simp [State.mbReply]
@[simp] theorem mbReply_fab f c d : (s.mbReply f c d).fab = s.fab := by simp [State.mbReply]
@[simp] theorem mbReply_lanes f c d : (s.mbReply f c d).lanes = s.lanes := by simp [State.mbReply]
@[simp] theorem mbReply_pats f c d : (s.mbReply f c d).pats = s.pats := by simp [State.mbReply]
@[simp] theorem mbReply_chans f c d : (s.mbReply f c d).chans = s.chans := by simp [State.mbReply]
@[simp] theorem mbReply_dram f c d : (s.mbReply f c d).dram = s.dram := by simp [State.mbReply]
@[simp] theorem mbReply_shelf f c d : (s.mbReply f c d).shelf = s.shelf := by simp [State.mbReply]
@[simp] theorem mbReply_cues f c d : (s.mbReply f c d).cues = s.cues := by simp [State.mbReply]
@[simp] theorem mbReply_press f c d : (s.mbReply f c d).press = s.press := by simp [State.mbReply]
@[simp] theorem mbReply_coll f c d : (s.mbReply f c d).coll = s.coll := by simp [State.mbReply]
@[simp] theorem mbReply_power f c d : (s.mbReply f c d).power = s.power := by simp [State.mbReply]
@[simp] theorem mbReply_fw f c d : (s.mbReply f c d).fw = s.fw := by simp [State.mbReply]
@[simp] theorem mbReply_sys f c d : (s.mbReply f c d).sys = s.sys := by simp [State.mbReply]
@[simp] theorem mbReply_freeIx f c d : (s.mbReply f c d).freeIx = s.freeIx := by simp [State.mbReply]
@[simp] theorem mbReply_pending f c d : (s.mbReply f c d).pending = s.pending := by simp [State.mbReply]

@[simp] theorem fmReply_frame c l : (s.fmReply c l).frame = s.frame := by simp [State.fmReply]
@[simp] theorem fmReply_slate c l : (s.fmReply c l).slate = s.slate := by simp [State.fmReply]
@[simp] theorem fmReply_regs c l : (s.fmReply c l).regs = s.regs := by simp [State.fmReply]
@[simp] theorem fmReply_ctrs c l : (s.fmReply c l).ctrs = s.ctrs := by simp [State.fmReply]
@[simp] theorem fmReply_hdrs c l : (s.fmReply c l).hdrs = s.hdrs := by simp [State.fmReply]
@[simp] theorem fmReply_mgmt c l : (s.fmReply c l).mgmt = s.mgmt := by simp [State.fmReply]
@[simp] theorem fmReply_log c l : (s.fmReply c l).log = s.log := by simp [State.fmReply]
@[simp] theorem fmReply_daily c l : (s.fmReply c l).daily = s.daily := by simp [State.fmReply]
@[simp] theorem fmReply_svc c l : (s.fmReply c l).svc = s.svc := by simp [State.fmReply]
@[simp] theorem fmReply_svcEvt c l : (s.fmReply c l).svcEvt = s.svcEvt := by simp [State.fmReply]
@[simp] theorem fmReply_svcRej c l : (s.fmReply c l).svcRej = s.svcRej := by simp [State.fmReply]
@[simp] theorem fmReply_mem c l : (s.fmReply c l).mem = s.mem := by simp [State.fmReply]
@[simp] theorem fmReply_poison c l : (s.fmReply c l).poison = s.poison := by simp [State.fmReply]
@[simp] theorem fmReply_tier c l : (s.fmReply c l).tier = s.tier := by simp [State.fmReply]
@[simp] theorem fmReply_tenants c l : (s.fmReply c l).tenants = s.tenants := by simp [State.fmReply]
@[simp] theorem fmReply_tables c l : (s.fmReply c l).tables = s.tables := by simp [State.fmReply]
@[simp] theorem fmReply_hports c l : (s.fmReply c l).hports = s.hports := by simp [State.fmReply]
@[simp] theorem fmReply_extents c l : (s.fmReply c l).extents = s.extents := by simp [State.fmReply]
@[simp] theorem fmReply_fns c l : (s.fmReply c l).fns = s.fns := by simp [State.fmReply]
@[simp] theorem fmReply_mfn c l : (s.fmReply c l).mfn = s.mfn := by simp [State.fmReply]
@[simp] theorem fmReply_bg c l : (s.fmReply c l).bg = s.bg := by simp [State.fmReply]
@[simp] theorem fmReply_bgLast c l : (s.fmReply c l).bgLast = s.bgLast := by simp [State.fmReply]
@[simp] theorem fmReply_mctp c l : (s.fmReply c l).mctp = s.mctp := by simp [State.fmReply]
@[simp] theorem fmReply_dir c l : (s.fmReply c l).dir = s.dir := by simp [State.fmReply]
@[simp] theorem fmReply_rgl c l : (s.fmReply c l).rgl = s.rgl := by simp [State.fmReply]
@[simp] theorem fmReply_fab c l : (s.fmReply c l).fab = s.fab := by simp [State.fmReply]
@[simp] theorem fmReply_lanes c l : (s.fmReply c l).lanes = s.lanes := by simp [State.fmReply]
@[simp] theorem fmReply_pats c l : (s.fmReply c l).pats = s.pats := by simp [State.fmReply]
@[simp] theorem fmReply_chans c l : (s.fmReply c l).chans = s.chans := by simp [State.fmReply]
@[simp] theorem fmReply_dram c l : (s.fmReply c l).dram = s.dram := by simp [State.fmReply]
@[simp] theorem fmReply_shelf c l : (s.fmReply c l).shelf = s.shelf := by simp [State.fmReply]
@[simp] theorem fmReply_cues c l : (s.fmReply c l).cues = s.cues := by simp [State.fmReply]
@[simp] theorem fmReply_press c l : (s.fmReply c l).press = s.press := by simp [State.fmReply]
@[simp] theorem fmReply_coll c l : (s.fmReply c l).coll = s.coll := by simp [State.fmReply]
@[simp] theorem fmReply_power c l : (s.fmReply c l).power = s.power := by simp [State.fmReply]
@[simp] theorem fmReply_fw c l : (s.fmReply c l).fw = s.fw := by simp [State.fmReply]
@[simp] theorem fmReply_sys c l : (s.fmReply c l).sys = s.sys := by simp [State.fmReply]
@[simp] theorem fmReply_freeIx c l : (s.fmReply c l).freeIx = s.freeIx := by simp [State.fmReply]
@[simp] theorem fmReply_pending c l : (s.fmReply c l).pending = s.pending := by simp [State.fmReply]

end Sys2Proof.Machine
end

