-- ==== Sys2Proof/Laws/Path.lean ====
section
/-!
SUPPORT. The management path: what its answers leave as it was, and what a register access does that is served at once.
-/

namespace Sys2Proof.Machine

open Sys2Proof

variable (s : State)

@[simp] theorem charge_slate_act : (s.charge g i sub o c).slate.act = s.slate.act := by simp [State.charge, State.useTake]
@[simp] theorem charge_slate_shadow : (s.charge g i sub o c).slate.shadow = s.slate.shadow := by simp [State.charge, State.useTake]
@[simp] theorem charge_slate_bank : (s.charge g i sub o c).slate.bank = s.slate.bank := by simp [State.charge, State.useTake]
@[simp] theorem charge_slate_pend : (s.charge g i sub o c).slate.pend = s.slate.pend := by simp [State.charge, State.useTake]
@[simp] theorem charge_slate_err : (s.charge g i sub o c).slate.err = s.slate.err := by simp [State.charge, State.useTake]
@[simp] theorem charge_slate_errRow : (s.charge g i sub o c).slate.errRow = s.slate.errRow := by simp [State.charge, State.useTake]
@[simp] theorem charge_slate_errGroup : (s.charge g i sub o c).slate.errGroup = s.slate.errGroup := by simp [State.charge, State.useTake]
@[simp] theorem charge_slate_wrDrop : (s.charge g i sub o c).slate.wrDrop = s.slate.wrDrop := by simp [State.charge, State.useTake]
@[simp] theorem charge_slate_ovr : (s.charge g i sub o c).slate.ovr = s.slate.ovr := by simp [State.charge, State.useTake]
@[simp] theorem charge_slate_ovrNext : (s.charge g i sub o c).slate.ovrNext = s.slate.ovrNext := by simp [State.charge, State.useTake]
@[simp] theorem charge_slate_reelDrops : (s.charge g i sub o c).slate.reelDrops = s.slate.reelDrops := by simp [State.charge, State.useTake]
@[simp] theorem charge_slate_dropTotal : (s.charge g i sub o c).slate.dropTotal = s.slate.dropTotal := by simp [State.charge, State.useTake]

@[simp] theorem transmit_slate_act : (s.transmit f q).slate.act = s.slate.act := by simp [State.transmit, State.emit, State.updFport]
@[simp] theorem transmit_slate_shadow : (s.transmit f q).slate.shadow = s.slate.shadow := by simp [State.transmit, State.emit, State.updFport]
@[simp] theorem transmit_slate_bank : (s.transmit f q).slate.bank = s.slate.bank := by simp [State.transmit, State.emit, State.updFport]
@[simp] theorem transmit_slate_pend : (s.transmit f q).slate.pend = s.slate.pend := by simp [State.transmit, State.emit, State.updFport]
@[simp] theorem transmit_slate_err : (s.transmit f q).slate.err = s.slate.err := by simp [State.transmit, State.emit, State.updFport]
@[simp] theorem transmit_slate_errRow : (s.transmit f q).slate.errRow = s.slate.errRow := by simp [State.transmit, State.emit, State.updFport]
@[simp] theorem transmit_slate_errGroup : (s.transmit f q).slate.errGroup = s.slate.errGroup := by simp [State.transmit, State.emit, State.updFport]
@[simp] theorem transmit_slate_wrDrop : (s.transmit f q).slate.wrDrop = s.slate.wrDrop := by simp [State.transmit, State.emit, State.updFport]
@[simp] theorem transmit_slate_ovr : (s.transmit f q).slate.ovr = s.slate.ovr := by simp [State.transmit, State.emit, State.updFport]
@[simp] theorem transmit_slate_ovrNext : (s.transmit f q).slate.ovrNext = s.slate.ovrNext := by simp [State.transmit, State.emit, State.updFport]
@[simp] theorem transmit_slate_reelDrops : (s.transmit f q).slate.reelDrops = s.slate.reelDrops := by simp [State.transmit, State.emit, State.updFport]
@[simp] theorem transmit_slate_dropTotal : (s.transmit f q).slate.dropTotal = s.slate.dropTotal := by simp [State.transmit, State.emit, State.updFport]
@[simp] theorem transmit_fab_route : (s.transmit f q).fab.route = s.fab.route := by simp [State.transmit, State.emit, State.updFport]
@[simp] theorem transmit_fab_routeNext : (s.transmit f q).fab.routeNext = s.fab.routeNext := by simp [State.transmit, State.emit, State.updFport]
@[simp] theorem transmit_fab_peers : (s.transmit f q).fab.peers = s.fab.peers := by simp [State.transmit, State.emit, State.updFport]
@[simp] theorem transmit_fab_staged : (s.transmit f q).fab.staged = s.fab.staged := by simp [State.transmit, State.emit, State.updFport]
@[simp] theorem transmit_fab_cmds : (s.transmit f q).fab.cmds = s.fab.cmds := by simp [State.transmit, State.emit, State.updFport]
@[simp] theorem transmit_fab_cmdStat : (s.transmit f q).fab.cmdStat = s.fab.cmdStat := by simp [State.transmit, State.emit, State.updFport]
@[simp] theorem transmit_fab_pdir : (s.transmit f q).fab.pdir = s.fab.pdir := by simp [State.transmit, State.emit, State.updFport]
@[simp] theorem transmit_fab_reqs : (s.transmit f q).fab.reqs = s.fab.reqs := by simp [State.transmit, State.emit, State.updFport]
@[simp] theorem transmit_fab_jobs : (s.transmit f q).fab.jobs = s.fab.jobs := by simp [State.transmit, State.emit, State.updFport]
@[simp] theorem transmit_fab_jobNext : (s.transmit f q).fab.jobNext = s.fab.jobNext := by simp [State.transmit, State.emit, State.updFport]
@[simp] theorem transmit_fab_waiting : (s.transmit f q).fab.waiting = s.fab.waiting := by simp [State.transmit, State.emit, State.updFport]
@[simp] theorem transmit_fab_stalled : (s.transmit f q).fab.stalled = s.fab.stalled := by simp [State.transmit, State.emit, State.updFport]
@[simp] theorem transmit_fab_buf : (s.transmit f q).fab.buf = s.fab.buf := by simp [State.transmit, State.emit, State.updFport]
@[simp] theorem transmit_fab_peak : (s.transmit f q).fab.peak = s.fab.peak := by simp [State.transmit, State.emit, State.updFport]

@[simp] theorem portSendN_hdrs (n : Nat) : (s.portSendN n f).hdrs = s.hdrs := by
  induction n generalizing s with
  | zero => rfl
  | succ n ih => simp only [State.portSendN]; split <;> simp [ih]
@[simp] theorem portSendN_mfn (n : Nat) : (s.portSendN n f).mfn = s.mfn := by
  induction n generalizing s with
  | zero => rfl
  | succ n ih => simp only [State.portSendN]; split <;> simp [ih]

@[simp] theorem portSend_hdrs : (s.portSend f).hdrs = s.hdrs := by simp [State.portSend]
@[simp] theorem portSend_mfn : (s.portSend f).mfn = s.mfn := by simp [State.portSend]

@[simp] theorem portSendN_frame (n : Nat) : (s.portSendN n f).frame = s.frame := by
  induction n generalizing s with
  | zero => rfl
  | succ n ih => simp only [State.portSendN]; split <;> simp [ih]
@[simp] theorem portSendN_regs (n : Nat) : (s.portSendN n f).regs = s.regs := by
  induction n generalizing s with
  | zero => rfl
  | succ n ih => simp only [State.portSendN]; split <;> simp [ih]
@[simp] theorem portSendN_ctrs (n : Nat) : (s.portSendN n f).ctrs = s.ctrs := by
  induction n generalizing s with
  | zero => rfl
  | succ n ih => simp only [State.portSendN]; split <;> simp [ih]
@[simp] theorem portSendN_mgmt (n : Nat) : (s.portSendN n f).mgmt = s.mgmt := by
  induction n generalizing s with
  | zero => rfl
  | succ n ih => simp only [State.portSendN]; split <;> simp [ih]
@[simp] theorem portSendN_log (n : Nat) : (s.portSendN n f).log = s.log := by
  induction n generalizing s with
  | zero => rfl
  | succ n ih => simp only [State.portSendN]; split <;> simp [ih]
@[simp] theorem portSendN_svc (n : Nat) : (s.portSendN n f).svc = s.svc := by
  induction n generalizing s with
  | zero => rfl
  | succ n ih => simp only [State.portSendN]; split <;> simp [ih]
@[simp] theorem portSendN_svcEvt (n : Nat) : (s.portSendN n f).svcEvt = s.svcEvt := by
  induction n generalizing s with
  | zero => rfl
  | succ n ih => simp only [State.portSendN]; split <;> simp [ih]
@[simp] theorem portSendN_svcRej (n : Nat) : (s.portSendN n f).svcRej = s.svcRej := by
  induction n generalizing s with
  | zero => rfl
  | succ n ih => simp only [State.portSendN]; split <;> simp [ih]
@[simp] theorem portSendN_mem (n : Nat) : (s.portSendN n f).mem = s.mem := by
  induction n generalizing s with
  | zero => rfl
  | succ n ih => simp only [State.portSendN]; split <;> simp [ih]
@[simp] theorem portSendN_poison (n : Nat) : (s.portSendN n f).poison = s.poison := by
  induction n generalizing s with
  | zero => rfl
  | succ n ih => simp only [State.portSendN]; split <;> simp [ih]
@[simp] theorem portSendN_tier (n : Nat) : (s.portSendN n f).tier = s.tier := by
  induction n generalizing s with
  | zero => rfl
  | succ n ih => simp only [State.portSendN]; split <;> simp [ih]
@[simp] theorem portSendN_tenants (n : Nat) : (s.portSendN n f).tenants = s.tenants := by
  induction n generalizing s with
  | zero => rfl
  | succ n ih => simp only [State.portSendN]; split <;> simp [ih]
@[simp] theorem portSendN_tables (n : Nat) : (s.portSendN n f).tables = s.tables := by
  induction n generalizing s with
  | zero => rfl
  | succ n ih => simp only [State.portSendN]; split <;> simp [ih]
@[simp] theorem portSendN_hports (n : Nat) : (s.portSendN n f).hports = s.hports := by
  induction n generalizing s with
  | zero => rfl
  | succ n ih => simp only [State.portSendN]; split <;> simp [ih]
@[simp] theorem portSendN_extents (n : Nat) : (s.portSendN n f).extents = s.extents := by
  induction n generalizing s with
  | zero => rfl
  | succ n ih => simp only [State.portSendN]; split <;> simp [ih]
@[simp] theorem portSendN_fns (n : Nat) : (s.portSendN n f).fns = s.fns := by
  induction n generalizing s with
  | zero => rfl
  | succ n ih => simp only [State.portSendN]; split <;> simp [ih]
@[simp] theorem portSendN_bg (n : Nat) : (s.portSendN n f).bg = s.bg := by
  induction n generalizing s with
  | zero => rfl
  | succ n ih => simp only [State.portSendN]; split <;> simp [ih]
@[simp] theorem portSendN_bgLast (n : Nat) : (s.portSendN n f).bgLast = s.bgLast := by
  induction n generalizing s with
  | zero => rfl
  | succ n ih => simp only [State.portSendN]; split <;> simp [ih]
@[simp] theorem portSendN_mctp (n : Nat) : (s.portSendN n f).mctp = s.mctp := by
  induction n generalizing s with
  | zero => rfl
  | succ n ih => simp only [State.portSendN]; split <;> simp [ih]
@[simp] theorem portSendN_dir (n : Nat) : (s.portSendN n f).dir = s.dir := by
  induction n generalizing s with
  | zero => rfl
  | succ n ih => simp only [State.portSendN]; split <;> simp [ih]
@[simp] theorem portSendN_rgl (n : Nat) : (s.portSendN n f).rgl = s.rgl := by
  induction n generalizing s with
  | zero => rfl
  | succ n ih => simp only [State.portSendN]; split <;> simp [ih]
@[simp] theorem portSendN_lanes (n : Nat) : (s.portSendN n f).lanes = s.lanes := by
  induction n generalizing s with
  | zero => rfl
  | succ n ih => simp only [State.portSendN]; split <;> simp [ih]
@[simp] theorem portSendN_pats (n : Nat) : (s.portSendN n f).pats = s.pats := by
  induction n generalizing s with
  | zero => rfl
  | succ n ih => simp only [State.portSendN]; split <;> simp [ih]
@[simp] theorem portSendN_chans (n : Nat) : (s.portSendN n f).chans = s.chans := by
  induction n generalizing s with
  | zero => rfl
  | succ n ih => simp only [State.portSendN]; split <;> simp [ih]
@[simp] theorem portSendN_dram (n : Nat) : (s.portSendN n f).dram = s.dram := by
  induction n generalizing s with
  | zero => rfl
  | succ n ih => simp only [State.portSendN]; split <;> simp [ih]
@[simp] theorem portSendN_shelf (n : Nat) : (s.portSendN n f).shelf = s.shelf := by
  induction n generalizing s with
  | zero => rfl
  | succ n ih => simp only [State.portSendN]; split <;> simp [ih]
@[simp] theorem portSendN_cues (n : Nat) : (s.portSendN n f).cues = s.cues := by
  induction n generalizing s with
  | zero => rfl
  | succ n ih => simp only [State.portSendN]; split <;> simp [ih]
@[simp] theorem portSendN_press (n : Nat) : (s.portSendN n f).press = s.press := by
  induction n generalizing s with
  | zero => rfl
  | succ n ih => simp only [State.portSendN]; split <;> simp [ih]
@[simp] theorem portSendN_coll (n : Nat) : (s.portSendN n f).coll = s.coll := by
  induction n generalizing s with
  | zero => rfl
  | succ n ih => simp only [State.portSendN]; split <;> simp [ih]
@[simp] theorem portSendN_power (n : Nat) : (s.portSendN n f).power = s.power := by
  induction n generalizing s with
  | zero => rfl
  | succ n ih => simp only [State.portSendN]; split <;> simp [ih]
@[simp] theorem portSendN_fw (n : Nat) : (s.portSendN n f).fw = s.fw := by
  induction n generalizing s with
  | zero => rfl
  | succ n ih => simp only [State.portSendN]; split <;> simp [ih]
@[simp] theorem portSendN_sys (n : Nat) : (s.portSendN n f).sys = s.sys := by
  induction n generalizing s with
  | zero => rfl
  | succ n ih => simp only [State.portSendN]; split <;> simp [ih]
@[simp] theorem portSendN_freeIx (n : Nat) : (s.portSendN n f).freeIx = s.freeIx := by
  induction n generalizing s with
  | zero => rfl
  | succ n ih => simp only [State.portSendN]; split <;> simp [ih]
@[simp] theorem portSendN_pending (n : Nat) : (s.portSendN n f).pending = s.pending := by
  induction n generalizing s with
  | zero => rfl
  | succ n ih => simp only [State.portSendN]; split <;> simp [ih]

@[simp] theorem portSend_frame : (s.portSend f).frame = s.frame := by simp [State.portSend]
@[simp] theorem portSend_regs : (s.portSend f).regs = s.regs := by simp [State.portSend]
@[simp] theorem portSend_ctrs : (s.portSend f).ctrs = s.ctrs := by simp [State.portSend]
@[simp] theorem portSend_mgmt : (s.portSend f).mgmt = s.mgmt := by simp [State.portSend]
@[simp] theorem portSend_log : (s.portSend f).log = s.log := by simp [State.portSend]
@[simp] theorem portSend_svc : (s.portSend f).svc = s.svc := by simp [State.portSend]
@[simp] theorem portSend_svcEvt : (s.portSend f).svcEvt = s.svcEvt := by simp [State.portSend]
@[simp] theorem portSend_svcRej : (s.portSend f).svcRej = s.svcRej := by simp [State.portSend]
@[simp] theorem portSend_mem : (s.portSend f).mem = s.mem := by simp [State.portSend]
@[simp] theorem portSend_poison : (s.portSend f).poison = s.poison := by simp [State.portSend]
@[simp] theorem portSend_tier : (s.portSend f).tier = s.tier := by simp [State.portSend]
@[simp] theorem portSend_tenants : (s.portSend f).tenants = s.tenants := by simp [State.portSend]
@[simp] theorem portSend_tables : (s.portSend f).tables = s.tables := by simp [State.portSend]
@[simp] theorem portSend_hports : (s.portSend f).hports = s.hports := by simp [State.portSend]
@[simp] theorem portSend_extents : (s.portSend f).extents = s.extents := by simp [State.portSend]
@[simp] theorem portSend_fns : (s.portSend f).fns = s.fns := by simp [State.portSend]
@[simp] theorem portSend_bg : (s.portSend f).bg = s.bg := by simp [State.portSend]
@[simp] theorem portSend_bgLast : (s.portSend f).bgLast = s.bgLast := by simp [State.portSend]
@[simp] theorem portSend_mctp : (s.portSend f).mctp = s.mctp := by simp [State.portSend]
@[simp] theorem portSend_dir : (s.portSend f).dir = s.dir := by simp [State.portSend]
@[simp] theorem portSend_rgl : (s.portSend f).rgl = s.rgl := by simp [State.portSend]
@[simp] theorem portSend_lanes : (s.portSend f).lanes = s.lanes := by simp [State.portSend]
@[simp] theorem portSend_pats : (s.portSend f).pats = s.pats := by simp [State.portSend]
@[simp] theorem portSend_chans : (s.portSend f).chans = s.chans := by simp [State.portSend]
@[simp] theorem portSend_dram : (s.portSend f).dram = s.dram := by simp [State.portSend]
@[simp] theorem portSend_shelf : (s.portSend f).shelf = s.shelf := by simp [State.portSend]
@[simp] theorem portSend_cues : (s.portSend f).cues = s.cues := by simp [State.portSend]
@[simp] theorem portSend_press : (s.portSend f).press = s.press := by simp [State.portSend]
@[simp] theorem portSend_coll : (s.portSend f).coll = s.coll := by simp [State.portSend]
@[simp] theorem portSend_power : (s.portSend f).power = s.power := by simp [State.portSend]
@[simp] theorem portSend_fw : (s.portSend f).fw = s.fw := by simp [State.portSend]
@[simp] theorem portSend_sys : (s.portSend f).sys = s.sys := by simp [State.portSend]
@[simp] theorem portSend_freeIx : (s.portSend f).freeIx = s.freeIx := by simp [State.portSend]
@[simp] theorem portSend_pending : (s.portSend f).pending = s.pending := by simp [State.portSend]

@[simp] theorem sendBundle_frame : ((s.sendBundle o k b).2).frame = s.frame := by
  unfold State.sendBundle
  split
  · rfl
  · split <;> simp [State.updFport]
@[simp] theorem sendBundle_regs : ((s.sendBundle o k b).2).regs = s.regs := by
  unfold State.sendBundle
  split
  · rfl
  · split <;> simp [State.updFport]
@[simp] theorem sendBundle_ctrs : ((s.sendBundle o k b).2).ctrs = s.ctrs := by
  unfold State.sendBundle
  split
  · rfl
  · split <;> simp [State.updFport]
@[simp] theorem sendBundle_mgmt : ((s.sendBundle o k b).2).mgmt = s.mgmt := by
  unfold State.sendBundle
  split
  · rfl
  · split <;> simp [State.updFport]
@[simp] theorem sendBundle_log : ((s.sendBundle o k b).2).log = s.log := by
  unfold State.sendBundle
  split
  · rfl
  · split <;> simp [State.updFport]
@[simp] theorem sendBundle_svc : ((s.sendBundle o k b).2).svc = s.svc := by
  unfold State.sendBundle
  split
  · rfl
  · split <;> simp [State.updFport]
@[simp] theorem sendBundle_svcEvt : ((s.sendBundle o k b).2).svcEvt = s.svcEvt := by
  unfold State.sendBundle
  split
  · rfl
  · split <;> simp [State.updFport]
@[simp] theorem sendBundle_svcRej : ((s.sendBundle o k b).2).svcRej = s.svcRej := by
  unfold State.sendBundle
  split
  · rfl
  · split <;> simp [State.updFport]
@[simp] theorem sendBundle_mem : ((s.sendBundle o k b).2).mem = s.mem := by
  unfold State.sendBundle
  split
  · rfl
  · split <;> simp [State.updFport]
@[simp] theorem sendBundle_poison : ((s.sendBundle o k b).2).poison = s.poison := by
  unfold State.sendBundle
  split
  · rfl
  · split <;> simp [State.updFport]
@[simp] theorem sendBundle_tier : ((s.sendBundle o k b).2).tier = s.tier := by
  unfold State.sendBundle
  split
  · rfl
  · split <;> simp [State.updFport]
@[simp] theorem sendBundle_tenants : ((s.sendBundle o k b).2).tenants = s.tenants := by
  unfold State.sendBundle
  split
  · rfl
  · split <;> simp [State.updFport]
@[simp] theorem sendBundle_tables : ((s.sendBundle o k b).2).tables = s.tables := by
  unfold State.sendBundle
  split
  · rfl
  · split <;> simp [State.updFport]
@[simp] theorem sendBundle_hports : ((s.sendBundle o k b).2).hports = s.hports := by
  unfold State.sendBundle
  split
  · rfl
  · split <;> simp [State.updFport]
@[simp] theorem sendBundle_extents : ((s.sendBundle o k b).2).extents = s.extents := by
  unfold State.sendBundle
  split
  · rfl
  · split <;> simp [State.updFport]
@[simp] theorem sendBundle_fns : ((s.sendBundle o k b).2).fns = s.fns := by
  unfold State.sendBundle
  split
  · rfl
  · split <;> simp [State.updFport]
@[simp] theorem sendBundle_bg : ((s.sendBundle o k b).2).bg = s.bg := by
  unfold State.sendBundle
  split
  · rfl
  · split <;> simp [State.updFport]
@[simp] theorem sendBundle_bgLast : ((s.sendBundle o k b).2).bgLast = s.bgLast := by
  unfold State.sendBundle
  split
  · rfl
  · split <;> simp [State.updFport]
@[simp] theorem sendBundle_mctp : ((s.sendBundle o k b).2).mctp = s.mctp := by
  unfold State.sendBundle
  split
  · rfl
  · split <;> simp [State.updFport]
@[simp] theorem sendBundle_dir : ((s.sendBundle o k b).2).dir = s.dir := by
  unfold State.sendBundle
  split
  · rfl
  · split <;> simp [State.updFport]
@[simp] theorem sendBundle_rgl : ((s.sendBundle o k b).2).rgl = s.rgl := by
  unfold State.sendBundle
  split
  · rfl
  · split <;> simp [State.updFport]
@[simp] theorem sendBundle_lanes : ((s.sendBundle o k b).2).lanes = s.lanes := by
  unfold State.sendBundle
  split
  · rfl
  · split <;> simp [State.updFport]
@[simp] theorem sendBundle_pats : ((s.sendBundle o k b).2).pats = s.pats := by
  unfold State.sendBundle
  split
  · rfl
  · split <;> simp [State.updFport]
@[simp] theorem sendBundle_chans : ((s.sendBundle o k b).2).chans = s.chans := by
  unfold State.sendBundle
  split
  · rfl
  · split <;> simp [State.updFport]
@[simp] theorem sendBundle_dram : ((s.sendBundle o k b).2).dram = s.dram := by
  unfold State.sendBundle
  split
  · rfl
  · split <;> simp [State.updFport]
@[simp] theorem sendBundle_shelf : ((s.sendBundle o k b).2).shelf = s.shelf := by
  unfold State.sendBundle
  split
  · rfl
  · split <;> simp [State.updFport]
@[simp] theorem sendBundle_cues : ((s.sendBundle o k b).2).cues = s.cues := by
  unfold State.sendBundle
  split
  · rfl
  · split <;> simp [State.updFport]
@[simp] theorem sendBundle_press : ((s.sendBundle o k b).2).press = s.press := by
  unfold State.sendBundle
  split
  · rfl
  · split <;> simp [State.updFport]
@[simp] theorem sendBundle_coll : ((s.sendBundle o k b).2).coll = s.coll := by
  unfold State.sendBundle
  split
  · rfl
  · split <;> simp [State.updFport]
@[simp] theorem sendBundle_power : ((s.sendBundle o k b).2).power = s.power := by
  unfold State.sendBundle
  split
  · rfl
  · split <;> simp [State.updFport]
@[simp] theorem sendBundle_fw : ((s.sendBundle o k b).2).fw = s.fw := by
  unfold State.sendBundle
  split
  · rfl
  · split <;> simp [State.updFport]
@[simp] theorem sendBundle_sys : ((s.sendBundle o k b).2).sys = s.sys := by
  unfold State.sendBundle
  split
  · rfl
  · split <;> simp [State.updFport]
@[simp] theorem sendBundle_freeIx : ((s.sendBundle o k b).2).freeIx = s.freeIx := by
  unfold State.sendBundle
  split
  · rfl
  · split <;> simp [State.updFport]
@[simp] theorem sendBundle_pending : ((s.sendBundle o k b).2).pending = s.pending := by
  unfold State.sendBundle
  split
  · rfl
  · split <;> simp [State.updFport]

@[simp] theorem sendOrDrop_frame : (s.sendOrDrop o k b).frame = s.frame := by simp [State.sendOrDrop]
@[simp] theorem sendOrDrop_regs : (s.sendOrDrop o k b).regs = s.regs := by simp [State.sendOrDrop]
@[simp] theorem sendOrDrop_ctrs : (s.sendOrDrop o k b).ctrs = s.ctrs := by simp [State.sendOrDrop]
@[simp] theorem sendOrDrop_mgmt : (s.sendOrDrop o k b).mgmt = s.mgmt := by simp [State.sendOrDrop]
@[simp] theorem sendOrDrop_log : (s.sendOrDrop o k b).log = s.log := by simp [State.sendOrDrop]
@[simp] theorem sendOrDrop_svc : (s.sendOrDrop o k b).svc = s.svc := by simp [State.sendOrDrop]
@[simp] theorem sendOrDrop_svcEvt : (s.sendOrDrop o k b).svcEvt = s.svcEvt := by simp [State.sendOrDrop]
@[simp] theorem sendOrDrop_svcRej : (s.sendOrDrop o k b).svcRej = s.svcRej := by simp [State.sendOrDrop]
@[simp] theorem sendOrDrop_mem : (s.sendOrDrop o k b).mem = s.mem := by simp [State.sendOrDrop]
@[simp] theorem sendOrDrop_poison : (s.sendOrDrop o k b).poison = s.poison := by simp [State.sendOrDrop]
@[simp] theorem sendOrDrop_tier : (s.sendOrDrop o k b).tier = s.tier := by simp [State.sendOrDrop]
@[simp] theorem sendOrDrop_tenants : (s.sendOrDrop o k b).tenants = s.tenants := by simp [State.sendOrDrop]
@[simp] theorem sendOrDrop_tables : (s.sendOrDrop o k b).tables = s.tables := by simp [State.sendOrDrop]
@[simp] theorem sendOrDrop_hports : (s.sendOrDrop o k b).hports = s.hports := by simp [State.sendOrDrop]
@[simp] theorem sendOrDrop_extents : (s.sendOrDrop o k b).extents = s.extents := by simp [State.sendOrDrop]
@[simp] theorem sendOrDrop_fns : (s.sendOrDrop o k b).fns = s.fns := by simp [State.sendOrDrop]
@[simp] theorem sendOrDrop_bg : (s.sendOrDrop o k b).bg = s.bg := by simp [State.sendOrDrop]
@[simp] theorem sendOrDrop_bgLast : (s.sendOrDrop o k b).bgLast = s.bgLast := by simp [State.sendOrDrop]
@[simp] theorem sendOrDrop_mctp : (s.sendOrDrop o k b).mctp = s.mctp := by simp [State.sendOrDrop]
@[simp] theorem sendOrDrop_dir : (s.sendOrDrop o k b).dir = s.dir := by simp [State.sendOrDrop]
@[simp] theorem sendOrDrop_rgl : (s.sendOrDrop o k b).rgl = s.rgl := by simp [State.sendOrDrop]
@[simp] theorem sendOrDrop_lanes : (s.sendOrDrop o k b).lanes = s.lanes := by simp [State.sendOrDrop]
@[simp] theorem sendOrDrop_pats : (s.sendOrDrop o k b).pats = s.pats := by simp [State.sendOrDrop]
@[simp] theorem sendOrDrop_chans : (s.sendOrDrop o k b).chans = s.chans := by simp [State.sendOrDrop]
@[simp] theorem sendOrDrop_dram : (s.sendOrDrop o k b).dram = s.dram := by simp [State.sendOrDrop]
@[simp] theorem sendOrDrop_shelf : (s.sendOrDrop o k b).shelf = s.shelf := by simp [State.sendOrDrop]
@[simp] theorem sendOrDrop_cues : (s.sendOrDrop o k b).cues = s.cues := by simp [State.sendOrDrop]
@[simp] theorem sendOrDrop_press : (s.sendOrDrop o k b).press = s.press := by simp [State.sendOrDrop]
@[simp] theorem sendOrDrop_coll : (s.sendOrDrop o k b).coll = s.coll := by simp [State.sendOrDrop]
@[simp] theorem sendOrDrop_power : (s.sendOrDrop o k b).power = s.power := by simp [State.sendOrDrop]
@[simp] theorem sendOrDrop_fw : (s.sendOrDrop o k b).fw = s.fw := by simp [State.sendOrDrop]
@[simp] theorem sendOrDrop_sys : (s.sendOrDrop o k b).sys = s.sys := by simp [State.sendOrDrop]
@[simp] theorem sendOrDrop_freeIx : (s.sendOrDrop o k b).freeIx = s.freeIx := by simp [State.sendOrDrop]
@[simp] theorem sendOrDrop_pending : (s.sendOrDrop o k b).pending = s.pending := by simp [State.sendOrDrop]

@[simp] theorem mgmtReply_frame : (s.mgmtReply a v).frame = s.frame := by
  unfold State.mgmtReply
  split
  · simp
  · split <;> simp [State.emit]
@[simp] theorem mgmtReply_regs : (s.mgmtReply a v).regs = s.regs := by
  unfold State.mgmtReply
  split
  · simp
  · split <;> simp [State.emit]
@[simp] theorem mgmtReply_ctrs : (s.mgmtReply a v).ctrs = s.ctrs := by
  unfold State.mgmtReply
  split
  · simp
  · split <;> simp [State.emit]
@[simp] theorem mgmtReply_mgmt : (s.mgmtReply a v).mgmt = s.mgmt := by
  unfold State.mgmtReply
  split
  · simp
  · split <;> simp [State.emit]
@[simp] theorem mgmtReply_log : (s.mgmtReply a v).log = s.log := by
  unfold State.mgmtReply
  split
  · simp
  · split <;> simp [State.emit]
@[simp] theorem mgmtReply_svc : (s.mgmtReply a v).svc = s.svc := by
  unfold State.mgmtReply
  split
  · simp
  · split <;> simp [State.emit]
@[simp] theorem mgmtReply_svcEvt : (s.mgmtReply a v).svcEvt = s.svcEvt := by
  unfold State.mgmtReply
  split
  · simp
  · split <;> simp [State.emit]
@[simp] theorem mgmtReply_svcRej : (s.mgmtReply a v).svcRej = s.svcRej := by
  unfold State.mgmtReply
  split
  · simp
  · split <;> simp [State.emit]
@[simp] theorem mgmtReply_mem : (s.mgmtReply a v).mem = s.mem := by
  unfold State.mgmtReply
  split
  · simp
  · split <;> simp [State.emit]
@[simp] theorem mgmtReply_poison : (s.mgmtReply a v).poison = s.poison := by
  unfold State.mgmtReply
  split
  · simp
  · split <;> simp [State.emit]
@[simp] theorem mgmtReply_tier : (s.mgmtReply a v).tier = s.tier := by
  unfold State.mgmtReply
  split
  · simp
  · split <;> simp [State.emit]
@[simp] theorem mgmtReply_tenants : (s.mgmtReply a v).tenants = s.tenants := by
  unfold State.mgmtReply
  split
  · simp
  · split <;> simp [State.emit]
@[simp] theorem mgmtReply_tables : (s.mgmtReply a v).tables = s.tables := by
  unfold State.mgmtReply
  split
  · simp
  · split <;> simp [State.emit]
@[simp] theorem mgmtReply_hports : (s.mgmtReply a v).hports = s.hports := by
  unfold State.mgmtReply
  split
  · simp
  · split <;> simp [State.emit]
@[simp] theorem mgmtReply_extents : (s.mgmtReply a v).extents = s.extents := by
  unfold State.mgmtReply
  split
  · simp
  · split <;> simp [State.emit]
@[simp] theorem mgmtReply_fns : (s.mgmtReply a v).fns = s.fns := by
  unfold State.mgmtReply
  split
  · simp
  · split <;> simp [State.emit]
@[simp] theorem mgmtReply_bg : (s.mgmtReply a v).bg = s.bg := by
  unfold State.mgmtReply
  split
  · simp
  · split <;> simp [State.emit]
@[simp] theorem mgmtReply_bgLast : (s.mgmtReply a v).bgLast = s.bgLast := by
  unfold State.mgmtReply
  split
  · simp
  · split <;> simp [State.emit]
@[simp] theorem mgmtReply_mctp : (s.mgmtReply a v).mctp = s.mctp := by
  unfold State.mgmtReply
  split
  · simp
  · split <;> simp [State.emit]
@[simp] theorem mgmtReply_dir : (s.mgmtReply a v).dir = s.dir := by
  unfold State.mgmtReply
  split
  · simp
  · split <;> simp [State.emit]
@[simp] theorem mgmtReply_rgl : (s.mgmtReply a v).rgl = s.rgl := by
  unfold State.mgmtReply
  split
  · simp
  · split <;> simp [State.emit]
@[simp] theorem mgmtReply_lanes : (s.mgmtReply a v).lanes = s.lanes := by
  unfold State.mgmtReply
  split
  · simp
  · split <;> simp [State.emit]
@[simp] theorem mgmtReply_pats : (s.mgmtReply a v).pats = s.pats := by
  unfold State.mgmtReply
  split
  · simp
  · split <;> simp [State.emit]
@[simp] theorem mgmtReply_chans : (s.mgmtReply a v).chans = s.chans := by
  unfold State.mgmtReply
  split
  · simp
  · split <;> simp [State.emit]
@[simp] theorem mgmtReply_dram : (s.mgmtReply a v).dram = s.dram := by
  unfold State.mgmtReply
  split
  · simp
  · split <;> simp [State.emit]
@[simp] theorem mgmtReply_shelf : (s.mgmtReply a v).shelf = s.shelf := by
  unfold State.mgmtReply
  split
  · simp
  · split <;> simp [State.emit]
@[simp] theorem mgmtReply_cues : (s.mgmtReply a v).cues = s.cues := by
  unfold State.mgmtReply
  split
  · simp
  · split <;> simp [State.emit]
@[simp] theorem mgmtReply_press : (s.mgmtReply a v).press = s.press := by
  unfold State.mgmtReply
  split
  · simp
  · split <;> simp [State.emit]
@[simp] theorem mgmtReply_coll : (s.mgmtReply a v).coll = s.coll := by
  unfold State.mgmtReply
  split
  · simp
  · split <;> simp [State.emit]
@[simp] theorem mgmtReply_power : (s.mgmtReply a v).power = s.power := by
  unfold State.mgmtReply
  split
  · simp
  · split <;> simp [State.emit]
@[simp] theorem mgmtReply_fw : (s.mgmtReply a v).fw = s.fw := by
  unfold State.mgmtReply
  split
  · simp
  · split <;> simp [State.emit]
@[simp] theorem mgmtReply_sys : (s.mgmtReply a v).sys = s.sys := by
  unfold State.mgmtReply
  split
  · simp
  · split <;> simp [State.emit]
@[simp] theorem mgmtReply_freeIx : (s.mgmtReply a v).freeIx = s.freeIx := by
  unfold State.mgmtReply
  split
  · simp
  · split <;> simp [State.emit]
@[simp] theorem mgmtReply_pending : (s.mgmtReply a v).pending = s.pending := by
  unfold State.mgmtReply
  split
  · simp
  · split <;> simp [State.emit]

@[simp] theorem portSendN_slate_act (n : Nat) : (s.portSendN n f).slate.act = s.slate.act := by
  induction n generalizing s with
  | zero => rfl
  | succ n ih => simp only [State.portSendN]; split <;> simp [ih]
@[simp] theorem portSendN_slate_shadow (n : Nat) : (s.portSendN n f).slate.shadow = s.slate.shadow := by
  induction n generalizing s with
  | zero => rfl
  | succ n ih => simp only [State.portSendN]; split <;> simp [ih]
@[simp] theorem portSendN_slate_bank (n : Nat) : (s.portSendN n f).slate.bank = s.slate.bank := by
  induction n generalizing s with
  | zero => rfl
  | succ n ih => simp only [State.portSendN]; split <;> simp [ih]
@[simp] theorem portSendN_slate_pend (n : Nat) : (s.portSendN n f).slate.pend = s.slate.pend := by
  induction n generalizing s with
  | zero => rfl
  | succ n ih => simp only [State.portSendN]; split <;> simp [ih]
@[simp] theorem portSendN_slate_err (n : Nat) : (s.portSendN n f).slate.err = s.slate.err := by
  induction n generalizing s with
  | zero => rfl
  | succ n ih => simp only [State.portSendN]; split <;> simp [ih]
@[simp] theorem portSendN_slate_errRow (n : Nat) : (s.portSendN n f).slate.errRow = s.slate.errRow := by
  induction n generalizing s with
  | zero => rfl
  | succ n ih => simp only [State.portSendN]; split <;> simp [ih]
@[simp] theorem portSendN_slate_errGroup (n : Nat) : (s.portSendN n f).slate.errGroup = s.slate.errGroup := by
  induction n generalizing s with
  | zero => rfl
  | succ n ih => simp only [State.portSendN]; split <;> simp [ih]
@[simp] theorem portSendN_slate_wrDrop (n : Nat) : (s.portSendN n f).slate.wrDrop = s.slate.wrDrop := by
  induction n generalizing s with
  | zero => rfl
  | succ n ih => simp only [State.portSendN]; split <;> simp [ih]
@[simp] theorem portSendN_slate_ovr (n : Nat) : (s.portSendN n f).slate.ovr = s.slate.ovr := by
  induction n generalizing s with
  | zero => rfl
  | succ n ih => simp only [State.portSendN]; split <;> simp [ih]
@[simp] theorem portSendN_slate_ovrNext (n : Nat) : (s.portSendN n f).slate.ovrNext = s.slate.ovrNext := by
  induction n generalizing s with
  | zero => rfl
  | succ n ih => simp only [State.portSendN]; split <;> simp [ih]
@[simp] theorem portSendN_slate_reelDrops (n : Nat) : (s.portSendN n f).slate.reelDrops = s.slate.reelDrops := by
  induction n generalizing s with
  | zero => rfl
  | succ n ih => simp only [State.portSendN]; split <;> simp [ih]
@[simp] theorem portSendN_slate_dropTotal (n : Nat) : (s.portSendN n f).slate.dropTotal = s.slate.dropTotal := by
  induction n generalizing s with
  | zero => rfl
  | succ n ih => simp only [State.portSendN]; split <;> simp [ih]
@[simp] theorem portSendN_fab_route (n : Nat) : (s.portSendN n f).fab.route = s.fab.route := by
  induction n generalizing s with
  | zero => rfl
  | succ n ih => simp only [State.portSendN]; split <;> simp [ih]
@[simp] theorem portSendN_fab_routeNext (n : Nat) : (s.portSendN n f).fab.routeNext = s.fab.routeNext := by
  induction n generalizing s with
  | zero => rfl
  | succ n ih => simp only [State.portSendN]; split <;> simp [ih]
@[simp] theorem portSendN_fab_peers (n : Nat) : (s.portSendN n f).fab.peers = s.fab.peers := by
  induction n generalizing s with
  | zero => rfl
  | succ n ih => simp only [State.portSendN]; split <;> simp [ih]
@[simp] theorem portSendN_fab_staged (n : Nat) : (s.portSendN n f).fab.staged = s.fab.staged := by
  induction n generalizing s with
  | zero => rfl
  | succ n ih => simp only [State.portSendN]; split <;> simp [ih]
@[simp] theorem portSendN_fab_cmds (n : Nat) : (s.portSendN n f).fab.cmds = s.fab.cmds := by
  induction n generalizing s with
  | zero => rfl
  | succ n ih => simp only [State.portSendN]; split <;> simp [ih]
@[simp] theorem portSendN_fab_cmdStat (n : Nat) : (s.portSendN n f).fab.cmdStat = s.fab.cmdStat := by
  induction n generalizing s with
  | zero => rfl
  | succ n ih => simp only [State.portSendN]; split <;> simp [ih]
@[simp] theorem portSendN_fab_pdir (n : Nat) : (s.portSendN n f).fab.pdir = s.fab.pdir := by
  induction n generalizing s with
  | zero => rfl
  | succ n ih => simp only [State.portSendN]; split <;> simp [ih]
@[simp] theorem portSendN_fab_reqs (n : Nat) : (s.portSendN n f).fab.reqs = s.fab.reqs := by
  induction n generalizing s with
  | zero => rfl
  | succ n ih => simp only [State.portSendN]; split <;> simp [ih]
@[simp] theorem portSendN_fab_jobs (n : Nat) : (s.portSendN n f).fab.jobs = s.fab.jobs := by
  induction n generalizing s with
  | zero => rfl
  | succ n ih => simp only [State.portSendN]; split <;> simp [ih]
@[simp] theorem portSendN_fab_jobNext (n : Nat) : (s.portSendN n f).fab.jobNext = s.fab.jobNext := by
  induction n generalizing s with
  | zero => rfl
  | succ n ih => simp only [State.portSendN]; split <;> simp [ih]
@[simp] theorem portSendN_fab_waiting (n : Nat) : (s.portSendN n f).fab.waiting = s.fab.waiting := by
  induction n generalizing s with
  | zero => rfl
  | succ n ih => simp only [State.portSendN]; split <;> simp [ih]
@[simp] theorem portSendN_fab_stalled (n : Nat) : (s.portSendN n f).fab.stalled = s.fab.stalled := by
  induction n generalizing s with
  | zero => rfl
  | succ n ih => simp only [State.portSendN]; split <;> simp [ih]
@[simp] theorem portSendN_fab_buf (n : Nat) : (s.portSendN n f).fab.buf = s.fab.buf := by
  induction n generalizing s with
  | zero => rfl
  | succ n ih => simp only [State.portSendN]; split <;> simp [ih]
@[simp] theorem portSendN_fab_peak (n : Nat) : (s.portSendN n f).fab.peak = s.fab.peak := by
  induction n generalizing s with
  | zero => rfl
  | succ n ih => simp only [State.portSendN]; split <;> simp [ih]

@[simp] theorem portSend_slate_act : (s.portSend f).slate.act = s.slate.act := by simp [State.portSend]
@[simp] theorem portSend_slate_shadow : (s.portSend f).slate.shadow = s.slate.shadow := by simp [State.portSend]
@[simp] theorem portSend_slate_bank : (s.portSend f).slate.bank = s.slate.bank := by simp [State.portSend]
@[simp] theorem portSend_slate_pend : (s.portSend f).slate.pend = s.slate.pend := by simp [State.portSend]
@[simp] theorem portSend_slate_err : (s.portSend f).slate.err = s.slate.err := by simp [State.portSend]
@[simp] theorem portSend_slate_errRow : (s.portSend f).slate.errRow = s.slate.errRow := by simp [State.portSend]
@[simp] theorem portSend_slate_errGroup : (s.portSend f).slate.errGroup = s.slate.errGroup := by simp [State.portSend]
@[simp] theorem portSend_slate_wrDrop : (s.portSend f).slate.wrDrop = s.slate.wrDrop := by simp [State.portSend]
@[simp] theorem portSend_slate_ovr : (s.portSend f).slate.ovr = s.slate.ovr := by simp [State.portSend]
@[simp] theorem portSend_slate_ovrNext : (s.portSend f).slate.ovrNext = s.slate.ovrNext := by simp [State.portSend]
@[simp] theorem portSend_slate_reelDrops : (s.portSend f).slate.reelDrops = s.slate.reelDrops := by simp [State.portSend]
@[simp] theorem portSend_slate_dropTotal : (s.portSend f).slate.dropTotal = s.slate.dropTotal := by simp [State.portSend]
@[simp] theorem portSend_fab_route : (s.portSend f).fab.route = s.fab.route := by simp [State.portSend]
@[simp] theorem portSend_fab_routeNext : (s.portSend f).fab.routeNext = s.fab.routeNext := by simp [State.portSend]
@[simp] theorem portSend_fab_peers : (s.portSend f).fab.peers = s.fab.peers := by simp [State.portSend]
@[simp] theorem portSend_fab_staged : (s.portSend f).fab.staged = s.fab.staged := by simp [State.portSend]
@[simp] theorem portSend_fab_cmds : (s.portSend f).fab.cmds = s.fab.cmds := by simp [State.portSend]
@[simp] theorem portSend_fab_cmdStat : (s.portSend f).fab.cmdStat = s.fab.cmdStat := by simp [State.portSend]
@[simp] theorem portSend_fab_pdir : (s.portSend f).fab.pdir = s.fab.pdir := by simp [State.portSend]
@[simp] theorem portSend_fab_reqs : (s.portSend f).fab.reqs = s.fab.reqs := by simp [State.portSend]
@[simp] theorem portSend_fab_jobs : (s.portSend f).fab.jobs = s.fab.jobs := by simp [State.portSend]
@[simp] theorem portSend_fab_jobNext : (s.portSend f).fab.jobNext = s.fab.jobNext := by simp [State.portSend]
@[simp] theorem portSend_fab_waiting : (s.portSend f).fab.waiting = s.fab.waiting := by simp [State.portSend]
@[simp] theorem portSend_fab_stalled : (s.portSend f).fab.stalled = s.fab.stalled := by simp [State.portSend]
@[simp] theorem portSend_fab_buf : (s.portSend f).fab.buf = s.fab.buf := by simp [State.portSend]
@[simp] theorem portSend_fab_peak : (s.portSend f).fab.peak = s.fab.peak := by simp [State.portSend]

@[simp] theorem sendBundle_slate_act : ((s.sendBundle o k b).2).slate.act = s.slate.act := by
  unfold State.sendBundle
  split
  · rfl
  · split <;> simp [State.updFport]
@[simp] theorem sendBundle_slate_shadow : ((s.sendBundle o k b).2).slate.shadow = s.slate.shadow := by
  unfold State.sendBundle
  split
  · rfl
  · split <;> simp [State.updFport]
@[simp] theorem sendBundle_slate_bank : ((s.sendBundle o k b).2).slate.bank = s.slate.bank := by
  unfold State.sendBundle
  split
  · rfl
  · split <;> simp [State.updFport]
@[simp] theorem sendBundle_slate_pend : ((s.sendBundle o k b).2).slate.pend = s.slate.pend := by
  unfold State.sendBundle
  split
  · rfl
  · split <;> simp [State.updFport]
@[simp] theorem sendBundle_slate_err : ((s.sendBundle o k b).2).slate.err = s.slate.err := by
  unfold State.sendBundle
  split
  · rfl
  · split <;> simp [State.updFport]
@[simp] theorem sendBundle_slate_errRow : ((s.sendBundle o k b).2).slate.errRow = s.slate.errRow := by
  unfold State.sendBundle
  split
  · rfl
  · split <;> simp [State.updFport]
@[simp] theorem sendBundle_slate_errGroup : ((s.sendBundle o k b).2).slate.errGroup = s.slate.errGroup := by
  unfold State.sendBundle
  split
  · rfl
  · split <;> simp [State.updFport]
@[simp] theorem sendBundle_slate_wrDrop : ((s.sendBundle o k b).2).slate.wrDrop = s.slate.wrDrop := by
  unfold State.sendBundle
  split
  · rfl
  · split <;> simp [State.updFport]
@[simp] theorem sendBundle_slate_ovr : ((s.sendBundle o k b).2).slate.ovr = s.slate.ovr := by
  unfold State.sendBundle
  split
  · rfl
  · split <;> simp [State.updFport]
@[simp] theorem sendBundle_slate_ovrNext : ((s.sendBundle o k b).2).slate.ovrNext = s.slate.ovrNext := by
  unfold State.sendBundle
  split
  · rfl
  · split <;> simp [State.updFport]
@[simp] theorem sendBundle_slate_reelDrops : ((s.sendBundle o k b).2).slate.reelDrops = s.slate.reelDrops := by
  unfold State.sendBundle
  split
  · rfl
  · split <;> simp [State.updFport]
@[simp] theorem sendBundle_slate_dropTotal : ((s.sendBundle o k b).2).slate.dropTotal = s.slate.dropTotal := by
  unfold State.sendBundle
  split
  · rfl
  · split <;> simp [State.updFport]
@[simp] theorem sendBundle_fab_route : ((s.sendBundle o k b).2).fab.route = s.fab.route := by
  unfold State.sendBundle
  split
  · rfl
  · split <;> simp [State.updFport]
@[simp] theorem sendBundle_fab_routeNext : ((s.sendBundle o k b).2).fab.routeNext = s.fab.routeNext := by
  unfold State.sendBundle
  split
  · rfl
  · split <;> simp [State.updFport]
@[simp] theorem sendBundle_fab_peers : ((s.sendBundle o k b).2).fab.peers = s.fab.peers := by
  unfold State.sendBundle
  split
  · rfl
  · split <;> simp [State.updFport]
@[simp] theorem sendBundle_fab_staged : ((s.sendBundle o k b).2).fab.staged = s.fab.staged := by
  unfold State.sendBundle
  split
  · rfl
  · split <;> simp [State.updFport]
@[simp] theorem sendBundle_fab_cmds : ((s.sendBundle o k b).2).fab.cmds = s.fab.cmds := by
  unfold State.sendBundle
  split
  · rfl
  · split <;> simp [State.updFport]
@[simp] theorem sendBundle_fab_cmdStat : ((s.sendBundle o k b).2).fab.cmdStat = s.fab.cmdStat := by
  unfold State.sendBundle
  split
  · rfl
  · split <;> simp [State.updFport]
@[simp] theorem sendBundle_fab_pdir : ((s.sendBundle o k b).2).fab.pdir = s.fab.pdir := by
  unfold State.sendBundle
  split
  · rfl
  · split <;> simp [State.updFport]
@[simp] theorem sendBundle_fab_reqs : ((s.sendBundle o k b).2).fab.reqs = s.fab.reqs := by
  unfold State.sendBundle
  split
  · rfl
  · split <;> simp [State.updFport]
@[simp] theorem sendBundle_fab_jobs : ((s.sendBundle o k b).2).fab.jobs = s.fab.jobs := by
  unfold State.sendBundle
  split
  · rfl
  · split <;> simp [State.updFport]
@[simp] theorem sendBundle_fab_jobNext : ((s.sendBundle o k b).2).fab.jobNext = s.fab.jobNext := by
  unfold State.sendBundle
  split
  · rfl
  · split <;> simp [State.updFport]
@[simp] theorem sendBundle_fab_waiting : ((s.sendBundle o k b).2).fab.waiting = s.fab.waiting := by
  unfold State.sendBundle
  split
  · rfl
  · split <;> simp [State.updFport]
@[simp] theorem sendBundle_fab_stalled : ((s.sendBundle o k b).2).fab.stalled = s.fab.stalled := by
  unfold State.sendBundle
  split
  · rfl
  · split <;> simp [State.updFport]
@[simp] theorem sendBundle_fab_buf : ((s.sendBundle o k b).2).fab.buf = s.fab.buf := by
  unfold State.sendBundle
  split
  · rfl
  · split <;> simp [State.updFport]
@[simp] theorem sendBundle_fab_peak : ((s.sendBundle o k b).2).fab.peak = s.fab.peak := by
  unfold State.sendBundle
  split
  · rfl
  · split <;> simp [State.updFport]

@[simp] theorem sendOrDrop_slate_act : (s.sendOrDrop o k b).slate.act = s.slate.act := by simp [State.sendOrDrop]
@[simp] theorem sendOrDrop_slate_shadow : (s.sendOrDrop o k b).slate.shadow = s.slate.shadow := by simp [State.sendOrDrop]
@[simp] theorem sendOrDrop_slate_bank : (s.sendOrDrop o k b).slate.bank = s.slate.bank := by simp [State.sendOrDrop]
@[simp] theorem sendOrDrop_slate_pend : (s.sendOrDrop o k b).slate.pend = s.slate.pend := by simp [State.sendOrDrop]
@[simp] theorem sendOrDrop_slate_err : (s.sendOrDrop o k b).slate.err = s.slate.err := by simp [State.sendOrDrop]
@[simp] theorem sendOrDrop_slate_errRow : (s.sendOrDrop o k b).slate.errRow = s.slate.errRow := by simp [State.sendOrDrop]
@[simp] theorem sendOrDrop_slate_errGroup : (s.sendOrDrop o k b).slate.errGroup = s.slate.errGroup := by simp [State.sendOrDrop]
@[simp] theorem sendOrDrop_slate_wrDrop : (s.sendOrDrop o k b).slate.wrDrop = s.slate.wrDrop := by simp [State.sendOrDrop]
@[simp] theorem sendOrDrop_slate_ovr : (s.sendOrDrop o k b).slate.ovr = s.slate.ovr := by simp [State.sendOrDrop]
@[simp] theorem sendOrDrop_slate_ovrNext : (s.sendOrDrop o k b).slate.ovrNext = s.slate.ovrNext := by simp [State.sendOrDrop]
@[simp] theorem sendOrDrop_slate_reelDrops : (s.sendOrDrop o k b).slate.reelDrops = s.slate.reelDrops := by simp [State.sendOrDrop]
@[simp] theorem sendOrDrop_slate_dropTotal : (s.sendOrDrop o k b).slate.dropTotal = s.slate.dropTotal := by simp [State.sendOrDrop]
@[simp] theorem sendOrDrop_fab_route : (s.sendOrDrop o k b).fab.route = s.fab.route := by simp [State.sendOrDrop]
@[simp] theorem sendOrDrop_fab_routeNext : (s.sendOrDrop o k b).fab.routeNext = s.fab.routeNext := by simp [State.sendOrDrop]
@[simp] theorem sendOrDrop_fab_peers : (s.sendOrDrop o k b).fab.peers = s.fab.peers := by simp [State.sendOrDrop]
@[simp] theorem sendOrDrop_fab_staged : (s.sendOrDrop o k b).fab.staged = s.fab.staged := by simp [State.sendOrDrop]
@[simp] theorem sendOrDrop_fab_cmds : (s.sendOrDrop o k b).fab.cmds = s.fab.cmds := by simp [State.sendOrDrop]
@[simp] theorem sendOrDrop_fab_cmdStat : (s.sendOrDrop o k b).fab.cmdStat = s.fab.cmdStat := by simp [State.sendOrDrop]
@[simp] theorem sendOrDrop_fab_pdir : (s.sendOrDrop o k b).fab.pdir = s.fab.pdir := by simp [State.sendOrDrop]
@[simp] theorem sendOrDrop_fab_reqs : (s.sendOrDrop o k b).fab.reqs = s.fab.reqs := by simp [State.sendOrDrop]
@[simp] theorem sendOrDrop_fab_jobs : (s.sendOrDrop o k b).fab.jobs = s.fab.jobs := by simp [State.sendOrDrop]
@[simp] theorem sendOrDrop_fab_jobNext : (s.sendOrDrop o k b).fab.jobNext = s.fab.jobNext := by simp [State.sendOrDrop]
@[simp] theorem sendOrDrop_fab_waiting : (s.sendOrDrop o k b).fab.waiting = s.fab.waiting := by simp [State.sendOrDrop]
@[simp] theorem sendOrDrop_fab_stalled : (s.sendOrDrop o k b).fab.stalled = s.fab.stalled := by simp [State.sendOrDrop]
@[simp] theorem sendOrDrop_fab_buf : (s.sendOrDrop o k b).fab.buf = s.fab.buf := by simp [State.sendOrDrop]
@[simp] theorem sendOrDrop_fab_peak : (s.sendOrDrop o k b).fab.peak = s.fab.peak := by simp [State.sendOrDrop]

@[simp] theorem mgmtReply_slate_act : (s.mgmtReply a v).slate.act = s.slate.act := by
  unfold State.mgmtReply
  split
  · simp
  · split <;> simp [State.emit]
@[simp] theorem mgmtReply_slate_shadow : (s.mgmtReply a v).slate.shadow = s.slate.shadow := by
  unfold State.mgmtReply
  split
  · simp
  · split <;> simp [State.emit]
@[simp] theorem mgmtReply_slate_bank : (s.mgmtReply a v).slate.bank = s.slate.bank := by
  unfold State.mgmtReply
  split
  · simp
  · split <;> simp [State.emit]
@[simp] theorem mgmtReply_slate_pend : (s.mgmtReply a v).slate.pend = s.slate.pend := by
  unfold State.mgmtReply
  split
  · simp
  · split <;> simp [State.emit]
@[simp] theorem mgmtReply_slate_err : (s.mgmtReply a v).slate.err = s.slate.err := by
  unfold State.mgmtReply
  split
  · simp
  · split <;> simp [State.emit]
@[simp] theorem mgmtReply_slate_errRow : (s.mgmtReply a v).slate.errRow = s.slate.errRow := by
  unfold State.mgmtReply
  split
  · simp
  · split <;> simp [State.emit]
@[simp] theorem mgmtReply_slate_errGroup : (s.mgmtReply a v).slate.errGroup = s.slate.errGroup := by
  unfold State.mgmtReply
  split
  · simp
  · split <;> simp [State.emit]
@[simp] theorem mgmtReply_slate_wrDrop : (s.mgmtReply a v).slate.wrDrop = s.slate.wrDrop := by
  unfold State.mgmtReply
  split
  · simp
  · split <;> simp [State.emit]
@[simp] theorem mgmtReply_slate_ovr : (s.mgmtReply a v).slate.ovr = s.slate.ovr := by
  unfold State.mgmtReply
  split
  · simp
  · split <;> simp [State.emit]
@[simp] theorem mgmtReply_slate_ovrNext : (s.mgmtReply a v).slate.ovrNext = s.slate.ovrNext := by
  unfold State.mgmtReply
  split
  · simp
  · split <;> simp [State.emit]
@[simp] theorem mgmtReply_slate_reelDrops : (s.mgmtReply a v).slate.reelDrops = s.slate.reelDrops := by
  unfold State.mgmtReply
  split
  · simp
  · split <;> simp [State.emit]
@[simp] theorem mgmtReply_slate_dropTotal : (s.mgmtReply a v).slate.dropTotal = s.slate.dropTotal := by
  unfold State.mgmtReply
  split
  · simp
  · split <;> simp [State.emit]
@[simp] theorem mgmtReply_fab_route : (s.mgmtReply a v).fab.route = s.fab.route := by
  unfold State.mgmtReply
  split
  · simp
  · split <;> simp [State.emit]
@[simp] theorem mgmtReply_fab_routeNext : (s.mgmtReply a v).fab.routeNext = s.fab.routeNext := by
  unfold State.mgmtReply
  split
  · simp
  · split <;> simp [State.emit]
@[simp] theorem mgmtReply_fab_peers : (s.mgmtReply a v).fab.peers = s.fab.peers := by
  unfold State.mgmtReply
  split
  · simp
  · split <;> simp [State.emit]
@[simp] theorem mgmtReply_fab_staged : (s.mgmtReply a v).fab.staged = s.fab.staged := by
  unfold State.mgmtReply
  split
  · simp
  · split <;> simp [State.emit]
@[simp] theorem mgmtReply_fab_cmds : (s.mgmtReply a v).fab.cmds = s.fab.cmds := by
  unfold State.mgmtReply
  split
  · simp
  · split <;> simp [State.emit]
@[simp] theorem mgmtReply_fab_cmdStat : (s.mgmtReply a v).fab.cmdStat = s.fab.cmdStat := by
  unfold State.mgmtReply
  split
  · simp
  · split <;> simp [State.emit]
@[simp] theorem mgmtReply_fab_pdir : (s.mgmtReply a v).fab.pdir = s.fab.pdir := by
  unfold State.mgmtReply
  split
  · simp
  · split <;> simp [State.emit]
@[simp] theorem mgmtReply_fab_reqs : (s.mgmtReply a v).fab.reqs = s.fab.reqs := by
  unfold State.mgmtReply
  split
  · simp
  · split <;> simp [State.emit]
@[simp] theorem mgmtReply_fab_jobs : (s.mgmtReply a v).fab.jobs = s.fab.jobs := by
  unfold State.mgmtReply
  split
  · simp
  · split <;> simp [State.emit]
@[simp] theorem mgmtReply_fab_jobNext : (s.mgmtReply a v).fab.jobNext = s.fab.jobNext := by
  unfold State.mgmtReply
  split
  · simp
  · split <;> simp [State.emit]
@[simp] theorem mgmtReply_fab_waiting : (s.mgmtReply a v).fab.waiting = s.fab.waiting := by
  unfold State.mgmtReply
  split
  · simp
  · split <;> simp [State.emit]
@[simp] theorem mgmtReply_fab_stalled : (s.mgmtReply a v).fab.stalled = s.fab.stalled := by
  unfold State.mgmtReply
  split
  · simp
  · split <;> simp [State.emit]
@[simp] theorem mgmtReply_fab_buf : (s.mgmtReply a v).fab.buf = s.fab.buf := by
  unfold State.mgmtReply
  split
  · simp
  · split <;> simp [State.emit]
@[simp] theorem mgmtReply_fab_peak : (s.mgmtReply a v).fab.peak = s.fab.peak := by
  unfold State.mgmtReply
  split
  · simp
  · split <;> simp [State.emit]

end Sys2Proof.Machine
end

