-- ==== Sys2Proof/Laws/Only.lean ====
section
/-!
SUPPORT. Which parts each operation writes: one lemma for each, and how they compose.
-/

namespace Sys2Proof.Machine

open Sys2Proof

theorem Part.Same.refl (p : Part) (s : State) : p.Same s s := by cases p <;> rfl

theorem Part.Same.trans {p : Part} {s t u : State} (h : p.Same s t) (h' : p.Same t u) : p.Same s u := by
  cases p <;> exact Eq.trans h' h

theorem Only.refl (l : List Part) (s : State) : Only l s s := fun p _ => Part.Same.refl p s

theorem Only.trans {l : List Part} {s t u : State} (h : Only l s t) (h' : Only l t u) : Only l s u :=
  fun p hp => (h p hp).trans (h' p hp)

theorem Only.mono {l l' : List Part} {s t : State} (h : Only l s t) (hl : l.all (fun p => l'.contains p) = true) : Only l' s t :=
  fun p hp => h p fun hm => hp (by simpa using List.all_eq_true.mp hl p hm)

theorem Only.ite {c : Prop} [Decidable c] {l : List Part} {s a b : State} (ha : Only l s a) (hb : Only l s b) :
    Only l s (if c then a else b) := by
  split
  · exact ha
  · exact hb

theorem Only.foldl {α : Type} {l : List Part} {f : State → α → State} (h : ∀ s a, Only l s (f s a)) (xs : List α) (s : State) :
    Only l s (xs.foldl f s) := by
  induction xs generalizing s with
  | nil => exact Only.refl l s
  | cons x xs ih => exact (h s x).trans (ih _)

theorem Only.forEach {l : List Part} {f : Nat → State → State} (h : ∀ s a, Only l s (f a s)) (xs : List Nat) (s : State) :
    Only l s (forEach xs f s) := Only.foldl (f := fun a k => f k a) h xs s

/-- What a command does not touch stays under `keeping`. -/
theorem Only.keeping {l : List Part} {k : Touches} {s t : State} (h : Only l s t) (hk : k = {} ∨ (.frame ∈ l ∧ .fw ∈ l ∧ .sys ∈ l ∧ .tables ∈ l)) :
    Only l s (s.keeping k t) := by
  intro p hp
  have hs := h p hp
  rcases hk with rfl | ⟨h1, h2, h3, h4⟩
  · cases p <;> simp [Part.Same, State.keeping] at hs ⊢ <;> simp [hs]
  · cases p <;> first | exact absurd h1 hp | exact absurd h2 hp | exact absurd h3 hp | exact absurd h4 hp | (simp [Part.Same, State.keeping] at hs ⊢ <;> simp [hs])

variable (s : State)

/-! ### One lemma for each shared operation -/

theorem only_with_frame x : Only [.frame] s { s with frame := x } := by
  intro p hp; cases p <;> first | exact absurd (by decide) hp | rfl
theorem only_with_slate x : Only [.slate] s { s with slate := x } := by
  intro p hp; cases p <;> first | exact absurd (by decide) hp | rfl
theorem only_with_regs x : Only [.regs] s { s with regs := x } := by
  intro p hp; cases p <;> first | exact absurd (by decide) hp | rfl
theorem only_with_ctrs x : Only [.ctrs] s { s with ctrs := x } := by
  intro p hp; cases p <;> first | exact absurd (by decide) hp | rfl
theorem only_with_hdrs x : Only [.hdrs] s { s with hdrs := x } := by
  intro p hp; cases p <;> first | exact absurd (by decide) hp | rfl
theorem only_with_mgmt x : Only [.mgmt] s { s with mgmt := x } := by
  intro p hp; cases p <;> first | exact absurd (by decide) hp | rfl
theorem only_with_log x : Only [.log] s { s with log := x } := by
  intro p hp; cases p <;> first | exact absurd (by decide) hp | rfl
theorem only_with_daily x : Only [.daily] s { s with daily := x } := by
  intro p hp; cases p <;> first | exact absurd (by decide) hp | rfl
theorem only_with_svc x : Only [.svc] s { s with svc := x } := by
  intro p hp; cases p <;> first | exact absurd (by decide) hp | rfl
theorem only_with_svcEvt x : Only [.svcEvt] s { s with svcEvt := x } := by
  intro p hp; cases p <;> first | exact absurd (by decide) hp | rfl
theorem only_with_svcRej x : Only [.svcRej] s { s with svcRej := x } := by
  intro p hp; cases p <;> first | exact absurd (by decide) hp | rfl
theorem only_with_mem x : Only [.mem] s { s with mem := x } := by
  intro p hp; cases p <;> first | exact absurd (by decide) hp | rfl
theorem only_with_poison x : Only [.poison] s { s with poison := x } := by
  intro p hp; cases p <;> first | exact absurd (by decide) hp | rfl
theorem only_with_tier x : Only [.tier] s { s with tier := x } := by
  intro p hp; cases p <;> first | exact absurd (by decide) hp | rfl
theorem only_with_tenants x : Only [.tenants] s { s with tenants := x } := by
  intro p hp; cases p <;> first | exact absurd (by decide) hp | rfl
theorem only_with_tables x : Only [.tables] s { s with tables := x } := by
  intro p hp; cases p <;> first | exact absurd (by decide) hp | rfl
theorem only_with_hports x : Only [.hports] s { s with hports := x } := by
  intro p hp; cases p <;> first | exact absurd (by decide) hp | rfl
theorem only_with_extents x : Only [.extents] s { s with extents := x } := by
  intro p hp; cases p <;> first | exact absurd (by decide) hp | rfl
theorem only_with_fns x : Only [.fns] s { s with fns := x } := by
  intro p hp; cases p <;> first | exact absurd (by decide) hp | rfl
theorem only_with_mfn x : Only [.mfn] s { s with mfn := x } := by
  intro p hp; cases p <;> first | exact absurd (by decide) hp | rfl
theorem only_with_bg x : Only [.bg] s { s with bg := x } := by
  intro p hp; cases p <;> first | exact absurd (by decide) hp | rfl
theorem only_with_bgLast x : Only [.bgLast] s { s with bgLast := x } := by
  intro p hp; cases p <;> first | exact absurd (by decide) hp | rfl
theorem only_with_mctp x : Only [.mctp] s { s with mctp := x } := by
  intro p hp; cases p <;> first | exact absurd (by decide) hp | rfl
theorem only_with_dir x : Only [.dir] s { s with dir := x } := by
  intro p hp; cases p <;> first | exact absurd (by decide) hp | rfl
theorem only_with_rgl x : Only [.rgl] s { s with rgl := x } := by
  intro p hp; cases p <;> first | exact absurd (by decide) hp | rfl
theorem only_with_fab x : Only [.fab] s { s with fab := x } := by
  intro p hp; cases p <;> first | exact absurd (by decide) hp | rfl
theorem only_with_lanes x : Only [.lanes] s { s with lanes := x } := by
  intro p hp; cases p <;> first | exact absurd (by decide) hp | rfl
theorem only_with_pats x : Only [.pats] s { s with pats := x } := by
  intro p hp; cases p <;> first | exact absurd (by decide) hp | rfl
theorem only_with_chans x : Only [.chans] s { s with chans := x } := by
  intro p hp; cases p <;> first | exact absurd (by decide) hp | rfl
theorem only_with_dram x : Only [.dram] s { s with dram := x } := by
  intro p hp; cases p <;> first | exact absurd (by decide) hp | rfl
theorem only_with_shelf x : Only [.shelf] s { s with shelf := x } := by
  intro p hp; cases p <;> first | exact absurd (by decide) hp | rfl
theorem only_with_cues x : Only [.cues] s { s with cues := x } := by
  intro p hp; cases p <;> first | exact absurd (by decide) hp | rfl
theorem only_with_press x : Only [.press] s { s with press := x } := by
  intro p hp; cases p <;> first | exact absurd (by decide) hp | rfl
theorem only_with_coll x : Only [.coll] s { s with coll := x } := by
  intro p hp; cases p <;> first | exact absurd (by decide) hp | rfl
theorem only_with_power x : Only [.power] s { s with power := x } := by
  intro p hp; cases p <;> first | exact absurd (by decide) hp | rfl
theorem only_with_fw x : Only [.fw] s { s with fw := x } := by
  intro p hp; cases p <;> first | exact absurd (by decide) hp | rfl
theorem only_with_sys x : Only [.sys] s { s with sys := x } := by
  intro p hp; cases p <;> first | exact absurd (by decide) hp | rfl
theorem only_with_out x : Only [.out] s { s with out := x } := by
  intro p hp; cases p <;> first | exact absurd (by decide) hp | rfl
theorem only_with_freeIx x : Only [.freeIx] s { s with freeIx := x } := by
  intro p hp; cases p <;> first | exact absurd (by decide) hp | rfl
theorem only_with_pending x : Only [.pending] s { s with pending := x } := by
  intro p hp; cases p <;> first | exact absurd (by decide) hp | rfl

theorem only_emit o : Only [.out] s (s.emit o) := by
  intro p hp; cases p <;> first | exact absurd (by decide) hp | simp [Part.Same]
theorem only_setReg ofs v : Only [.regs] s (s.setReg ofs v) := by
  intro p hp; cases p <;> first | exact absurd (by decide) hp | simp [Part.Same]
theorem only_bump ofs sel n : Only [.ctrs] s (s.bump ofs sel n) := by
  intro p hp; cases p <;> first | exact absurd (by decide) hp | simp [Part.Same]
theorem only_clearCtr ofs sel : Only [.ctrs] s (s.clearCtr ofs sel) := by
  intro p hp; cases p <;> first | exact absurd (by decide) hp | simp [Part.Same]
theorem only_updHdr p f : Only [.hdrs] s (s.updHdr p f) := by
  intro p hp; cases p <;> first | exact absurd (by decide) hp | simp [Part.Same]
theorem only_mgmtCause v : Only [.mfn] s (s.mgmtCause v) := by
  intro p hp; cases p <;> first | exact absurd (by decide) hp | simp [Part.Same]
theorem only_updUnit k i f : Only [.svc] s (s.updUnit k i f) := by
  intro p hp; cases p <;> first | exact absurd (by decide) hp | simp [Part.Same]
theorem only_useTake g i sub o c : Only [.slate] s (s.useTake g i sub o c) := by
  intro p hp; cases p <;> first | exact absurd (by decide) hp | simp [Part.Same]
theorem only_overrun g i o x : Only [.slate] s (s.overrun g i o x) := by
  intro p hp; cases p <;> first | exact absurd (by decide) hp | simp [Part.Same]
theorem only_updChan c f : Only [.chans] s (s.updChan c f) := by
  intro p hp; cases p <;> first | exact absurd (by decide) hp | simp [Part.Same]
theorem only_updFc l f : Only [.dram] s (s.updFc l f) := by
  intro p hp; cases p <;> first | exact absurd (by decide) hp | simp [Part.Same]
theorem only_updRet i f : Only [.dram] s (s.updRet i f) := by
  intro p hp; cases p <;> first | exact absurd (by decide) hp | simp [Part.Same]
theorem only_setLatch a b v : Only [.mgmt] s (s.setLatch a b v) := by
  intro p hp; cases p <;> first | exact absurd (by decide) hp | simp [Part.Same]
theorem only_mgmtTake src : Only [.mgmt] s (s.mgmtTake src) := by
  intro p hp; cases p <;> first | exact absurd (by decide) hp | simp [Part.Same]
theorem only_updRing r f : Only [.cues] s (s.updRing r f) := by
  intro p hp; cases p <;> first | exact absurd (by decide) hp | simp [Part.Same]
theorem only_updRunOf n f : Only [.cues] s (s.updRunOf n f) := by
  intro p hp; cases p <;> first | exact absurd (by decide) hp | simp [Part.Same]
theorem only_updLun k f : Only [.shelf] s (s.updLun k f) := by
  intro p hp; cases p <;> first | exact absurd (by decide) hp | simp [Part.Same]
theorem only_updRec n f : Only [.shelf] s (s.updRec n f) := by
  intro p hp; cases p <;> first | exact absurd (by decide) hp | simp [Part.Same]
theorem only_updBlock l b f : Only [.shelf] s (s.updBlock l b f) := by
  intro p hp; cases p <;> first | exact absurd (by decide) hp | simp [Part.Same]
theorem only_setEnt l e : Only [.dir] s (s.setEnt l e) := by
  intro p hp; cases p <;> first | exact absurd (by decide) hp | simp [Part.Same]
theorem only_setTrans k t : Only [.dir] s (s.setTrans k t) := by
  intro p hp; cases p <;> first | exact absurd (by decide) hp | simp [Part.Same]
theorem only_updPeer p f : Only [.fab] s (s.updPeer p f) := by
  intro p hp; cases p <;> first | exact absurd (by decide) hp | simp [Part.Same]
theorem only_setPent l e : Only [.fab] s (s.setPent l e) := by
  intro p hp; cases p <;> first | exact absurd (by decide) hp | simp [Part.Same]
theorem only_setReq i r : Only [.fab] s (s.setReq i r) := by
  intro p hp; cases p <;> first | exact absurd (by decide) hp | simp [Part.Same]
theorem only_updFport f g : Only [.fab] s (s.updFport f g) := by
  intro p hp; cases p <;> first | exact absurd (by decide) hp | simp [Part.Same]
theorem only_updTen t f : Only [.tenants] s (s.updTen t f) := by
  intro p hp; cases p <;> first | exact absurd (by decide) hp | simp [Part.Same]
theorem only_updId h f : Only [.tables] s (s.updId h f) := by
  intro p hp; cases p <;> first | exact absurd (by decide) hp | simp [Part.Same]
theorem only_updRgn r f : Only [.tables] s (s.updRgn r f) := by
  intro p hp; cases p <;> first | exact absurd (by decide) hp | simp [Part.Same]
theorem only_queueCmd c : Only [.tables] s (s.queueCmd c) := by
  intro p hp; cases p <;> first | exact absurd (by decide) hp | simp [Part.Same]
theorem only_updPort p f : Only [.hports] s (s.updPort p f) := by
  intro p hp; cases p <;> first | exact absurd (by decide) hp | simp [Part.Same]
theorem only_updColl i f : Only [.coll] s (s.updColl i f) := by
  intro p hp; cases p <;> first | exact absurd (by decide) hp | simp [Part.Same]
theorem only_updCrun i f : Only [.coll] s (s.updCrun i f) := by
  intro p hp; cases p <;> first | exact absurd (by decide) hp | simp [Part.Same]
theorem only_updLane n f : Only [.lanes] s (s.updLane n f) := by
  intro p hp; cases p <;> first | exact absurd (by decide) hp | simp [Part.Same]
theorem only_updPu p f : Only [.press] s (s.updPu p f) := by
  intro p hp; cases p <;> first | exact absurd (by decide) hp | simp [Part.Same]
theorem only_updPart p a d f : Only [.press] s (s.updPart p a d f) := by
  intro p hp; cases p <;> first | exact absurd (by decide) hp | simp [Part.Same]
theorem only_updArr p a f : Only [.press] s (s.updArr p a f) := by
  intro p hp; cases p <;> first | exact absurd (by decide) hp | simp [Part.Same]
theorem only_updJob n f : Only [.press] s (s.updJob n f) := by
  intro p hp; cases p <;> first | exact absurd (by decide) hp | simp [Part.Same]
theorem only_updLay n f : Only [.press] s (s.updLay n f) := by
  intro p hp; cases p <;> first | exact absurd (by decide) hp | simp [Part.Same]
theorem only_updFn k f : Only [.fns] s (s.updFn k f) := by
  intro p hp; cases p <;> first | exact absurd (by decide) hp | simp [Part.Same]
theorem only_fnCause k c : Only [.fns] s (s.fnCause k c) := by
  intro p hp; cases p <;> first | exact absurd (by decide) hp | simp [Part.Same]
theorem only_tierCount sel : Only [.ctrs] s (s.tierCount sel) := by
  intro p hp; cases p <;> first | exact absurd (by decide) hp | simp [Part.Same]
theorem only_dirCount sel n : Only [.ctrs] s (s.dirCount sel n) := by
  intro p hp; cases p <;> first | exact absurd (by decide) hp | simp [Part.Same]
theorem only_updSpdm v f : Only [.mctp] s (s.updSpdm v f) := by
  intro p hp; cases p <;> first | exact absurd (by decide) hp | simp [Part.Same]
theorem only_updPage p f : Only [.tier] s (s.updPage p f) := by
  intro p hp; cases p <;> first | exact absurd (by decide) hp | simp [Part.Same]
theorem only_writeByte a b : Only [.mem] s (s.writeByte a b) := by
  intro p hp; cases p <;> first | exact absurd (by decide) hp | simp [Part.Same]
theorem only_setPoison l b : Only [.poison] s (s.setPoison l b) := by
  intro p hp; cases p <;> first | exact absurd (by decide) hp | simp [Part.Same]
theorem only_inFrame n : Only [.frame] s (s.inFrame n) := by
  intro p hp; cases p <;> first | exact absurd (by decide) hp | simp [Part.Same]
theorem only_pageCause p : Only [.mfn] s (s.pageCause p) := by
  intro p hp; cases p <;> first | exact absurd (by decide) hp | simp [Part.Same]
theorem only_setEvt p b : Only [.hdrs, .mfn] s (s.setEvt p b) := by
  intro p hp; cases p <;> first | exact absurd (by decide) hp | simp [Part.Same]
theorem only_setSvcEvt b : Only [.svcEvt, .mfn] s (s.setSvcEvt b) := by
  intro p hp; cases p <;> first | exact absurd (by decide) hp | simp [Part.Same]
theorem only_charge g i sub o c : Only [.slate, .daily] s (s.charge g i sub o c) := by
  intro p hp; cases p <;> first | exact absurd (by decide) hp | simp [Part.Same]
theorem only_chargeSplit g i sub o c : Only [.slate, .daily] s (s.chargeSplit g i sub o c) := by
  intro p hp; cases p <;> first | exact absurd (by decide) hp | simp [Part.Same]
theorem only_updFnOf x f : Only [.fns, .mfn] s (s.updFnOf x f) := by
  intro p hp; cases p <;> first | exact absurd (by decide) hp | simp [Part.Same]
theorem only_doePut v : Only [.fns, .mfn] s (s.doePut v) := by
  intro p hp; cases p <;> first | exact absurd (by decide) hp | simp [Part.Same]
theorem only_keepEntry e : Only [.log, .hdrs, .mfn, .ctrs] s (s.keepEntry e) := by
  intro p hp; cases p <;> first | exact absurd (by decide) hp | simp [Part.Same]
theorem only_logE ev sev t p a v : Only [.log, .hdrs, .mfn, .ctrs] s (s.logE ev sev t p a v) := by
  intro p hp; cases p <;> first | exact absurd (by decide) hp | simp [Part.Same]
theorem only_retireAdvice k r l p : Only [.log, .hdrs, .mfn, .ctrs] s (s.retireAdvice k r l p) := by
  intro p hp; cases p <;> first | exact absurd (by decide) hp | simp [Part.Same]
theorem only_lockWrite : Only [.hdrs, .mfn, .ctrs] s (s.lockWrite) := by
  intro p hp; cases p <;> first | exact absurd (by decide) hp | simp [Part.Same]
theorem only_transmit f q : Only [.slate, .daily, .fab, .out] s (s.transmit f q) := by
  intro p hp; cases p <;> first | exact absurd (by decide) hp | simp [Part.Same]
theorem only_sendRaw f b : Only [.slate, .daily, .fab, .out] s (s.sendRaw f b) := by
  intro p hp; cases p <;> first | exact absurd (by decide) hp | simp [Part.Same]
theorem only_mbReply f c d : Only [.out, .mfn] s (s.mbReply f c d) := by
  intro p hp; cases p <;> first | exact absurd (by decide) hp | simp [Part.Same]
theorem only_fmReply c l : Only [.out] s (s.fmReply c l) := by
  intro p hp; cases p <;> first | exact absurd (by decide) hp | simp [Part.Same]
theorem only_draw : Only [.freeIx] s s.draw.2 := by
  intro p hp; cases p <;> first | exact absurd (by decide) hp | rfl
theorem only_dropCaptures ofs : Only [.mgmt] s (s.dropCaptures ofs) := by
  unfold State.dropCaptures; split
  · exact Only.refl _ _
  · intro p hp; cases p <;> first | exact absurd (by decide) hp | rfl
theorem only_mgmtReply a v : Only [.slate, .daily, .fab, .out, .hdrs, .mfn] s (s.mgmtReply a v) := by
  intro p hp; cases p <;> first | exact absurd (by decide) hp | simp [Part.Same]
theorem only_idCause h c : Only [.fns] s (s.idCause h c) := by
  unfold State.idCause; exact Only.ite (Only.refl _ _) (only_updFn _ _ _)
theorem only_tenCause t c : Only [.fns] s (s.tenCause t c) := Only.foldl (fun s (e : Nat × Identity) => only_idCause s e.1 c) _ _
@[simp] theorem draw_frame : (s.draw).2.frame = s.frame := rfl
@[simp] theorem draw_slate : (s.draw).2.slate = s.slate := rfl
@[simp] theorem draw_regs : (s.draw).2.regs = s.regs := rfl
@[simp] theorem draw_ctrs : (s.draw).2.ctrs = s.ctrs := rfl
@[simp] theorem draw_hdrs : (s.draw).2.hdrs = s.hdrs := rfl
@[simp] theorem draw_mgmt : (s.draw).2.mgmt = s.mgmt := rfl
@[simp] theorem draw_log : (s.draw).2.log = s.log := rfl
@[simp] theorem draw_daily : (s.draw).2.daily = s.daily := rfl
@[simp] theorem draw_svc : (s.draw).2.svc = s.svc := rfl
@[simp] theorem draw_svcEvt : (s.draw).2.svcEvt = s.svcEvt := rfl
@[simp] theorem draw_svcRej : (s.draw).2.svcRej = s.svcRej := rfl
@[simp] theorem draw_mem : (s.draw).2.mem = s.mem := rfl
@[simp] theorem draw_poison : (s.draw).2.poison = s.poison := rfl
@[simp] theorem draw_tier : (s.draw).2.tier = s.tier := rfl
@[simp] theorem draw_tenants : (s.draw).2.tenants = s.tenants := rfl
@[simp] theorem draw_tables : (s.draw).2.tables = s.tables := rfl
@[simp] theorem draw_hports : (s.draw).2.hports = s.hports := rfl
@[simp] theorem draw_extents : (s.draw).2.extents = s.extents := rfl
@[simp] theorem draw_fns : (s.draw).2.fns = s.fns := rfl
@[simp] theorem draw_mfn : (s.draw).2.mfn = s.mfn := rfl
@[simp] theorem draw_bg : (s.draw).2.bg = s.bg := rfl
@[simp] theorem draw_bgLast : (s.draw).2.bgLast = s.bgLast := rfl
@[simp] theorem draw_mctp : (s.draw).2.mctp = s.mctp := rfl
@[simp] theorem draw_dir : (s.draw).2.dir = s.dir := rfl
@[simp] theorem draw_rgl : (s.draw).2.rgl = s.rgl := rfl
@[simp] theorem draw_fab : (s.draw).2.fab = s.fab := rfl
@[simp] theorem draw_lanes : (s.draw).2.lanes = s.lanes := rfl
@[simp] theorem draw_pats : (s.draw).2.pats = s.pats := rfl
@[simp] theorem draw_chans : (s.draw).2.chans = s.chans := rfl
@[simp] theorem draw_dram : (s.draw).2.dram = s.dram := rfl
@[simp] theorem draw_shelf : (s.draw).2.shelf = s.shelf := rfl
@[simp] theorem draw_cues : (s.draw).2.cues = s.cues := rfl
@[simp] theorem draw_press : (s.draw).2.press = s.press := rfl
@[simp] theorem draw_coll : (s.draw).2.coll = s.coll := rfl
@[simp] theorem draw_power : (s.draw).2.power = s.power := rfl
@[simp] theorem draw_fw : (s.draw).2.fw = s.fw := rfl
@[simp] theorem draw_sys : (s.draw).2.sys = s.sys := rfl
@[simp] theorem draw_out : (s.draw).2.out = s.out := rfl
@[simp] theorem draw_pending : (s.draw).2.pending = s.pending := rfl
@[simp] theorem idCause_frame h c : (s.idCause h c).frame = s.frame := only_idCause s h c .frame (by decide)
@[simp] theorem idCause_slate h c : (s.idCause h c).slate = s.slate := only_idCause s h c .slate (by decide)
@[simp] theorem idCause_regs h c : (s.idCause h c).regs = s.regs := only_idCause s h c .regs (by decide)
@[simp] theorem idCause_ctrs h c : (s.idCause h c).ctrs = s.ctrs := only_idCause s h c .ctrs (by decide)
@[simp] theorem idCause_hdrs h c : (s.idCause h c).hdrs = s.hdrs := only_idCause s h c .hdrs (by decide)
@[simp] theorem idCause_mgmt h c : (s.idCause h c).mgmt = s.mgmt := only_idCause s h c .mgmt (by decide)
@[simp] theorem idCause_log h c : (s.idCause h c).log = s.log := only_idCause s h c .log (by decide)
@[simp] theorem idCause_daily h c : (s.idCause h c).daily = s.daily := only_idCause s h c .daily (by decide)
@[simp] theorem idCause_svc h c : (s.idCause h c).svc = s.svc := only_idCause s h c .svc (by decide)
@[simp] theorem idCause_svcEvt h c : (s.idCause h c).svcEvt = s.svcEvt := only_idCause s h c .svcEvt (by decide)
@[simp] theorem idCause_svcRej h c : (s.idCause h c).svcRej = s.svcRej := only_idCause s h c .svcRej (by decide)
@[simp] theorem idCause_mem h c : (s.idCause h c).mem = s.mem := only_idCause s h c .mem (by decide)
@[simp] theorem idCause_poison h c : (s.idCause h c).poison = s.poison := only_idCause s h c .poison (by decide)
@[simp] theorem idCause_tier h c : (s.idCause h c).tier = s.tier := only_idCause s h c .tier (by decide)
@[simp] theorem idCause_tenants h c : (s.idCause h c).tenants = s.tenants := only_idCause s h c .tenants (by decide)
@[simp] theorem idCause_tables h c : (s.idCause h c).tables = s.tables := only_idCause s h c .tables (by decide)
@[simp] theorem idCause_hports h c : (s.idCause h c).hports = s.hports := only_idCause s h c .hports (by decide)
@[simp] theorem idCause_extents h c : (s.idCause h c).extents = s.extents := only_idCause s h c .extents (by decide)
@[simp] theorem idCause_mfn h c : (s.idCause h c).mfn = s.mfn := only_idCause s h c .mfn (by decide)
@[simp] theorem idCause_bg h c : (s.idCause h c).bg = s.bg := only_idCause s h c .bg (by decide)
@[simp] theorem idCause_bgLast h c : (s.idCause h c).bgLast = s.bgLast := only_idCause s h c .bgLast (by decide)
@[simp] theorem idCause_mctp h c : (s.idCause h c).mctp = s.mctp := only_idCause s h c .mctp (by decide)
@[simp] theorem idCause_dir h c : (s.idCause h c).dir = s.dir := only_idCause s h c .dir (by decide)
@[simp] theorem idCause_rgl h c : (s.idCause h c).rgl = s.rgl := only_idCause s h c .rgl (by decide)
@[simp] theorem idCause_fab h c : (s.idCause h c).fab = s.fab := only_idCause s h c .fab (by decide)
@[simp] theorem idCause_lanes h c : (s.idCause h c).lanes = s.lanes := only_idCause s h c .lanes (by decide)
@[simp] theorem idCause_pats h c : (s.idCause h c).pats = s.pats := only_idCause s h c .pats (by decide)
@[simp] theorem idCause_chans h c : (s.idCause h c).chans = s.chans := only_idCause s h c .chans (by decide)
@[simp] theorem idCause_dram h c : (s.idCause h c).dram = s.dram := only_idCause s h c .dram (by decide)
@[simp] theorem idCause_shelf h c : (s.idCause h c).shelf = s.shelf := only_idCause s h c .shelf (by decide)
@[simp] theorem idCause_cues h c : (s.idCause h c).cues = s.cues := only_idCause s h c .cues (by decide)
@[simp] theorem idCause_press h c : (s.idCause h c).press = s.press := only_idCause s h c .press (by decide)
@[simp] theorem idCause_coll h c : (s.idCause h c).coll = s.coll := only_idCause s h c .coll (by decide)
@[simp] theorem idCause_power h c : (s.idCause h c).power = s.power := only_idCause s h c .power (by decide)
@[simp] theorem idCause_fw h c : (s.idCause h c).fw = s.fw := only_idCause s h c .fw (by decide)
@[simp] theorem idCause_sys h c : (s.idCause h c).sys = s.sys := only_idCause s h c .sys (by decide)
@[simp] theorem idCause_out h c : (s.idCause h c).out = s.out := only_idCause s h c .out (by decide)
@[simp] theorem idCause_freeIx h c : (s.idCause h c).freeIx = s.freeIx := only_idCause s h c .freeIx (by decide)
@[simp] theorem idCause_pending h c : (s.idCause h c).pending = s.pending := only_idCause s h c .pending (by decide)
@[simp] theorem tenCause_frame t c : (s.tenCause t c).frame = s.frame := only_tenCause s t c .frame (by decide)
@[simp] theorem tenCause_slate t c : (s.tenCause t c).slate = s.slate := only_tenCause s t c .slate (by decide)
@[simp] theorem tenCause_regs t c : (s.tenCause t c).regs = s.regs := only_tenCause s t c .regs (by decide)
@[simp] theorem tenCause_ctrs t c : (s.tenCause t c).ctrs = s.ctrs := only_tenCause s t c .ctrs (by decide)
@[simp] theorem tenCause_hdrs t c : (s.tenCause t c).hdrs = s.hdrs := only_tenCause s t c .hdrs (by decide)
@[simp] theorem tenCause_mgmt t c : (s.tenCause t c).mgmt = s.mgmt := only_tenCause s t c .mgmt (by decide)
@[simp] theorem tenCause_log t c : (s.tenCause t c).log = s.log := only_tenCause s t c .log (by decide)
@[simp] theorem tenCause_daily t c : (s.tenCause t c).daily = s.daily := only_tenCause s t c .daily (by decide)
@[simp] theorem tenCause_svc t c : (s.tenCause t c).svc = s.svc := only_tenCause s t c .svc (by decide)
@[simp] theorem tenCause_svcEvt t c : (s.tenCause t c).svcEvt = s.svcEvt := only_tenCause s t c .svcEvt (by decide)
@[simp] theorem tenCause_svcRej t c : (s.tenCause t c).svcRej = s.svcRej := only_tenCause s t c .svcRej (by decide)
@[simp] theorem tenCause_mem t c : (s.tenCause t c).mem = s.mem := only_tenCause s t c .mem (by decide)
@[simp] theorem tenCause_poison t c : (s.tenCause t c).poison = s.poison := only_tenCause s t c .poison (by decide)
@[simp] theorem tenCause_tier t c : (s.tenCause t c).tier = s.tier := only_tenCause s t c .tier (by decide)
@[simp] theorem tenCause_tenants t c : (s.tenCause t c).tenants = s.tenants := only_tenCause s t c .tenants (by decide)
@[simp] theorem tenCause_tables t c : (s.tenCause t c).tables = s.tables := only_tenCause s t c .tables (by decide)
@[simp] theorem tenCause_hports t c : (s.tenCause t c).hports = s.hports := only_tenCause s t c .hports (by decide)
@[simp] theorem tenCause_extents t c : (s.tenCause t c).extents = s.extents := only_tenCause s t c .extents (by decide)
@[simp] theorem tenCause_mfn t c : (s.tenCause t c).mfn = s.mfn := only_tenCause s t c .mfn (by decide)
@[simp] theorem tenCause_bg t c : (s.tenCause t c).bg = s.bg := only_tenCause s t c .bg (by decide)
@[simp] theorem tenCause_bgLast t c : (s.tenCause t c).bgLast = s.bgLast := only_tenCause s t c .bgLast (by decide)
@[simp] theorem tenCause_mctp t c : (s.tenCause t c).mctp = s.mctp := only_tenCause s t c .mctp (by decide)
@[simp] theorem tenCause_dir t c : (s.tenCause t c).dir = s.dir := only_tenCause s t c .dir (by decide)
@[simp] theorem tenCause_rgl t c : (s.tenCause t c).rgl = s.rgl := only_tenCause s t c .rgl (by decide)
@[simp] theorem tenCause_fab t c : (s.tenCause t c).fab = s.fab := only_tenCause s t c .fab (by decide)
@[simp] theorem tenCause_lanes t c : (s.tenCause t c).lanes = s.lanes := only_tenCause s t c .lanes (by decide)
@[simp] theorem tenCause_pats t c : (s.tenCause t c).pats = s.pats := only_tenCause s t c .pats (by decide)
@[simp] theorem tenCause_chans t c : (s.tenCause t c).chans = s.chans := only_tenCause s t c .chans (by decide)
@[simp] theorem tenCause_dram t c : (s.tenCause t c).dram = s.dram := only_tenCause s t c .dram (by decide)
@[simp] theorem tenCause_shelf t c : (s.tenCause t c).shelf = s.shelf := only_tenCause s t c .shelf (by decide)
@[simp] theorem tenCause_cues t c : (s.tenCause t c).cues = s.cues := only_tenCause s t c .cues (by decide)
@[simp] theorem tenCause_press t c : (s.tenCause t c).press = s.press := only_tenCause s t c .press (by decide)
@[simp] theorem tenCause_coll t c : (s.tenCause t c).coll = s.coll := only_tenCause s t c .coll (by decide)
@[simp] theorem tenCause_power t c : (s.tenCause t c).power = s.power := only_tenCause s t c .power (by decide)
@[simp] theorem tenCause_fw t c : (s.tenCause t c).fw = s.fw := only_tenCause s t c .fw (by decide)
@[simp] theorem tenCause_sys t c : (s.tenCause t c).sys = s.sys := only_tenCause s t c .sys (by decide)
@[simp] theorem tenCause_out t c : (s.tenCause t c).out = s.out := only_tenCause s t c .out (by decide)
@[simp] theorem tenCause_freeIx t c : (s.tenCause t c).freeIx = s.freeIx := only_tenCause s t c .freeIx (by decide)
@[simp] theorem tenCause_pending t c : (s.tenCause t c).pending = s.pending := only_tenCause s t c .pending (by decide)

end Sys2Proof.Machine
end

