-- ==== Sys2Proof/Laws/Events.lean ====
section
/-!
SUPPORT. Registers, counts, units and event bits: what reads them back after the operations that write them, and that an event
bit, once set, stays set under every event, log entry and advice.
-/

namespace Sys2Proof.Machine

open Sys2Proof

variable (s : State)

/-! ### Registers and records read back -/

@[simp] theorem reg_setReg_same (ofs : Nat) (v : Word32) : (s.setReg ofs v).reg ofs = v := mapGet_put_same _ _ _

theorem reg_setReg_other {ofs ofs' : Nat} (v : Word32) (h : ofs' ≠ ofs) : (s.setReg ofs v).reg ofs' = s.reg ofs' := mapGet_put_other _ h _

theorem hdr_updHdr (p q : Nat) (f : PageHdr → PageHdr) : (s.updHdr p f).hdr q = if q = p then f (s.hdr p) else s.hdr q := mapGet_upd _ _ _ _

theorem unit_updUnit_same (k : UnitKind) (i : Nat) (f : UnitSvc → UnitSvc) : (s.updUnit k i f).unit k i = f (s.unit k i) := mapGet_upd_same _ _ _

theorem ctr_bump_same (ofs sel n : Nat) : (s.bump ofs sel n).ctr ofs sel = satAdd 32 (s.ctr ofs sel) n :=
  mapGet_upd_same (d := fun _ => 0) (ctrKey ofs sel) (fun c => satAdd 32 c n) s.ctrs

@[simp] theorem ten_updTen_same (t : Nat) (f : Tenant → Tenant) : (s.updTen t f).ten t = f (s.ten t) := mapGet_upd_same _ _ _
@[simp] theorem hport_updPort_same (p : Nat) (f : HPort → HPort) : (s.updPort p f).hport p = f (s.hport p) := mapGet_upd_same _ _ _
@[simp] theorem ident_updId_same (h : Nat) (f : Identity → Identity) : (s.updId h f).ident h = f (s.ident h) := mapGet_upd_same _ _ _
@[simp] theorem rgn_updRgn_same (r : Nat) (f : Range → Range) : (s.updRgn r f).rgn r = f (s.rgn r) := mapGet_upd_same _ _ _
@[simp] theorem page_updPage_same (p : Nat) (f : PageRec → PageRec) : (s.updPage p f).page p = f (s.page p) := mapGet_upd_same _ _ _
@[simp] theorem fport_updFport_same (p : Nat) (f : FPort → FPort) : (s.updFport p f).fport p = f (s.fport p) := mapGet_upd_same _ _ _
@[simp] theorem ring_updRing_same (r : Nat) (f : Ring → Ring) : (s.updRing r f).ring r = f (s.ring r) := mapGet_upd_same _ _ _

theorem ten_updTen_other {t u : Nat} (f : Tenant → Tenant) (h : u ≠ t) : (s.updTen t f).ten u = s.ten u := mapGet_upd_other _ h _
theorem hport_updPort_other {p q : Nat} (f : HPort → HPort) (h : q ≠ p) : (s.updPort p f).hport q = s.hport q := mapGet_upd_other _ h _
theorem ident_updId_other {i j : Nat} (f : Identity → Identity) (h : j ≠ i) : (s.updId i f).ident j = s.ident j := mapGet_upd_other _ h _
theorem rgn_updRgn_other {i j : Nat} (f : Range → Range) (h : j ≠ i) : (s.updRgn i f).rgn j = s.rgn j := mapGet_upd_other _ h _
theorem page_updPage_other {p q : Nat} (f : PageRec → PageRec) (h : q ≠ p) : (s.updPage p f).page q = s.page q := mapGet_upd_other _ h _
theorem fport_updFport_other {p q : Nat} (f : FPort → FPort) (h : q ≠ p) : (s.updFport p f).fport q = s.fport q := mapGet_upd_other _ h _

/-! ### Event bits -/

theorem bit32_self {b : Nat} (h : b < 32) : (bit32 b).getLsbD b = true := by
  rw [bit32, BitVec.getLsbD_ofNat, Nat.testBit_two_pow_self, Bool.and_true, decide_eq_true h]

/-- The header of any page after an event. -/
theorem hdr_setEvt (p b q : Nat) : (s.setEvt p b).hdr q = if q = p then (s.hdr p).set b s.frame.num else s.hdr q := by
  have h : (s.setEvt p b).hdrs = (s.updHdr p fun h => h.set b s.frame.num).hdrs := by
    unfold State.setEvt; dsimp only; split
    · simp
    · rfl
  show mapGet _ (s.setEvt p b).hdrs q = _
  rw [h]
  exact hdr_updHdr s p q _

/-- An event sets its bit. -/
theorem setEvt_sets {b : Nat} (p : Nat) (h : b < 32) : ((s.setEvt p b).hdr p).stat.getLsbD b = true := by
  rw [hdr_setEvt]
  simp [PageHdr.set, bit32_self h]

/-- Every event bit of a state is set in another. -/
def BitsKept (s t : State) : Prop := ∀ p b, (s.hdr p).stat.getLsbD b = true → (t.hdr p).stat.getLsbD b = true

theorem BitsKept.refl : BitsKept s s := fun _ _ h => h

theorem BitsKept.trans {s t u : State} (h : BitsKept s t) (h' : BitsKept t u) : BitsKept s u := fun p b x => h' p b (h p b x)

theorem BitsKept.of_hdrs {s t : State} (h : t.hdrs = s.hdrs) : BitsKept s t := by
  intro p b x; unfold State.hdr at *; rwa [h]

theorem bitsKept_ite {c : Prop} [Decidable c] {s a b : State} (ha : BitsKept s a) (hb : BitsKept s b) : BitsKept s (if c then a else b) := by
  split
  · exact ha
  · exact hb

theorem bitsKept_setEvt (p b : Nat) : BitsKept s (s.setEvt p b) := by
  intro q i h
  rw [hdr_setEvt]
  split
  · rename_i e; subst e; simp [PageHdr.set, h]
  · exact h

theorem bitsKept_seq (p n : Nat) : BitsKept s (s.updHdr p fun h => { h with seq := n }) := by
  intro q i h
  rw [hdr_updHdr]
  split
  · rename_i e; subst e; exact h
  · exact h

theorem bitsKept_keepEntry (e : LogEntry) : BitsKept s (s.keepEntry e) := by
  unfold State.keepEntry
  dsimp only
  refine bitsKept_ite (BitsKept.trans ?_ ((bitsKept_setEvt _ _ _).trans (bitsKept_setEvt _ _ _))) ?_ <;>
  · refine bitsKept_ite (BitsKept.trans ?_ (BitsKept.of_hdrs (mgmtCause_hdrs _ _))) ?_ <;>
    · refine bitsKept_ite (BitsKept.trans ?_ (bitsKept_setEvt _ _ _)) ?_ <;>
      · refine BitsKept.trans ?_ (bitsKept_seq _ _ _)
        refine bitsKept_ite (BitsKept.trans ?_ (bitsKept_setEvt _ _ _)) (BitsKept.of_hdrs rfl)
        exact BitsKept.of_hdrs rfl

/-- A decided event keeps every event bit. -/
theorem bitsKept_logE (ev sev : Nat) (t : Option Nat) (p a : Nat) (v : List Nat) : BitsKept s (s.logE ev sev t p a v) := by
  unfold State.logE
  refine bitsKept_ite (BitsKept.of_hdrs (by simp)) (bitsKept_ite (bitsKept_keepEntry _ _) ?_)
  exact BitsKept.trans (BitsKept.of_hdrs (by simp)) (bitsKept_setEvt _ _ _)

theorem bitsKept_retireAdvice (k r l p : Nat) : BitsKept s (s.retireAdvice k r l p) := bitsKept_logE _ _ _ _ _ _ _

theorem BitsKept.of_only {l : List Part} {s t : State} (h : Only l s t) (hp : Part.hdrs ∉ l) : BitsKept s t := .of_hdrs (h .hdrs hp)

theorem bitsKept_sendBundle (o k : Nat) (b : Bundle) : BitsKept s (s.sendBundle o k b).2 := by
  unfold State.sendBundle
  split
  · exact BitsKept.of_hdrs rfl
  · split
    · exact bitsKept_setEvt _ _ _
    · exact BitsKept.of_hdrs (by simp)

theorem bitsKept_mgmtReply (a : MgmtAcc) (v : Word32) : BitsKept s (s.mgmtReply a v) := by
  unfold State.mgmtReply
  refine bitsKept_ite (bitsKept_sendBundle _ _ _ _) (bitsKept_ite (BitsKept.refl _) (BitsKept.of_hdrs rfl))

theorem bitsKept_lockWrite : BitsKept s s.lockWrite := by
  refine (bitsKept_setEvt s pgSYS 3).trans (BitsKept.of_hdrs rfl)

theorem bitsKept_keeping (k : Touches) (t : State) : BitsKept t (s.keeping k t) := BitsKept.of_hdrs rfl

/-- A locked field that is written is reported (R902). -/
theorem lockWrite_sets : (s.lockWrite.hdr pgSYS).stat.getLsbD 3 = true := setEvt_sets s pgSYS (by decide)

end Sys2Proof.Machine
end

