-- ==== Sys2Proof/Laws/Rows.lean ====
section
/-!
SUPPORT. A register access that is served at once, and the meanings of the commands that are such accesses.
-/

namespace Sys2Proof.Machine

open Sys2Proof

/-- What the path has counted when it serves an access of a source. -/
def State.pathTaken (src : MgmtSrc) (s : State) : State := (s.mgmtTake src.code).bump (ofsOf pgSYS 0x7C) 0 1

/-- A write that is served at once: the register's own effect, and the answer. -/
theorem rowWrite_served {s : State} {src : MgmtSrc} {ofs : Nat} (h : s.Reaches src ofs) (ha : ofs % 4 = 0)
    (hp : (pageFamily (ofs / 4096)).isSome = true) (v : Word32) :
    ∃ a, s.rowWrite src ofs v = ((s.pathTaken src).regWrite ofs v).mgmtReply a 0#32 := by
  obtain ⟨h1, h2, h3, h4⟩ := h
  have hn : pageFamily (ofs / 4096) ≠ none := by
    intro hpf; simp [hpf] at hp
  cases src
  case window =>
    obtain ⟨w1, w2, w3, w4⟩ := h4 rfl
    refine ⟨{ src := 1, write := true, ofs := ofs % 2 ^ 20, val := v, tag := 0 }, ?_⟩
    have e : s.mgmt.winBase * 2 ^ 20 + ofs % 2 ^ 20 = ofs := by rw [w4]; omega
    have e1 : ¬ (2:Nat) ^ 26 ≤ ofs % 1048576 := by omega
    have e2 : ¬ ofs % 1048576 = (2:Nat) ^ 27 := by omega
    have h3' := h3 (by simp)
    have r1 : ¬ ctlPage ≤ ofs % 1048576 := e1
    have r2 : ¬ ofs % 1048576 = zeroRead := e2
    have e' : s.mgmt.winBase * 1048576 + ofs % 1048576 = ofs := e
    simp [State.rowWrite, State.windowRequest, w1, w2, State.mgmtAccess, State.mgmtReaches, h1, h2, h3', State.mgmtServe, w3, r1, r2, e',
      State.serveReg, ha, hn, State.pathTaken, MgmtSrc.code]
  case keaquin =>
    refine ⟨{ src := 5, write := true, ofs := ofs, val := v }, ?_⟩
    simp [State.rowWrite, State.mgmtAccess, State.mgmtReaches, h1, h2, State.mgmtServe, State.serveReg, ha, hn, State.pathTaken, MgmtSrc.code]
  case smbus =>
    refine ⟨(⟨2, true, ofs, v, 0⟩ : MgmtAcc), ?_⟩
    have h3' := h3 (by simp)
    simp [State.rowWrite, State.mgmtAccess, State.mgmtReaches, h1, h2, h3', State.mgmtServe, State.serveReg, ha, hn, State.pathTaken, MgmtSrc.code]
  case i3c =>
    refine ⟨(⟨3, true, ofs, v, 0⟩ : MgmtAcc), ?_⟩
    have h3' := h3 (by simp)
    simp [State.rowWrite, State.mgmtAccess, State.mgmtReaches, h1, h2, h3', State.mgmtServe, State.serveReg, ha, hn, State.pathTaken, MgmtSrc.code]
  case relay =>
    refine ⟨(⟨4, true, ofs, v, 0⟩ : MgmtAcc), ?_⟩
    have h3' := h3 (by simp)
    simp [State.rowWrite, State.mgmtAccess, State.mgmtReaches, h1, h2, h3', State.mgmtServe, State.serveReg, ha, hn, State.pathTaken, MgmtSrc.code]

/-! ### Registers of pages with several instances -/

/-- No window's selector stands above page 5. -/
theorem dropCaptures_high {p r : Nat} (h : 6 ≤ p) (u : State) : u.dropCaptures (ofsOf p r) = u := by
  have : windows.find? (fun w => w.2.2 == ofsOf p r) = none := by
    simp [windows, ofsOf, pgTIER, pgDIR, pgCLOG, pgSYS]; omega
  unfold State.dropCaptures; rw [this]

theorem regWrite_block {p r : Nat} (h : 6 ≤ p) (h0 : 0x40 ≤ r) (hr : r < 4096) (v : Word32) (u : State) :
    u.regWrite (ofsOf p r) v = u.writeBlock p r v := by
  have h1 : ofsOf p r / 4096 = p := by unfold ofsOf; omega
  have h2 : ofsOf p r % 4096 = r := by unfold ofsOf; omega
  have h3 : ¬ r < 64 := by omega
  simp [State.regWrite, h1, h2, dropCaptures_high h, h3]

theorem regWrite_ten {t r : Nat} (hn : t < 128) (h0 : 0x40 ≤ r) (hr : r < 4096) (v : Word32) (u : State) :
    u.regWrite (ofsOf (pgTEN t) r) v = u.writeTen t r v := by
  have e : 32 + t - 32 = t := by omega
  rw [regWrite_block (by unfold pgTEN; omega) h0 hr]
  simp only [State.writeBlock, pgTEN, pgSYS, pgFRAME, pgDIR, pgRGL, pgCLOG, pgKEY, pgPAT, pgCOLL, pgTEN128]
  iterate 11 refine (if_neg (by omega)).trans ?_
  refine (if_pos (by omega)).trans ?_
  rw [e]

theorem regWrite_hport {q r : Nat} (hn : q < 8) (h0 : 0x40 ≤ r) (hr : r < 4096) (v : Word32) (u : State) :
    u.regWrite (ofsOf (pgHPORT q) r) v = u.writeHport q r v := by
  have e : 16 + q - 16 = q := by omega
  rw [regWrite_block (by unfold pgHPORT; omega) h0 hr]
  simp only [State.writeBlock, pgHPORT, pgSYS, pgFRAME, pgDIR, pgRGL, pgCLOG, pgKEY, pgPAT, pgCOLL, pgTEN128]
  iterate 8 refine (if_neg (by omega)).trans ?_
  refine (if_pos (by omega)).trans ?_
  rw [e]

theorem regWrite_fport {q r : Nat} (hn : q < 8) (h0 : 0x40 ≤ r) (hr : r < 4096) (v : Word32) (u : State) :
    u.regWrite (ofsOf (pgFPORT q) r) v = u.writeFport q r v := by
  have e : 24 + q - 24 = q := by omega
  rw [regWrite_block (by unfold pgFPORT; omega) h0 hr]
  simp only [State.writeBlock, pgFPORT, pgSYS, pgFRAME, pgDIR, pgRGL, pgCLOG, pgKEY, pgPAT, pgCOLL, pgTEN128]
  iterate 9 refine (if_neg (by omega)).trans ?_
  refine (if_pos (by omega)).trans ?_
  rw [e]

theorem regWrite_press {q r : Nat} (hn : q < 288) (h0 : 0x40 ≤ r) (hr : r < 4096) (v : Word32) (u : State) :
    u.regWrite (ofsOf (pgPRESS q) r) v = u.writePress q r v := by
  have e : 512 + q - 512 = q := by omega
  rw [regWrite_block (by unfold pgPRESS; omega) h0 hr]
  simp only [State.writeBlock, pgPRESS, pgSYS, pgFRAME, pgDIR, pgRGL, pgCLOG, pgKEY, pgPAT, pgCOLL, pgTEN128]
  iterate 13 refine (if_neg (by omega)).trans ?_
  refine (if_pos (by omega)).trans ?_
  rw [e]

theorem family_ten {t r : Nat} (ht : t < 128) (hr : r < 4096) : (pageFamily (ofsOf (pgTEN t) r / 4096)).isSome = true := by
  have h1 : ofsOf (pgTEN t) r / 4096 = 32 + t := by unfold ofsOf pgTEN; omega
  rw [h1, pageFamily]; repeat' split
  all_goals first | rfl | omega

theorem family_hport {q r : Nat} (ht : q < 8) (hr : r < 4096) : (pageFamily (ofsOf (pgHPORT q) r / 4096)).isSome = true := by
  have h1 : ofsOf (pgHPORT q) r / 4096 = 16 + q := by unfold ofsOf pgHPORT; omega
  rw [h1, pageFamily]; repeat' split
  all_goals first | rfl | omega

theorem family_fport {q r : Nat} (ht : q < 8) (hr : r < 4096) : (pageFamily (ofsOf (pgFPORT q) r / 4096)).isSome = true := by
  have h1 : ofsOf (pgFPORT q) r / 4096 = 24 + q := by unfold ofsOf pgFPORT; omega
  rw [h1, pageFamily]; repeat' split
  all_goals first | rfl | omega

theorem family_press {q r : Nat} (ht : q < 288) (hr : r < 4096) : (pageFamily (ofsOf (pgPRESS q) r / 4096)).isSome = true := by
  have h1 : ofsOf (pgPRESS q) r / 4096 = 512 + q := by unfold ofsOf pgPRESS; omega
  rw [h1, pageFamily]; repeat' split
  all_goals first | rfl | omega

theorem regWrite_media {q r : Nat} (hn : q < 48) (h0 : 0x40 ≤ r) (hr : r < 4096) (v : Word32) (u : State) :
    u.regWrite (ofsOf (pgMEDIA q) r) v = u.writeMedia q r v := by
  have e : 256 + q - 256 = q := by omega
  rw [regWrite_block (by unfold pgMEDIA; omega) h0 hr]
  simp only [State.writeBlock, pgMEDIA, pgSYS, pgFRAME, pgDIR, pgRGL, pgCLOG, pgKEY, pgPAT, pgCOLL, pgTEN128]
  iterate 12 refine (if_neg (by omega)).trans ?_
  refine (if_pos (by omega)).trans ?_
  rw [e]

theorem family_media {q r : Nat} (ht : q < 48) (hr : r < 4096) : (pageFamily (ofsOf (pgMEDIA q) r / 4096)).isSome = true := by
  have h1 : ofsOf (pgMEDIA q) r / 4096 = 256 + q := by unfold ofsOf pgMEDIA; omega
  rw [h1, pageFamily]; repeat' split
  all_goals first | rfl | omega

theorem ofsOf_word {p r : Nat} (h : r % 4 = 0) : ofsOf p r % 4 = 0 := by unfold ofsOf; omega

end Sys2Proof.Machine
end

