-- ==== Sys2Proof/Laws/Access.lean ====
section
/-!
SUPPORT. What reads the same after an operation that does not write it: one lemma for each reading and operation.
-/

namespace Sys2Proof.Machine

open Sys2Proof

variable (s : State)

@[simp] theorem ite_hport {c : Prop} [Decidable c] (a b : State) p' : (if c then a else b).hport p' = if c then a.hport p' else b.hport p' := by split <;> rfl
@[simp] theorem keeping_hport k t p' : (s.keeping k t).hport p' = t.hport p' := rfl
@[simp] theorem emit_hport o p' : (s.emit o).hport p' = s.hport p' := rfl
@[simp] theorem setReg_hport ofs v p' : (s.setReg ofs v).hport p' = s.hport p' := rfl
@[simp] theorem bump_hport ofs sel n p' : (s.bump ofs sel n).hport p' = s.hport p' := rfl
@[simp] theorem clearCtr_hport ofs sel p' : (s.clearCtr ofs sel).hport p' = s.hport p' := rfl
@[simp] theorem updHdr_hport p f p' : (s.updHdr p f).hport p' = s.hport p' := rfl
@[simp] theorem mgmtCause_hport v p' : (s.mgmtCause v).hport p' = s.hport p' := rfl
@[simp] theorem updUnit_hport k i f p' : (s.updUnit k i f).hport p' = s.hport p' := rfl
@[simp] theorem useTake_hport g i sub o c p' : (s.useTake g i sub o c).hport p' = s.hport p' := rfl
@[simp] theorem overrun_hport g i o x p' : (s.overrun g i o x).hport p' = s.hport p' := rfl
@[simp] theorem updChan_hport c f p' : (s.updChan c f).hport p' = s.hport p' := rfl
@[simp] theorem updFc_hport l f p' : (s.updFc l f).hport p' = s.hport p' := rfl
@[simp] theorem updRet_hport i f p' : (s.updRet i f).hport p' = s.hport p' := rfl
@[simp] theorem setLatch_hport a b v p' : (s.setLatch a b v).hport p' = s.hport p' := rfl
@[simp] theorem mgmtTake_hport src p' : (s.mgmtTake src).hport p' = s.hport p' := rfl
@[simp] theorem updRing_hport r f p' : (s.updRing r f).hport p' = s.hport p' := rfl
@[simp] theorem updRunOf_hport n f p' : (s.updRunOf n f).hport p' = s.hport p' := rfl
@[simp] theorem updLun_hport k f p' : (s.updLun k f).hport p' = s.hport p' := rfl
@[simp] theorem updRec_hport n f p' : (s.updRec n f).hport p' = s.hport p' := rfl
@[simp] theorem updBlock_hport l b f p' : (s.updBlock l b f).hport p' = s.hport p' := rfl
@[simp] theorem setEnt_hport l e p' : (s.setEnt l e).hport p' = s.hport p' := rfl
@[simp] theorem setTrans_hport k t p' : (s.setTrans k t).hport p' = s.hport p' := rfl
@[simp] theorem updPeer_hport p f p' : (s.updPeer p f).hport p' = s.hport p' := rfl
@[simp] theorem setPent_hport l e p' : (s.setPent l e).hport p' = s.hport p' := rfl
@[simp] theorem setReq_hport i r p' : (s.setReq i r).hport p' = s.hport p' := rfl
@[simp] theorem updFport_hport f g p' : (s.updFport f g).hport p' = s.hport p' := rfl
@[simp] theorem updTen_hport t f p' : (s.updTen t f).hport p' = s.hport p' := rfl
@[simp] theorem updId_hport h f p' : (s.updId h f).hport p' = s.hport p' := rfl
@[simp] theorem updRgn_hport r f p' : (s.updRgn r f).hport p' = s.hport p' := rfl
@[simp] theorem queueCmd_hport c p' : (s.queueCmd c).hport p' = s.hport p' := rfl
@[simp] theorem updColl_hport i f p' : (s.updColl i f).hport p' = s.hport p' := rfl
@[simp] theorem updCrun_hport i f p' : (s.updCrun i f).hport p' = s.hport p' := rfl
@[simp] theorem updLane_hport n f p' : (s.updLane n f).hport p' = s.hport p' := rfl
@[simp] theorem updPu_hport p f p' : (s.updPu p f).hport p' = s.hport p' := rfl
@[simp] theorem updPart_hport p a d f p' : (s.updPart p a d f).hport p' = s.hport p' := rfl
@[simp] theorem updArr_hport p a f p' : (s.updArr p a f).hport p' = s.hport p' := rfl
@[simp] theorem updJob_hport n f p' : (s.updJob n f).hport p' = s.hport p' := rfl
@[simp] theorem updLay_hport n f p' : (s.updLay n f).hport p' = s.hport p' := rfl
@[simp] theorem updFn_hport k f p' : (s.updFn k f).hport p' = s.hport p' := rfl
@[simp] theorem fnCause_hport k c p' : (s.fnCause k c).hport p' = s.hport p' := rfl
@[simp] theorem tierCount_hport sel p' : (s.tierCount sel).hport p' = s.hport p' := rfl
@[simp] theorem dirCount_hport sel n p' : (s.dirCount sel n).hport p' = s.hport p' := rfl
@[simp] theorem updSpdm_hport v f p' : (s.updSpdm v f).hport p' = s.hport p' := rfl
@[simp] theorem updPage_hport p f p' : (s.updPage p f).hport p' = s.hport p' := rfl
@[simp] theorem writeByte_hport a b p' : (s.writeByte a b).hport p' = s.hport p' := rfl
@[simp] theorem setPoison_hport l b p' : (s.setPoison l b).hport p' = s.hport p' := rfl
@[simp] theorem inFrame_hport n p' : (s.inFrame n).hport p' = s.hport p' := rfl
@[simp] theorem pathTaken_hport src p' : (s.pathTaken src).hport p' = s.hport p' := rfl
@[simp] theorem pageCause_hport p p' : (s.pageCause p).hport p' = s.hport p' := by unfold State.hport; rw [pageCause_hports]
@[simp] theorem setEvt_hport p b p' : (s.setEvt p b).hport p' = s.hport p' := by unfold State.hport; rw [setEvt_hports]
@[simp] theorem setSvcEvt_hport b p' : (s.setSvcEvt b).hport p' = s.hport p' := by unfold State.hport; rw [setSvcEvt_hports]
@[simp] theorem charge_hport g i sub o c p' : (s.charge g i sub o c).hport p' = s.hport p' := by unfold State.hport; rw [charge_hports]
@[simp] theorem chargeSplit_hport g i sub o c p' : (s.chargeSplit g i sub o c).hport p' = s.hport p' := by unfold State.hport; rw [chargeSplit_hports]
@[simp] theorem updFnOf_hport x f p' : (s.updFnOf x f).hport p' = s.hport p' := by unfold State.hport; rw [updFnOf_hports]
@[simp] theorem doePut_hport v p' : (s.doePut v).hport p' = s.hport p' := by unfold State.hport; rw [doePut_hports]
@[simp] theorem keepEntry_hport e p' : (s.keepEntry e).hport p' = s.hport p' := by unfold State.hport; rw [keepEntry_hports]
@[simp] theorem logE_hport ev sev t p a v p' : (s.logE ev sev t p a v).hport p' = s.hport p' := by unfold State.hport; rw [logE_hports]
@[simp] theorem retireAdvice_hport k r l p p' : (s.retireAdvice k r l p).hport p' = s.hport p' := by unfold State.hport; rw [retireAdvice_hports]
@[simp] theorem lockWrite_hport p' : (s.lockWrite).hport p' = s.hport p' := by unfold State.hport; rw [lockWrite_hports]
@[simp] theorem transmit_hport f q p' : (s.transmit f q).hport p' = s.hport p' := by unfold State.hport; rw [transmit_hports]
@[simp] theorem sendRaw_hport f b p' : (s.sendRaw f b).hport p' = s.hport p' := by unfold State.hport; rw [sendRaw_hports]
@[simp] theorem mbReply_hport f c d p' : (s.mbReply f c d).hport p' = s.hport p' := by unfold State.hport; rw [mbReply_hports]
@[simp] theorem fmReply_hport c l p' : (s.fmReply c l).hport p' = s.hport p' := by unfold State.hport; rw [fmReply_hports]
@[simp] theorem mgmtReply_hport a v p' : (s.mgmtReply a v).hport p' = s.hport p' := by unfold State.hport; rw [mgmtReply_hports]

@[simp] theorem ite_ten {c : Prop} [Decidable c] (a b : State) t' : (if c then a else b).ten t' = if c then a.ten t' else b.ten t' := by split <;> rfl
@[simp] theorem keeping_ten k t t' : (s.keeping k t).ten t' = t.ten t' := rfl
@[simp] theorem emit_ten o t' : (s.emit o).ten t' = s.ten t' := rfl
@[simp] theorem setReg_ten ofs v t' : (s.setReg ofs v).ten t' = s.ten t' := rfl
@[simp] theorem bump_ten ofs sel n t' : (s.bump ofs sel n).ten t' = s.ten t' := rfl
@[simp] theorem clearCtr_ten ofs sel t' : (s.clearCtr ofs sel).ten t' = s.ten t' := rfl
@[simp] theorem updHdr_ten p f t' : (s.updHdr p f).ten t' = s.ten t' := rfl
@[simp] theorem mgmtCause_ten v t' : (s.mgmtCause v).ten t' = s.ten t' := rfl
@[simp] theorem updUnit_ten k i f t' : (s.updUnit k i f).ten t' = s.ten t' := rfl
@[simp] theorem useTake_ten g i sub o c t' : (s.useTake g i sub o c).ten t' = s.ten t' := rfl
@[simp] theorem overrun_ten g i o x t' : (s.overrun g i o x).ten t' = s.ten t' := rfl
@[simp] theorem updChan_ten c f t' : (s.updChan c f).ten t' = s.ten t' := rfl
@[simp] theorem updFc_ten l f t' : (s.updFc l f).ten t' = s.ten t' := rfl
@[simp] theorem updRet_ten i f t' : (s.updRet i f).ten t' = s.ten t' := rfl
@[simp] theorem setLatch_ten a b v t' : (s.setLatch a b v).ten t' = s.ten t' := rfl
@[simp] theorem mgmtTake_ten src t' : (s.mgmtTake src).ten t' = s.ten t' := rfl
@[simp] theorem updRing_ten r f t' : (s.updRing r f).ten t' = s.ten t' := rfl
@[simp] theorem updRunOf_ten n f t' : (s.updRunOf n f).ten t' = s.ten t' := rfl
@[simp] theorem updLun_ten k f t' : (s.updLun k f).ten t' = s.ten t' := rfl
@[simp] theorem updRec_ten n f t' : (s.updRec n f).ten t' = s.ten t' := rfl
@[simp] theorem updBlock_ten l b f t' : (s.updBlock l b f).ten t' = s.ten t' := rfl
@[simp] theorem setEnt_ten l e t' : (s.setEnt l e).ten t' = s.ten t' := rfl
@[simp] theorem setTrans_ten k t t' : (s.setTrans k t).ten t' = s.ten t' := rfl
@[simp] theorem updPeer_ten p f t' : (s.updPeer p f).ten t' = s.ten t' := rfl
@[simp] theorem setPent_ten l e t' : (s.setPent l e).ten t' = s.ten t' := rfl
@[simp] theorem setReq_ten i r t' : (s.setReq i r).ten t' = s.ten t' := rfl
@[simp] theorem updFport_ten f g t' : (s.updFport f g).ten t' = s.ten t' := rfl
@[simp] theorem updId_ten h f t' : (s.updId h f).ten t' = s.ten t' := rfl
@[simp] theorem updRgn_ten r f t' : (s.updRgn r f).ten t' = s.ten t' := rfl
@[simp] theorem queueCmd_ten c t' : (s.queueCmd c).ten t' = s.ten t' := rfl
@[simp] theorem updPort_ten p f t' : (s.updPort p f).ten t' = s.ten t' := rfl
@[simp] theorem updColl_ten i f t' : (s.updColl i f).ten t' = s.ten t' := rfl
@[simp] theorem updCrun_ten i f t' : (s.updCrun i f).ten t' = s.ten t' := rfl
@[simp] theorem updLane_ten n f t' : (s.updLane n f).ten t' = s.ten t' := rfl
@[simp] theorem updPu_ten p f t' : (s.updPu p f).ten t' = s.ten t' := rfl
@[simp] theorem updPart_ten p a d f t' : (s.updPart p a d f).ten t' = s.ten t' := rfl
@[simp] theorem updArr_ten p a f t' : (s.updArr p a f).ten t' = s.ten t' := rfl
@[simp] theorem updJob_ten n f t' : (s.updJob n f).ten t' = s.ten t' := rfl
@[simp] theorem updLay_ten n f t' : (s.updLay n f).ten t' = s.ten t' := rfl
@[simp] theorem updFn_ten k f t' : (s.updFn k f).ten t' = s.ten t' := rfl
@[simp] theorem fnCause_ten k c t' : (s.fnCause k c).ten t' = s.ten t' := rfl
@[simp] theorem tierCount_ten sel t' : (s.tierCount sel).ten t' = s.ten t' := rfl
@[simp] theorem dirCount_ten sel n t' : (s.dirCount sel n).ten t' = s.ten t' := rfl
@[simp] theorem updSpdm_ten v f t' : (s.updSpdm v f).ten t' = s.ten t' := rfl
@[simp] theorem updPage_ten p f t' : (s.updPage p f).ten t' = s.ten t' := rfl
@[simp] theorem writeByte_ten a b t' : (s.writeByte a b).ten t' = s.ten t' := rfl
@[simp] theorem setPoison_ten l b t' : (s.setPoison l b).ten t' = s.ten t' := rfl
@[simp] theorem inFrame_ten n t' : (s.inFrame n).ten t' = s.ten t' := rfl
@[simp] theorem pathTaken_ten src t' : (s.pathTaken src).ten t' = s.ten t' := rfl
@[simp] theorem pageCause_ten p t' : (s.pageCause p).ten t' = s.ten t' := by unfold State.ten; rw [pageCause_tenants]
@[simp] theorem setEvt_ten p b t' : (s.setEvt p b).ten t' = s.ten t' := by unfold State.ten; rw [setEvt_tenants]
@[simp] theorem setSvcEvt_ten b t' : (s.setSvcEvt b).ten t' = s.ten t' := by unfold State.ten; rw [setSvcEvt_tenants]
@[simp] theorem charge_ten g i sub o c t' : (s.charge g i sub o c).ten t' = s.ten t' := by unfold State.ten; rw [charge_tenants]
@[simp] theorem chargeSplit_ten g i sub o c t' : (s.chargeSplit g i sub o c).ten t' = s.ten t' := by unfold State.ten; rw [chargeSplit_tenants]
@[simp] theorem updFnOf_ten x f t' : (s.updFnOf x f).ten t' = s.ten t' := by unfold State.ten; rw [updFnOf_tenants]
@[simp] theorem doePut_ten v t' : (s.doePut v).ten t' = s.ten t' := by unfold State.ten; rw [doePut_tenants]
@[simp] theorem keepEntry_ten e t' : (s.keepEntry e).ten t' = s.ten t' := by unfold State.ten; rw [keepEntry_tenants]
@[simp] theorem logE_ten ev sev t p a v t' : (s.logE ev sev t p a v).ten t' = s.ten t' := by unfold State.ten; rw [logE_tenants]
@[simp] theorem retireAdvice_ten k r l p t' : (s.retireAdvice k r l p).ten t' = s.ten t' := by unfold State.ten; rw [retireAdvice_tenants]
@[simp] theorem lockWrite_ten t' : (s.lockWrite).ten t' = s.ten t' := by unfold State.ten; rw [lockWrite_tenants]
@[simp] theorem transmit_ten f q t' : (s.transmit f q).ten t' = s.ten t' := by unfold State.ten; rw [transmit_tenants]
@[simp] theorem sendRaw_ten f b t' : (s.sendRaw f b).ten t' = s.ten t' := by unfold State.ten; rw [sendRaw_tenants]
@[simp] theorem mbReply_ten f c d t' : (s.mbReply f c d).ten t' = s.ten t' := by unfold State.ten; rw [mbReply_tenants]
@[simp] theorem fmReply_ten c l t' : (s.fmReply c l).ten t' = s.ten t' := by unfold State.ten; rw [fmReply_tenants]
@[simp] theorem mgmtReply_ten a v t' : (s.mgmtReply a v).ten t' = s.ten t' := by unfold State.ten; rw [mgmtReply_tenants]

@[simp] theorem ite_ident {c : Prop} [Decidable c] (a b : State) h' : (if c then a else b).ident h' = if c then a.ident h' else b.ident h' := by split <;> rfl
@[simp] theorem keeping_ident k t h' : (s.keeping k t).ident h' = t.ident h' := rfl
@[simp] theorem emit_ident o h' : (s.emit o).ident h' = s.ident h' := rfl
@[simp] theorem setReg_ident ofs v h' : (s.setReg ofs v).ident h' = s.ident h' := rfl
@[simp] theorem bump_ident ofs sel n h' : (s.bump ofs sel n).ident h' = s.ident h' := rfl
@[simp] theorem clearCtr_ident ofs sel h' : (s.clearCtr ofs sel).ident h' = s.ident h' := rfl
@[simp] theorem updHdr_ident p f h' : (s.updHdr p f).ident h' = s.ident h' := rfl
@[simp] theorem mgmtCause_ident v h' : (s.mgmtCause v).ident h' = s.ident h' := rfl
@[simp] theorem updUnit_ident k i f h' : (s.updUnit k i f).ident h' = s.ident h' := rfl
@[simp] theorem useTake_ident g i sub o c h' : (s.useTake g i sub o c).ident h' = s.ident h' := rfl
@[simp] theorem overrun_ident g i o x h' : (s.overrun g i o x).ident h' = s.ident h' := rfl
@[simp] theorem updChan_ident c f h' : (s.updChan c f).ident h' = s.ident h' := rfl
@[simp] theorem updFc_ident l f h' : (s.updFc l f).ident h' = s.ident h' := rfl
@[simp] theorem updRet_ident i f h' : (s.updRet i f).ident h' = s.ident h' := rfl
@[simp] theorem setLatch_ident a b v h' : (s.setLatch a b v).ident h' = s.ident h' := rfl
@[simp] theorem mgmtTake_ident src h' : (s.mgmtTake src).ident h' = s.ident h' := rfl
@[simp] theorem updRing_ident r f h' : (s.updRing r f).ident h' = s.ident h' := rfl
@[simp] theorem updRunOf_ident n f h' : (s.updRunOf n f).ident h' = s.ident h' := rfl
@[simp] theorem updLun_ident k f h' : (s.updLun k f).ident h' = s.ident h' := rfl
@[simp] theorem updRec_ident n f h' : (s.updRec n f).ident h' = s.ident h' := rfl
@[simp] theorem updBlock_ident l b f h' : (s.updBlock l b f).ident h' = s.ident h' := rfl
@[simp] theorem setEnt_ident l e h' : (s.setEnt l e).ident h' = s.ident h' := rfl
@[simp] theorem setTrans_ident k t h' : (s.setTrans k t).ident h' = s.ident h' := rfl
@[simp] theorem updPeer_ident p f h' : (s.updPeer p f).ident h' = s.ident h' := rfl
@[simp] theorem setPent_ident l e h' : (s.setPent l e).ident h' = s.ident h' := rfl
@[simp] theorem setReq_ident i r h' : (s.setReq i r).ident h' = s.ident h' := rfl
@[simp] theorem updFport_ident f g h' : (s.updFport f g).ident h' = s.ident h' := rfl
@[simp] theorem updTen_ident t f h' : (s.updTen t f).ident h' = s.ident h' := rfl
@[simp] theorem updPort_ident p f h' : (s.updPort p f).ident h' = s.ident h' := rfl
@[simp] theorem updColl_ident i f h' : (s.updColl i f).ident h' = s.ident h' := rfl
@[simp] theorem updCrun_ident i f h' : (s.updCrun i f).ident h' = s.ident h' := rfl
@[simp] theorem updLane_ident n f h' : (s.updLane n f).ident h' = s.ident h' := rfl
@[simp] theorem updPu_ident p f h' : (s.updPu p f).ident h' = s.ident h' := rfl
@[simp] theorem updPart_ident p a d f h' : (s.updPart p a d f).ident h' = s.ident h' := rfl
@[simp] theorem updArr_ident p a f h' : (s.updArr p a f).ident h' = s.ident h' := rfl
@[simp] theorem updJob_ident n f h' : (s.updJob n f).ident h' = s.ident h' := rfl
@[simp] theorem updLay_ident n f h' : (s.updLay n f).ident h' = s.ident h' := rfl
@[simp] theorem updFn_ident k f h' : (s.updFn k f).ident h' = s.ident h' := rfl
@[simp] theorem fnCause_ident k c h' : (s.fnCause k c).ident h' = s.ident h' := rfl
@[simp] theorem tierCount_ident sel h' : (s.tierCount sel).ident h' = s.ident h' := rfl
@[simp] theorem dirCount_ident sel n h' : (s.dirCount sel n).ident h' = s.ident h' := rfl
@[simp] theorem updSpdm_ident v f h' : (s.updSpdm v f).ident h' = s.ident h' := rfl
@[simp] theorem updPage_ident p f h' : (s.updPage p f).ident h' = s.ident h' := rfl
@[simp] theorem writeByte_ident a b h' : (s.writeByte a b).ident h' = s.ident h' := rfl
@[simp] theorem setPoison_ident l b h' : (s.setPoison l b).ident h' = s.ident h' := rfl
@[simp] theorem inFrame_ident n h' : (s.inFrame n).ident h' = s.ident h' := rfl
@[simp] theorem pathTaken_ident src h' : (s.pathTaken src).ident h' = s.ident h' := rfl
@[simp] theorem pageCause_ident p h' : (s.pageCause p).ident h' = s.ident h' := by unfold State.ident; rw [pageCause_tables]
@[simp] theorem setEvt_ident p b h' : (s.setEvt p b).ident h' = s.ident h' := by unfold State.ident; rw [setEvt_tables]
@[simp] theorem setSvcEvt_ident b h' : (s.setSvcEvt b).ident h' = s.ident h' := by unfold State.ident; rw [setSvcEvt_tables]
@[simp] theorem charge_ident g i sub o c h' : (s.charge g i sub o c).ident h' = s.ident h' := by unfold State.ident; rw [charge_tables]
@[simp] theorem chargeSplit_ident g i sub o c h' : (s.chargeSplit g i sub o c).ident h' = s.ident h' := by unfold State.ident; rw [chargeSplit_tables]
@[simp] theorem updFnOf_ident x f h' : (s.updFnOf x f).ident h' = s.ident h' := by unfold State.ident; rw [updFnOf_tables]
@[simp] theorem doePut_ident v h' : (s.doePut v).ident h' = s.ident h' := by unfold State.ident; rw [doePut_tables]
@[simp] theorem keepEntry_ident e h' : (s.keepEntry e).ident h' = s.ident h' := by unfold State.ident; rw [keepEntry_tables]
@[simp] theorem logE_ident ev sev t p a v h' : (s.logE ev sev t p a v).ident h' = s.ident h' := by unfold State.ident; rw [logE_tables]
@[simp] theorem retireAdvice_ident k r l p h' : (s.retireAdvice k r l p).ident h' = s.ident h' := by unfold State.ident; rw [retireAdvice_tables]
@[simp] theorem lockWrite_ident h' : (s.lockWrite).ident h' = s.ident h' := by unfold State.ident; rw [lockWrite_tables]
@[simp] theorem transmit_ident f q h' : (s.transmit f q).ident h' = s.ident h' := by unfold State.ident; rw [transmit_tables]
@[simp] theorem sendRaw_ident f b h' : (s.sendRaw f b).ident h' = s.ident h' := by unfold State.ident; rw [sendRaw_tables]
@[simp] theorem mbReply_ident f c d h' : (s.mbReply f c d).ident h' = s.ident h' := by unfold State.ident; rw [mbReply_tables]
@[simp] theorem fmReply_ident c l h' : (s.fmReply c l).ident h' = s.ident h' := by unfold State.ident; rw [fmReply_tables]
@[simp] theorem mgmtReply_ident a v h' : (s.mgmtReply a v).ident h' = s.ident h' := by unfold State.ident; rw [mgmtReply_tables]

@[simp] theorem ite_rgn {c : Prop} [Decidable c] (a b : State) r' : (if c then a else b).rgn r' = if c then a.rgn r' else b.rgn r' := by split <;> rfl
@[simp] theorem keeping_rgn k t r' : (s.keeping k t).rgn r' = t.rgn r' := rfl
@[simp] theorem emit_rgn o r' : (s.emit o).rgn r' = s.rgn r' := rfl
@[simp] theorem setReg_rgn ofs v r' : (s.setReg ofs v).rgn r' = s.rgn r' := rfl
@[simp] theorem bump_rgn ofs sel n r' : (s.bump ofs sel n).rgn r' = s.rgn r' := rfl
@[simp] theorem clearCtr_rgn ofs sel r' : (s.clearCtr ofs sel).rgn r' = s.rgn r' := rfl
@[simp] theorem updHdr_rgn p f r' : (s.updHdr p f).rgn r' = s.rgn r' := rfl
@[simp] theorem mgmtCause_rgn v r' : (s.mgmtCause v).rgn r' = s.rgn r' := rfl
@[simp] theorem updUnit_rgn k i f r' : (s.updUnit k i f).rgn r' = s.rgn r' := rfl
@[simp] theorem useTake_rgn g i sub o c r' : (s.useTake g i sub o c).rgn r' = s.rgn r' := rfl
@[simp] theorem overrun_rgn g i o x r' : (s.overrun g i o x).rgn r' = s.rgn r' := rfl
@[simp] theorem updChan_rgn c f r' : (s.updChan c f).rgn r' = s.rgn r' := rfl
@[simp] theorem updFc_rgn l f r' : (s.updFc l f).rgn r' = s.rgn r' := rfl
@[simp] theorem updRet_rgn i f r' : (s.updRet i f).rgn r' = s.rgn r' := rfl
@[simp] theorem setLatch_rgn a b v r' : (s.setLatch a b v).rgn r' = s.rgn r' := rfl
@[simp] theorem mgmtTake_rgn src r' : (s.mgmtTake src).rgn r' = s.rgn r' := rfl
@[simp] theorem updRing_rgn r f r' : (s.updRing r f).rgn r' = s.rgn r' := rfl
@[simp] theorem updRunOf_rgn n f r' : (s.updRunOf n f).rgn r' = s.rgn r' := rfl
@[simp] theorem updLun_rgn k f r' : (s.updLun k f).rgn r' = s.rgn r' := rfl
@[simp] theorem updRec_rgn n f r' : (s.updRec n f).rgn r' = s.rgn r' := rfl
@[simp] theorem updBlock_rgn l b f r' : (s.updBlock l b f).rgn r' = s.rgn r' := rfl
@[simp] theorem setEnt_rgn l e r' : (s.setEnt l e).rgn r' = s.rgn r' := rfl
@[simp] theorem setTrans_rgn k t r' : (s.setTrans k t).rgn r' = s.rgn r' := rfl
@[simp] theorem updPeer_rgn p f r' : (s.updPeer p f).rgn r' = s.rgn r' := rfl
@[simp] theorem setPent_rgn l e r' : (s.setPent l e).rgn r' = s.rgn r' := rfl
@[simp] theorem setReq_rgn i r r' : (s.setReq i r).rgn r' = s.rgn r' := rfl
@[simp] theorem updFport_rgn f g r' : (s.updFport f g).rgn r' = s.rgn r' := rfl
@[simp] theorem updTen_rgn t f r' : (s.updTen t f).rgn r' = s.rgn r' := rfl
@[simp] theorem updPort_rgn p f r' : (s.updPort p f).rgn r' = s.rgn r' := rfl
@[simp] theorem updColl_rgn i f r' : (s.updColl i f).rgn r' = s.rgn r' := rfl
@[simp] theorem updCrun_rgn i f r' : (s.updCrun i f).rgn r' = s.rgn r' := rfl
@[simp] theorem updLane_rgn n f r' : (s.updLane n f).rgn r' = s.rgn r' := rfl
@[simp] theorem updPu_rgn p f r' : (s.updPu p f).rgn r' = s.rgn r' := rfl
@[simp] theorem updPart_rgn p a d f r' : (s.updPart p a d f).rgn r' = s.rgn r' := rfl
@[simp] theorem updArr_rgn p a f r' : (s.updArr p a f).rgn r' = s.rgn r' := rfl
@[simp] theorem updJob_rgn n f r' : (s.updJob n f).rgn r' = s.rgn r' := rfl
@[simp] theorem updLay_rgn n f r' : (s.updLay n f).rgn r' = s.rgn r' := rfl
@[simp] theorem updFn_rgn k f r' : (s.updFn k f).rgn r' = s.rgn r' := rfl
@[simp] theorem fnCause_rgn k c r' : (s.fnCause k c).rgn r' = s.rgn r' := rfl
@[simp] theorem tierCount_rgn sel r' : (s.tierCount sel).rgn r' = s.rgn r' := rfl
@[simp] theorem dirCount_rgn sel n r' : (s.dirCount sel n).rgn r' = s.rgn r' := rfl
@[simp] theorem updSpdm_rgn v f r' : (s.updSpdm v f).rgn r' = s.rgn r' := rfl
@[simp] theorem updPage_rgn p f r' : (s.updPage p f).rgn r' = s.rgn r' := rfl
@[simp] theorem writeByte_rgn a b r' : (s.writeByte a b).rgn r' = s.rgn r' := rfl
@[simp] theorem setPoison_rgn l b r' : (s.setPoison l b).rgn r' = s.rgn r' := rfl
@[simp] theorem inFrame_rgn n r' : (s.inFrame n).rgn r' = s.rgn r' := rfl
@[simp] theorem pathTaken_rgn src r' : (s.pathTaken src).rgn r' = s.rgn r' := rfl
@[simp] theorem pageCause_rgn p r' : (s.pageCause p).rgn r' = s.rgn r' := by unfold State.rgn; rw [pageCause_tables]
@[simp] theorem setEvt_rgn p b r' : (s.setEvt p b).rgn r' = s.rgn r' := by unfold State.rgn; rw [setEvt_tables]
@[simp] theorem setSvcEvt_rgn b r' : (s.setSvcEvt b).rgn r' = s.rgn r' := by unfold State.rgn; rw [setSvcEvt_tables]
@[simp] theorem charge_rgn g i sub o c r' : (s.charge g i sub o c).rgn r' = s.rgn r' := by unfold State.rgn; rw [charge_tables]
@[simp] theorem chargeSplit_rgn g i sub o c r' : (s.chargeSplit g i sub o c).rgn r' = s.rgn r' := by unfold State.rgn; rw [chargeSplit_tables]
@[simp] theorem updFnOf_rgn x f r' : (s.updFnOf x f).rgn r' = s.rgn r' := by unfold State.rgn; rw [updFnOf_tables]
@[simp] theorem doePut_rgn v r' : (s.doePut v).rgn r' = s.rgn r' := by unfold State.rgn; rw [doePut_tables]
@[simp] theorem keepEntry_rgn e r' : (s.keepEntry e).rgn r' = s.rgn r' := by unfold State.rgn; rw [keepEntry_tables]
@[simp] theorem logE_rgn ev sev t p a v r' : (s.logE ev sev t p a v).rgn r' = s.rgn r' := by unfold State.rgn; rw [logE_tables]
@[simp] theorem retireAdvice_rgn k r l p r' : (s.retireAdvice k r l p).rgn r' = s.rgn r' := by unfold State.rgn; rw [retireAdvice_tables]
@[simp] theorem lockWrite_rgn r' : (s.lockWrite).rgn r' = s.rgn r' := by unfold State.rgn; rw [lockWrite_tables]
@[simp] theorem transmit_rgn f q r' : (s.transmit f q).rgn r' = s.rgn r' := by unfold State.rgn; rw [transmit_tables]
@[simp] theorem sendRaw_rgn f b r' : (s.sendRaw f b).rgn r' = s.rgn r' := by unfold State.rgn; rw [sendRaw_tables]
@[simp] theorem mbReply_rgn f c d r' : (s.mbReply f c d).rgn r' = s.rgn r' := by unfold State.rgn; rw [mbReply_tables]
@[simp] theorem fmReply_rgn c l r' : (s.fmReply c l).rgn r' = s.rgn r' := by unfold State.rgn; rw [fmReply_tables]
@[simp] theorem mgmtReply_rgn a v r' : (s.mgmtReply a v).rgn r' = s.rgn r' := by unfold State.rgn; rw [mgmtReply_tables]

@[simp] theorem ite_page {c : Prop} [Decidable c] (a b : State) p' : (if c then a else b).page p' = if c then a.page p' else b.page p' := by split <;> rfl
@[simp] theorem keeping_page k t p' : (s.keeping k t).page p' = t.page p' := rfl
@[simp] theorem emit_page o p' : (s.emit o).page p' = s.page p' := rfl
@[simp] theorem setReg_page ofs v p' : (s.setReg ofs v).page p' = s.page p' := rfl
@[simp] theorem bump_page ofs sel n p' : (s.bump ofs sel n).page p' = s.page p' := rfl
@[simp] theorem clearCtr_page ofs sel p' : (s.clearCtr ofs sel).page p' = s.page p' := rfl
@[simp] theorem updHdr_page p f p' : (s.updHdr p f).page p' = s.page p' := rfl
@[simp] theorem mgmtCause_page v p' : (s.mgmtCause v).page p' = s.page p' := rfl
@[simp] theorem updUnit_page k i f p' : (s.updUnit k i f).page p' = s.page p' := rfl
@[simp] theorem useTake_page g i sub o c p' : (s.useTake g i sub o c).page p' = s.page p' := rfl
@[simp] theorem overrun_page g i o x p' : (s.overrun g i o x).page p' = s.page p' := rfl
@[simp] theorem updChan_page c f p' : (s.updChan c f).page p' = s.page p' := rfl
@[simp] theorem updFc_page l f p' : (s.updFc l f).page p' = s.page p' := rfl
@[simp] theorem updRet_page i f p' : (s.updRet i f).page p' = s.page p' := rfl
@[simp] theorem setLatch_page a b v p' : (s.setLatch a b v).page p' = s.page p' := rfl
@[simp] theorem mgmtTake_page src p' : (s.mgmtTake src).page p' = s.page p' := rfl
@[simp] theorem updRing_page r f p' : (s.updRing r f).page p' = s.page p' := rfl
@[simp] theorem updRunOf_page n f p' : (s.updRunOf n f).page p' = s.page p' := rfl
@[simp] theorem updLun_page k f p' : (s.updLun k f).page p' = s.page p' := rfl
@[simp] theorem updRec_page n f p' : (s.updRec n f).page p' = s.page p' := rfl
@[simp] theorem updBlock_page l b f p' : (s.updBlock l b f).page p' = s.page p' := rfl
@[simp] theorem setEnt_page l e p' : (s.setEnt l e).page p' = s.page p' := rfl
@[simp] theorem setTrans_page k t p' : (s.setTrans k t).page p' = s.page p' := rfl
@[simp] theorem updPeer_page p f p' : (s.updPeer p f).page p' = s.page p' := rfl
@[simp] theorem setPent_page l e p' : (s.setPent l e).page p' = s.page p' := rfl
@[simp] theorem setReq_page i r p' : (s.setReq i r).page p' = s.page p' := rfl
@[simp] theorem updFport_page f g p' : (s.updFport f g).page p' = s.page p' := rfl
@[simp] theorem updTen_page t f p' : (s.updTen t f).page p' = s.page p' := rfl
@[simp] theorem updId_page h f p' : (s.updId h f).page p' = s.page p' := rfl
@[simp] theorem updRgn_page r f p' : (s.updRgn r f).page p' = s.page p' := rfl
@[simp] theorem queueCmd_page c p' : (s.queueCmd c).page p' = s.page p' := rfl
@[simp] theorem updPort_page p f p' : (s.updPort p f).page p' = s.page p' := rfl
@[simp] theorem updColl_page i f p' : (s.updColl i f).page p' = s.page p' := rfl
@[simp] theorem updCrun_page i f p' : (s.updCrun i f).page p' = s.page p' := rfl
@[simp] theorem updLane_page n f p' : (s.updLane n f).page p' = s.page p' := rfl
@[simp] theorem updPu_page p f p' : (s.updPu p f).page p' = s.page p' := rfl
@[simp] theorem updPart_page p a d f p' : (s.updPart p a d f).page p' = s.page p' := rfl
@[simp] theorem updArr_page p a f p' : (s.updArr p a f).page p' = s.page p' := rfl
@[simp] theorem updJob_page n f p' : (s.updJob n f).page p' = s.page p' := rfl
@[simp] theorem updLay_page n f p' : (s.updLay n f).page p' = s.page p' := rfl
@[simp] theorem updFn_page k f p' : (s.updFn k f).page p' = s.page p' := rfl
@[simp] theorem fnCause_page k c p' : (s.fnCause k c).page p' = s.page p' := rfl
@[simp] theorem tierCount_page sel p' : (s.tierCount sel).page p' = s.page p' := rfl
@[simp] theorem dirCount_page sel n p' : (s.dirCount sel n).page p' = s.page p' := rfl
@[simp] theorem updSpdm_page v f p' : (s.updSpdm v f).page p' = s.page p' := rfl
@[simp] theorem writeByte_page a b p' : (s.writeByte a b).page p' = s.page p' := rfl
@[simp] theorem setPoison_page l b p' : (s.setPoison l b).page p' = s.page p' := rfl
@[simp] theorem inFrame_page n p' : (s.inFrame n).page p' = s.page p' := rfl
@[simp] theorem pathTaken_page src p' : (s.pathTaken src).page p' = s.page p' := rfl
@[simp] theorem pageCause_page p p' : (s.pageCause p).page p' = s.page p' := by unfold State.page; rw [pageCause_tier]
@[simp] theorem setEvt_page p b p' : (s.setEvt p b).page p' = s.page p' := by unfold State.page; rw [setEvt_tier]
@[simp] theorem setSvcEvt_page b p' : (s.setSvcEvt b).page p' = s.page p' := by unfold State.page; rw [setSvcEvt_tier]
@[simp] theorem charge_page g i sub o c p' : (s.charge g i sub o c).page p' = s.page p' := by unfold State.page; rw [charge_tier]
@[simp] theorem chargeSplit_page g i sub o c p' : (s.chargeSplit g i sub o c).page p' = s.page p' := by unfold State.page; rw [chargeSplit_tier]
@[simp] theorem updFnOf_page x f p' : (s.updFnOf x f).page p' = s.page p' := by unfold State.page; rw [updFnOf_tier]
@[simp] theorem doePut_page v p' : (s.doePut v).page p' = s.page p' := by unfold State.page; rw [doePut_tier]
@[simp] theorem keepEntry_page e p' : (s.keepEntry e).page p' = s.page p' := by unfold State.page; rw [keepEntry_tier]
@[simp] theorem logE_page ev sev t p a v p' : (s.logE ev sev t p a v).page p' = s.page p' := by unfold State.page; rw [logE_tier]
@[simp] theorem retireAdvice_page k r l p p' : (s.retireAdvice k r l p).page p' = s.page p' := by unfold State.page; rw [retireAdvice_tier]
@[simp] theorem lockWrite_page p' : (s.lockWrite).page p' = s.page p' := by unfold State.page; rw [lockWrite_tier]
@[simp] theorem transmit_page f q p' : (s.transmit f q).page p' = s.page p' := by unfold State.page; rw [transmit_tier]
@[simp] theorem sendRaw_page f b p' : (s.sendRaw f b).page p' = s.page p' := by unfold State.page; rw [sendRaw_tier]
@[simp] theorem mbReply_page f c d p' : (s.mbReply f c d).page p' = s.page p' := by unfold State.page; rw [mbReply_tier]
@[simp] theorem fmReply_page c l p' : (s.fmReply c l).page p' = s.page p' := by unfold State.page; rw [fmReply_tier]
@[simp] theorem mgmtReply_page a v p' : (s.mgmtReply a v).page p' = s.page p' := by unfold State.page; rw [mgmtReply_tier]

@[simp] theorem ite_fport {c : Prop} [Decidable c] (a b : State) f' : (if c then a else b).fport f' = if c then a.fport f' else b.fport f' := by split <;> rfl
@[simp] theorem keeping_fport k t f' : (s.keeping k t).fport f' = t.fport f' := rfl
@[simp] theorem emit_fport o f' : (s.emit o).fport f' = s.fport f' := rfl
@[simp] theorem setReg_fport ofs v f' : (s.setReg ofs v).fport f' = s.fport f' := rfl
@[simp] theorem bump_fport ofs sel n f' : (s.bump ofs sel n).fport f' = s.fport f' := rfl
@[simp] theorem clearCtr_fport ofs sel f' : (s.clearCtr ofs sel).fport f' = s.fport f' := rfl
@[simp] theorem updHdr_fport p f f' : (s.updHdr p f).fport f' = s.fport f' := rfl
@[simp] theorem mgmtCause_fport v f' : (s.mgmtCause v).fport f' = s.fport f' := rfl
@[simp] theorem updUnit_fport k i f f' : (s.updUnit k i f).fport f' = s.fport f' := rfl
@[simp] theorem useTake_fport g i sub o c f' : (s.useTake g i sub o c).fport f' = s.fport f' := rfl
@[simp] theorem overrun_fport g i o x f' : (s.overrun g i o x).fport f' = s.fport f' := rfl
@[simp] theorem updChan_fport c f f' : (s.updChan c f).fport f' = s.fport f' := rfl
@[simp] theorem updFc_fport l f f' : (s.updFc l f).fport f' = s.fport f' := rfl
@[simp] theorem updRet_fport i f f' : (s.updRet i f).fport f' = s.fport f' := rfl
@[simp] theorem setLatch_fport a b v f' : (s.setLatch a b v).fport f' = s.fport f' := rfl
@[simp] theorem mgmtTake_fport src f' : (s.mgmtTake src).fport f' = s.fport f' := rfl
@[simp] theorem updRing_fport r f f' : (s.updRing r f).fport f' = s.fport f' := rfl
@[simp] theorem updRunOf_fport n f f' : (s.updRunOf n f).fport f' = s.fport f' := rfl
@[simp] theorem updLun_fport k f f' : (s.updLun k f).fport f' = s.fport f' := rfl
@[simp] theorem updRec_fport n f f' : (s.updRec n f).fport f' = s.fport f' := rfl
@[simp] theorem updBlock_fport l b f f' : (s.updBlock l b f).fport f' = s.fport f' := rfl
@[simp] theorem setEnt_fport l e f' : (s.setEnt l e).fport f' = s.fport f' := rfl
@[simp] theorem setTrans_fport k t f' : (s.setTrans k t).fport f' = s.fport f' := rfl
@[simp] theorem updTen_fport t f f' : (s.updTen t f).fport f' = s.fport f' := rfl
@[simp] theorem updId_fport h f f' : (s.updId h f).fport f' = s.fport f' := rfl
@[simp] theorem updRgn_fport r f f' : (s.updRgn r f).fport f' = s.fport f' := rfl
@[simp] theorem queueCmd_fport c f' : (s.queueCmd c).fport f' = s.fport f' := rfl
@[simp] theorem updPort_fport p f f' : (s.updPort p f).fport f' = s.fport f' := rfl
@[simp] theorem updColl_fport i f f' : (s.updColl i f).fport f' = s.fport f' := rfl
@[simp] theorem updCrun_fport i f f' : (s.updCrun i f).fport f' = s.fport f' := rfl
@[simp] theorem updLane_fport n f f' : (s.updLane n f).fport f' = s.fport f' := rfl
@[simp] theorem updPu_fport p f f' : (s.updPu p f).fport f' = s.fport f' := rfl
@[simp] theorem updPart_fport p a d f f' : (s.updPart p a d f).fport f' = s.fport f' := rfl
@[simp] theorem updArr_fport p a f f' : (s.updArr p a f).fport f' = s.fport f' := rfl
@[simp] theorem updJob_fport n f f' : (s.updJob n f).fport f' = s.fport f' := rfl
@[simp] theorem updLay_fport n f f' : (s.updLay n f).fport f' = s.fport f' := rfl
@[simp] theorem updFn_fport k f f' : (s.updFn k f).fport f' = s.fport f' := rfl
@[simp] theorem fnCause_fport k c f' : (s.fnCause k c).fport f' = s.fport f' := rfl
@[simp] theorem tierCount_fport sel f' : (s.tierCount sel).fport f' = s.fport f' := rfl
@[simp] theorem dirCount_fport sel n f' : (s.dirCount sel n).fport f' = s.fport f' := rfl
@[simp] theorem updSpdm_fport v f f' : (s.updSpdm v f).fport f' = s.fport f' := rfl
@[simp] theorem updPage_fport p f f' : (s.updPage p f).fport f' = s.fport f' := rfl
@[simp] theorem writeByte_fport a b f' : (s.writeByte a b).fport f' = s.fport f' := rfl
@[simp] theorem setPoison_fport l b f' : (s.setPoison l b).fport f' = s.fport f' := rfl
@[simp] theorem inFrame_fport n f' : (s.inFrame n).fport f' = s.fport f' := rfl
@[simp] theorem pathTaken_fport src f' : (s.pathTaken src).fport f' = s.fport f' := rfl
@[simp] theorem pageCause_fport p f' : (s.pageCause p).fport f' = s.fport f' := by unfold State.fport; rw [pageCause_fab]
@[simp] theorem setEvt_fport p b f' : (s.setEvt p b).fport f' = s.fport f' := by unfold State.fport; rw [setEvt_fab]
@[simp] theorem setSvcEvt_fport b f' : (s.setSvcEvt b).fport f' = s.fport f' := by unfold State.fport; rw [setSvcEvt_fab]
@[simp] theorem charge_fport g i sub o c f' : (s.charge g i sub o c).fport f' = s.fport f' := by unfold State.fport; rw [charge_fab]
@[simp] theorem chargeSplit_fport g i sub o c f' : (s.chargeSplit g i sub o c).fport f' = s.fport f' := by unfold State.fport; rw [chargeSplit_fab]
@[simp] theorem updFnOf_fport x f f' : (s.updFnOf x f).fport f' = s.fport f' := by unfold State.fport; rw [updFnOf_fab]
@[simp] theorem doePut_fport v f' : (s.doePut v).fport f' = s.fport f' := by unfold State.fport; rw [doePut_fab]
@[simp] theorem keepEntry_fport e f' : (s.keepEntry e).fport f' = s.fport f' := by unfold State.fport; rw [keepEntry_fab]
@[simp] theorem logE_fport ev sev t p a v f' : (s.logE ev sev t p a v).fport f' = s.fport f' := by unfold State.fport; rw [logE_fab]
@[simp] theorem retireAdvice_fport k r l p f' : (s.retireAdvice k r l p).fport f' = s.fport f' := by unfold State.fport; rw [retireAdvice_fab]
@[simp] theorem lockWrite_fport f' : (s.lockWrite).fport f' = s.fport f' := by unfold State.fport; rw [lockWrite_fab]
@[simp] theorem mbReply_fport f c d f' : (s.mbReply f c d).fport f' = s.fport f' := by unfold State.fport; rw [mbReply_fab]
@[simp] theorem fmReply_fport c l f' : (s.fmReply c l).fport f' = s.fport f' := by unfold State.fport; rw [fmReply_fab]

@[simp] theorem ite_ring {c : Prop} [Decidable c] (a b : State) r' : (if c then a else b).ring r' = if c then a.ring r' else b.ring r' := by split <;> rfl
@[simp] theorem keeping_ring k t r' : (s.keeping k t).ring r' = t.ring r' := rfl
@[simp] theorem emit_ring o r' : (s.emit o).ring r' = s.ring r' := rfl
@[simp] theorem setReg_ring ofs v r' : (s.setReg ofs v).ring r' = s.ring r' := rfl
@[simp] theorem bump_ring ofs sel n r' : (s.bump ofs sel n).ring r' = s.ring r' := rfl
@[simp] theorem clearCtr_ring ofs sel r' : (s.clearCtr ofs sel).ring r' = s.ring r' := rfl
@[simp] theorem updHdr_ring p f r' : (s.updHdr p f).ring r' = s.ring r' := rfl
@[simp] theorem mgmtCause_ring v r' : (s.mgmtCause v).ring r' = s.ring r' := rfl
@[simp] theorem updUnit_ring k i f r' : (s.updUnit k i f).ring r' = s.ring r' := rfl
@[simp] theorem useTake_ring g i sub o c r' : (s.useTake g i sub o c).ring r' = s.ring r' := rfl
@[simp] theorem overrun_ring g i o x r' : (s.overrun g i o x).ring r' = s.ring r' := rfl
@[simp] theorem updChan_ring c f r' : (s.updChan c f).ring r' = s.ring r' := rfl
@[simp] theorem updFc_ring l f r' : (s.updFc l f).ring r' = s.ring r' := rfl
@[simp] theorem updRet_ring i f r' : (s.updRet i f).ring r' = s.ring r' := rfl
@[simp] theorem setLatch_ring a b v r' : (s.setLatch a b v).ring r' = s.ring r' := rfl
@[simp] theorem mgmtTake_ring src r' : (s.mgmtTake src).ring r' = s.ring r' := rfl
@[simp] theorem updLun_ring k f r' : (s.updLun k f).ring r' = s.ring r' := rfl
@[simp] theorem updRec_ring n f r' : (s.updRec n f).ring r' = s.ring r' := rfl
@[simp] theorem updBlock_ring l b f r' : (s.updBlock l b f).ring r' = s.ring r' := rfl
@[simp] theorem setEnt_ring l e r' : (s.setEnt l e).ring r' = s.ring r' := rfl
@[simp] theorem setTrans_ring k t r' : (s.setTrans k t).ring r' = s.ring r' := rfl
@[simp] theorem updPeer_ring p f r' : (s.updPeer p f).ring r' = s.ring r' := rfl
@[simp] theorem setPent_ring l e r' : (s.setPent l e).ring r' = s.ring r' := rfl
@[simp] theorem setReq_ring i r r' : (s.setReq i r).ring r' = s.ring r' := rfl
@[simp] theorem updFport_ring f g r' : (s.updFport f g).ring r' = s.ring r' := rfl
@[simp] theorem updTen_ring t f r' : (s.updTen t f).ring r' = s.ring r' := rfl
@[simp] theorem updId_ring h f r' : (s.updId h f).ring r' = s.ring r' := rfl
@[simp] theorem updRgn_ring r f r' : (s.updRgn r f).ring r' = s.ring r' := rfl
@[simp] theorem queueCmd_ring c r' : (s.queueCmd c).ring r' = s.ring r' := rfl
@[simp] theorem updPort_ring p f r' : (s.updPort p f).ring r' = s.ring r' := rfl
@[simp] theorem updColl_ring i f r' : (s.updColl i f).ring r' = s.ring r' := rfl
@[simp] theorem updCrun_ring i f r' : (s.updCrun i f).ring r' = s.ring r' := rfl
@[simp] theorem updLane_ring n f r' : (s.updLane n f).ring r' = s.ring r' := rfl
@[simp] theorem updPu_ring p f r' : (s.updPu p f).ring r' = s.ring r' := rfl
@[simp] theorem updPart_ring p a d f r' : (s.updPart p a d f).ring r' = s.ring r' := rfl
@[simp] theorem updArr_ring p a f r' : (s.updArr p a f).ring r' = s.ring r' := rfl
@[simp] theorem updJob_ring n f r' : (s.updJob n f).ring r' = s.ring r' := rfl
@[simp] theorem updLay_ring n f r' : (s.updLay n f).ring r' = s.ring r' := rfl
@[simp] theorem updFn_ring k f r' : (s.updFn k f).ring r' = s.ring r' := rfl
@[simp] theorem fnCause_ring k c r' : (s.fnCause k c).ring r' = s.ring r' := rfl
@[simp] theorem tierCount_ring sel r' : (s.tierCount sel).ring r' = s.ring r' := rfl
@[simp] theorem dirCount_ring sel n r' : (s.dirCount sel n).ring r' = s.ring r' := rfl
@[simp] theorem updSpdm_ring v f r' : (s.updSpdm v f).ring r' = s.ring r' := rfl
@[simp] theorem updPage_ring p f r' : (s.updPage p f).ring r' = s.ring r' := rfl
@[simp] theorem writeByte_ring a b r' : (s.writeByte a b).ring r' = s.ring r' := rfl
@[simp] theorem setPoison_ring l b r' : (s.setPoison l b).ring r' = s.ring r' := rfl
@[simp] theorem inFrame_ring n r' : (s.inFrame n).ring r' = s.ring r' := rfl
@[simp] theorem pathTaken_ring src r' : (s.pathTaken src).ring r' = s.ring r' := rfl
@[simp] theorem pageCause_ring p r' : (s.pageCause p).ring r' = s.ring r' := by unfold State.ring; rw [pageCause_cues]
@[simp] theorem setEvt_ring p b r' : (s.setEvt p b).ring r' = s.ring r' := by unfold State.ring; rw [setEvt_cues]
@[simp] theorem setSvcEvt_ring b r' : (s.setSvcEvt b).ring r' = s.ring r' := by unfold State.ring; rw [setSvcEvt_cues]
@[simp] theorem charge_ring g i sub o c r' : (s.charge g i sub o c).ring r' = s.ring r' := by unfold State.ring; rw [charge_cues]
@[simp] theorem chargeSplit_ring g i sub o c r' : (s.chargeSplit g i sub o c).ring r' = s.ring r' := by unfold State.ring; rw [chargeSplit_cues]
@[simp] theorem updFnOf_ring x f r' : (s.updFnOf x f).ring r' = s.ring r' := by unfold State.ring; rw [updFnOf_cues]
@[simp] theorem doePut_ring v r' : (s.doePut v).ring r' = s.ring r' := by unfold State.ring; rw [doePut_cues]
@[simp] theorem keepEntry_ring e r' : (s.keepEntry e).ring r' = s.ring r' := by unfold State.ring; rw [keepEntry_cues]
@[simp] theorem logE_ring ev sev t p a v r' : (s.logE ev sev t p a v).ring r' = s.ring r' := by unfold State.ring; rw [logE_cues]
@[simp] theorem retireAdvice_ring k r l p r' : (s.retireAdvice k r l p).ring r' = s.ring r' := by unfold State.ring; rw [retireAdvice_cues]
@[simp] theorem lockWrite_ring r' : (s.lockWrite).ring r' = s.ring r' := by unfold State.ring; rw [lockWrite_cues]
@[simp] theorem transmit_ring f q r' : (s.transmit f q).ring r' = s.ring r' := by unfold State.ring; rw [transmit_cues]
@[simp] theorem sendRaw_ring f b r' : (s.sendRaw f b).ring r' = s.ring r' := by unfold State.ring; rw [sendRaw_cues]
@[simp] theorem mbReply_ring f c d r' : (s.mbReply f c d).ring r' = s.ring r' := by unfold State.ring; rw [mbReply_cues]
@[simp] theorem fmReply_ring c l r' : (s.fmReply c l).ring r' = s.ring r' := by unfold State.ring; rw [fmReply_cues]
@[simp] theorem mgmtReply_ring a v r' : (s.mgmtReply a v).ring r' = s.ring r' := by unfold State.ring; rw [mgmtReply_cues]

@[simp] theorem ite_run {c : Prop} [Decidable c] (a b : State) n' : (if c then a else b).run n' = if c then a.run n' else b.run n' := by split <;> rfl
@[simp] theorem keeping_run k t n' : (s.keeping k t).run n' = t.run n' := rfl
@[simp] theorem emit_run o n' : (s.emit o).run n' = s.run n' := rfl
@[simp] theorem setReg_run ofs v n' : (s.setReg ofs v).run n' = s.run n' := rfl
@[simp] theorem bump_run ofs sel n n' : (s.bump ofs sel n).run n' = s.run n' := rfl
@[simp] theorem clearCtr_run ofs sel n' : (s.clearCtr ofs sel).run n' = s.run n' := rfl
@[simp] theorem updHdr_run p f n' : (s.updHdr p f).run n' = s.run n' := rfl
@[simp] theorem mgmtCause_run v n' : (s.mgmtCause v).run n' = s.run n' := rfl
@[simp] theorem updUnit_run k i f n' : (s.updUnit k i f).run n' = s.run n' := rfl
@[simp] theorem useTake_run g i sub o c n' : (s.useTake g i sub o c).run n' = s.run n' := rfl
@[simp] theorem overrun_run g i o x n' : (s.overrun g i o x).run n' = s.run n' := rfl
@[simp] theorem updChan_run c f n' : (s.updChan c f).run n' = s.run n' := rfl
@[simp] theorem updFc_run l f n' : (s.updFc l f).run n' = s.run n' := rfl
@[simp] theorem updRet_run i f n' : (s.updRet i f).run n' = s.run n' := rfl
@[simp] theorem setLatch_run a b v n' : (s.setLatch a b v).run n' = s.run n' := rfl
@[simp] theorem mgmtTake_run src n' : (s.mgmtTake src).run n' = s.run n' := rfl
@[simp] theorem updLun_run k f n' : (s.updLun k f).run n' = s.run n' := rfl
@[simp] theorem updRec_run n f n' : (s.updRec n f).run n' = s.run n' := rfl
@[simp] theorem updBlock_run l b f n' : (s.updBlock l b f).run n' = s.run n' := rfl
@[simp] theorem setEnt_run l e n' : (s.setEnt l e).run n' = s.run n' := rfl
@[simp] theorem setTrans_run k t n' : (s.setTrans k t).run n' = s.run n' := rfl
@[simp] theorem updPeer_run p f n' : (s.updPeer p f).run n' = s.run n' := rfl
@[simp] theorem setPent_run l e n' : (s.setPent l e).run n' = s.run n' := rfl
@[simp] theorem setReq_run i r n' : (s.setReq i r).run n' = s.run n' := rfl
@[simp] theorem updFport_run f g n' : (s.updFport f g).run n' = s.run n' := rfl
@[simp] theorem updTen_run t f n' : (s.updTen t f).run n' = s.run n' := rfl
@[simp] theorem updId_run h f n' : (s.updId h f).run n' = s.run n' := rfl
@[simp] theorem updRgn_run r f n' : (s.updRgn r f).run n' = s.run n' := rfl
@[simp] theorem queueCmd_run c n' : (s.queueCmd c).run n' = s.run n' := rfl
@[simp] theorem updPort_run p f n' : (s.updPort p f).run n' = s.run n' := rfl
@[simp] theorem updColl_run i f n' : (s.updColl i f).run n' = s.run n' := rfl
@[simp] theorem updCrun_run i f n' : (s.updCrun i f).run n' = s.run n' := rfl
@[simp] theorem updLane_run n f n' : (s.updLane n f).run n' = s.run n' := rfl
@[simp] theorem updPu_run p f n' : (s.updPu p f).run n' = s.run n' := rfl
@[simp] theorem updPart_run p a d f n' : (s.updPart p a d f).run n' = s.run n' := rfl
@[simp] theorem updArr_run p a f n' : (s.updArr p a f).run n' = s.run n' := rfl
@[simp] theorem updJob_run n f n' : (s.updJob n f).run n' = s.run n' := rfl
@[simp] theorem updLay_run n f n' : (s.updLay n f).run n' = s.run n' := rfl
@[simp] theorem updFn_run k f n' : (s.updFn k f).run n' = s.run n' := rfl
@[simp] theorem fnCause_run k c n' : (s.fnCause k c).run n' = s.run n' := rfl
@[simp] theorem tierCount_run sel n' : (s.tierCount sel).run n' = s.run n' := rfl
@[simp] theorem dirCount_run sel n n' : (s.dirCount sel n).run n' = s.run n' := rfl
@[simp] theorem updSpdm_run v f n' : (s.updSpdm v f).run n' = s.run n' := rfl
@[simp] theorem updPage_run p f n' : (s.updPage p f).run n' = s.run n' := rfl
@[simp] theorem writeByte_run a b n' : (s.writeByte a b).run n' = s.run n' := rfl
@[simp] theorem setPoison_run l b n' : (s.setPoison l b).run n' = s.run n' := rfl
@[simp] theorem inFrame_run n n' : (s.inFrame n).run n' = s.run n' := rfl
@[simp] theorem pathTaken_run src n' : (s.pathTaken src).run n' = s.run n' := rfl
@[simp] theorem pageCause_run p n' : (s.pageCause p).run n' = s.run n' := by unfold State.run; rw [pageCause_cues]
@[simp] theorem setEvt_run p b n' : (s.setEvt p b).run n' = s.run n' := by unfold State.run; rw [setEvt_cues]
@[simp] theorem setSvcEvt_run b n' : (s.setSvcEvt b).run n' = s.run n' := by unfold State.run; rw [setSvcEvt_cues]
@[simp] theorem charge_run g i sub o c n' : (s.charge g i sub o c).run n' = s.run n' := by unfold State.run; rw [charge_cues]
@[simp] theorem chargeSplit_run g i sub o c n' : (s.chargeSplit g i sub o c).run n' = s.run n' := by unfold State.run; rw [chargeSplit_cues]
@[simp] theorem updFnOf_run x f n' : (s.updFnOf x f).run n' = s.run n' := by unfold State.run; rw [updFnOf_cues]
@[simp] theorem doePut_run v n' : (s.doePut v).run n' = s.run n' := by unfold State.run; rw [doePut_cues]
@[simp] theorem keepEntry_run e n' : (s.keepEntry e).run n' = s.run n' := by unfold State.run; rw [keepEntry_cues]
@[simp] theorem logE_run ev sev t p a v n' : (s.logE ev sev t p a v).run n' = s.run n' := by unfold State.run; rw [logE_cues]
@[simp] theorem retireAdvice_run k r l p n' : (s.retireAdvice k r l p).run n' = s.run n' := by unfold State.run; rw [retireAdvice_cues]
@[simp] theorem lockWrite_run n' : (s.lockWrite).run n' = s.run n' := by unfold State.run; rw [lockWrite_cues]
@[simp] theorem transmit_run f q n' : (s.transmit f q).run n' = s.run n' := by unfold State.run; rw [transmit_cues]
@[simp] theorem sendRaw_run f b n' : (s.sendRaw f b).run n' = s.run n' := by unfold State.run; rw [sendRaw_cues]
@[simp] theorem mbReply_run f c d n' : (s.mbReply f c d).run n' = s.run n' := by unfold State.run; rw [mbReply_cues]
@[simp] theorem fmReply_run c l n' : (s.fmReply c l).run n' = s.run n' := by unfold State.run; rw [fmReply_cues]
@[simp] theorem mgmtReply_run a v n' : (s.mgmtReply a v).run n' = s.run n' := by unfold State.run; rw [mgmtReply_cues]

@[simp] theorem ite_unit {c : Prop} [Decidable c] (a b : State) k' i' : (if c then a else b).unit k' i' = if c then a.unit k' i' else b.unit k' i' := by split <;> rfl
@[simp] theorem keeping_unit k t k' i' : (s.keeping k t).unit k' i' = t.unit k' i' := rfl
@[simp] theorem emit_unit o k' i' : (s.emit o).unit k' i' = s.unit k' i' := rfl
@[simp] theorem setReg_unit ofs v k' i' : (s.setReg ofs v).unit k' i' = s.unit k' i' := rfl
@[simp] theorem bump_unit ofs sel n k' i' : (s.bump ofs sel n).unit k' i' = s.unit k' i' := rfl
@[simp] theorem clearCtr_unit ofs sel k' i' : (s.clearCtr ofs sel).unit k' i' = s.unit k' i' := rfl
@[simp] theorem updHdr_unit p f k' i' : (s.updHdr p f).unit k' i' = s.unit k' i' := rfl
@[simp] theorem mgmtCause_unit v k' i' : (s.mgmtCause v).unit k' i' = s.unit k' i' := rfl
@[simp] theorem useTake_unit g i sub o c k' i' : (s.useTake g i sub o c).unit k' i' = s.unit k' i' := rfl
@[simp] theorem overrun_unit g i o x k' i' : (s.overrun g i o x).unit k' i' = s.unit k' i' := rfl
@[simp] theorem updChan_unit c f k' i' : (s.updChan c f).unit k' i' = s.unit k' i' := rfl
@[simp] theorem updFc_unit l f k' i' : (s.updFc l f).unit k' i' = s.unit k' i' := rfl
@[simp] theorem updRet_unit i f k' i' : (s.updRet i f).unit k' i' = s.unit k' i' := rfl
@[simp] theorem setLatch_unit a b v k' i' : (s.setLatch a b v).unit k' i' = s.unit k' i' := rfl
@[simp] theorem mgmtTake_unit src k' i' : (s.mgmtTake src).unit k' i' = s.unit k' i' := rfl
@[simp] theorem updRing_unit r f k' i' : (s.updRing r f).unit k' i' = s.unit k' i' := rfl
@[simp] theorem updRunOf_unit n f k' i' : (s.updRunOf n f).unit k' i' = s.unit k' i' := rfl
@[simp] theorem updLun_unit k f k' i' : (s.updLun k f).unit k' i' = s.unit k' i' := rfl
@[simp] theorem updRec_unit n f k' i' : (s.updRec n f).unit k' i' = s.unit k' i' := rfl
@[simp] theorem updBlock_unit l b f k' i' : (s.updBlock l b f).unit k' i' = s.unit k' i' := rfl
@[simp] theorem setEnt_unit l e k' i' : (s.setEnt l e).unit k' i' = s.unit k' i' := rfl
@[simp] theorem setTrans_unit k t k' i' : (s.setTrans k t).unit k' i' = s.unit k' i' := rfl
@[simp] theorem updPeer_unit p f k' i' : (s.updPeer p f).unit k' i' = s.unit k' i' := rfl
@[simp] theorem setPent_unit l e k' i' : (s.setPent l e).unit k' i' = s.unit k' i' := rfl
@[simp] theorem setReq_unit i r k' i' : (s.setReq i r).unit k' i' = s.unit k' i' := rfl
@[simp] theorem updFport_unit f g k' i' : (s.updFport f g).unit k' i' = s.unit k' i' := rfl
@[simp] theorem updTen_unit t f k' i' : (s.updTen t f).unit k' i' = s.unit k' i' := rfl
@[simp] theorem updId_unit h f k' i' : (s.updId h f).unit k' i' = s.unit k' i' := rfl
@[simp] theorem updRgn_unit r f k' i' : (s.updRgn r f).unit k' i' = s.unit k' i' := rfl
@[simp] theorem queueCmd_unit c k' i' : (s.queueCmd c).unit k' i' = s.unit k' i' := rfl
@[simp] theorem updPort_unit p f k' i' : (s.updPort p f).unit k' i' = s.unit k' i' := rfl
@[simp] theorem updColl_unit i f k' i' : (s.updColl i f).unit k' i' = s.unit k' i' := rfl
@[simp] theorem updCrun_unit i f k' i' : (s.updCrun i f).unit k' i' = s.unit k' i' := rfl
@[simp] theorem updLane_unit n f k' i' : (s.updLane n f).unit k' i' = s.unit k' i' := rfl
@[simp] theorem updPu_unit p f k' i' : (s.updPu p f).unit k' i' = s.unit k' i' := rfl
@[simp] theorem updPart_unit p a d f k' i' : (s.updPart p a d f).unit k' i' = s.unit k' i' := rfl
@[simp] theorem updArr_unit p a f k' i' : (s.updArr p a f).unit k' i' = s.unit k' i' := rfl
@[simp] theorem updJob_unit n f k' i' : (s.updJob n f).unit k' i' = s.unit k' i' := rfl
@[simp] theorem updLay_unit n f k' i' : (s.updLay n f).unit k' i' = s.unit k' i' := rfl
@[simp] theorem updFn_unit k f k' i' : (s.updFn k f).unit k' i' = s.unit k' i' := rfl
@[simp] theorem fnCause_unit k c k' i' : (s.fnCause k c).unit k' i' = s.unit k' i' := rfl
@[simp] theorem tierCount_unit sel k' i' : (s.tierCount sel).unit k' i' = s.unit k' i' := rfl
@[simp] theorem dirCount_unit sel n k' i' : (s.dirCount sel n).unit k' i' = s.unit k' i' := rfl
@[simp] theorem updSpdm_unit v f k' i' : (s.updSpdm v f).unit k' i' = s.unit k' i' := rfl
@[simp] theorem updPage_unit p f k' i' : (s.updPage p f).unit k' i' = s.unit k' i' := rfl
@[simp] theorem writeByte_unit a b k' i' : (s.writeByte a b).unit k' i' = s.unit k' i' := rfl
@[simp] theorem setPoison_unit l b k' i' : (s.setPoison l b).unit k' i' = s.unit k' i' := rfl
@[simp] theorem inFrame_unit n k' i' : (s.inFrame n).unit k' i' = s.unit k' i' := rfl
@[simp] theorem pathTaken_unit src k' i' : (s.pathTaken src).unit k' i' = s.unit k' i' := rfl
@[simp] theorem pageCause_unit p k' i' : (s.pageCause p).unit k' i' = s.unit k' i' := by unfold State.unit; rw [pageCause_svc]
@[simp] theorem setEvt_unit p b k' i' : (s.setEvt p b).unit k' i' = s.unit k' i' := by unfold State.unit; rw [setEvt_svc]
@[simp] theorem setSvcEvt_unit b k' i' : (s.setSvcEvt b).unit k' i' = s.unit k' i' := by unfold State.unit; rw [setSvcEvt_svc]
@[simp] theorem charge_unit g i sub o c k' i' : (s.charge g i sub o c).unit k' i' = s.unit k' i' := by unfold State.unit; rw [charge_svc]
@[simp] theorem chargeSplit_unit g i sub o c k' i' : (s.chargeSplit g i sub o c).unit k' i' = s.unit k' i' := by unfold State.unit; rw [chargeSplit_svc]
@[simp] theorem updFnOf_unit x f k' i' : (s.updFnOf x f).unit k' i' = s.unit k' i' := by unfold State.unit; rw [updFnOf_svc]
@[simp] theorem doePut_unit v k' i' : (s.doePut v).unit k' i' = s.unit k' i' := by unfold State.unit; rw [doePut_svc]
@[simp] theorem keepEntry_unit e k' i' : (s.keepEntry e).unit k' i' = s.unit k' i' := by unfold State.unit; rw [keepEntry_svc]
@[simp] theorem logE_unit ev sev t p a v k' i' : (s.logE ev sev t p a v).unit k' i' = s.unit k' i' := by unfold State.unit; rw [logE_svc]
@[simp] theorem retireAdvice_unit k r l p k' i' : (s.retireAdvice k r l p).unit k' i' = s.unit k' i' := by unfold State.unit; rw [retireAdvice_svc]
@[simp] theorem lockWrite_unit k' i' : (s.lockWrite).unit k' i' = s.unit k' i' := by unfold State.unit; rw [lockWrite_svc]
@[simp] theorem transmit_unit f q k' i' : (s.transmit f q).unit k' i' = s.unit k' i' := by unfold State.unit; rw [transmit_svc]
@[simp] theorem sendRaw_unit f b k' i' : (s.sendRaw f b).unit k' i' = s.unit k' i' := by unfold State.unit; rw [sendRaw_svc]
@[simp] theorem mbReply_unit f c d k' i' : (s.mbReply f c d).unit k' i' = s.unit k' i' := by unfold State.unit; rw [mbReply_svc]
@[simp] theorem fmReply_unit c l k' i' : (s.fmReply c l).unit k' i' = s.unit k' i' := by unfold State.unit; rw [fmReply_svc]
@[simp] theorem mgmtReply_unit a v k' i' : (s.mgmtReply a v).unit k' i' = s.unit k' i' := by unfold State.unit; rw [mgmtReply_svc]

@[simp] theorem ite_reg {c : Prop} [Decidable c] (a b : State) o' : (if c then a else b).reg o' = if c then a.reg o' else b.reg o' := by split <;> rfl
@[simp] theorem keeping_reg k t o' : (s.keeping k t).reg o' = t.reg o' := rfl
@[simp] theorem emit_reg o o' : (s.emit o).reg o' = s.reg o' := rfl
@[simp] theorem bump_reg ofs sel n o' : (s.bump ofs sel n).reg o' = s.reg o' := rfl
@[simp] theorem clearCtr_reg ofs sel o' : (s.clearCtr ofs sel).reg o' = s.reg o' := rfl
@[simp] theorem updHdr_reg p f o' : (s.updHdr p f).reg o' = s.reg o' := rfl
@[simp] theorem mgmtCause_reg v o' : (s.mgmtCause v).reg o' = s.reg o' := rfl
@[simp] theorem updUnit_reg k i f o' : (s.updUnit k i f).reg o' = s.reg o' := rfl
@[simp] theorem useTake_reg g i sub o c o' : (s.useTake g i sub o c).reg o' = s.reg o' := rfl
@[simp] theorem overrun_reg g i o x o' : (s.overrun g i o x).reg o' = s.reg o' := rfl
@[simp] theorem updChan_reg c f o' : (s.updChan c f).reg o' = s.reg o' := rfl
@[simp] theorem updFc_reg l f o' : (s.updFc l f).reg o' = s.reg o' := rfl
@[simp] theorem updRet_reg i f o' : (s.updRet i f).reg o' = s.reg o' := rfl
@[simp] theorem setLatch_reg a b v o' : (s.setLatch a b v).reg o' = s.reg o' := rfl
@[simp] theorem mgmtTake_reg src o' : (s.mgmtTake src).reg o' = s.reg o' := rfl
@[simp] theorem updRing_reg r f o' : (s.updRing r f).reg o' = s.reg o' := rfl
@[simp] theorem updRunOf_reg n f o' : (s.updRunOf n f).reg o' = s.reg o' := rfl
@[simp] theorem updLun_reg k f o' : (s.updLun k f).reg o' = s.reg o' := rfl
@[simp] theorem updRec_reg n f o' : (s.updRec n f).reg o' = s.reg o' := rfl
@[simp] theorem updBlock_reg l b f o' : (s.updBlock l b f).reg o' = s.reg o' := rfl
@[simp] theorem setEnt_reg l e o' : (s.setEnt l e).reg o' = s.reg o' := rfl
@[simp] theorem setTrans_reg k t o' : (s.setTrans k t).reg o' = s.reg o' := rfl
@[simp] theorem updPeer_reg p f o' : (s.updPeer p f).reg o' = s.reg o' := rfl
@[simp] theorem setPent_reg l e o' : (s.setPent l e).reg o' = s.reg o' := rfl
@[simp] theorem setReq_reg i r o' : (s.setReq i r).reg o' = s.reg o' := rfl
@[simp] theorem updFport_reg f g o' : (s.updFport f g).reg o' = s.reg o' := rfl
@[simp] theorem updTen_reg t f o' : (s.updTen t f).reg o' = s.reg o' := rfl
@[simp] theorem updId_reg h f o' : (s.updId h f).reg o' = s.reg o' := rfl
@[simp] theorem updRgn_reg r f o' : (s.updRgn r f).reg o' = s.reg o' := rfl
@[simp] theorem queueCmd_reg c o' : (s.queueCmd c).reg o' = s.reg o' := rfl
@[simp] theorem updPort_reg p f o' : (s.updPort p f).reg o' = s.reg o' := rfl
@[simp] theorem updColl_reg i f o' : (s.updColl i f).reg o' = s.reg o' := rfl
@[simp] theorem updCrun_reg i f o' : (s.updCrun i f).reg o' = s.reg o' := rfl
@[simp] theorem updLane_reg n f o' : (s.updLane n f).reg o' = s.reg o' := rfl
@[simp] theorem updPu_reg p f o' : (s.updPu p f).reg o' = s.reg o' := rfl
@[simp] theorem updPart_reg p a d f o' : (s.updPart p a d f).reg o' = s.reg o' := rfl
@[simp] theorem updArr_reg p a f o' : (s.updArr p a f).reg o' = s.reg o' := rfl
@[simp] theorem updJob_reg n f o' : (s.updJob n f).reg o' = s.reg o' := rfl
@[simp] theorem updLay_reg n f o' : (s.updLay n f).reg o' = s.reg o' := rfl
@[simp] theorem updFn_reg k f o' : (s.updFn k f).reg o' = s.reg o' := rfl
@[simp] theorem fnCause_reg k c o' : (s.fnCause k c).reg o' = s.reg o' := rfl
@[simp] theorem tierCount_reg sel o' : (s.tierCount sel).reg o' = s.reg o' := rfl
@[simp] theorem dirCount_reg sel n o' : (s.dirCount sel n).reg o' = s.reg o' := rfl
@[simp] theorem updSpdm_reg v f o' : (s.updSpdm v f).reg o' = s.reg o' := rfl
@[simp] theorem updPage_reg p f o' : (s.updPage p f).reg o' = s.reg o' := rfl
@[simp] theorem writeByte_reg a b o' : (s.writeByte a b).reg o' = s.reg o' := rfl
@[simp] theorem setPoison_reg l b o' : (s.setPoison l b).reg o' = s.reg o' := rfl
@[simp] theorem inFrame_reg n o' : (s.inFrame n).reg o' = s.reg o' := rfl
@[simp] theorem pathTaken_reg src o' : (s.pathTaken src).reg o' = s.reg o' := rfl
@[simp] theorem pageCause_reg p o' : (s.pageCause p).reg o' = s.reg o' := by unfold State.reg; rw [pageCause_regs]
@[simp] theorem setEvt_reg p b o' : (s.setEvt p b).reg o' = s.reg o' := by unfold State.reg; rw [setEvt_regs]
@[simp] theorem setSvcEvt_reg b o' : (s.setSvcEvt b).reg o' = s.reg o' := by unfold State.reg; rw [setSvcEvt_regs]
@[simp] theorem charge_reg g i sub o c o' : (s.charge g i sub o c).reg o' = s.reg o' := by unfold State.reg; rw [charge_regs]
@[simp] theorem chargeSplit_reg g i sub o c o' : (s.chargeSplit g i sub o c).reg o' = s.reg o' := by unfold State.reg; rw [chargeSplit_regs]
@[simp] theorem updFnOf_reg x f o' : (s.updFnOf x f).reg o' = s.reg o' := by unfold State.reg; rw [updFnOf_regs]
@[simp] theorem doePut_reg v o' : (s.doePut v).reg o' = s.reg o' := by unfold State.reg; rw [doePut_regs]
@[simp] theorem keepEntry_reg e o' : (s.keepEntry e).reg o' = s.reg o' := by unfold State.reg; rw [keepEntry_regs]
@[simp] theorem logE_reg ev sev t p a v o' : (s.logE ev sev t p a v).reg o' = s.reg o' := by unfold State.reg; rw [logE_regs]
@[simp] theorem retireAdvice_reg k r l p o' : (s.retireAdvice k r l p).reg o' = s.reg o' := by unfold State.reg; rw [retireAdvice_regs]
@[simp] theorem lockWrite_reg o' : (s.lockWrite).reg o' = s.reg o' := by unfold State.reg; rw [lockWrite_regs]
@[simp] theorem transmit_reg f q o' : (s.transmit f q).reg o' = s.reg o' := by unfold State.reg; rw [transmit_regs]
@[simp] theorem sendRaw_reg f b o' : (s.sendRaw f b).reg o' = s.reg o' := by unfold State.reg; rw [sendRaw_regs]
@[simp] theorem mbReply_reg f c d o' : (s.mbReply f c d).reg o' = s.reg o' := by unfold State.reg; rw [mbReply_regs]
@[simp] theorem fmReply_reg c l o' : (s.fmReply c l).reg o' = s.reg o' := by unfold State.reg; rw [fmReply_regs]
@[simp] theorem mgmtReply_reg a v o' : (s.mgmtReply a v).reg o' = s.reg o' := by unfold State.reg; rw [mgmtReply_regs]

@[simp] theorem ite_regF {c : Prop} [Decidable c] (a b : State) p' r' a' b' : (if c then a else b).regF p' r' a' b' = if c then a.regF p' r' a' b' else b.regF p' r' a' b' := by split <;> rfl
@[simp] theorem keeping_regF k t p' r' a' b' : (s.keeping k t).regF p' r' a' b' = t.regF p' r' a' b' := rfl
@[simp] theorem emit_regF o p' r' a' b' : (s.emit o).regF p' r' a' b' = s.regF p' r' a' b' := rfl
@[simp] theorem bump_regF ofs sel n p' r' a' b' : (s.bump ofs sel n).regF p' r' a' b' = s.regF p' r' a' b' := rfl
@[simp] theorem clearCtr_regF ofs sel p' r' a' b' : (s.clearCtr ofs sel).regF p' r' a' b' = s.regF p' r' a' b' := rfl
@[simp] theorem updHdr_regF p f p' r' a' b' : (s.updHdr p f).regF p' r' a' b' = s.regF p' r' a' b' := rfl
@[simp] theorem mgmtCause_regF v p' r' a' b' : (s.mgmtCause v).regF p' r' a' b' = s.regF p' r' a' b' := rfl
@[simp] theorem updUnit_regF k i f p' r' a' b' : (s.updUnit k i f).regF p' r' a' b' = s.regF p' r' a' b' := rfl
@[simp] theorem useTake_regF g i sub o c p' r' a' b' : (s.useTake g i sub o c).regF p' r' a' b' = s.regF p' r' a' b' := rfl
@[simp] theorem overrun_regF g i o x p' r' a' b' : (s.overrun g i o x).regF p' r' a' b' = s.regF p' r' a' b' := rfl
@[simp] theorem updChan_regF c f p' r' a' b' : (s.updChan c f).regF p' r' a' b' = s.regF p' r' a' b' := rfl
@[simp] theorem updFc_regF l f p' r' a' b' : (s.updFc l f).regF p' r' a' b' = s.regF p' r' a' b' := rfl
@[simp] theorem updRet_regF i f p' r' a' b' : (s.updRet i f).regF p' r' a' b' = s.regF p' r' a' b' := rfl
@[simp] theorem setLatch_regF a b v p' r' a' b' : (s.setLatch a b v).regF p' r' a' b' = s.regF p' r' a' b' := rfl
@[simp] theorem mgmtTake_regF src p' r' a' b' : (s.mgmtTake src).regF p' r' a' b' = s.regF p' r' a' b' := rfl
@[simp] theorem updRing_regF r f p' r' a' b' : (s.updRing r f).regF p' r' a' b' = s.regF p' r' a' b' := rfl
@[simp] theorem updRunOf_regF n f p' r' a' b' : (s.updRunOf n f).regF p' r' a' b' = s.regF p' r' a' b' := rfl
@[simp] theorem updLun_regF k f p' r' a' b' : (s.updLun k f).regF p' r' a' b' = s.regF p' r' a' b' := rfl
@[simp] theorem updRec_regF n f p' r' a' b' : (s.updRec n f).regF p' r' a' b' = s.regF p' r' a' b' := rfl
@[simp] theorem updBlock_regF l b f p' r' a' b' : (s.updBlock l b f).regF p' r' a' b' = s.regF p' r' a' b' := rfl
@[simp] theorem setEnt_regF l e p' r' a' b' : (s.setEnt l e).regF p' r' a' b' = s.regF p' r' a' b' := rfl
@[simp] theorem setTrans_regF k t p' r' a' b' : (s.setTrans k t).regF p' r' a' b' = s.regF p' r' a' b' := rfl
@[simp] theorem updPeer_regF p f p' r' a' b' : (s.updPeer p f).regF p' r' a' b' = s.regF p' r' a' b' := rfl
@[simp] theorem setPent_regF l e p' r' a' b' : (s.setPent l e).regF p' r' a' b' = s.regF p' r' a' b' := rfl
@[simp] theorem setReq_regF i r p' r' a' b' : (s.setReq i r).regF p' r' a' b' = s.regF p' r' a' b' := rfl
@[simp] theorem updFport_regF f g p' r' a' b' : (s.updFport f g).regF p' r' a' b' = s.regF p' r' a' b' := rfl
@[simp] theorem updTen_regF t f p' r' a' b' : (s.updTen t f).regF p' r' a' b' = s.regF p' r' a' b' := rfl
@[simp] theorem updId_regF h f p' r' a' b' : (s.updId h f).regF p' r' a' b' = s.regF p' r' a' b' := rfl
@[simp] theorem updRgn_regF r f p' r' a' b' : (s.updRgn r f).regF p' r' a' b' = s.regF p' r' a' b' := rfl
@[simp] theorem queueCmd_regF c p' r' a' b' : (s.queueCmd c).regF p' r' a' b' = s.regF p' r' a' b' := rfl
@[simp] theorem updPort_regF p f p' r' a' b' : (s.updPort p f).regF p' r' a' b' = s.regF p' r' a' b' := rfl
@[simp] theorem updColl_regF i f p' r' a' b' : (s.updColl i f).regF p' r' a' b' = s.regF p' r' a' b' := rfl
@[simp] theorem updCrun_regF i f p' r' a' b' : (s.updCrun i f).regF p' r' a' b' = s.regF p' r' a' b' := rfl
@[simp] theorem updLane_regF n f p' r' a' b' : (s.updLane n f).regF p' r' a' b' = s.regF p' r' a' b' := rfl
@[simp] theorem updPu_regF p f p' r' a' b' : (s.updPu p f).regF p' r' a' b' = s.regF p' r' a' b' := rfl
@[simp] theorem updPart_regF p a d f p' r' a' b' : (s.updPart p a d f).regF p' r' a' b' = s.regF p' r' a' b' := rfl
@[simp] theorem updArr_regF p a f p' r' a' b' : (s.updArr p a f).regF p' r' a' b' = s.regF p' r' a' b' := rfl
@[simp] theorem updJob_regF n f p' r' a' b' : (s.updJob n f).regF p' r' a' b' = s.regF p' r' a' b' := rfl
@[simp] theorem updLay_regF n f p' r' a' b' : (s.updLay n f).regF p' r' a' b' = s.regF p' r' a' b' := rfl
@[simp] theorem updFn_regF k f p' r' a' b' : (s.updFn k f).regF p' r' a' b' = s.regF p' r' a' b' := rfl
@[simp] theorem fnCause_regF k c p' r' a' b' : (s.fnCause k c).regF p' r' a' b' = s.regF p' r' a' b' := rfl
@[simp] theorem tierCount_regF sel p' r' a' b' : (s.tierCount sel).regF p' r' a' b' = s.regF p' r' a' b' := rfl
@[simp] theorem dirCount_regF sel n p' r' a' b' : (s.dirCount sel n).regF p' r' a' b' = s.regF p' r' a' b' := rfl
@[simp] theorem updSpdm_regF v f p' r' a' b' : (s.updSpdm v f).regF p' r' a' b' = s.regF p' r' a' b' := rfl
@[simp] theorem updPage_regF p f p' r' a' b' : (s.updPage p f).regF p' r' a' b' = s.regF p' r' a' b' := rfl
@[simp] theorem writeByte_regF a b p' r' a' b' : (s.writeByte a b).regF p' r' a' b' = s.regF p' r' a' b' := rfl
@[simp] theorem setPoison_regF l b p' r' a' b' : (s.setPoison l b).regF p' r' a' b' = s.regF p' r' a' b' := rfl
@[simp] theorem inFrame_regF n p' r' a' b' : (s.inFrame n).regF p' r' a' b' = s.regF p' r' a' b' := rfl
@[simp] theorem pathTaken_regF src p' r' a' b' : (s.pathTaken src).regF p' r' a' b' = s.regF p' r' a' b' := rfl
@[simp] theorem pageCause_regF p p' r' a' b' : (s.pageCause p).regF p' r' a' b' = s.regF p' r' a' b' := by unfold State.regF; rw [pageCause_reg]
@[simp] theorem setEvt_regF p b p' r' a' b' : (s.setEvt p b).regF p' r' a' b' = s.regF p' r' a' b' := by unfold State.regF; rw [setEvt_reg]
@[simp] theorem setSvcEvt_regF b p' r' a' b' : (s.setSvcEvt b).regF p' r' a' b' = s.regF p' r' a' b' := by unfold State.regF; rw [setSvcEvt_reg]
@[simp] theorem charge_regF g i sub o c p' r' a' b' : (s.charge g i sub o c).regF p' r' a' b' = s.regF p' r' a' b' := by unfold State.regF; rw [charge_reg]
@[simp] theorem chargeSplit_regF g i sub o c p' r' a' b' : (s.chargeSplit g i sub o c).regF p' r' a' b' = s.regF p' r' a' b' := by unfold State.regF; rw [chargeSplit_reg]
@[simp] theorem updFnOf_regF x f p' r' a' b' : (s.updFnOf x f).regF p' r' a' b' = s.regF p' r' a' b' := by unfold State.regF; rw [updFnOf_reg]
@[simp] theorem doePut_regF v p' r' a' b' : (s.doePut v).regF p' r' a' b' = s.regF p' r' a' b' := by unfold State.regF; rw [doePut_reg]
@[simp] theorem keepEntry_regF e p' r' a' b' : (s.keepEntry e).regF p' r' a' b' = s.regF p' r' a' b' := by unfold State.regF; rw [keepEntry_reg]
@[simp] theorem logE_regF ev sev t p a v p' r' a' b' : (s.logE ev sev t p a v).regF p' r' a' b' = s.regF p' r' a' b' := by unfold State.regF; rw [logE_reg]
@[simp] theorem retireAdvice_regF k r l p p' r' a' b' : (s.retireAdvice k r l p).regF p' r' a' b' = s.regF p' r' a' b' := by unfold State.regF; rw [retireAdvice_reg]
@[simp] theorem lockWrite_regF p' r' a' b' : (s.lockWrite).regF p' r' a' b' = s.regF p' r' a' b' := by unfold State.regF; rw [lockWrite_reg]
@[simp] theorem transmit_regF f q p' r' a' b' : (s.transmit f q).regF p' r' a' b' = s.regF p' r' a' b' := by unfold State.regF; rw [transmit_reg]
@[simp] theorem sendRaw_regF f b p' r' a' b' : (s.sendRaw f b).regF p' r' a' b' = s.regF p' r' a' b' := by unfold State.regF; rw [sendRaw_reg]
@[simp] theorem mbReply_regF f c d p' r' a' b' : (s.mbReply f c d).regF p' r' a' b' = s.regF p' r' a' b' := by unfold State.regF; rw [mbReply_reg]
@[simp] theorem fmReply_regF c l p' r' a' b' : (s.fmReply c l).regF p' r' a' b' = s.regF p' r' a' b' := by unfold State.regF; rw [fmReply_reg]
@[simp] theorem mgmtReply_regF a v p' r' a' b' : (s.mgmtReply a v).regF p' r' a' b' = s.regF p' r' a' b' := by unfold State.regF; rw [mgmtReply_reg]

@[simp] theorem ite_ctr {c : Prop} [Decidable c] (a b : State) o' n' : (if c then a else b).ctr o' n' = if c then a.ctr o' n' else b.ctr o' n' := by split <;> rfl
@[simp] theorem keeping_ctr k t o' n' : (s.keeping k t).ctr o' n' = t.ctr o' n' := rfl
@[simp] theorem emit_ctr o o' n' : (s.emit o).ctr o' n' = s.ctr o' n' := rfl
@[simp] theorem setReg_ctr ofs v o' n' : (s.setReg ofs v).ctr o' n' = s.ctr o' n' := rfl
@[simp] theorem updHdr_ctr p f o' n' : (s.updHdr p f).ctr o' n' = s.ctr o' n' := rfl
@[simp] theorem mgmtCause_ctr v o' n' : (s.mgmtCause v).ctr o' n' = s.ctr o' n' := rfl
@[simp] theorem updUnit_ctr k i f o' n' : (s.updUnit k i f).ctr o' n' = s.ctr o' n' := rfl
@[simp] theorem useTake_ctr g i sub o c o' n' : (s.useTake g i sub o c).ctr o' n' = s.ctr o' n' := rfl
@[simp] theorem overrun_ctr g i o x o' n' : (s.overrun g i o x).ctr o' n' = s.ctr o' n' := rfl
@[simp] theorem updChan_ctr c f o' n' : (s.updChan c f).ctr o' n' = s.ctr o' n' := rfl
@[simp] theorem updFc_ctr l f o' n' : (s.updFc l f).ctr o' n' = s.ctr o' n' := rfl
@[simp] theorem updRet_ctr i f o' n' : (s.updRet i f).ctr o' n' = s.ctr o' n' := rfl
@[simp] theorem setLatch_ctr a b v o' n' : (s.setLatch a b v).ctr o' n' = s.ctr o' n' := rfl
@[simp] theorem mgmtTake_ctr src o' n' : (s.mgmtTake src).ctr o' n' = s.ctr o' n' := rfl
@[simp] theorem updRing_ctr r f o' n' : (s.updRing r f).ctr o' n' = s.ctr o' n' := rfl
@[simp] theorem updRunOf_ctr n f o' n' : (s.updRunOf n f).ctr o' n' = s.ctr o' n' := rfl
@[simp] theorem updLun_ctr k f o' n' : (s.updLun k f).ctr o' n' = s.ctr o' n' := rfl
@[simp] theorem updRec_ctr n f o' n' : (s.updRec n f).ctr o' n' = s.ctr o' n' := rfl
@[simp] theorem updBlock_ctr l b f o' n' : (s.updBlock l b f).ctr o' n' = s.ctr o' n' := rfl
@[simp] theorem setEnt_ctr l e o' n' : (s.setEnt l e).ctr o' n' = s.ctr o' n' := rfl
@[simp] theorem setTrans_ctr k t o' n' : (s.setTrans k t).ctr o' n' = s.ctr o' n' := rfl
@[simp] theorem updPeer_ctr p f o' n' : (s.updPeer p f).ctr o' n' = s.ctr o' n' := rfl
@[simp] theorem setPent_ctr l e o' n' : (s.setPent l e).ctr o' n' = s.ctr o' n' := rfl
@[simp] theorem setReq_ctr i r o' n' : (s.setReq i r).ctr o' n' = s.ctr o' n' := rfl
@[simp] theorem updFport_ctr f g o' n' : (s.updFport f g).ctr o' n' = s.ctr o' n' := rfl
@[simp] theorem updTen_ctr t f o' n' : (s.updTen t f).ctr o' n' = s.ctr o' n' := rfl
@[simp] theorem updId_ctr h f o' n' : (s.updId h f).ctr o' n' = s.ctr o' n' := rfl
@[simp] theorem updRgn_ctr r f o' n' : (s.updRgn r f).ctr o' n' = s.ctr o' n' := rfl
@[simp] theorem queueCmd_ctr c o' n' : (s.queueCmd c).ctr o' n' = s.ctr o' n' := rfl
@[simp] theorem updPort_ctr p f o' n' : (s.updPort p f).ctr o' n' = s.ctr o' n' := rfl
@[simp] theorem updColl_ctr i f o' n' : (s.updColl i f).ctr o' n' = s.ctr o' n' := rfl
@[simp] theorem updCrun_ctr i f o' n' : (s.updCrun i f).ctr o' n' = s.ctr o' n' := rfl
@[simp] theorem updLane_ctr n f o' n' : (s.updLane n f).ctr o' n' = s.ctr o' n' := rfl
@[simp] theorem updPu_ctr p f o' n' : (s.updPu p f).ctr o' n' = s.ctr o' n' := rfl
@[simp] theorem updPart_ctr p a d f o' n' : (s.updPart p a d f).ctr o' n' = s.ctr o' n' := rfl
@[simp] theorem updArr_ctr p a f o' n' : (s.updArr p a f).ctr o' n' = s.ctr o' n' := rfl
@[simp] theorem updJob_ctr n f o' n' : (s.updJob n f).ctr o' n' = s.ctr o' n' := rfl
@[simp] theorem updLay_ctr n f o' n' : (s.updLay n f).ctr o' n' = s.ctr o' n' := rfl
@[simp] theorem updFn_ctr k f o' n' : (s.updFn k f).ctr o' n' = s.ctr o' n' := rfl
@[simp] theorem fnCause_ctr k c o' n' : (s.fnCause k c).ctr o' n' = s.ctr o' n' := rfl
@[simp] theorem updSpdm_ctr v f o' n' : (s.updSpdm v f).ctr o' n' = s.ctr o' n' := rfl
@[simp] theorem updPage_ctr p f o' n' : (s.updPage p f).ctr o' n' = s.ctr o' n' := rfl
@[simp] theorem writeByte_ctr a b o' n' : (s.writeByte a b).ctr o' n' = s.ctr o' n' := rfl
@[simp] theorem setPoison_ctr l b o' n' : (s.setPoison l b).ctr o' n' = s.ctr o' n' := rfl
@[simp] theorem inFrame_ctr n o' n' : (s.inFrame n).ctr o' n' = s.ctr o' n' := rfl
@[simp] theorem pageCause_ctr p o' n' : (s.pageCause p).ctr o' n' = s.ctr o' n' := by unfold State.ctr; rw [pageCause_ctrs]
@[simp] theorem setEvt_ctr p b o' n' : (s.setEvt p b).ctr o' n' = s.ctr o' n' := by unfold State.ctr; rw [setEvt_ctrs]
@[simp] theorem setSvcEvt_ctr b o' n' : (s.setSvcEvt b).ctr o' n' = s.ctr o' n' := by unfold State.ctr; rw [setSvcEvt_ctrs]
@[simp] theorem charge_ctr g i sub o c o' n' : (s.charge g i sub o c).ctr o' n' = s.ctr o' n' := by unfold State.ctr; rw [charge_ctrs]
@[simp] theorem chargeSplit_ctr g i sub o c o' n' : (s.chargeSplit g i sub o c).ctr o' n' = s.ctr o' n' := by unfold State.ctr; rw [chargeSplit_ctrs]
@[simp] theorem updFnOf_ctr x f o' n' : (s.updFnOf x f).ctr o' n' = s.ctr o' n' := by unfold State.ctr; rw [updFnOf_ctrs]
@[simp] theorem doePut_ctr v o' n' : (s.doePut v).ctr o' n' = s.ctr o' n' := by unfold State.ctr; rw [doePut_ctrs]
@[simp] theorem transmit_ctr f q o' n' : (s.transmit f q).ctr o' n' = s.ctr o' n' := by unfold State.ctr; rw [transmit_ctrs]
@[simp] theorem sendRaw_ctr f b o' n' : (s.sendRaw f b).ctr o' n' = s.ctr o' n' := by unfold State.ctr; rw [sendRaw_ctrs]
@[simp] theorem mbReply_ctr f c d o' n' : (s.mbReply f c d).ctr o' n' = s.ctr o' n' := by unfold State.ctr; rw [mbReply_ctrs]
@[simp] theorem fmReply_ctr c l o' n' : (s.fmReply c l).ctr o' n' = s.ctr o' n' := by unfold State.ctr; rw [fmReply_ctrs]
@[simp] theorem mgmtReply_ctr a v o' n' : (s.mgmtReply a v).ctr o' n' = s.ctr o' n' := by unfold State.ctr; rw [mgmtReply_ctrs]

@[simp] theorem ite_fn {c : Prop} [Decidable c] (a b : State) k' : (if c then a else b).fn k' = if c then a.fn k' else b.fn k' := by split <;> rfl
@[simp] theorem keeping_fn k t k' : (s.keeping k t).fn k' = t.fn k' := rfl
@[simp] theorem emit_fn o k' : (s.emit o).fn k' = s.fn k' := rfl
@[simp] theorem setReg_fn ofs v k' : (s.setReg ofs v).fn k' = s.fn k' := rfl
@[simp] theorem bump_fn ofs sel n k' : (s.bump ofs sel n).fn k' = s.fn k' := rfl
@[simp] theorem clearCtr_fn ofs sel k' : (s.clearCtr ofs sel).fn k' = s.fn k' := rfl
@[simp] theorem updHdr_fn p f k' : (s.updHdr p f).fn k' = s.fn k' := rfl
@[simp] theorem mgmtCause_fn v k' : (s.mgmtCause v).fn k' = s.fn k' := rfl
@[simp] theorem updUnit_fn k i f k' : (s.updUnit k i f).fn k' = s.fn k' := rfl
@[simp] theorem useTake_fn g i sub o c k' : (s.useTake g i sub o c).fn k' = s.fn k' := rfl
@[simp] theorem overrun_fn g i o x k' : (s.overrun g i o x).fn k' = s.fn k' := rfl
@[simp] theorem updChan_fn c f k' : (s.updChan c f).fn k' = s.fn k' := rfl
@[simp] theorem updFc_fn l f k' : (s.updFc l f).fn k' = s.fn k' := rfl
@[simp] theorem updRet_fn i f k' : (s.updRet i f).fn k' = s.fn k' := rfl
@[simp] theorem setLatch_fn a b v k' : (s.setLatch a b v).fn k' = s.fn k' := rfl
@[simp] theorem mgmtTake_fn src k' : (s.mgmtTake src).fn k' = s.fn k' := rfl
@[simp] theorem updRing_fn r f k' : (s.updRing r f).fn k' = s.fn k' := rfl
@[simp] theorem updRunOf_fn n f k' : (s.updRunOf n f).fn k' = s.fn k' := rfl
@[simp] theorem updLun_fn k f k' : (s.updLun k f).fn k' = s.fn k' := rfl
@[simp] theorem updRec_fn n f k' : (s.updRec n f).fn k' = s.fn k' := rfl
@[simp] theorem updBlock_fn l b f k' : (s.updBlock l b f).fn k' = s.fn k' := rfl
@[simp] theorem setEnt_fn l e k' : (s.setEnt l e).fn k' = s.fn k' := rfl
@[simp] theorem setTrans_fn k t k' : (s.setTrans k t).fn k' = s.fn k' := rfl
@[simp] theorem updPeer_fn p f k' : (s.updPeer p f).fn k' = s.fn k' := rfl
@[simp] theorem setPent_fn l e k' : (s.setPent l e).fn k' = s.fn k' := rfl
@[simp] theorem setReq_fn i r k' : (s.setReq i r).fn k' = s.fn k' := rfl
@[simp] theorem updFport_fn f g k' : (s.updFport f g).fn k' = s.fn k' := rfl
@[simp] theorem updTen_fn t f k' : (s.updTen t f).fn k' = s.fn k' := rfl
@[simp] theorem updId_fn h f k' : (s.updId h f).fn k' = s.fn k' := rfl
@[simp] theorem updRgn_fn r f k' : (s.updRgn r f).fn k' = s.fn k' := rfl
@[simp] theorem queueCmd_fn c k' : (s.queueCmd c).fn k' = s.fn k' := rfl
@[simp] theorem updPort_fn p f k' : (s.updPort p f).fn k' = s.fn k' := rfl
@[simp] theorem updColl_fn i f k' : (s.updColl i f).fn k' = s.fn k' := rfl
@[simp] theorem updCrun_fn i f k' : (s.updCrun i f).fn k' = s.fn k' := rfl
@[simp] theorem updLane_fn n f k' : (s.updLane n f).fn k' = s.fn k' := rfl
@[simp] theorem updPu_fn p f k' : (s.updPu p f).fn k' = s.fn k' := rfl
@[simp] theorem updPart_fn p a d f k' : (s.updPart p a d f).fn k' = s.fn k' := rfl
@[simp] theorem updArr_fn p a f k' : (s.updArr p a f).fn k' = s.fn k' := rfl
@[simp] theorem updJob_fn n f k' : (s.updJob n f).fn k' = s.fn k' := rfl
@[simp] theorem updLay_fn n f k' : (s.updLay n f).fn k' = s.fn k' := rfl
@[simp] theorem tierCount_fn sel k' : (s.tierCount sel).fn k' = s.fn k' := rfl
@[simp] theorem dirCount_fn sel n k' : (s.dirCount sel n).fn k' = s.fn k' := rfl
@[simp] theorem updSpdm_fn v f k' : (s.updSpdm v f).fn k' = s.fn k' := rfl
@[simp] theorem updPage_fn p f k' : (s.updPage p f).fn k' = s.fn k' := rfl
@[simp] theorem writeByte_fn a b k' : (s.writeByte a b).fn k' = s.fn k' := rfl
@[simp] theorem setPoison_fn l b k' : (s.setPoison l b).fn k' = s.fn k' := rfl
@[simp] theorem inFrame_fn n k' : (s.inFrame n).fn k' = s.fn k' := rfl
@[simp] theorem pathTaken_fn src k' : (s.pathTaken src).fn k' = s.fn k' := rfl
@[simp] theorem pageCause_fn p k' : (s.pageCause p).fn k' = s.fn k' := by unfold State.fn; rw [pageCause_fns]
@[simp] theorem setEvt_fn p b k' : (s.setEvt p b).fn k' = s.fn k' := by unfold State.fn; rw [setEvt_fns]
@[simp] theorem setSvcEvt_fn b k' : (s.setSvcEvt b).fn k' = s.fn k' := by unfold State.fn; rw [setSvcEvt_fns]
@[simp] theorem charge_fn g i sub o c k' : (s.charge g i sub o c).fn k' = s.fn k' := by unfold State.fn; rw [charge_fns]
@[simp] theorem chargeSplit_fn g i sub o c k' : (s.chargeSplit g i sub o c).fn k' = s.fn k' := by unfold State.fn; rw [chargeSplit_fns]
@[simp] theorem keepEntry_fn e k' : (s.keepEntry e).fn k' = s.fn k' := by unfold State.fn; rw [keepEntry_fns]
@[simp] theorem logE_fn ev sev t p a v k' : (s.logE ev sev t p a v).fn k' = s.fn k' := by unfold State.fn; rw [logE_fns]
@[simp] theorem retireAdvice_fn k r l p k' : (s.retireAdvice k r l p).fn k' = s.fn k' := by unfold State.fn; rw [retireAdvice_fns]
@[simp] theorem lockWrite_fn k' : (s.lockWrite).fn k' = s.fn k' := by unfold State.fn; rw [lockWrite_fns]
@[simp] theorem transmit_fn f q k' : (s.transmit f q).fn k' = s.fn k' := by unfold State.fn; rw [transmit_fns]
@[simp] theorem sendRaw_fn f b k' : (s.sendRaw f b).fn k' = s.fn k' := by unfold State.fn; rw [sendRaw_fns]
@[simp] theorem mbReply_fn f c d k' : (s.mbReply f c d).fn k' = s.fn k' := by unfold State.fn; rw [mbReply_fns]
@[simp] theorem fmReply_fn c l k' : (s.fmReply c l).fn k' = s.fn k' := by unfold State.fn; rw [fmReply_fns]
@[simp] theorem mgmtReply_fn a v k' : (s.mgmtReply a v).fn k' = s.fn k' := by unfold State.fn; rw [mgmtReply_fns]

@[simp] theorem ite_chan {c : Prop} [Decidable c] (a b : State) c' : (if c then a else b).chan c' = if c then a.chan c' else b.chan c' := by split <;> rfl
@[simp] theorem keeping_chan k t c' : (s.keeping k t).chan c' = t.chan c' := rfl
@[simp] theorem emit_chan o c' : (s.emit o).chan c' = s.chan c' := rfl
@[simp] theorem setReg_chan ofs v c' : (s.setReg ofs v).chan c' = s.chan c' := rfl
@[simp] theorem bump_chan ofs sel n c' : (s.bump ofs sel n).chan c' = s.chan c' := rfl
@[simp] theorem clearCtr_chan ofs sel c' : (s.clearCtr ofs sel).chan c' = s.chan c' := rfl
@[simp] theorem updHdr_chan p f c' : (s.updHdr p f).chan c' = s.chan c' := rfl
@[simp] theorem mgmtCause_chan v c' : (s.mgmtCause v).chan c' = s.chan c' := rfl
@[simp] theorem updUnit_chan k i f c' : (s.updUnit k i f).chan c' = s.chan c' := rfl
@[simp] theorem useTake_chan g i sub o c c' : (s.useTake g i sub o c).chan c' = s.chan c' := rfl
@[simp] theorem overrun_chan g i o x c' : (s.overrun g i o x).chan c' = s.chan c' := rfl
@[simp] theorem updFc_chan l f c' : (s.updFc l f).chan c' = s.chan c' := rfl
@[simp] theorem updRet_chan i f c' : (s.updRet i f).chan c' = s.chan c' := rfl
@[simp] theorem setLatch_chan a b v c' : (s.setLatch a b v).chan c' = s.chan c' := rfl
@[simp] theorem mgmtTake_chan src c' : (s.mgmtTake src).chan c' = s.chan c' := rfl
@[simp] theorem updRing_chan r f c' : (s.updRing r f).chan c' = s.chan c' := rfl
@[simp] theorem updRunOf_chan n f c' : (s.updRunOf n f).chan c' = s.chan c' := rfl
@[simp] theorem updLun_chan k f c' : (s.updLun k f).chan c' = s.chan c' := rfl
@[simp] theorem updRec_chan n f c' : (s.updRec n f).chan c' = s.chan c' := rfl
@[simp] theorem updBlock_chan l b f c' : (s.updBlock l b f).chan c' = s.chan c' := rfl
@[simp] theorem setEnt_chan l e c' : (s.setEnt l e).chan c' = s.chan c' := rfl
@[simp] theorem setTrans_chan k t c' : (s.setTrans k t).chan c' = s.chan c' := rfl
@[simp] theorem updPeer_chan p f c' : (s.updPeer p f).chan c' = s.chan c' := rfl
@[simp] theorem setPent_chan l e c' : (s.setPent l e).chan c' = s.chan c' := rfl
@[simp] theorem setReq_chan i r c' : (s.setReq i r).chan c' = s.chan c' := rfl
@[simp] theorem updFport_chan f g c' : (s.updFport f g).chan c' = s.chan c' := rfl
@[simp] theorem updTen_chan t f c' : (s.updTen t f).chan c' = s.chan c' := rfl
@[simp] theorem updId_chan h f c' : (s.updId h f).chan c' = s.chan c' := rfl
@[simp] theorem updRgn_chan r f c' : (s.updRgn r f).chan c' = s.chan c' := rfl
@[simp] theorem queueCmd_chan c c' : (s.queueCmd c).chan c' = s.chan c' := rfl
@[simp] theorem updPort_chan p f c' : (s.updPort p f).chan c' = s.chan c' := rfl
@[simp] theorem updColl_chan i f c' : (s.updColl i f).chan c' = s.chan c' := rfl
@[simp] theorem updCrun_chan i f c' : (s.updCrun i f).chan c' = s.chan c' := rfl
@[simp] theorem updLane_chan n f c' : (s.updLane n f).chan c' = s.chan c' := rfl
@[simp] theorem updPu_chan p f c' : (s.updPu p f).chan c' = s.chan c' := rfl
@[simp] theorem updPart_chan p a d f c' : (s.updPart p a d f).chan c' = s.chan c' := rfl
@[simp] theorem updArr_chan p a f c' : (s.updArr p a f).chan c' = s.chan c' := rfl
@[simp] theorem updJob_chan n f c' : (s.updJob n f).chan c' = s.chan c' := rfl
@[simp] theorem updLay_chan n f c' : (s.updLay n f).chan c' = s.chan c' := rfl
@[simp] theorem updFn_chan k f c' : (s.updFn k f).chan c' = s.chan c' := rfl
@[simp] theorem fnCause_chan k c c' : (s.fnCause k c).chan c' = s.chan c' := rfl
@[simp] theorem tierCount_chan sel c' : (s.tierCount sel).chan c' = s.chan c' := rfl
@[simp] theorem dirCount_chan sel n c' : (s.dirCount sel n).chan c' = s.chan c' := rfl
@[simp] theorem updSpdm_chan v f c' : (s.updSpdm v f).chan c' = s.chan c' := rfl
@[simp] theorem updPage_chan p f c' : (s.updPage p f).chan c' = s.chan c' := rfl
@[simp] theorem writeByte_chan a b c' : (s.writeByte a b).chan c' = s.chan c' := rfl
@[simp] theorem setPoison_chan l b c' : (s.setPoison l b).chan c' = s.chan c' := rfl
@[simp] theorem inFrame_chan n c' : (s.inFrame n).chan c' = s.chan c' := rfl
@[simp] theorem pathTaken_chan src c' : (s.pathTaken src).chan c' = s.chan c' := rfl
@[simp] theorem pageCause_chan p c' : (s.pageCause p).chan c' = s.chan c' := by unfold State.chan; rw [pageCause_chans]
@[simp] theorem setEvt_chan p b c' : (s.setEvt p b).chan c' = s.chan c' := by unfold State.chan; rw [setEvt_chans]
@[simp] theorem setSvcEvt_chan b c' : (s.setSvcEvt b).chan c' = s.chan c' := by unfold State.chan; rw [setSvcEvt_chans]
@[simp] theorem charge_chan g i sub o c c' : (s.charge g i sub o c).chan c' = s.chan c' := by unfold State.chan; rw [charge_chans]
@[simp] theorem chargeSplit_chan g i sub o c c' : (s.chargeSplit g i sub o c).chan c' = s.chan c' := by unfold State.chan; rw [chargeSplit_chans]
@[simp] theorem updFnOf_chan x f c' : (s.updFnOf x f).chan c' = s.chan c' := by unfold State.chan; rw [updFnOf_chans]
@[simp] theorem doePut_chan v c' : (s.doePut v).chan c' = s.chan c' := by unfold State.chan; rw [doePut_chans]
@[simp] theorem keepEntry_chan e c' : (s.keepEntry e).chan c' = s.chan c' := by unfold State.chan; rw [keepEntry_chans]
@[simp] theorem logE_chan ev sev t p a v c' : (s.logE ev sev t p a v).chan c' = s.chan c' := by unfold State.chan; rw [logE_chans]
@[simp] theorem retireAdvice_chan k r l p c' : (s.retireAdvice k r l p).chan c' = s.chan c' := by unfold State.chan; rw [retireAdvice_chans]
@[simp] theorem lockWrite_chan c' : (s.lockWrite).chan c' = s.chan c' := by unfold State.chan; rw [lockWrite_chans]
@[simp] theorem transmit_chan f q c' : (s.transmit f q).chan c' = s.chan c' := by unfold State.chan; rw [transmit_chans]
@[simp] theorem sendRaw_chan f b c' : (s.sendRaw f b).chan c' = s.chan c' := by unfold State.chan; rw [sendRaw_chans]
@[simp] theorem mbReply_chan f c d c' : (s.mbReply f c d).chan c' = s.chan c' := by unfold State.chan; rw [mbReply_chans]
@[simp] theorem fmReply_chan c l c' : (s.fmReply c l).chan c' = s.chan c' := by unfold State.chan; rw [fmReply_chans]
@[simp] theorem mgmtReply_chan a v c' : (s.mgmtReply a v).chan c' = s.chan c' := by unfold State.chan; rw [mgmtReply_chans]

@[simp] theorem ite_dirEnt {c : Prop} [Decidable c] (a b : State) l' : (if c then a else b).dirEnt l' = if c then a.dirEnt l' else b.dirEnt l' := by split <;> rfl
@[simp] theorem keeping_dirEnt k t l' : (s.keeping k t).dirEnt l' = t.dirEnt l' := rfl
@[simp] theorem emit_dirEnt o l' : (s.emit o).dirEnt l' = s.dirEnt l' := rfl
@[simp] theorem setReg_dirEnt ofs v l' : (s.setReg ofs v).dirEnt l' = s.dirEnt l' := rfl
@[simp] theorem bump_dirEnt ofs sel n l' : (s.bump ofs sel n).dirEnt l' = s.dirEnt l' := rfl
@[simp] theorem clearCtr_dirEnt ofs sel l' : (s.clearCtr ofs sel).dirEnt l' = s.dirEnt l' := rfl
@[simp] theorem updHdr_dirEnt p f l' : (s.updHdr p f).dirEnt l' = s.dirEnt l' := rfl
@[simp] theorem mgmtCause_dirEnt v l' : (s.mgmtCause v).dirEnt l' = s.dirEnt l' := rfl
@[simp] theorem updUnit_dirEnt k i f l' : (s.updUnit k i f).dirEnt l' = s.dirEnt l' := rfl
@[simp] theorem useTake_dirEnt g i sub o c l' : (s.useTake g i sub o c).dirEnt l' = s.dirEnt l' := rfl
@[simp] theorem overrun_dirEnt g i o x l' : (s.overrun g i o x).dirEnt l' = s.dirEnt l' := rfl
@[simp] theorem updChan_dirEnt c f l' : (s.updChan c f).dirEnt l' = s.dirEnt l' := rfl
@[simp] theorem updFc_dirEnt l f l' : (s.updFc l f).dirEnt l' = s.dirEnt l' := rfl
@[simp] theorem updRet_dirEnt i f l' : (s.updRet i f).dirEnt l' = s.dirEnt l' := rfl
@[simp] theorem setLatch_dirEnt a b v l' : (s.setLatch a b v).dirEnt l' = s.dirEnt l' := rfl
@[simp] theorem mgmtTake_dirEnt src l' : (s.mgmtTake src).dirEnt l' = s.dirEnt l' := rfl
@[simp] theorem updRing_dirEnt r f l' : (s.updRing r f).dirEnt l' = s.dirEnt l' := rfl
@[simp] theorem updRunOf_dirEnt n f l' : (s.updRunOf n f).dirEnt l' = s.dirEnt l' := rfl
@[simp] theorem updLun_dirEnt k f l' : (s.updLun k f).dirEnt l' = s.dirEnt l' := rfl
@[simp] theorem updRec_dirEnt n f l' : (s.updRec n f).dirEnt l' = s.dirEnt l' := rfl
@[simp] theorem updBlock_dirEnt l b f l' : (s.updBlock l b f).dirEnt l' = s.dirEnt l' := rfl
@[simp] theorem updPeer_dirEnt p f l' : (s.updPeer p f).dirEnt l' = s.dirEnt l' := rfl
@[simp] theorem setPent_dirEnt l e l' : (s.setPent l e).dirEnt l' = s.dirEnt l' := rfl
@[simp] theorem setReq_dirEnt i r l' : (s.setReq i r).dirEnt l' = s.dirEnt l' := rfl
@[simp] theorem updFport_dirEnt f g l' : (s.updFport f g).dirEnt l' = s.dirEnt l' := rfl
@[simp] theorem updTen_dirEnt t f l' : (s.updTen t f).dirEnt l' = s.dirEnt l' := rfl
@[simp] theorem updId_dirEnt h f l' : (s.updId h f).dirEnt l' = s.dirEnt l' := rfl
@[simp] theorem updRgn_dirEnt r f l' : (s.updRgn r f).dirEnt l' = s.dirEnt l' := rfl
@[simp] theorem queueCmd_dirEnt c l' : (s.queueCmd c).dirEnt l' = s.dirEnt l' := rfl
@[simp] theorem updPort_dirEnt p f l' : (s.updPort p f).dirEnt l' = s.dirEnt l' := rfl
@[simp] theorem updColl_dirEnt i f l' : (s.updColl i f).dirEnt l' = s.dirEnt l' := rfl
@[simp] theorem updCrun_dirEnt i f l' : (s.updCrun i f).dirEnt l' = s.dirEnt l' := rfl
@[simp] theorem updLane_dirEnt n f l' : (s.updLane n f).dirEnt l' = s.dirEnt l' := rfl
@[simp] theorem updPu_dirEnt p f l' : (s.updPu p f).dirEnt l' = s.dirEnt l' := rfl
@[simp] theorem updPart_dirEnt p a d f l' : (s.updPart p a d f).dirEnt l' = s.dirEnt l' := rfl
@[simp] theorem updArr_dirEnt p a f l' : (s.updArr p a f).dirEnt l' = s.dirEnt l' := rfl
@[simp] theorem updJob_dirEnt n f l' : (s.updJob n f).dirEnt l' = s.dirEnt l' := rfl
@[simp] theorem updLay_dirEnt n f l' : (s.updLay n f).dirEnt l' = s.dirEnt l' := rfl
@[simp] theorem updFn_dirEnt k f l' : (s.updFn k f).dirEnt l' = s.dirEnt l' := rfl
@[simp] theorem fnCause_dirEnt k c l' : (s.fnCause k c).dirEnt l' = s.dirEnt l' := rfl
@[simp] theorem tierCount_dirEnt sel l' : (s.tierCount sel).dirEnt l' = s.dirEnt l' := rfl
@[simp] theorem dirCount_dirEnt sel n l' : (s.dirCount sel n).dirEnt l' = s.dirEnt l' := rfl
@[simp] theorem updSpdm_dirEnt v f l' : (s.updSpdm v f).dirEnt l' = s.dirEnt l' := rfl
@[simp] theorem updPage_dirEnt p f l' : (s.updPage p f).dirEnt l' = s.dirEnt l' := rfl
@[simp] theorem writeByte_dirEnt a b l' : (s.writeByte a b).dirEnt l' = s.dirEnt l' := rfl
@[simp] theorem setPoison_dirEnt l b l' : (s.setPoison l b).dirEnt l' = s.dirEnt l' := rfl
@[simp] theorem inFrame_dirEnt n l' : (s.inFrame n).dirEnt l' = s.dirEnt l' := rfl
@[simp] theorem pathTaken_dirEnt src l' : (s.pathTaken src).dirEnt l' = s.dirEnt l' := rfl
@[simp] theorem pageCause_dirEnt p l' : (s.pageCause p).dirEnt l' = s.dirEnt l' := by unfold State.dirEnt; rw [pageCause_dir]
@[simp] theorem setEvt_dirEnt p b l' : (s.setEvt p b).dirEnt l' = s.dirEnt l' := by unfold State.dirEnt; rw [setEvt_dir]
@[simp] theorem setSvcEvt_dirEnt b l' : (s.setSvcEvt b).dirEnt l' = s.dirEnt l' := by unfold State.dirEnt; rw [setSvcEvt_dir]
@[simp] theorem charge_dirEnt g i sub o c l' : (s.charge g i sub o c).dirEnt l' = s.dirEnt l' := by unfold State.dirEnt; rw [charge_dir]
@[simp] theorem chargeSplit_dirEnt g i sub o c l' : (s.chargeSplit g i sub o c).dirEnt l' = s.dirEnt l' := by unfold State.dirEnt; rw [chargeSplit_dir]
@[simp] theorem updFnOf_dirEnt x f l' : (s.updFnOf x f).dirEnt l' = s.dirEnt l' := by unfold State.dirEnt; rw [updFnOf_dir]
@[simp] theorem doePut_dirEnt v l' : (s.doePut v).dirEnt l' = s.dirEnt l' := by unfold State.dirEnt; rw [doePut_dir]
@[simp] theorem keepEntry_dirEnt e l' : (s.keepEntry e).dirEnt l' = s.dirEnt l' := by unfold State.dirEnt; rw [keepEntry_dir]
@[simp] theorem logE_dirEnt ev sev t p a v l' : (s.logE ev sev t p a v).dirEnt l' = s.dirEnt l' := by unfold State.dirEnt; rw [logE_dir]
@[simp] theorem retireAdvice_dirEnt k r l p l' : (s.retireAdvice k r l p).dirEnt l' = s.dirEnt l' := by unfold State.dirEnt; rw [retireAdvice_dir]
@[simp] theorem lockWrite_dirEnt l' : (s.lockWrite).dirEnt l' = s.dirEnt l' := by unfold State.dirEnt; rw [lockWrite_dir]
@[simp] theorem transmit_dirEnt f q l' : (s.transmit f q).dirEnt l' = s.dirEnt l' := by unfold State.dirEnt; rw [transmit_dir]
@[simp] theorem sendRaw_dirEnt f b l' : (s.sendRaw f b).dirEnt l' = s.dirEnt l' := by unfold State.dirEnt; rw [sendRaw_dir]
@[simp] theorem mbReply_dirEnt f c d l' : (s.mbReply f c d).dirEnt l' = s.dirEnt l' := by unfold State.dirEnt; rw [mbReply_dir]
@[simp] theorem fmReply_dirEnt c l l' : (s.fmReply c l).dirEnt l' = s.dirEnt l' := by unfold State.dirEnt; rw [fmReply_dir]
@[simp] theorem mgmtReply_dirEnt a v l' : (s.mgmtReply a v).dirEnt l' = s.dirEnt l' := by unfold State.dirEnt; rw [mgmtReply_dir]

@[simp] theorem ite_trans {c : Prop} [Decidable c] (a b : State) k' : (if c then a else b).trans k' = if c then a.trans k' else b.trans k' := by split <;> rfl
@[simp] theorem keeping_trans k t k' : (s.keeping k t).trans k' = t.trans k' := rfl
@[simp] theorem emit_trans o k' : (s.emit o).trans k' = s.trans k' := rfl
@[simp] theorem setReg_trans ofs v k' : (s.setReg ofs v).trans k' = s.trans k' := rfl
@[simp] theorem bump_trans ofs sel n k' : (s.bump ofs sel n).trans k' = s.trans k' := rfl
@[simp] theorem clearCtr_trans ofs sel k' : (s.clearCtr ofs sel).trans k' = s.trans k' := rfl
@[simp] theorem updHdr_trans p f k' : (s.updHdr p f).trans k' = s.trans k' := rfl
@[simp] theorem mgmtCause_trans v k' : (s.mgmtCause v).trans k' = s.trans k' := rfl
@[simp] theorem updUnit_trans k i f k' : (s.updUnit k i f).trans k' = s.trans k' := rfl
@[simp] theorem useTake_trans g i sub o c k' : (s.useTake g i sub o c).trans k' = s.trans k' := rfl
@[simp] theorem overrun_trans g i o x k' : (s.overrun g i o x).trans k' = s.trans k' := rfl
@[simp] theorem updChan_trans c f k' : (s.updChan c f).trans k' = s.trans k' := rfl
@[simp] theorem updFc_trans l f k' : (s.updFc l f).trans k' = s.trans k' := rfl
@[simp] theorem updRet_trans i f k' : (s.updRet i f).trans k' = s.trans k' := rfl
@[simp] theorem setLatch_trans a b v k' : (s.setLatch a b v).trans k' = s.trans k' := rfl
@[simp] theorem mgmtTake_trans src k' : (s.mgmtTake src).trans k' = s.trans k' := rfl
@[simp] theorem updRing_trans r f k' : (s.updRing r f).trans k' = s.trans k' := rfl
@[simp] theorem updRunOf_trans n f k' : (s.updRunOf n f).trans k' = s.trans k' := rfl
@[simp] theorem updLun_trans k f k' : (s.updLun k f).trans k' = s.trans k' := rfl
@[simp] theorem updRec_trans n f k' : (s.updRec n f).trans k' = s.trans k' := rfl
@[simp] theorem updBlock_trans l b f k' : (s.updBlock l b f).trans k' = s.trans k' := rfl
@[simp] theorem updPeer_trans p f k' : (s.updPeer p f).trans k' = s.trans k' := rfl
@[simp] theorem setPent_trans l e k' : (s.setPent l e).trans k' = s.trans k' := rfl
@[simp] theorem setReq_trans i r k' : (s.setReq i r).trans k' = s.trans k' := rfl
@[simp] theorem updFport_trans f g k' : (s.updFport f g).trans k' = s.trans k' := rfl
@[simp] theorem updTen_trans t f k' : (s.updTen t f).trans k' = s.trans k' := rfl
@[simp] theorem updId_trans h f k' : (s.updId h f).trans k' = s.trans k' := rfl
@[simp] theorem updRgn_trans r f k' : (s.updRgn r f).trans k' = s.trans k' := rfl
@[simp] theorem queueCmd_trans c k' : (s.queueCmd c).trans k' = s.trans k' := rfl
@[simp] theorem updPort_trans p f k' : (s.updPort p f).trans k' = s.trans k' := rfl
@[simp] theorem updColl_trans i f k' : (s.updColl i f).trans k' = s.trans k' := rfl
@[simp] theorem updCrun_trans i f k' : (s.updCrun i f).trans k' = s.trans k' := rfl
@[simp] theorem updLane_trans n f k' : (s.updLane n f).trans k' = s.trans k' := rfl
@[simp] theorem updPu_trans p f k' : (s.updPu p f).trans k' = s.trans k' := rfl
@[simp] theorem updPart_trans p a d f k' : (s.updPart p a d f).trans k' = s.trans k' := rfl
@[simp] theorem updArr_trans p a f k' : (s.updArr p a f).trans k' = s.trans k' := rfl
@[simp] theorem updJob_trans n f k' : (s.updJob n f).trans k' = s.trans k' := rfl
@[simp] theorem updLay_trans n f k' : (s.updLay n f).trans k' = s.trans k' := rfl
@[simp] theorem updFn_trans k f k' : (s.updFn k f).trans k' = s.trans k' := rfl
@[simp] theorem fnCause_trans k c k' : (s.fnCause k c).trans k' = s.trans k' := rfl
@[simp] theorem tierCount_trans sel k' : (s.tierCount sel).trans k' = s.trans k' := rfl
@[simp] theorem dirCount_trans sel n k' : (s.dirCount sel n).trans k' = s.trans k' := rfl
@[simp] theorem updSpdm_trans v f k' : (s.updSpdm v f).trans k' = s.trans k' := rfl
@[simp] theorem updPage_trans p f k' : (s.updPage p f).trans k' = s.trans k' := rfl
@[simp] theorem writeByte_trans a b k' : (s.writeByte a b).trans k' = s.trans k' := rfl
@[simp] theorem setPoison_trans l b k' : (s.setPoison l b).trans k' = s.trans k' := rfl
@[simp] theorem inFrame_trans n k' : (s.inFrame n).trans k' = s.trans k' := rfl
@[simp] theorem pathTaken_trans src k' : (s.pathTaken src).trans k' = s.trans k' := rfl
@[simp] theorem pageCause_trans p k' : (s.pageCause p).trans k' = s.trans k' := by unfold State.trans; rw [pageCause_dir]
@[simp] theorem setEvt_trans p b k' : (s.setEvt p b).trans k' = s.trans k' := by unfold State.trans; rw [setEvt_dir]
@[simp] theorem setSvcEvt_trans b k' : (s.setSvcEvt b).trans k' = s.trans k' := by unfold State.trans; rw [setSvcEvt_dir]
@[simp] theorem charge_trans g i sub o c k' : (s.charge g i sub o c).trans k' = s.trans k' := by unfold State.trans; rw [charge_dir]
@[simp] theorem chargeSplit_trans g i sub o c k' : (s.chargeSplit g i sub o c).trans k' = s.trans k' := by unfold State.trans; rw [chargeSplit_dir]
@[simp] theorem updFnOf_trans x f k' : (s.updFnOf x f).trans k' = s.trans k' := by unfold State.trans; rw [updFnOf_dir]
@[simp] theorem doePut_trans v k' : (s.doePut v).trans k' = s.trans k' := by unfold State.trans; rw [doePut_dir]
@[simp] theorem keepEntry_trans e k' : (s.keepEntry e).trans k' = s.trans k' := by unfold State.trans; rw [keepEntry_dir]
@[simp] theorem logE_trans ev sev t p a v k' : (s.logE ev sev t p a v).trans k' = s.trans k' := by unfold State.trans; rw [logE_dir]
@[simp] theorem retireAdvice_trans k r l p k' : (s.retireAdvice k r l p).trans k' = s.trans k' := by unfold State.trans; rw [retireAdvice_dir]
@[simp] theorem lockWrite_trans k' : (s.lockWrite).trans k' = s.trans k' := by unfold State.trans; rw [lockWrite_dir]
@[simp] theorem transmit_trans f q k' : (s.transmit f q).trans k' = s.trans k' := by unfold State.trans; rw [transmit_dir]
@[simp] theorem sendRaw_trans f b k' : (s.sendRaw f b).trans k' = s.trans k' := by unfold State.trans; rw [sendRaw_dir]
@[simp] theorem mbReply_trans f c d k' : (s.mbReply f c d).trans k' = s.trans k' := by unfold State.trans; rw [mbReply_dir]
@[simp] theorem fmReply_trans c l k' : (s.fmReply c l).trans k' = s.trans k' := by unfold State.trans; rw [fmReply_dir]
@[simp] theorem mgmtReply_trans a v k' : (s.mgmtReply a v).trans k' = s.trans k' := by unfold State.trans; rw [mgmtReply_dir]

@[simp] theorem ite_isPoison {c : Prop} [Decidable c] (a b : State) l' : (if c then a else b).isPoison l' = if c then a.isPoison l' else b.isPoison l' := by split <;> rfl
@[simp] theorem keeping_isPoison k t l' : (s.keeping k t).isPoison l' = t.isPoison l' := rfl
@[simp] theorem emit_isPoison o l' : (s.emit o).isPoison l' = s.isPoison l' := rfl
@[simp] theorem setReg_isPoison ofs v l' : (s.setReg ofs v).isPoison l' = s.isPoison l' := rfl
@[simp] theorem bump_isPoison ofs sel n l' : (s.bump ofs sel n).isPoison l' = s.isPoison l' := rfl
@[simp] theorem clearCtr_isPoison ofs sel l' : (s.clearCtr ofs sel).isPoison l' = s.isPoison l' := rfl
@[simp] theorem updHdr_isPoison p f l' : (s.updHdr p f).isPoison l' = s.isPoison l' := rfl
@[simp] theorem mgmtCause_isPoison v l' : (s.mgmtCause v).isPoison l' = s.isPoison l' := rfl
@[simp] theorem updUnit_isPoison k i f l' : (s.updUnit k i f).isPoison l' = s.isPoison l' := rfl
@[simp] theorem useTake_isPoison g i sub o c l' : (s.useTake g i sub o c).isPoison l' = s.isPoison l' := rfl
@[simp] theorem overrun_isPoison g i o x l' : (s.overrun g i o x).isPoison l' = s.isPoison l' := rfl
@[simp] theorem updChan_isPoison c f l' : (s.updChan c f).isPoison l' = s.isPoison l' := rfl
@[simp] theorem updFc_isPoison l f l' : (s.updFc l f).isPoison l' = s.isPoison l' := rfl
@[simp] theorem updRet_isPoison i f l' : (s.updRet i f).isPoison l' = s.isPoison l' := rfl
@[simp] theorem setLatch_isPoison a b v l' : (s.setLatch a b v).isPoison l' = s.isPoison l' := rfl
@[simp] theorem mgmtTake_isPoison src l' : (s.mgmtTake src).isPoison l' = s.isPoison l' := rfl
@[simp] theorem updRing_isPoison r f l' : (s.updRing r f).isPoison l' = s.isPoison l' := rfl
@[simp] theorem updRunOf_isPoison n f l' : (s.updRunOf n f).isPoison l' = s.isPoison l' := rfl
@[simp] theorem updLun_isPoison k f l' : (s.updLun k f).isPoison l' = s.isPoison l' := rfl
@[simp] theorem updRec_isPoison n f l' : (s.updRec n f).isPoison l' = s.isPoison l' := rfl
@[simp] theorem updBlock_isPoison l b f l' : (s.updBlock l b f).isPoison l' = s.isPoison l' := rfl
@[simp] theorem setEnt_isPoison l e l' : (s.setEnt l e).isPoison l' = s.isPoison l' := rfl
@[simp] theorem setTrans_isPoison k t l' : (s.setTrans k t).isPoison l' = s.isPoison l' := rfl
@[simp] theorem updPeer_isPoison p f l' : (s.updPeer p f).isPoison l' = s.isPoison l' := rfl
@[simp] theorem setPent_isPoison l e l' : (s.setPent l e).isPoison l' = s.isPoison l' := rfl
@[simp] theorem setReq_isPoison i r l' : (s.setReq i r).isPoison l' = s.isPoison l' := rfl
@[simp] theorem updFport_isPoison f g l' : (s.updFport f g).isPoison l' = s.isPoison l' := rfl
@[simp] theorem updTen_isPoison t f l' : (s.updTen t f).isPoison l' = s.isPoison l' := rfl
@[simp] theorem updId_isPoison h f l' : (s.updId h f).isPoison l' = s.isPoison l' := rfl
@[simp] theorem updRgn_isPoison r f l' : (s.updRgn r f).isPoison l' = s.isPoison l' := rfl
@[simp] theorem queueCmd_isPoison c l' : (s.queueCmd c).isPoison l' = s.isPoison l' := rfl
@[simp] theorem updPort_isPoison p f l' : (s.updPort p f).isPoison l' = s.isPoison l' := rfl
@[simp] theorem updColl_isPoison i f l' : (s.updColl i f).isPoison l' = s.isPoison l' := rfl
@[simp] theorem updCrun_isPoison i f l' : (s.updCrun i f).isPoison l' = s.isPoison l' := rfl
@[simp] theorem updLane_isPoison n f l' : (s.updLane n f).isPoison l' = s.isPoison l' := rfl
@[simp] theorem updPu_isPoison p f l' : (s.updPu p f).isPoison l' = s.isPoison l' := rfl
@[simp] theorem updPart_isPoison p a d f l' : (s.updPart p a d f).isPoison l' = s.isPoison l' := rfl
@[simp] theorem updArr_isPoison p a f l' : (s.updArr p a f).isPoison l' = s.isPoison l' := rfl
@[simp] theorem updJob_isPoison n f l' : (s.updJob n f).isPoison l' = s.isPoison l' := rfl
@[simp] theorem updLay_isPoison n f l' : (s.updLay n f).isPoison l' = s.isPoison l' := rfl
@[simp] theorem updFn_isPoison k f l' : (s.updFn k f).isPoison l' = s.isPoison l' := rfl
@[simp] theorem fnCause_isPoison k c l' : (s.fnCause k c).isPoison l' = s.isPoison l' := rfl
@[simp] theorem tierCount_isPoison sel l' : (s.tierCount sel).isPoison l' = s.isPoison l' := rfl
@[simp] theorem dirCount_isPoison sel n l' : (s.dirCount sel n).isPoison l' = s.isPoison l' := rfl
@[simp] theorem updSpdm_isPoison v f l' : (s.updSpdm v f).isPoison l' = s.isPoison l' := rfl
@[simp] theorem updPage_isPoison p f l' : (s.updPage p f).isPoison l' = s.isPoison l' := rfl
@[simp] theorem writeByte_isPoison a b l' : (s.writeByte a b).isPoison l' = s.isPoison l' := rfl
@[simp] theorem inFrame_isPoison n l' : (s.inFrame n).isPoison l' = s.isPoison l' := rfl
@[simp] theorem pathTaken_isPoison src l' : (s.pathTaken src).isPoison l' = s.isPoison l' := rfl
@[simp] theorem pageCause_isPoison p l' : (s.pageCause p).isPoison l' = s.isPoison l' := by unfold State.isPoison; rw [pageCause_poison]
@[simp] theorem setEvt_isPoison p b l' : (s.setEvt p b).isPoison l' = s.isPoison l' := by unfold State.isPoison; rw [setEvt_poison]
@[simp] theorem setSvcEvt_isPoison b l' : (s.setSvcEvt b).isPoison l' = s.isPoison l' := by unfold State.isPoison; rw [setSvcEvt_poison]
@[simp] theorem charge_isPoison g i sub o c l' : (s.charge g i sub o c).isPoison l' = s.isPoison l' := by unfold State.isPoison; rw [charge_poison]
@[simp] theorem chargeSplit_isPoison g i sub o c l' : (s.chargeSplit g i sub o c).isPoison l' = s.isPoison l' := by unfold State.isPoison; rw [chargeSplit_poison]
@[simp] theorem updFnOf_isPoison x f l' : (s.updFnOf x f).isPoison l' = s.isPoison l' := by unfold State.isPoison; rw [updFnOf_poison]
@[simp] theorem doePut_isPoison v l' : (s.doePut v).isPoison l' = s.isPoison l' := by unfold State.isPoison; rw [doePut_poison]
@[simp] theorem keepEntry_isPoison e l' : (s.keepEntry e).isPoison l' = s.isPoison l' := by unfold State.isPoison; rw [keepEntry_poison]
@[simp] theorem logE_isPoison ev sev t p a v l' : (s.logE ev sev t p a v).isPoison l' = s.isPoison l' := by unfold State.isPoison; rw [logE_poison]
@[simp] theorem retireAdvice_isPoison k r l p l' : (s.retireAdvice k r l p).isPoison l' = s.isPoison l' := by unfold State.isPoison; rw [retireAdvice_poison]
@[simp] theorem lockWrite_isPoison l' : (s.lockWrite).isPoison l' = s.isPoison l' := by unfold State.isPoison; rw [lockWrite_poison]
@[simp] theorem transmit_isPoison f q l' : (s.transmit f q).isPoison l' = s.isPoison l' := by unfold State.isPoison; rw [transmit_poison]
@[simp] theorem sendRaw_isPoison f b l' : (s.sendRaw f b).isPoison l' = s.isPoison l' := by unfold State.isPoison; rw [sendRaw_poison]
@[simp] theorem mbReply_isPoison f c d l' : (s.mbReply f c d).isPoison l' = s.isPoison l' := by unfold State.isPoison; rw [mbReply_poison]
@[simp] theorem fmReply_isPoison c l l' : (s.fmReply c l).isPoison l' = s.isPoison l' := by unfold State.isPoison; rw [fmReply_poison]
@[simp] theorem mgmtReply_isPoison a v l' : (s.mgmtReply a v).isPoison l' = s.isPoison l' := by unfold State.isPoison; rw [mgmtReply_poison]

@[simp] theorem ite_readByte {c : Prop} [Decidable c] (a b : State) a' : (if c then a else b).readByte a' = if c then a.readByte a' else b.readByte a' := by split <;> rfl
@[simp] theorem keeping_readByte k t a' : (s.keeping k t).readByte a' = t.readByte a' := rfl
@[simp] theorem emit_readByte o a' : (s.emit o).readByte a' = s.readByte a' := rfl
@[simp] theorem setReg_readByte ofs v a' : (s.setReg ofs v).readByte a' = s.readByte a' := rfl
@[simp] theorem bump_readByte ofs sel n a' : (s.bump ofs sel n).readByte a' = s.readByte a' := rfl
@[simp] theorem clearCtr_readByte ofs sel a' : (s.clearCtr ofs sel).readByte a' = s.readByte a' := rfl
@[simp] theorem updHdr_readByte p f a' : (s.updHdr p f).readByte a' = s.readByte a' := rfl
@[simp] theorem mgmtCause_readByte v a' : (s.mgmtCause v).readByte a' = s.readByte a' := rfl
@[simp] theorem updUnit_readByte k i f a' : (s.updUnit k i f).readByte a' = s.readByte a' := rfl
@[simp] theorem useTake_readByte g i sub o c a' : (s.useTake g i sub o c).readByte a' = s.readByte a' := rfl
@[simp] theorem overrun_readByte g i o x a' : (s.overrun g i o x).readByte a' = s.readByte a' := rfl
@[simp] theorem updChan_readByte c f a' : (s.updChan c f).readByte a' = s.readByte a' := rfl
@[simp] theorem updFc_readByte l f a' : (s.updFc l f).readByte a' = s.readByte a' := rfl
@[simp] theorem updRet_readByte i f a' : (s.updRet i f).readByte a' = s.readByte a' := rfl
@[simp] theorem setLatch_readByte a b v a' : (s.setLatch a b v).readByte a' = s.readByte a' := rfl
@[simp] theorem mgmtTake_readByte src a' : (s.mgmtTake src).readByte a' = s.readByte a' := rfl
@[simp] theorem updRing_readByte r f a' : (s.updRing r f).readByte a' = s.readByte a' := rfl
@[simp] theorem updRunOf_readByte n f a' : (s.updRunOf n f).readByte a' = s.readByte a' := rfl
@[simp] theorem updLun_readByte k f a' : (s.updLun k f).readByte a' = s.readByte a' := rfl
@[simp] theorem updRec_readByte n f a' : (s.updRec n f).readByte a' = s.readByte a' := rfl
@[simp] theorem updBlock_readByte l b f a' : (s.updBlock l b f).readByte a' = s.readByte a' := rfl
@[simp] theorem setEnt_readByte l e a' : (s.setEnt l e).readByte a' = s.readByte a' := rfl
@[simp] theorem setTrans_readByte k t a' : (s.setTrans k t).readByte a' = s.readByte a' := rfl
@[simp] theorem updPeer_readByte p f a' : (s.updPeer p f).readByte a' = s.readByte a' := rfl
@[simp] theorem setPent_readByte l e a' : (s.setPent l e).readByte a' = s.readByte a' := rfl
@[simp] theorem setReq_readByte i r a' : (s.setReq i r).readByte a' = s.readByte a' := rfl
@[simp] theorem updFport_readByte f g a' : (s.updFport f g).readByte a' = s.readByte a' := rfl
@[simp] theorem updTen_readByte t f a' : (s.updTen t f).readByte a' = s.readByte a' := rfl
@[simp] theorem updId_readByte h f a' : (s.updId h f).readByte a' = s.readByte a' := rfl
@[simp] theorem updRgn_readByte r f a' : (s.updRgn r f).readByte a' = s.readByte a' := rfl
@[simp] theorem queueCmd_readByte c a' : (s.queueCmd c).readByte a' = s.readByte a' := rfl
@[simp] theorem updPort_readByte p f a' : (s.updPort p f).readByte a' = s.readByte a' := rfl
@[simp] theorem updColl_readByte i f a' : (s.updColl i f).readByte a' = s.readByte a' := rfl
@[simp] theorem updCrun_readByte i f a' : (s.updCrun i f).readByte a' = s.readByte a' := rfl
@[simp] theorem updLane_readByte n f a' : (s.updLane n f).readByte a' = s.readByte a' := rfl
@[simp] theorem updPu_readByte p f a' : (s.updPu p f).readByte a' = s.readByte a' := rfl
@[simp] theorem updPart_readByte p a d f a' : (s.updPart p a d f).readByte a' = s.readByte a' := rfl
@[simp] theorem updArr_readByte p a f a' : (s.updArr p a f).readByte a' = s.readByte a' := rfl
@[simp] theorem updJob_readByte n f a' : (s.updJob n f).readByte a' = s.readByte a' := rfl
@[simp] theorem updLay_readByte n f a' : (s.updLay n f).readByte a' = s.readByte a' := rfl
@[simp] theorem updFn_readByte k f a' : (s.updFn k f).readByte a' = s.readByte a' := rfl
@[simp] theorem fnCause_readByte k c a' : (s.fnCause k c).readByte a' = s.readByte a' := rfl
@[simp] theorem tierCount_readByte sel a' : (s.tierCount sel).readByte a' = s.readByte a' := rfl
@[simp] theorem dirCount_readByte sel n a' : (s.dirCount sel n).readByte a' = s.readByte a' := rfl
@[simp] theorem updSpdm_readByte v f a' : (s.updSpdm v f).readByte a' = s.readByte a' := rfl
@[simp] theorem updPage_readByte p f a' : (s.updPage p f).readByte a' = s.readByte a' := rfl
@[simp] theorem setPoison_readByte l b a' : (s.setPoison l b).readByte a' = s.readByte a' := rfl
@[simp] theorem inFrame_readByte n a' : (s.inFrame n).readByte a' = s.readByte a' := rfl
@[simp] theorem pathTaken_readByte src a' : (s.pathTaken src).readByte a' = s.readByte a' := rfl
@[simp] theorem pageCause_readByte p a' : (s.pageCause p).readByte a' = s.readByte a' := by unfold State.readByte; rw [pageCause_mem]
@[simp] theorem setEvt_readByte p b a' : (s.setEvt p b).readByte a' = s.readByte a' := by unfold State.readByte; rw [setEvt_mem]
@[simp] theorem setSvcEvt_readByte b a' : (s.setSvcEvt b).readByte a' = s.readByte a' := by unfold State.readByte; rw [setSvcEvt_mem]
@[simp] theorem charge_readByte g i sub o c a' : (s.charge g i sub o c).readByte a' = s.readByte a' := by unfold State.readByte; rw [charge_mem]
@[simp] theorem chargeSplit_readByte g i sub o c a' : (s.chargeSplit g i sub o c).readByte a' = s.readByte a' := by unfold State.readByte; rw [chargeSplit_mem]
@[simp] theorem updFnOf_readByte x f a' : (s.updFnOf x f).readByte a' = s.readByte a' := by unfold State.readByte; rw [updFnOf_mem]
@[simp] theorem doePut_readByte v a' : (s.doePut v).readByte a' = s.readByte a' := by unfold State.readByte; rw [doePut_mem]
@[simp] theorem keepEntry_readByte e a' : (s.keepEntry e).readByte a' = s.readByte a' := by unfold State.readByte; rw [keepEntry_mem]
@[simp] theorem logE_readByte ev sev t p a v a' : (s.logE ev sev t p a v).readByte a' = s.readByte a' := by unfold State.readByte; rw [logE_mem]
@[simp] theorem retireAdvice_readByte k r l p a' : (s.retireAdvice k r l p).readByte a' = s.readByte a' := by unfold State.readByte; rw [retireAdvice_mem]
@[simp] theorem lockWrite_readByte a' : (s.lockWrite).readByte a' = s.readByte a' := by unfold State.readByte; rw [lockWrite_mem]
@[simp] theorem transmit_readByte f q a' : (s.transmit f q).readByte a' = s.readByte a' := by unfold State.readByte; rw [transmit_mem]
@[simp] theorem sendRaw_readByte f b a' : (s.sendRaw f b).readByte a' = s.readByte a' := by unfold State.readByte; rw [sendRaw_mem]
@[simp] theorem mbReply_readByte f c d a' : (s.mbReply f c d).readByte a' = s.readByte a' := by unfold State.readByte; rw [mbReply_mem]
@[simp] theorem fmReply_readByte c l a' : (s.fmReply c l).readByte a' = s.readByte a' := by unfold State.readByte; rw [fmReply_mem]
@[simp] theorem mgmtReply_readByte a v a' : (s.mgmtReply a v).readByte a' = s.readByte a' := by unfold State.readByte; rw [mgmtReply_mem]

@[simp] theorem ite_hdr {c : Prop} [Decidable c] (a b : State) p' : (if c then a else b).hdr p' = if c then a.hdr p' else b.hdr p' := by split <;> rfl
@[simp] theorem keeping_hdr k t p' : (s.keeping k t).hdr p' = t.hdr p' := rfl
@[simp] theorem emit_hdr o p' : (s.emit o).hdr p' = s.hdr p' := rfl
@[simp] theorem setReg_hdr ofs v p' : (s.setReg ofs v).hdr p' = s.hdr p' := rfl
@[simp] theorem bump_hdr ofs sel n p' : (s.bump ofs sel n).hdr p' = s.hdr p' := rfl
@[simp] theorem clearCtr_hdr ofs sel p' : (s.clearCtr ofs sel).hdr p' = s.hdr p' := rfl
@[simp] theorem mgmtCause_hdr v p' : (s.mgmtCause v).hdr p' = s.hdr p' := rfl
@[simp] theorem updUnit_hdr k i f p' : (s.updUnit k i f).hdr p' = s.hdr p' := rfl
@[simp] theorem useTake_hdr g i sub o c p' : (s.useTake g i sub o c).hdr p' = s.hdr p' := rfl
@[simp] theorem overrun_hdr g i o x p' : (s.overrun g i o x).hdr p' = s.hdr p' := rfl
@[simp] theorem updChan_hdr c f p' : (s.updChan c f).hdr p' = s.hdr p' := rfl
@[simp] theorem updFc_hdr l f p' : (s.updFc l f).hdr p' = s.hdr p' := rfl
@[simp] theorem updRet_hdr i f p' : (s.updRet i f).hdr p' = s.hdr p' := rfl
@[simp] theorem setLatch_hdr a b v p' : (s.setLatch a b v).hdr p' = s.hdr p' := rfl
@[simp] theorem mgmtTake_hdr src p' : (s.mgmtTake src).hdr p' = s.hdr p' := rfl
@[simp] theorem updRing_hdr r f p' : (s.updRing r f).hdr p' = s.hdr p' := rfl
@[simp] theorem updRunOf_hdr n f p' : (s.updRunOf n f).hdr p' = s.hdr p' := rfl
@[simp] theorem updLun_hdr k f p' : (s.updLun k f).hdr p' = s.hdr p' := rfl
@[simp] theorem updRec_hdr n f p' : (s.updRec n f).hdr p' = s.hdr p' := rfl
@[simp] theorem updBlock_hdr l b f p' : (s.updBlock l b f).hdr p' = s.hdr p' := rfl
@[simp] theorem setEnt_hdr l e p' : (s.setEnt l e).hdr p' = s.hdr p' := rfl
@[simp] theorem setTrans_hdr k t p' : (s.setTrans k t).hdr p' = s.hdr p' := rfl
@[simp] theorem updPeer_hdr p f p' : (s.updPeer p f).hdr p' = s.hdr p' := rfl
@[simp] theorem setPent_hdr l e p' : (s.setPent l e).hdr p' = s.hdr p' := rfl
@[simp] theorem setReq_hdr i r p' : (s.setReq i r).hdr p' = s.hdr p' := rfl
@[simp] theorem updFport_hdr f g p' : (s.updFport f g).hdr p' = s.hdr p' := rfl
@[simp] theorem updTen_hdr t f p' : (s.updTen t f).hdr p' = s.hdr p' := rfl
@[simp] theorem updId_hdr h f p' : (s.updId h f).hdr p' = s.hdr p' := rfl
@[simp] theorem updRgn_hdr r f p' : (s.updRgn r f).hdr p' = s.hdr p' := rfl
@[simp] theorem queueCmd_hdr c p' : (s.queueCmd c).hdr p' = s.hdr p' := rfl
@[simp] theorem updPort_hdr p f p' : (s.updPort p f).hdr p' = s.hdr p' := rfl
@[simp] theorem updColl_hdr i f p' : (s.updColl i f).hdr p' = s.hdr p' := rfl
@[simp] theorem updCrun_hdr i f p' : (s.updCrun i f).hdr p' = s.hdr p' := rfl
@[simp] theorem updLane_hdr n f p' : (s.updLane n f).hdr p' = s.hdr p' := rfl
@[simp] theorem updPu_hdr p f p' : (s.updPu p f).hdr p' = s.hdr p' := rfl
@[simp] theorem updPart_hdr p a d f p' : (s.updPart p a d f).hdr p' = s.hdr p' := rfl
@[simp] theorem updArr_hdr p a f p' : (s.updArr p a f).hdr p' = s.hdr p' := rfl
@[simp] theorem updJob_hdr n f p' : (s.updJob n f).hdr p' = s.hdr p' := rfl
@[simp] theorem updLay_hdr n f p' : (s.updLay n f).hdr p' = s.hdr p' := rfl
@[simp] theorem updFn_hdr k f p' : (s.updFn k f).hdr p' = s.hdr p' := rfl
@[simp] theorem fnCause_hdr k c p' : (s.fnCause k c).hdr p' = s.hdr p' := rfl
@[simp] theorem tierCount_hdr sel p' : (s.tierCount sel).hdr p' = s.hdr p' := rfl
@[simp] theorem dirCount_hdr sel n p' : (s.dirCount sel n).hdr p' = s.hdr p' := rfl
@[simp] theorem updSpdm_hdr v f p' : (s.updSpdm v f).hdr p' = s.hdr p' := rfl
@[simp] theorem updPage_hdr p f p' : (s.updPage p f).hdr p' = s.hdr p' := rfl
@[simp] theorem writeByte_hdr a b p' : (s.writeByte a b).hdr p' = s.hdr p' := rfl
@[simp] theorem setPoison_hdr l b p' : (s.setPoison l b).hdr p' = s.hdr p' := rfl
@[simp] theorem inFrame_hdr n p' : (s.inFrame n).hdr p' = s.hdr p' := rfl
@[simp] theorem pathTaken_hdr src p' : (s.pathTaken src).hdr p' = s.hdr p' := rfl
@[simp] theorem pageCause_hdr p p' : (s.pageCause p).hdr p' = s.hdr p' := by unfold State.hdr; rw [pageCause_hdrs]
@[simp] theorem setSvcEvt_hdr b p' : (s.setSvcEvt b).hdr p' = s.hdr p' := by unfold State.hdr; rw [setSvcEvt_hdrs]
@[simp] theorem charge_hdr g i sub o c p' : (s.charge g i sub o c).hdr p' = s.hdr p' := by unfold State.hdr; rw [charge_hdrs]
@[simp] theorem chargeSplit_hdr g i sub o c p' : (s.chargeSplit g i sub o c).hdr p' = s.hdr p' := by unfold State.hdr; rw [chargeSplit_hdrs]
@[simp] theorem updFnOf_hdr x f p' : (s.updFnOf x f).hdr p' = s.hdr p' := by unfold State.hdr; rw [updFnOf_hdrs]
@[simp] theorem doePut_hdr v p' : (s.doePut v).hdr p' = s.hdr p' := by unfold State.hdr; rw [doePut_hdrs]
@[simp] theorem transmit_hdr f q p' : (s.transmit f q).hdr p' = s.hdr p' := by unfold State.hdr; rw [transmit_hdrs]
@[simp] theorem sendRaw_hdr f b p' : (s.sendRaw f b).hdr p' = s.hdr p' := by unfold State.hdr; rw [sendRaw_hdrs]
@[simp] theorem mbReply_hdr f c d p' : (s.mbReply f c d).hdr p' = s.hdr p' := by unfold State.hdr; rw [mbReply_hdrs]
@[simp] theorem fmReply_hdr c l p' : (s.fmReply c l).hdr p' = s.hdr p' := by unfold State.hdr; rw [fmReply_hdrs]

@[simp] theorem draw_hport p' : (s.draw).2.hport p' = s.hport p' := rfl
@[simp] theorem draw_ten t' : (s.draw).2.ten t' = s.ten t' := rfl
@[simp] theorem draw_ident h' : (s.draw).2.ident h' = s.ident h' := rfl
@[simp] theorem draw_rgn r' : (s.draw).2.rgn r' = s.rgn r' := rfl
@[simp] theorem draw_page p' : (s.draw).2.page p' = s.page p' := rfl
@[simp] theorem draw_fport f' : (s.draw).2.fport f' = s.fport f' := rfl
@[simp] theorem draw_ring r' : (s.draw).2.ring r' = s.ring r' := rfl
@[simp] theorem draw_run n' : (s.draw).2.run n' = s.run n' := rfl
@[simp] theorem draw_unit k' i' : (s.draw).2.unit k' i' = s.unit k' i' := rfl
@[simp] theorem draw_reg o' : (s.draw).2.reg o' = s.reg o' := rfl
@[simp] theorem draw_regF p' r' a' b' : (s.draw).2.regF p' r' a' b' = s.regF p' r' a' b' := rfl
@[simp] theorem draw_ctr o' n' : (s.draw).2.ctr o' n' = s.ctr o' n' := rfl
@[simp] theorem draw_fn k' : (s.draw).2.fn k' = s.fn k' := rfl
@[simp] theorem draw_chan c' : (s.draw).2.chan c' = s.chan c' := rfl
@[simp] theorem draw_dirEnt l' : (s.draw).2.dirEnt l' = s.dirEnt l' := rfl
@[simp] theorem draw_trans k' : (s.draw).2.trans k' = s.trans k' := rfl
@[simp] theorem draw_isPoison l' : (s.draw).2.isPoison l' = s.isPoison l' := rfl
@[simp] theorem draw_readByte a' : (s.draw).2.readByte a' = s.readByte a' := rfl
@[simp] theorem draw_hdr p' : (s.draw).2.hdr p' = s.hdr p' := rfl
@[simp] theorem idCause_hport h c p' : (s.idCause h c).hport p' = s.hport p' := by unfold State.hport; rw [idCause_hports]
@[simp] theorem idCause_ten h c t' : (s.idCause h c).ten t' = s.ten t' := by unfold State.ten; rw [idCause_tenants]
@[simp] theorem idCause_ident h c h' : (s.idCause h c).ident h' = s.ident h' := by unfold State.ident; rw [idCause_tables]
@[simp] theorem idCause_rgn h c r' : (s.idCause h c).rgn r' = s.rgn r' := by unfold State.rgn; rw [idCause_tables]
@[simp] theorem idCause_page h c p' : (s.idCause h c).page p' = s.page p' := by unfold State.page; rw [idCause_tier]
@[simp] theorem idCause_fport h c f' : (s.idCause h c).fport f' = s.fport f' := by unfold State.fport; rw [idCause_fab]
@[simp] theorem idCause_ring h c r' : (s.idCause h c).ring r' = s.ring r' := by unfold State.ring; rw [idCause_cues]
@[simp] theorem idCause_run h c n' : (s.idCause h c).run n' = s.run n' := by unfold State.run; rw [idCause_cues]
@[simp] theorem idCause_unit h c k' i' : (s.idCause h c).unit k' i' = s.unit k' i' := by unfold State.unit; rw [idCause_svc]
@[simp] theorem idCause_reg h c o' : (s.idCause h c).reg o' = s.reg o' := by unfold State.reg; rw [idCause_regs]
@[simp] theorem idCause_regF h c p' r' a' b' : (s.idCause h c).regF p' r' a' b' = s.regF p' r' a' b' := by unfold State.regF; rw [idCause_reg]
@[simp] theorem idCause_ctr h c o' n' : (s.idCause h c).ctr o' n' = s.ctr o' n' := by unfold State.ctr; rw [idCause_ctrs]
@[simp] theorem idCause_chan h c c' : (s.idCause h c).chan c' = s.chan c' := by unfold State.chan; rw [idCause_chans]
@[simp] theorem idCause_dirEnt h c l' : (s.idCause h c).dirEnt l' = s.dirEnt l' := by unfold State.dirEnt; rw [idCause_dir]
@[simp] theorem idCause_trans h c k' : (s.idCause h c).trans k' = s.trans k' := by unfold State.trans; rw [idCause_dir]
@[simp] theorem idCause_isPoison h c l' : (s.idCause h c).isPoison l' = s.isPoison l' := by unfold State.isPoison; rw [idCause_poison]
@[simp] theorem idCause_readByte h c a' : (s.idCause h c).readByte a' = s.readByte a' := by unfold State.readByte; rw [idCause_mem]
@[simp] theorem idCause_hdr h c p' : (s.idCause h c).hdr p' = s.hdr p' := by unfold State.hdr; rw [idCause_hdrs]
@[simp] theorem tenCause_hport t c p' : (s.tenCause t c).hport p' = s.hport p' := by unfold State.hport; rw [tenCause_hports]
@[simp] theorem tenCause_ten t c t' : (s.tenCause t c).ten t' = s.ten t' := by unfold State.ten; rw [tenCause_tenants]
@[simp] theorem tenCause_ident t c h' : (s.tenCause t c).ident h' = s.ident h' := by unfold State.ident; rw [tenCause_tables]
@[simp] theorem tenCause_rgn t c r' : (s.tenCause t c).rgn r' = s.rgn r' := by unfold State.rgn; rw [tenCause_tables]
@[simp] theorem tenCause_page t c p' : (s.tenCause t c).page p' = s.page p' := by unfold State.page; rw [tenCause_tier]
@[simp] theorem tenCause_fport t c f' : (s.tenCause t c).fport f' = s.fport f' := by unfold State.fport; rw [tenCause_fab]
@[simp] theorem tenCause_ring t c r' : (s.tenCause t c).ring r' = s.ring r' := by unfold State.ring; rw [tenCause_cues]
@[simp] theorem tenCause_run t c n' : (s.tenCause t c).run n' = s.run n' := by unfold State.run; rw [tenCause_cues]
@[simp] theorem tenCause_unit t c k' i' : (s.tenCause t c).unit k' i' = s.unit k' i' := by unfold State.unit; rw [tenCause_svc]
@[simp] theorem tenCause_reg t c o' : (s.tenCause t c).reg o' = s.reg o' := by unfold State.reg; rw [tenCause_regs]
@[simp] theorem tenCause_regF t c p' r' a' b' : (s.tenCause t c).regF p' r' a' b' = s.regF p' r' a' b' := by unfold State.regF; rw [tenCause_reg]
@[simp] theorem tenCause_ctr t c o' n' : (s.tenCause t c).ctr o' n' = s.ctr o' n' := by unfold State.ctr; rw [tenCause_ctrs]
@[simp] theorem tenCause_chan t c c' : (s.tenCause t c).chan c' = s.chan c' := by unfold State.chan; rw [tenCause_chans]
@[simp] theorem tenCause_dirEnt t c l' : (s.tenCause t c).dirEnt l' = s.dirEnt l' := by unfold State.dirEnt; rw [tenCause_dir]
@[simp] theorem tenCause_trans t c k' : (s.tenCause t c).trans k' = s.trans k' := by unfold State.trans; rw [tenCause_dir]
@[simp] theorem tenCause_isPoison t c l' : (s.tenCause t c).isPoison l' = s.isPoison l' := by unfold State.isPoison; rw [tenCause_poison]
@[simp] theorem tenCause_readByte t c a' : (s.tenCause t c).readByte a' = s.readByte a' := by unfold State.readByte; rw [tenCause_mem]
@[simp] theorem tenCause_hdr t c p' : (s.tenCause t c).hdr p' = s.hdr p' := by unfold State.hdr; rw [tenCause_hdrs]

end Sys2Proof.Machine
end

