-- ==== Sys2Proof/Laws/Ports.lean ====
section
/-!
SUPPORT. A hold cause on a host port: all that it can do.
-/

namespace Sys2Proof.Machine

open Sys2Proof

variable (s : State)

/-- The port's record after a hold cause (R224, R230). -/
theorem holdCause_hport (p c w : Nat) :
    (s.holdCause p c w).hport p =
      let h := s.hport p
      let a : HPort := { h with reelCauses := h.reelCauses + 1, advised := h.advised || decide (16 < h.reelCauses + 1) }
      if h.hold = .run ∨ h.hold = .releasing then { a with hold := .freeze, cause := c, frozen := true, release := false } else a := by
  have e : ∀ (c : Prop) [Decidable c] (m : MgmtS) (u : State), (if c then { u with mgmt := m } else u : State).hport p = u.hport p := by
    intro c _ m u; split <;> rfl
  unfold State.holdCause
  dsimp only
  by_cases h2 : (s.hport p).hold = .run ∨ (s.hport p).hold = .releasing
  · rw [if_pos h2, if_pos h2, e]
    cases ha : (s.hport p).advised <;> by_cases h1 : 16 < (s.hport p).reelCauses + 1 <;> simp [ha, h1]
  · rw [if_neg h2, if_neg h2]
    cases ha : (s.hport p).advised <;> by_cases h1 : 16 < (s.hport p).reelCauses + 1 <;> simp [ha, h1]

/-- The parts a hold cause writes. -/
theorem only_holdCause (p c w : Nat) : Only [.ctrs, .hports, .log, .hdrs, .mfn, .mgmt] s (s.holdCause p c w) := by
  unfold State.holdCause
  by_cases h1 : 16 < (s.hport p).reelCauses + 1 ∧ (s.hport p).advised = false <;>
    by_cases h2 : (s.hport p).hold = .run ∨ (s.hport p).hold = .releasing <;> simp only [h1, h2, if_true, if_false] <;>
    intro q hq <;> cases q <;> first | exact absurd (by decide) hq | simp [Part.Same]

theorem bitsKept_holdCause (p c w : Nat) : BitsKept s (s.holdCause p c w) := by
  unfold State.holdCause
  dsimp only
  have h2 : BitsKept s (if 16 < (s.hport p).reelCauses + 1 ∧ (s.hport p).advised = false then
      ((((s.bump (ofsOf (pgHPORT p) 0x54) 0 1).updPort p fun h => { h with reelCauses := (s.hport p).reelCauses + 1 }).updPort p
        fun h => { h with advised := true }).retireAdvice 10 0x0401 p (pgHPORT p))
      else ((s.bump (ofsOf (pgHPORT p) 0x54) 0 1).updPort p fun h => { h with reelCauses := (s.hport p).reelCauses + 1 })) :=
    bitsKept_ite (BitsKept.trans (BitsKept.of_hdrs (by rfl)) (bitsKept_retireAdvice _ _ _ _ _)) (BitsKept.of_hdrs (by rfl))
  have e : ∀ (c : Prop) [Decidable c] (m : MgmtS) (u : State), BitsKept u (if c then { u with mgmt := m } else u : State) := by
    intro c _ m u; split <;> exact BitsKept.of_hdrs (by rfl)
  refine bitsKept_ite (BitsKept.trans ?_ (e _ _ _)) h2
  exact BitsKept.trans h2 (BitsKept.trans (BitsKept.of_hdrs (by rfl)) (BitsKept.trans (bitsKept_setEvt _ _ _) (bitsKept_logE _ _ _ _ _ _ _)))

/-- Where it freezes the port, the port's first event is set. -/
theorem holdCause_sets {p c w : Nat} (h : (s.hport p).hold = .run ∨ (s.hport p).hold = .releasing) :
    ((s.holdCause p c w).hdr (pgHPORT p)).stat.getLsbD 0 = true := by
  have e : ∀ (c : Prop) [Decidable c] (m : MgmtS) (u : State), (if c then { u with mgmt := m } else u : State).hdr (pgHPORT p) = u.hdr (pgHPORT p) := by
    intro c _ m u; split <;> rfl
  unfold State.holdCause
  dsimp only
  rw [if_pos h, e]
  exact bitsKept_logE _ _ _ _ _ _ _ _ _ (setEvt_sets _ _ (by decide))

end Sys2Proof.Machine
end

