-- ==== Sys2Proof/Laws/Cues.lean ====
section
/-!
SUPPORT. The end of a cue, of a press job and of a lay: what each writes, and the record of the cue that ended.
-/

namespace Sys2Proof.Machine

open Sys2Proof

variable (s : State)

/-! ### Running cues read back -/

theorem run_updRunOf_same {n : Nat} {c : CueRun} (h : s.run n = some c) (f : CueRun → CueRun) : (s.updRunOf n f).run n = some (f c) := by
  have key : ∀ l : List (Nat × CueRun), ((l.map fun e => if e.1 = n then (n, f e.2) else e).find? fun e => e.1 == n).map (·.2)
      = ((l.find? fun e => e.1 == n).map (·.2)).map f := by
    intro l
    induction l with
    | nil => rfl
    | cons x xs ih =>
      by_cases hx : x.1 = n
      · simp [hx]
      · have h1 : (x.1 == n) = false := by simp [hx]
        simp only [List.map_cons, hx, if_false, List.find?_cons, h1]
        exact ih
  unfold State.run State.updRunOf at *
  rw [key, h]; rfl

theorem run_of_cues {t u : State} (h : t.cues.runs = u.cues.runs) (n : Nat) : t.run n = u.run n := by unfold State.run; rw [h]

/-! ### The end of a cue (R596, R597) -/

theorem only_resultOf (v : Option Nat) : Only [.freeIx] s (s.resultOf v).2 := by
  unfold State.resultOf; split
  · exact Only.refl _ _
  · exact only_draw _

theorem only_ringStop (r st i f : Nat) : Only [.cues, .fns] s (s.ringStop r st i f) := by
  unfold State.ringStop
  refine Only.ite (Only.refl _ _) ?_
  exact Only.trans ((only_updRing _ _ _).mono (by decide)) ((only_fnCause _ _ _).mono (by decide))

theorem ringStop_run (r st i f n : Nat) : (s.ringStop r st i f).run n = s.run n := by
  unfold State.ringStop; split <;> rfl

theorem only_cueEnd (n st : Nat) (r0 r1 : Option Nat) : Only [.cues, .fns, .ctrs, .freeIx] s (s.cueEnd n st r0 r1) := by
  unfold State.cueEnd
  split
  · exact Only.refl _ _
  · refine Only.ite (Only.refl _ _) ?_
    refine Only.trans ((only_resultOf s r0).mono (by decide)) (Only.trans ((only_resultOf _ r1).mono (by decide)) ?_)
    dsimp only
    have h : ∀ (u : State) (f : CueRun → CueRun) (k : Nat), Only [.cues, .fns, .ctrs, .freeIx] u
        { u.updRunOf n f with cues := { (u.updRunOf n f).cues with ends := k } } := by
      intro u f k p hp; cases p <;> first | exact absurd (by decide) hp | rfl
    have stop : ∀ (w : State) (a b c d e i j k : Nat), Only [.cues, .fns, .ctrs, .freeIx] w (((w.ringStop a b c d).cueCount e i 1).cueCount e j k) := by
      intro w a b c d e i j k
      exact Only.trans (Only.trans ((only_ringStop _ _ _ _ _).mono (by decide)) ((only_bump _ _ _ _).mono (by decide))) ((only_bump _ _ _ _).mono (by decide))
    refine Only.ite (h _ _ _) (Only.trans ?_ (stop _ _ _ _ _ _ _ _ _))
    exact h _ _ _

/-- The record of the cue that ended: its status, the end's number and frame, and its results where they are given. -/
theorem cueEnd_run {n : Nat} {c : CueRun} (h : s.run n = some c) (hp : c.phase < 2) (st : Nat) (r0 r1 : Option Nat) :
    ∃ d, (s.cueEnd n st r0 r1).run n = some d ∧ d.phase = 2 ∧ d.status = st ∧ d.ended = s.cues.ends ∧ d.endAt = s.frame.num
      ∧ (∀ v, r0 = some v → d.r0 = v) ∧ (∀ v, r1 = some v → d.r1 = v) ∧ d.bytes = c.bytes ∧ d.ring = c.ring ∧ d.poison = c.poison
      ∧ d.tenant = c.tenant ∧ d.fn = c.fn ∧ d.origin = c.origin := by
  have hr : ∀ (u : State) (v : Option Nat), (u.resultOf v).2.cues = u.cues := fun u v => only_resultOf u v .cues (by decide)
  have hrun : (((s.resultOf r0).2.resultOf r1).2).run n = some c := by
    rw [run_of_cues (t := ((s.resultOf r0).2.resultOf r1).2) (u := s) (by rw [hr, hr])]; exact h
  unfold State.cueEnd
  rw [h]
  dsimp only
  rw [if_neg (by omega)]
  have key : ∀ (f : CueRun → CueRun) (k : Nat), State.run
      { (((s.resultOf r0).2.resultOf r1).2).updRunOf n f with cues := { ((((s.resultOf r0).2.resultOf r1).2).updRunOf n f).cues with ends := k } } n = some (f c) := by
    intro f k; exact run_updRunOf_same _ hrun f
  have stop : ∀ (u : State) (a b c d e i j k : Nat), (((u.ringStop a b c d).cueCount e i 1).cueCount e j k).run n = u.run n := by
    intro u a b c d e i j k; exact ringStop_run u _ _ _ _ _
  split
  · exact ⟨_, key _ _, rfl, rfl, rfl, rfl, fun v hv => by subst hv; rfl, fun v hv => by subst hv; rfl, rfl, rfl, rfl, rfl, rfl, rfl⟩
  · exact ⟨_, (stop _ _ _ _ _ _ _ _ _).trans (key _ _), rfl, rfl, rfl, rfl, fun v hv => by subst hv; rfl, fun v hv => by subst hv; rfl,
      rfl, rfl, rfl, rfl, rfl, rfl⟩

/-! ### The end of a press job and of a lay -/

theorem only_bufDrop (k : Nat) : Only [.fab] s (s.bufDrop k) := by
  intro p hp; cases p <;> first | exact absurd (by decide) hp | rfl

theorem only_bufPut (k l : Nat) (b : List Byte) (x : Bool) : Only [.fab] s (s.bufPut k l b x) := by
  intro p hp; cases p <;> first | exact absurd (by decide) hp | rfl

theorem only_cueReject (n v w : Nat) : Only [.cues, .fns, .ctrs, .freeIx] s (s.cueReject n v w) := by
  unfold State.cueReject
  exact Only.trans ((only_draw s).mono (by decide)) (only_cueEnd _ _ _ _ _)

theorem only_jobFree (n : Nat) : Only [.press, .fab] s (s.jobFree n) := by
  unfold State.jobFree
  split
  · exact Only.refl _ _
  · dsimp only
    refine Only.trans ?_ (Only.forEach (fun u a => Only.forEach (fun u d => ?_) _ u) _ _)
    · exact Only.trans ((only_with_press _ _).mono (by decide)) ((only_bufDrop _ _).mono (by decide))
    · unfold State.driftSettle
      refine Only.ite (Only.refl _ _) (Only.forEach (fun u b => Only.ite ?_ (Only.refl _ _)) _ _)
      exact (only_updPart _ _ _ _ _).mono (by decide)

theorem only_jobEnd (n st : Nat) (r0 : Option Nat) : Only [.press, .fab, .cues, .fns, .ctrs, .freeIx] s (s.jobEnd n st r0) := by
  unfold State.jobEnd
  split
  · exact Only.refl _ _
  · refine Only.trans (Only.ite ((only_jobFree s n).mono (by decide)) ?_) ((only_cueEnd _ _ _ _ _).mono (by decide))
    exact (only_updJob _ _ _).mono (by decide)

theorem only_jobCancel (n : Nat) : Only [.press, .fab, .cues, .fns, .ctrs, .freeIx] s (s.jobCancel n) := by
  unfold State.jobCancel; split
  · exact Only.refl _ _
  · exact only_jobEnd _ _ _ _

theorem only_jobRefuse (n : Nat) (j : PressJob) (c p : Nat) : Only [.press, .cues, .fns, .ctrs, .hdrs, .mfn, .freeIx] s (s.jobRefuse n j c p) := by
  unfold State.jobRefuse
  refine Only.trans (t := State.setEvt _ _ _) ?_ ((only_cueReject _ _ _ _).mono (by decide))
  intro q hq; cases q <;> first | exact absurd (by decide) hq | simp [Part.Same, State.jobCount]

theorem only_layDrop (n : Nat) : Only [.press, .fab] s (s.layDrop n) := by
  intro p hp; cases p <;> first | exact absurd (by decide) hp | rfl

theorem only_layStop (n : Nat) (l : LayJob) : Only [.press, .fab, .cues, .fns, .ctrs, .hdrs, .mfn, .freeIx] s (s.layStop n l) := by
  unfold State.layStop
  refine Only.trans (Only.trans (Only.ite (Only.refl _ _) (Only.forEach (fun u a => ?_) _ _)) ((only_layDrop _ _).mono (by decide))) (Only.foldl (fun u e => ?_) _ _)
  · exact (only_updPart _ _ _ _ _).mono (by decide)
  · exact (only_jobRefuse _ _ _ _ _).mono (by decide)

theorem only_layCancel (n : Nat) : Only [.press, .fab, .cues, .fns, .ctrs, .hdrs, .mfn, .freeIx] s (s.layCancel n) := by
  unfold State.layCancel; split
  · exact Only.refl _ _
  · exact Only.trans (only_layStop _ _ _) ((only_cueEnd _ _ _ _ _).mono (by decide))

/-! ### Cancellation (R602) -/

theorem only_cancelRings (hit : Nat → Bool) : Only [.cues, .fns, .ctrs, .tier, .freeIx] s (s.cancelRings hit) := by
  unfold State.cancelRings
  dsimp only
  refine Only.trans (Only.trans ?_ ((only_with_tier _ _).mono (by decide))) (Only.foldl (fun u r => ?_) _ _)
  · exact Only.foldl (fun u (e : Nat × CueRun) => (only_cueEnd u e.1 csCANCELLED none none).mono (by decide)) _ s
  · split
    · refine Only.ite (Only.trans ((only_draw u).mono (by decide)) ((only_ringStop _ _ _ _ _).mono (by decide))) (Only.refl _ _)
    · exact Only.refl _ _

theorem only_cancelCues (hit : Nat → Bool) : Only [.press, .fab, .cues, .fns, .ctrs, .hdrs, .mfn, .tier, .freeIx] s (s.cancelCues hit) := by
  unfold State.cancelCues
  dsimp only
  refine Only.trans (Only.foldl (fun u (e : Nat × CueRun) => ?_) _ s) ((only_cancelRings _ _).mono (by decide))
  exact Only.trans ((only_jobCancel _ _).mono (by decide)) ((only_layCancel _ _).mono (by decide))

end Sys2Proof.Machine
end

