-- ==== Sys2Proof/Laws/Host.lean ====
section
/-!
SUPPORT. What the mailbox's answers and the poison operations do.
-/

namespace Sys2Proof.Machine

open Sys2Proof

/-! ### Readings that depend on few parts -/

theorem matchId_congr {s t : State} (ht : t.tables = s.tables) (hh : t.hports = s.hports) (hr : t.regs = s.regs) (p l x : Nat) :
    t.matchId p l x = s.matchId p l x := by
  cases s; cases t; cases ht; cases hh; cases hr; rfl

theorem fnTenant_congr {s t : State} (ht : t.tables = s.tables) (hh : t.hports = s.hports) (hr : t.regs = s.regs) (k : Nat) :
    t.fnTenant k = s.fnTenant k := by
  cases s; cases t; cases ht; cases hh; cases hr; rfl

theorem fnIdent_congr {s t : State} (ht : t.tables = s.tables) (hh : t.hports = s.hports) (hr : t.regs = s.regs) (k : Nat) :
    t.fnIdent k = s.fnIdent k := by
  cases s; cases t; cases ht; cases hh; cases hr; rfl

theorem sees_congr {s t : State} (ht : t.tables = s.tables) (hh : t.hports = s.hports) (hr : t.regs = s.regs) (f : Option Nat) (e : LogEntry) :
    t.sees f e = s.sees f e := by
  cases f with
  | none => rfl
  | some k => simp only [State.sees, fnTenant_congr ht hh hr]

/-! ### Answers of the mailbox -/

/-- A reply of the mailbox is an answer of it, and nothing else. -/
theorem mailboxAnswers_reply (s : State) (f : Option Nat) (code : Nat) (data : List Nat) :
    s.MailboxAnswers f code data (s.keeping {} (s.mbReply f code data)) := by
  refine ⟨by cases f <;> rfl, ?_, ?_, ?_⟩
  · rintro rfl; show 0 ∈ (addOnce 0 s.mfn.now); unfold addOnce; split <;> simp_all
  · intro h; cases f with
    | none => exact absurd rfl h
    | some k => rfl
  · intro p hp; cases f <;> cases p <;> first | exact absurd (by decide) hp | simp [Part.Same, State.keeping, State.mbReply]

theorem mailboxOp_up {s : State} {f : Option Nat} (h : s.mboxUp f = true) : (!s.mboxUp f) = false := by rw [h]; rfl

theorem fnOf_updFnOf (s : State) (f : Option Nat) (g : Fn → Fn) : (s.updFnOf f g).fnOf f = g (s.fnOf f) := by
  cases f with
  | none => rfl
  | some k => exact mapGet_upd_same _ _ _

@[simp] theorem keeping_fnOf (k : Touches) (s t : State) (f : Option Nat) : (s.keeping k t).fnOf f = t.fnOf f := by cases f <;> rfl
@[simp] theorem mbReply_cleared (s : State) (f : Option Nat) (c : Nat) (d : List Nat) : ((s.mbReply f c d).fnOf f).cleared = (s.fnOf f).cleared := by cases f <;> rfl
@[simp] theorem mbReply_dcRecs (s : State) (f : Option Nat) (c : Nat) (d : List Nat) : ((s.mbReply f c d).fnOf f).dcRecs = (s.fnOf f).dcRecs := by cases f <;> rfl
@[simp] theorem mbReply_policy (s : State) (f : Option Nat) (c : Nat) (d : List Nat) : ((s.mbReply f c d).fnOf f).policy = (s.fnOf f).policy := by cases f <;> rfl
@[simp] theorem mbReply_says (s : State) (f : Option Nat) (c : Nat) (d : List Nat) : (s.mbReply f c d).out = s.out ++ [.mbox (fnNum f) c d] := by cases f <;> rfl

/-! ### Poison marks and the list -/

@[simp] theorem setPoison_isPoison_same (s : State) (l : Nat) (b : Bool) : (s.setPoison l b).isPoison l = b := mapGet_put_same _ _ _
theorem setPoison_isPoison_other (s : State) {l k : Nat} (b : Bool) (h : k ≠ l) : (s.setPoison l b).isPoison k = s.isPoison k :=
  mapGet_put_other b h _

theorem only_plistAdd (s : State) (l : Nat) : Only [.log] s (s.plistAdd l) := by
  unfold State.plistAdd
  split
  · exact Only.refl _ _
  · exact only_with_log _ _

theorem plistAdd_mem (s : State) (l : Nat) : l ∈ (s.plistAdd l).log.plist := by
  unfold State.plistAdd
  split
  · assumption
  · simp

theorem only_plistDrop (s : State) (l : Nat) : Only [.log] s (s.plistDrop l) := only_with_log _ _
theorem plistDrop_mem (s : State) (l : Nat) : l ∉ (s.plistDrop l).log.plist := by simp [State.plistDrop]

theorem only_originPoison (s : State) (l : Nat) : Only [.poison, .log] s (s.originPoison l) :=
  ((only_setPoison s l true).mono (by decide)).trans ((only_plistAdd _ _).mono (by decide))

theorem originPoison_isPoison (s : State) (l k : Nat) : (s.originPoison l).isPoison k = (s.setPoison l true).isPoison k := by
  unfold State.originPoison State.plistAdd; split <;> rfl

end Sys2Proof.Machine
end

