-- ==== Sys2Proof/Laws/Dir.lean ====
section
/-!
SUPPORT. What the directory's transactions do where few are in progress.
-/

namespace Sys2Proof.Machine

open Sys2Proof

theorem dirRun_idle {s : State} (h : s.dir.trans = []) : ∀ n, s.dirRun n = s
  | 0 => rfl
  | n + 1 => by unfold State.dirRun; rw [h]; rfl

theorem issueSnoops_none {s : State} (h : s.dir.issue = []) : s.issueSnoops = s := by unfold State.issueSnoops; rw [h]; rfl

/-- A directory with nothing to do stays as it is. -/
theorem dirTick_idle {s : State} (h : s.DirIdle) : s.dirTick = s := by
  unfold State.dirTick
  simp only [dirRun_idle h.1, issueSnoops_none h.2]

/-- Changing each page of a list, with a change that done twice is done once. -/
theorem foldl_updPage_page (f : PageRec → PageRec) (hf : ∀ r, f (f r) = f r) (l : List Nat) (s : State) (q : Nat) :
    (l.foldl (fun (s : State) p => s.updPage p f) s).page q = if q ∈ l then f (s.page q) else s.page q := by
  induction l generalizing s with
  | nil => simp
  | cons x l ih =>
    rw [List.foldl_cons, ih]
    by_cases hx : q = x
    · subst hx; simp [hf]
    · rw [page_updPage_other _ _ hx]; simp [hx]

theorem only_foldl_updPage (f : PageRec → PageRec) (l : List Nat) (s : State) : Only [.tier] s (l.foldl (fun (s : State) p => s.updPage p f) s) :=
  Only.foldl (fun s p => only_updPage s p f) l s

/-- The end of an extent where no grant of the identity lies in it: the extent is gone, the pages of a region with an owner only
that no other extent covers are released, and nothing is recalled. -/
theorem dcEnd_quiet {s : State} {h base count : Nat} {e : Extent} (hd : s.DirIdle) (he : s.extents.find? (Extent.named h base count) = some e)
    (hn : ∀ x ∈ s.dir.ents, base ≤ granuleOfLine x.1 → granuleOfLine x.1 < base + count → s.holds x.2 h = false) :
    (s.dcEnd h base count).extents = s.extents.filter (fun e => !Extent.named h base count e)
    ∧ (∀ p, (s.dcEnd h base count).page p = if (s.rgn e.rgn).ownerOnly = true ∧ p ∈ s.pageKeys ∧ base ≤ granuleOfPage p ∧ granuleOfPage p < base + count
          ∧ ((s.extents.filter (fun e => !Extent.named h base count e)).any fun e => e.base ≤ granuleOfPage p && granuleOfPage p < e.base + e.count) = false
        then { s.page p with release := true } else s.page p)
    ∧ Only [.extents, .tier] s (s.dcEnd h base count) := by
  let s1 : State := { s with extents := s.extents.filter (fun e => !Extent.named h base count e) }
  have hk : (s1.dir.ents.filter fun x => (base ≤ granuleOfLine x.1 && granuleOfLine x.1 < base + count) && s1.holds x.2 h) = [] := by
    rw [List.filter_eq_nil_iff]
    intro x hx
    simp only [Bool.and_eq_true, decide_eq_true_eq, not_and, Bool.not_eq_true, and_imp]
    exact hn x hx
  let pl := (s1.pageKeys.filter fun p => base ≤ granuleOfPage p && granuleOfPage p < base + count
            && !(s1.extents.any fun e => e.base ≤ granuleOfPage p && granuleOfPage p < e.base + e.count))
  let s3 : State := if (s.rgn e.rgn).ownerOnly then pl.foldl (fun (s : State) p => s.updPage p fun x => { x with release := true }) s1 else s1
  let still := s1.extents.any fun x => x.base < base + count && base < x.base + x.count
  let s4 : State := if (s.rgn e.rgn).ownerOnly && !still then s3.leaveCalls (base * 262144) ((base + count) * 262144) else s3
  have o1 : Only [.extents, .tier] s s1 := (only_with_extents s _).mono (by decide)
  have o3 : Only [.tier] s1 s3 := by
    show Only [.tier] s1 (if (s.rgn e.rgn).ownerOnly then _ else s1)
    exact Only.ite (only_foldl_updPage _ _ _) (Only.refl _ _)
  have o4 : Only [.tier] s3 s4 := by
    show Only [.tier] s3 (if _ then _ else s3)
    exact Only.ite (only_with_tier _ _) (Only.refl _ _)
  have hd4 : s4.DirIdle := by
    have a := o4 .dir (by decide); have b := o3 .dir (by decide)
    simp only [Part.Same] at a b
    unfold State.DirIdle; rw [a, b]; exact hd
  have he' : s.dcEnd h base count = s4 := by
    have : s.dcEnd h base count = s4.dirTick := by
      unfold State.dcEnd
      have he2 : s.extents.find? (fun e => e.hid == h && e.base == base && e.count == count) = some e := he
      simp only [he2]
      have hk' := hk
      simp only [s1, Extent.named] at hk'
      rw [hk']
      rfl
    rw [this, dirTick_idle hd4]
  rw [he']
  refine ⟨?_, ?_, ?_⟩
  · have a := o4 .extents (by decide); have b := o3 .extents (by decide)
    simp only [Part.Same] at a b
    rw [a, b]
  · intro p
    have e4 : s4.page p = s3.page p := by
      show State.page (if _ then _ else s3) p = _
      split <;> rfl
    rw [e4]
    by_cases hw : (s.rgn e.rgn).ownerOnly = true
    · have : s3 = pl.foldl (fun (s : State) p => s.updPage p fun x => { x with release := true }) s1 := if_pos hw
      rw [this, foldl_updPage_page (fun x => { x with release := true }) (fun r => rfl)]
      have hm : p ∈ pl ↔ (s.rgn e.rgn).ownerOnly = true ∧ p ∈ s.pageKeys ∧ base ≤ granuleOfPage p ∧ granuleOfPage p < base + count
          ∧ ((s.extents.filter (fun e => !Extent.named h base count e)).any fun e => e.base ≤ granuleOfPage p && granuleOfPage p < e.base + e.count) = false := by
        simp only [pl, List.mem_filter, Bool.and_eq_true, decide_eq_true_eq, Bool.not_eq_true', hw, true_and, and_assoc]
        exact Iff.rfl
      by_cases hp : p ∈ pl
      · rw [if_pos hp, if_pos (hm.mp hp)]; rfl
      · rw [if_neg hp, if_neg (fun hh => hp (hm.mpr hh))]; rfl
    · have : s3 = s1 := if_neg hw
      rw [this, if_neg (fun hh => hw hh.1)]; rfl
  · exact o1.trans ((o3.mono (by decide)).trans (o4.mono (by decide)))

end Sys2Proof.Machine
end

