-- ==== Sys2Proof/Laws/Exec.lean ====
section
/-!
SUPPORT. How a meaning answers: always a next state, which keeps the queue and what its command does not touch.
-/

namespace Sys2Proof.Machine

open Sys2Proof

/-- Every command answers through `answer`. -/
theorem exec_answer (c : Instr) (s : State) : ∃ k t, exec c s = answer k s t := by
  cases c <;> exact ⟨_, _, rfl⟩

/-- Every command answers a next state. -/
theorem exec_next (c : Instr) (s : State) : ∃ k t, exec c s = .next (s.keeping k t) := exec_answer c s

@[simp] theorem step_nil {s : State} (h : s.pending = []) : step s = .next s := by simp [step, h]

theorem step_cons {s : State} {c : Instr} {rest : List Instr} (h : s.pending = c :: rest) : step s = exec c { s with pending := rest } := by
  simp [step, h]

@[simp] theorem keeping_pending (k : Touches) (s t : State) : (s.keeping k t).pending = s.pending := rfl
@[simp] theorem keeping_slate (k : Touches) (s t : State) : (s.keeping k t).slate = t.slate := rfl

end Sys2Proof.Machine
end

