-- ==== Sys2Proof/Laws/Memory.lean ====
section
/-!
SUPPORT. Memory: a byte read after a write is the byte written there or what was read before, and every operation keeps the
canonical form.
-/

namespace Sys2Proof.Machine

open Sys2Proof

variable (s : State)

/-! ### Reading after writing -/

theorem readByte_congr {s u : State} (h : u.mem = s.mem) (a : Nat) : u.readByte a = s.readByte a := by unfold State.readByte; rw [h]

theorem readByte_writeByte (a : Nat) (b : Byte) (x : Nat) : (s.writeByte a b).readByte x = if x = a then b else s.readByte x := by
  unfold State.readByte State.writeByte
  exact mapGet_put _ _ _ _

theorem readByte_writeBytes (l : List Byte) : ∀ (a : Nat) (s : State) (x : Nat),
    (State.writeBytes a l s).readByte x = if a ≤ x ∧ x < a + l.length then l.getD (x - a) 0#8 else s.readByte x := by
  induction l with
  | nil => intro a s x; rw [if_neg (by simp)]; rfl
  | cons b r ih =>
    intro a s x
    unfold State.writeBytes
    rw [ih, readByte_writeByte]
    by_cases h : x = a
    · subst h
      rw [if_neg (by omega), if_pos rfl, if_pos ⟨Nat.le_refl _, by simp⟩]
      simp
    · rw [if_neg h]
      by_cases h2 : a + 1 ≤ x ∧ x < a + 1 + r.length
      · rw [if_pos h2, if_pos ⟨by omega, by simp only [List.length_cons]; omega⟩]
        have : x - a = (x - (a + 1)) + 1 := by omega
        rw [this, List.getD_cons_succ]
      · rw [if_neg h2, if_neg (by simp only [List.length_cons]; omega)]

theorem only_writeBytes (l : List Byte) : ∀ (a : Nat) (s : State), Only [.mem] s (State.writeBytes a l s) := by
  induction l with
  | nil => intro a s; exact Only.refl _ _
  | cons b r ih => intro a s; exact Only.trans (only_writeByte _ _ _) (ih _ _)

theorem only_applyWrite (line : Nat) (d : List Byte) (be : Nat) (p : Bool) : Only [.mem, .poison, .log] s (s.applyWrite line d be p) := by
  unfold State.applyWrite
  dsimp only
  have h : Only [.mem, .poison, .log] s (s.writeLine line (mergeLine (s.readLine line) d be)) := (only_writeBytes _ _ _).mono (by decide)
  generalize s.writeLine line (mergeLine (s.readLine line) d be) = u at *
  exact Only.ite (Only.trans h ((only_setPoison _ _ _).mono (by decide)))
    (Only.ite (Only.trans h (Only.trans ((only_setPoison _ _ _).mono (by decide)) ((only_plistDrop _ _).mono (by decide)))) h)

theorem readLine_getD (line k : Nat) (h : k < 64) : (s.readLine line).getD k 0#8 = s.readByte (64 * line + k) := by
  unfold State.readLine State.readBytes
  simp [List.getD_eq_getElem?_getD, h]

/-- What a byte reads as after a line write: the enabled bytes are the data's, every other byte of memory is what it was. -/
theorem readByte_applyWrite (line : Nat) (d : List Byte) (be : Nat) (p : Bool) (x : Nat) :
    (s.applyWrite line d be p).readByte x
      = if 64 * line ≤ x ∧ x < 64 * line + 64 ∧ be.testBit (x - 64 * line) = true then d.getD (x - 64 * line) 0#8 else s.readByte x := by
  have h0 : (s.applyWrite line d be p).mem = (s.writeLine line (mergeLine (s.readLine line) d be)).mem := by
    unfold State.applyWrite; dsimp only
    repeat' split
    all_goals rfl
  rw [readByte_congr h0]
  unfold State.writeLine
  have hl : (mergeLine (s.readLine line) d be).length = 64 := by simp [mergeLine]
  rw [List.take_of_length_le (by omega), readByte_writeBytes, hl]
  by_cases h : 64 * line ≤ x ∧ x < 64 * line + 64
  · rw [if_pos h]
    have hm : (mergeLine (s.readLine line) d be).getD (x - 64 * line) 0#8
        = if be.testBit (x - 64 * line) then d.getD (x - 64 * line) 0#8 else (s.readLine line).getD (x - 64 * line) 0#8 := by
      unfold mergeLine
      rw [List.getD_eq_getElem?_getD, List.getElem?_map, List.getElem?_range (by omega)]
      rfl
    rw [hm, readLine_getD _ _ _ (by omega)]
    by_cases hb : be.testBit (x - 64 * line) = true
    · rw [if_pos hb, if_pos ⟨h.1, h.2, hb⟩]
    · rw [if_neg hb, if_neg (fun hh => hb hh.2.2)]
      congr 1; omega
  · rw [if_neg h, if_neg (fun hh => h ⟨hh.1, hh.2.1⟩)]

/-- Poison after a line write (R217, R497, R862). -/
theorem isPoison_applyWrite (line : Nat) (d : List Byte) (be : Nat) (p : Bool) (x : Nat) :
    (s.applyWrite line d be p).isPoison x = if x = line then (p || (be != fullBe && s.isPoison line)) else s.isPoison x := by
  have hw : ∀ l : List Byte, (s.writeLine line l).isPoison x = s.isPoison x := by
    intro l
    have h := only_writeBytes (l.take 64) (64 * line) s .poison (by decide)
    unfold State.isPoison State.writeLine; rw [h]
  have hp : ∀ (u : State) (b : Bool), (u.setPoison line b).isPoison x = if x = line then b else u.isPoison x := by
    intro u b
    by_cases h : x = line
    · subst h; simp
    · rw [if_neg h, setPoison_isPoison_other _ _ h]
  unfold State.applyWrite
  dsimp only
  generalize mergeLine (s.readLine line) d be = l
  cases p
  · by_cases hb : be = fullBe
    · rw [if_neg (by decide), if_pos hb]
      have : ∀ u : State, (u.plistDrop line).isPoison x = u.isPoison x := by
        intro u; unfold State.isPoison; rw [(only_plistDrop u line) .poison (by decide)]
      rw [this, hp, hw]; simp [hb]
    · rw [if_neg (by decide), if_neg hb, hw]
      by_cases h : x = line
      · subst h; simp [hb]
      · rw [if_neg h]
  · rw [if_pos rfl, hp, hw]; simp

/-! ### The canonical form -/

theorem writeByte_wf {s : State} (a : Nat) (b : Byte) (h : Memory.wf s.mem = true) : Memory.wf (s.writeByte a b).mem = true := mapPut_wf a b h

theorem writeBytes_wf (l : List Byte) : ∀ (a : Nat) (s : State), Memory.wf s.mem = true → Memory.wf (State.writeBytes a l s).mem = true := by
  induction l with
  | nil => intro a s h; exact h
  | cons b r ih => intro a s h; exact ih _ _ (writeByte_wf a b h)

theorem writeLine_wf {s : State} (line : Nat) (d : List Byte) (h : Memory.wf s.mem = true) : Memory.wf (s.writeLine line d).mem = true := writeBytes_wf _ _ _ h

theorem writePage_wf {s : State} (p : Nat) (d : List Byte) (h : Memory.wf s.mem = true) : Memory.wf (s.writePage p d).mem = true := writeBytes_wf _ _ _ h

theorem clearFrame_wf {s : State} (p : Nat) (h : Memory.wf s.mem = true) : Memory.wf (s.clearFrame p).mem = true := mapWf_filter _ h

theorem clearPage_wf {s : State} (p : Nat) (h : Memory.wf s.mem = true) : Memory.wf (s.clearPage p).mem = true := mapWf_filter _ h

theorem applyWrite_wf {s : State} (line : Nat) (d : List Byte) (be : Nat) (p : Bool) (h : Memory.wf s.mem = true) : Memory.wf (s.applyWrite line d be p).mem = true := by
  have hw := writeLine_wf line (mergeLine (s.readLine line) d be) h
  unfold State.applyWrite
  dsimp only
  generalize s.writeLine line (mergeLine (s.readLine line) d be) = u at *
  split
  · exact hw
  · split
    · rw [(only_plistDrop _ _) .mem (by decide)]; exact hw
    · exact hw

theorem reset_wf : Memory.wf State.reset.mem = true := by decide

end Sys2Proof.Machine
end

