-- ==== Sys2Proof/Laws/Reads.lean ====
section
/-!
SUPPORT. Register accesses of every source that are served at once.
-/

namespace Sys2Proof.Machine

open Sys2Proof

variable {s : State} {src : MgmtSrc} {ofs : Nat}

theorem onPath_eq (src : MgmtSrc) (s : State) : s.onPath src = s.pathTaken src := rfl

theorem only_onPath (src : MgmtSrc) (s : State) : Only [.mgmt, .ctrs] s (s.onPath src) := by
  intro p hp; cases p <;> first | exact absurd (by decide) hp | rfl

/-- A register access of a source, as the path receives it, is served: a write with the register's effect, a read with the value and
the effect of reading. -/
theorem accessed (h : s.Reaches src ofs) (ha : ofs % 4 = 0) (hp : (pageFamily (ofs / 4096)).isSome = true) (w : Bool) (v : Word32) (tag : Nat) :
    ∃ a : MgmtAcc, a.src = src.code ∧ a.write = w ∧ a.tag = tag
      ∧ s.mgmtAccess { src := src.code, write := w, ofs := src.sees ofs, val := v, tag := tag }
          = if w then ((s.onPath src).regWrite ofs v).mgmtReply a 0#32
            else ((s.onPath src).regRead src.code ofs).2.mgmtReply a ((s.onPath src).regRead src.code ofs).1 := by
  obtain ⟨h1, h2, h3, h4⟩ := h
  have hn : pageFamily (ofs / 4096) ≠ none := by
    intro hpf; simp [hpf] at hp
  refine ⟨{ src := src.code, write := w, ofs := src.sees ofs, val := v, tag := tag }, rfl, rfl, rfl, ?_⟩
  cases src
  case window =>
    obtain ⟨w1, w2, w3, w4⟩ := h4 rfl
    have e : s.mgmt.winBase * 2 ^ 20 + ofs % 2 ^ 20 = ofs := by rw [w4]; omega
    have e1 : ¬ (2:Nat) ^ 26 ≤ ofs % 1048576 := by omega
    have e2 : ¬ ofs % 1048576 = (2:Nat) ^ 27 := by omega
    have h3' := h3 (by simp)
    have r1 : ¬ ctlPage ≤ ofs % 1048576 := e1
    have r2 : ¬ ofs % 1048576 = zeroRead := e2
    have e' : s.mgmt.winBase * 1048576 + ofs % 1048576 = ofs := e
    cases w <;> simp [MgmtSrc.sees, State.mgmtAccess, State.mgmtReaches, h1, h2, h3', State.mgmtServe, w3, r1, r2, e',
      State.serveReg, ha, hn, State.onPath, MgmtSrc.code]
  case keaquin =>
    cases w <;> simp [MgmtSrc.sees, State.mgmtAccess, State.mgmtReaches, h1, h2, State.mgmtServe, State.serveReg, ha, hn, State.onPath, MgmtSrc.code]
  case smbus =>
    have h3' := h3 (by simp)
    cases w <;> simp [MgmtSrc.sees, State.mgmtAccess, State.mgmtReaches, h1, h2, h3', State.mgmtServe, State.serveReg, ha, hn, State.onPath, MgmtSrc.code]
  case i3c =>
    have h3' := h3 (by simp)
    cases w <;> simp [MgmtSrc.sees, State.mgmtAccess, State.mgmtReaches, h1, h2, h3', State.mgmtServe, State.serveReg, ha, hn, State.onPath, MgmtSrc.code]
  case relay =>
    have h3' := h3 (by simp)
    cases w <;> simp [MgmtSrc.sees, State.mgmtAccess, State.mgmtReaches, h1, h2, h3', State.mgmtServe, State.serveReg, ha, hn, State.onPath, MgmtSrc.code]

theorem srcWrite_access (h : s.Reaches src ofs) (v : Word32) (tag : Nat) :
    s.srcWrite src (src.sees ofs) [v] true tag = s.mgmtAccess { src := src.code, write := true, ofs := src.sees ofs, val := v, tag := tag } := by
  cases src
  case window =>
    obtain ⟨w1, w2, w3, w4⟩ := h.2.2.2 rfl
    simp [State.srcWrite, State.windowRequest, w1, w2, MgmtSrc.sees, MgmtSrc.code]
  all_goals rfl

theorem srcRead_access (h : s.Reaches src ofs) (tag : Nat) :
    s.srcRead src (src.sees ofs) 1 tag = s.mgmtAccess { src := src.code, write := false, ofs := src.sees ofs, val := 0#32, tag := tag } := by
  cases src
  case window =>
    obtain ⟨w1, w2, w3, w4⟩ := h.2.2.2 rfl
    simp [State.srcRead, State.windowRequest, w1, w2, MgmtSrc.sees, MgmtSrc.code]
  all_goals rfl

theorem rowRead_access (h : s.Reaches src ofs) (tag : Nat) :
    s.rowRead src ofs tag = s.mgmtAccess { src := src.code, write := false, ofs := src.sees ofs, val := 0#32, tag := tag } := by
  cases src
  case window =>
    obtain ⟨w1, w2, w3, w4⟩ := h.2.2.2 rfl
    simp [State.rowRead, State.windowRequest, w1, w2, MgmtSrc.sees, MgmtSrc.code]
  all_goals rfl

/-! ### Answers and headers -/

theorem sendBundle_hdr_other (s : State) (o k : Nat) (b : Bundle) {q : Nat} (h : q ≠ pgFPORT 0) : ((s.sendBundle o k b).2).hdr q = s.hdr q := by
  unfold State.sendBundle
  split
  · rfl
  · split
    · rw [hdr_setEvt, if_neg h]
    · unfold State.hdr; simp

/-- The answer of an access changes no page's header, but that of FPORT0 where the relay's answer finds no route. -/
theorem mgmtReply_hdr (s : State) (a : MgmtAcc) (v : Word32) {q : Nat} (h : q ≠ pgFPORT 0 ∨ a.src ≠ 4) : (s.mgmtReply a v).hdr q = s.hdr q := by
  unfold State.mgmtReply
  by_cases h4 : a.src = 4
  · rw [if_pos h4]
    rcases h with h | h
    · exact sendBundle_hdr_other _ _ _ _ h
    · exact absurd h4 h
  · rw [if_neg h4]; split <;> rfl

/-- What the dailies ring selects and holds, apart from the record in progress. -/
def DailyKept (s t : State) : Prop :=
  t.daily.sel = s.daily.sel ∧ t.daily.stat = s.daily.stat ∧ t.daily.ring = s.daily.ring ∧ t.daily.bad = s.daily.bad

theorem dailyKept_transmit (s : State) (f : Nat) (q : Queued) : DailyKept s (s.transmit f q) := by
  unfold State.transmit State.charge
  dsimp only
  split <;> exact ⟨rfl, rfl, rfl, rfl⟩

theorem dailyKept_portSendN (n f : Nat) (s : State) : DailyKept s (s.portSendN n f) := by
  induction n generalizing s with
  | zero => exact ⟨rfl, rfl, rfl, rfl⟩
  | succ n ih =>
    unfold State.portSendN
    split
    · exact ⟨rfl, rfl, rfl, rfl⟩
    · rename_i q _
      obtain ⟨a, b, c, d⟩ := dailyKept_transmit s f q
      obtain ⟨a', b', c', d'⟩ := ih (s.transmit f q)
      exact ⟨a'.trans a, b'.trans b, c'.trans c, d'.trans d⟩

theorem dailyKept_sendBundle (s : State) (o k : Nat) (b : Bundle) : DailyKept s (s.sendBundle o k b).2 := by
  unfold State.sendBundle
  split
  · exact ⟨rfl, rfl, rfl, rfl⟩
  · split
    · simp [DailyKept]
    · exact dailyKept_portSendN _ _ _

/-- The answer of an access leaves what the dailies ring selects and holds. -/
theorem dailyKept_mgmtReply (s : State) (a : MgmtAcc) (v : Word32) : DailyKept s (s.mgmtReply a v) := by
  unfold State.mgmtReply
  split
  · exact dailyKept_sendBundle _ _ _ _
  · split <;> exact ⟨rfl, rfl, rfl, rfl⟩

theorem mem_addOnce (n : Nat) (l : List Nat) : n ∈ addOnce n l := by unfold addOnce; split <;> simp_all
theorem mem_addOnce_of {n x : Nat} {l : List Nat} (h : x ∈ l) : x ∈ addOnce n l := by
  unfold addOnce; split
  · exact h
  · exact List.mem_append_left _ h

/-- A cause that waits for its message still waits after an event. -/
theorem setEvt_now (s : State) (p b : Nat) {x : Nat} (h : x ∈ s.mfn.now) : x ∈ (s.setEvt p b).mfn.now := by
  unfold State.setEvt
  dsimp only
  split
  · unfold State.pageCause
    dsimp only
    split
    · exact mem_addOnce_of h
    · exact h
  · exact h

/-- The cause of a page whose entry is enabled waits for its message. -/
theorem pageCause_now (s : State) (p : Nat) (h : (s.vmapOf p).2 = true) : (if (s.vmapOf p).1 < 2 then 2 else (s.vmapOf p).1) ∈ (s.pageCause p).mfn.now := by
  unfold State.pageCause
  dsimp only
  rw [if_pos h]
  exact mem_addOnce _ _

theorem sendBundle_now (s : State) (o k : Nat) (b : Bundle) {x : Nat} (h : x ∈ s.mfn.now) : x ∈ ((s.sendBundle o k b).2).mfn.now := by
  unfold State.sendBundle
  split
  · exact h
  · split
    · exact setEvt_now _ _ _ h
    · simpa using h

theorem mgmtReply_now (s : State) (a : MgmtAcc) (v : Word32) {x : Nat} (h : x ∈ s.mfn.now) : x ∈ (s.mgmtReply a v).mfn.now := by
  unfold State.mgmtReply
  split
  · exact sendBundle_now _ _ _ _ h
  · split <;> exact h

/-- A write of a header register of a page. -/
theorem regWrite_header {p r : Nat} (hr : r < 0x40) (v : Word32) (u : State) : u.regWrite (ofsOf p r) v = u.writeHeader p r v := by
  have h1 : ofsOf p r / 4096 = p := by unfold ofsOf; omega
  have h2 : ofsOf p r % 4096 = r := by unfold ofsOf; omega
  have h3 : u.dropCaptures (ofsOf p r) = u := by
    unfold State.dropCaptures
    have : windows.find? (fun w => w.2.2 == ofsOf p r) = none := by
      simp [windows, ofsOf, pgTIER, pgDIR, pgCLOG, pgSYS]; omega
    rw [this]
  unfold State.regWrite
  dsimp only
  rw [h1, h2, h3, if_pos hr]

/-- A row's write that is served at once, with the answer's source. -/
theorem rowWrite_access (h : s.Reaches src ofs) (ha : ofs % 4 = 0) (hp : (pageFamily (ofs / 4096)).isSome = true) (v : Word32) :
    ∃ a : MgmtAcc, a.src = src.code ∧ a.write = true ∧ s.rowWrite src ofs v = ((s.pathTaken src).regWrite ofs v).mgmtReply a 0#32 := by
  obtain ⟨a, h1, h2, -, e⟩ := accessed h ha hp true v 0
  refine ⟨a, h1, h2, ?_⟩
  rw [if_pos rfl] at e
  rw [← onPath_eq, ← e]
  cases src
  case window =>
    obtain ⟨w1, w2, w3, w4⟩ := h.2.2.2 rfl
    simp [State.rowWrite, State.windowRequest, w1, w2, MgmtSrc.sees, MgmtSrc.code]
  all_goals rfl

theorem page_div {p r : Nat} (hr : r < 4096) : ofsOf p r / 4096 = p := by unfold ofsOf; omega

/-! ### What reading changes -/

theorem only_latchWords (s : State) (x o n : Nat) : Only [.mgmt] s (s.latchWords x o n) :=
  Only.forEach (fun s _ => only_setLatch s _ _ _) _ s

theorem only_rcClear (s : State) (o : Nat) : Only [.ctrs, .dir, .hports, .sys] s (s.rcClear o) := by
  unfold State.rcClear
  dsimp only
  split
  · exact (only_clearCtr _ _ _).mono (by decide)
  · refine Only.ite ((only_with_dir _ _).mono (by decide)) (Only.ite ((only_updPort _ _ _).mono (by decide)) (Only.ite ((only_with_sys _ _).mono (by decide)) (Only.refl _ _)))

theorem only_readEffect (s : State) (x o : Nat) : Only [.mgmt, .ctrs, .dir, .hports, .sys] s (s.readEffect x o) := by
  unfold State.readEffect
  dsimp only
  refine Only.trans ?_ ((only_rcClear _ _).mono (by decide))
  have h1 : Only [.mgmt, .ctrs, .dir, .hports, .sys] s (if latchesHigh o then s.latchWords x (o + 4) 1 else s) :=
    Only.ite ((only_latchWords _ _ _ _).mono (by decide)) (Only.refl _ _)
  split
  · exact h1.trans ((only_latchWords _ _ _ _).mono (by decide))
  · exact h1

theorem latched_setLatch_same (s : State) (x o : Nat) (v : Option Word32) : (s.setLatch x o v).latched x o = v := mapGet_put_same _ _ _

theorem latched_setLatch_other (s : State) {x o o' : Nat} (v : Option Word32) (h : o' ≠ o) : (s.setLatch x o v).latched x o' = s.latched x o' :=
  mapGet_put_other v (by unfold latchKey; omega) _

theorem latched_forEach (x o : Nat) (val : Nat → Word32) (l : List Nat) (s : State) (k : Nat) :
    (forEach l (fun k (a : State) => a.setLatch x (o + 4 * k) (some (val k))) s).latched x (o + 4 * k)
      = if k ∈ l then some (val k) else s.latched x (o + 4 * k) := by
  induction l generalizing s with
  | nil => simp [forEach]
  | cons a l ih =>
    show (forEach l _ (s.setLatch x (o + 4 * a) (some (val a)))).latched x (o + 4 * k) = _
    rw [ih]
    by_cases hk : k ∈ l
    · rw [if_pos hk, if_pos (List.mem_cons_of_mem _ hk)]
    · rw [if_neg hk]
      by_cases hka : k = a
      · subst hka; rw [if_pos (by simp), latched_setLatch_same]
      · rw [latched_setLatch_other _ _ (by omega), if_neg (by simp [hk, hka])]

/-- The words that a source latches are what the registers showed. -/
theorem latchWords_latched (s : State) (x o n k : Nat) :
    (s.latchWords x o n).latched x (o + 4 * k) = if k < n then some (s.regValue (o + 4 * k)) else s.latched x (o + 4 * k) := by
  unfold State.latchWords
  rw [latched_forEach x o (fun k => s.regValue (o + 4 * k))]
  simp

theorem latched_congr {s t : State} (h : t.mgmt = s.mgmt) (x o : Nat) : t.latched x o = s.latched x o := by unfold State.latched; rw [h]

end Sys2Proof.Machine
end

