-- ==== Sys2Proof/Laws/Power.lean ====
section
/-!
SUPPORT. What a decided event does to the log, and what readings, pins and throttle steps change.
-/

namespace Sys2Proof.Machine

open Sys2Proof

variable (s : State)

/-! ### Frames -/

/-- A register's own effect between what the path counts and the answer. -/
theorem only_served {src : MgmtSrc} {s u : State} {a : MgmtAcc} {l : List Part} (h : Only l (s.pathTaken src) u) :
    Only (l ++ regPath) s (s.keeping {} (State.mgmtReply a 0#32 u)) := by
  have e : State.pathTaken src s = State.onPath src s := rfl
  rw [e] at h
  have hm : ∀ m : List Part, (m.all fun p => regPath.contains p) = true → (m.all fun p => (l ++ regPath).contains p) = true := by
    intro m hm
    rw [List.all_eq_true] at *
    intro x hx
    have := hm x hx
    rw [List.contains_iff_mem] at *
    exact List.mem_append_right _ this
  refine Only.keeping (Only.trans ((only_onPath src s).mono (hm _ (by decide))) (Only.trans (h.mono ?_) ((only_mgmtReply _ _ _).mono (hm _ (by decide))))) (.inl rfl)
  rw [List.all_eq_true]
  intro x hx
  rw [List.contains_iff_mem]
  exact List.mem_append_left _ hx

@[simp] theorem served_reg (u : State) (a : MgmtAcc) (v : Word32) (s : State) (k : Touches) (ofs : Nat) : (s.keeping k (State.mgmtReply a v u)).reg ofs = u.reg ofs := by
  show (State.mgmtReply a v u).reg ofs = _
  simp
@[simp] theorem served_power (u : State) (a : MgmtAcc) (v : Word32) (s : State) (k : Touches) : (s.keeping k (State.mgmtReply a v u)).power = u.power := by
  show (State.mgmtReply a v u).power = _
  simp

/-! ### The log -/

/-- What keeping an entry leaves in the log. -/
theorem keepEntry_log (e : LogEntry) : (s.keepEntry e).log = { s.log with
      next := nextSeq e.seq
      onchip := (if logRoom s.log.onchip e.sev then s.log.onchip else logReplace s.log.onchip) ++ [e]
      dropped := if logRoom s.log.onchip e.sev then s.log.dropped else s.log.dropped + 1
      seen := (e.event, e.page, e.addr) :: s.log.seen
      records := match cxlLogOf e.sev (bitOf (s.reg (ofsOf pgCLOG 0x40)) 4) with
        | some k => s.log.records ++ [(k, e)]
        | none => s.log.records
      reelKept := s.log.reelKept + 1
      fatalNew := s.log.fatalNew || e.sev == 5
      post := if e.sev == 5 then some (((s.log.ring ++ (if logRoom s.log.onchip e.sev then s.log.onchip else logReplace s.log.onchip) ++ [e]).reverse.take 16).reverse) else s.log.post } := by
  have ite_log : ∀ (c : Prop) [Decidable c] (a b : State), (if c then a else b).log = if c then a.log else b.log := by intros; split <;> rfl
  unfold State.keepEntry
  dsimp only
  cases hr : logRoom s.log.onchip e.sev <;>
    simp only [ite_log, setEvt_log, mgmtCause_log, updHdr_log, bump_log, ite_self, Bool.not_true, Bool.not_false, if_true, if_false, Bool.false_eq_true] <;> rfl

theorem logE_records (ev sev : Nat) (tn : Option Nat) (p a : Nat) (v : List Nat) : s.Records ev sev tn p a v (s.logE ev sev tn p a v) := by
  unfold State.Records State.logE
  refine ⟨fun h1 h2 => ?_, fun h => ?_⟩
  · rw [if_pos (by simp [h1, h2])]; simp
  · rw [if_neg (by rcases h with h | h <;> simp [h])]
    refine ⟨fun hr => ?_, fun hr => ?_, fun hr => ?_⟩
    · rw [if_pos (by simp [hr]), keepEntry_log]; simp [hr, State.entryNow]
    · by_cases h5 : sev = 5
      · rw [if_pos (by simp [h5]), keepEntry_log]; simp [h5, h5 ▸ hr, State.entryNow]
      · rw [if_neg (by simp [hr, h5])]; simp [h5]
    · rw [if_pos (by rcases hr with hr | hr <;> simp [hr]), keepEntry_log]; simp

/-- What decides an event is the log and the frame alone. -/
theorem State.Records.of_log {s u t t' : State} {ev sev : Nat} {tn : Option Nat} {p a : Nat} {v : List Nat} (h : u.Records ev sev tn p a v t)
    (e : s.log = u.log) (ef : s.frame.num = u.frame.num) (e' : t'.log = t.log) : s.Records ev sev tn p a v t' := by
  unfold State.Records State.entryNow at *
  rw [e, ef, e']
  exact h

theorem logE_fatal_bits (ev : Nat) (tn : Option Nat) (p a : Nat) (v : List Nat) :
    ((s.logE ev 5 tn p a v).hdr pgSYS).stat.getLsbD 1 = true ∧ ((s.logE ev 5 tn p a v).hdr pgCLOG).stat.getLsbD 2 = true := by
  unfold State.logE
  rw [if_neg (by simp [suppressible]), if_pos (by simp)]
  unfold State.keepEntry
  dsimp only
  rw [if_pos (by rfl)]
  exact ⟨setEvt_sets _ _ (by decide), bitsKept_setEvt _ _ _ _ _ (setEvt_sets _ _ (by decide))⟩

theorem logE_fatal (ev : Nat) (v : List Nat) : s.GoesFatal ev v (s.logE ev 5 none pgSYS 0 v) := by
  have h := logE_records s ev 5 none pgSYS 0 v
  refine ⟨h, ?_, logE_fatal_bits s ev none pgSYS 0 v⟩
  have := (h.2 (.inl (by simp [suppressible]))).2.2 (.inr rfl)
  rw [this.2]; simp

/-- A FATAL entry stays one through what changes neither the log nor the events that are set. -/
theorem State.GoesFatal.of {s u t t' : State} {ev : Nat} {v : List Nat} (h : u.GoesFatal ev v t) (e : s.log = u.log) (ef : s.frame.num = u.frame.num)
    (e' : t'.log = t.log) (b : BitsKept t t') : s.GoesFatal ev v t' := by
  obtain ⟨h1, h2, h3, h4⟩ := h
  exact ⟨h1.of_log e ef e', by rw [e', h2], b _ _ h3, b _ _ h4⟩

theorem State.GoesFatal.from_log {s u t : State} {ev : Nat} {v : List Nat} (h : u.GoesFatal ev v t) (e : s.log = u.log) (ef : s.frame.num = u.frame.num) :
    s.GoesFatal ev v t := h.of e ef rfl (BitsKept.refl _)

theorem State.GoesFatal.kept {s t : State} {ev : Nat} {v : List Nat} (h : s.GoesFatal ev v t) (r : State) (k : Touches) : s.GoesFatal ev v (r.keeping k t) :=
  h.of rfl rfl rfl (bitsKept_keeping _ _ _)

theorem State.Records.from_log {s u t : State} {ev sev : Nat} {tn : Option Nat} {p a : Nat} {v : List Nat} (h : u.Records ev sev tn p a v t)
    (e : s.log = u.log) (ef : s.frame.num = u.frame.num) : s.Records ev sev tn p a v t := h.of_log e ef rfl

theorem State.Records.kept {s t : State} {ev sev : Nat} {tn : Option Nat} {p a : Nat} {v : List Nat} (h : s.Records ev sev tn p a v t) (r : State) (k : Touches) :
    s.Records ev sev tn p a v (r.keeping k t) := h.of_log rfl rfl rfl

/-! ### Pins, readings and steps -/

theorem only_pins : Only [.sys, .out] s s.pins := by
  unfold State.pins
  dsimp only
  split <;> split <;> intro p hp <;> cases p <;> first | rfl | exact absurd (by decide) hp

/-- The alert condition of R985. -/
theorem pins_follow : s.pins.sys.fatalPin = s.log.fatal
    ∧ s.pins.sys.alertPin = (s.power.steps.any (0 < ·) || s.power.temp.any fun t => s.tEmerg ≤ t) := by
  unfold State.pins
  dsimp only
  generalize (s.power.steps.any (0 < ·) || s.power.temp.any fun t => decide (s.tEmerg ≤ t)) = a
  constructor
  · split <;> split <;> simp_all [State.emit]
  · split <;> split <;> simp_all [State.emit]

theorem only_emergency (i : Nat) : Only [.power, .hdrs, .mfn] s (s.emergency i) := by
  unfold State.emergency
  exact Only.trans ((only_with_power _ _).mono (by decide)) ((only_setEvt _ _ _).mono (by decide))

theorem only_thermTrip (i : Nat) : Only [.power, .log, .hdrs, .mfn, .ctrs] s (s.thermTrip i) := by
  unfold State.thermTrip
  split
  · exact Only.refl _ _
  · exact Only.trans ((only_with_power _ _).mono (by decide)) ((only_logE _ _ _ _ _ _ _).mono (by decide))

theorem only_reading (i deg : Nat) : Only [.power, .log, .hdrs, .mfn, .ctrs, .sys, .out] s (s.reading i deg) := by
  unfold State.reading
  split
  · exact Only.refl _ _
  · dsimp only
    refine Only.trans ?_ ((only_pins _).mono (by decide))
    split <;> split
    · exact Only.trans ((only_with_power s _).mono (by decide)) (Only.trans ((only_emergency _ _).mono (by decide)) ((only_thermTrip _ _).mono (by decide)))
    · exact Only.trans ((only_with_power s _).mono (by decide)) ((only_thermTrip _ _).mono (by decide))
    · exact Only.trans ((only_with_power s _).mono (by decide)) ((only_emergency _ _).mono (by decide))
    · exact (only_with_power s _).mono (by decide)

theorem mem_foldl_addOnce (d : Nat) (l m : List Nat) : d ∈ l ∨ d ∈ m → d ∈ l.foldl (fun l d => addOnce d l) m := by
  induction l generalizing m with
  | nil => rintro (h | h); · cases h
           · exact h
  | cons x xs ih =>
    rintro (h | h)
    · rcases List.mem_cons.mp h with rfl | h
      · exact ih _ (.inr (mem_addOnce _ _))
      · exact ih _ (.inl h)
    · exact ih _ (.inr (mem_addOnce_of h))

theorem emergency_dies (i d : Nat) (h : d ∈ diesOf i) : d ∈ (s.emergency i).power.emerg := by
  show d ∈ (State.setEvt (pgPRESS 0) 11 _).power.emerg
  rw [setEvt_power]
  exact mem_foldl_addOnce d _ _ (.inl h)

/-- A reading's parts: the values it notes, then the emergency, the trip and the pins. -/
theorem reading_split {i : Nat} (deg : Nat) (h : i < 8) : ∃ x : PowerS, x.temp = listSet i deg s.power.temp ∧ x.stopped = s.power.stopped
    ∧ s.reading i deg = (if 110 ≤ deg then (if s.tEmerg ≤ deg then ({ s with power := x } : State).emergency i else { s with power := x }).thermTrip i
        else if s.tEmerg ≤ deg then ({ s with power := x } : State).emergency i else { s with power := x }).pins := by
  refine ⟨{ s.power with
      temp := listSet i deg s.power.temp
      reelMax := listSet i (max deg (s.power.reelMax.getD i 0)) s.power.reelMax
      silent := listSet i 0 s.power.silent }, rfl, rfl, ?_⟩
  unfold State.reading
  rw [if_neg (by omega)]

theorem emergency_power (i : Nat) : ∃ l, (s.emergency i).power = { s.power with emerg := l } := by
  unfold State.emergency
  rw [setEvt_power]
  exact ⟨_, rfl⟩

theorem thermTrip_trips {i : Nat} (h : s.power.stopped = false) :
    s.GoesFatal 0x1005 [i] (s.thermTrip i) ∧ (s.thermTrip i).power = { s.power with stopped := true } := by
  unfold State.thermTrip
  rw [if_neg (by simp [h])]
  generalize hu : ({ s with power := { s.power with stopped := true } } : State) = u
  have e1 : s.log = u.log := by rw [← hu]
  have e2 : s.frame.num = u.frame.num := by rw [← hu]
  have e3 : u.power = { s.power with stopped := true } := by rw [← hu]
  exact ⟨(logE_fatal u 0x1005 [i]).from_log e1 e2, (logE_power _ _ _ _ _ _ _).trans e3⟩

theorem mem_listSet {α : Type} (n : Nat) (v : α) (l : List α) (h : n < l.length) : v ∈ listSet n v l := by
  induction l generalizing n with
  | nil => simp at h
  | cons a r ih =>
    cases n with
    | zero => simp [listSet]
    | succ n => simp only [listSet]; exact List.mem_cons_of_mem _ (ih n (by simpa using h))

/-- Damage to the log's rings: what is lost is gone from them, and kept as damaged. -/
theorem logRingUe_acts {first n : Nat} (h : ∃ e ∈ s.log.ring ++ s.log.onchip, first ≤ e.seq ∧ e.seq < first + n) :
    (∀ e, e ∈ (s.logRingUe first n).log.ring ↔ e ∈ s.log.ring ∧ ¬ (first ≤ e.seq ∧ e.seq < first + n))
      ∧ (∀ e ∈ s.log.ring ++ s.log.onchip, first ≤ e.seq ∧ e.seq < first + n → e.seq ∈ (s.logRingUe first n).log.damaged)
      ∧ ((s.logRingUe first n).hdr pgCLOG).stat.getLsbD 3 = true ∧ Only [.log, .hdrs, .mfn, .ctrs] s (s.logRingUe first n) := by
  obtain ⟨x, hx, h1, h2⟩ := h
  unfold State.logRingUe
  dsimp only
  rw [if_neg (by
    simp only [List.isEmpty_iff, List.map_eq_nil_iff, List.filter_eq_nil_iff, not_forall]
    exact ⟨x, hx, by simp [h1, h2]⟩)]
  have keep : ∀ (u : State) ev sv tn p a v, (u.logE ev sv tn p a v).log.ring = u.log.ring ∧ (u.logE ev sv tn p a v).log.damaged = u.log.damaged := by
    intro u ev sv tn p a v
    unfold State.logE
    split
    · simp
    · split
      · rw [keepEntry_log]; exact ⟨rfl, rfl⟩
      · simp
  refine ⟨fun e => ?_, fun e he h => ?_, ?_, ?_⟩
  · rw [(keep _ _ _ _ _ _ _).1, setEvt_log]
    simp only [List.mem_filter, Bool.not_eq_true', Bool.and_eq_false_iff, decide_eq_false_iff_not]
    constructor <;> rintro ⟨a, b⟩ <;> exact ⟨a, by omega⟩
  · rw [(keep _ _ _ _ _ _ _).2, setEvt_log]
    simp only [List.mem_append, List.mem_map, List.mem_filter]
    exact .inr ⟨e, ⟨List.mem_append.mp he, by simp [h.1, h.2]⟩, rfl⟩
  · exact bitsKept_logE _ _ _ _ _ _ _ _ _ (setEvt_sets _ _ (by decide))
  · exact Only.trans (Only.trans ((only_with_log s _).mono (by decide)) ((only_setEvt _ _ _).mono (by decide))) ((only_logE _ _ _ _ _ _ _).mono (by decide))

end Sys2Proof.Machine
end

