-- ==== Sys2Proof/Laws/HostMem.lean ====
section
/-!
SUPPORT. Requests for memory: what each of their parts changes, how a response leaves, and what the directory does with a single
transaction that needs no recall.
-/

namespace Sys2Proof.Machine

open Sys2Proof

variable (s : State)

/-! ### Frames of the parts -/

theorem only_dirCount' (sel n : Nat) : Only [.ctrs] s (s.dirCount sel n) := only_bump _ _ _ _

theorem only_sendResp (p : Nat) (o : Output) : Only [.hports, .out] s (s.sendResp p o) := by
  cases o
  case ndr =>
    unfold State.sendResp; dsimp only
    exact Only.ite (Only.trans ((only_updPort s _ _).mono (by decide)) ((only_emit _ _).mono (by decide))) ((only_updPort s _ _).mono (by decide))
  case drs =>
    unfold State.sendResp; dsimp only
    exact Only.ite (Only.trans ((only_updPort s _ _).mono (by decide)) ((only_emit _ _).mono (by decide))) ((only_updPort s _ _).mono (by decide))
  all_goals exact (only_emit s _).mono (by decide)

theorem sendResp_sent (p : Nat) (o : Output) (h : o.credits {} = 0) : s.Sent p o (s.sendResp p o) := by
  cases o
  case ndr | drs =>
    unfold State.sendResp State.Sent Output.credits
    dsimp only
    refine ⟨fun h1 h2 => ?_, fun h1 => ?_⟩
    · rw [if_pos ⟨by simp [h1], h2⟩]
      exact ⟨rfl, by rw [show ∀ u o, (State.emit o u).hport p = u.hport p from fun _ _ => rfl, hport_updPort_same]; exact h1⟩
    · rw [if_neg (by rintro ⟨a, b⟩; rcases h1 with h1 | h1 <;> simp_all)]
      exact ⟨rfl, by rw [hport_updPort_same]⟩
  all_goals exact absurd h (Nat.succ_ne_zero 0)

/-- A response stays sent through what changes neither the port nor the output. -/
theorem State.Sent.of {s u t t' : State} {p : Nat} {o : Output} (h : u.Sent p o t) (e1 : s.out = u.out) (e2 : (s.hport p).respQ = (u.hport p).respQ)
    (e3 : o.credits (s.hport p) = o.credits (u.hport p)) (e4 : t'.out = t.out) (e5 : (t'.hport p).respQ = (t.hport p).respQ) : s.Sent p o t' := by
  unfold State.Sent at *
  rw [e1, e2, e3, e4, e5]
  exact h

theorem only_freeEntry (t c p : Nat) : Only [.rgl] s (s.freeEntry t c p) := by
  unfold State.freeEntry
  refine Only.ite (only_with_rgl _ _) (Only.ite (only_with_rgl _ _) (Only.ite ?_ (Only.refl _ _)))
  exact Only.trans (only_with_rgl s _) (only_with_rgl _ _)

theorem only_takeEntry (t c p : Nat) : Only [.rgl] s (s.takeEntry t c p) := by
  unfold State.takeEntry
  refine Only.ite (only_with_rgl _ _) ?_
  dsimp only
  refine Only.ite ?_ (only_with_rgl _ _)
  exact Only.trans (only_with_rgl s _) (only_with_rgl _ _)

theorem only_sampleBegin (t c f : Nat) : Only [.rgl] s (s.sampleBegin t c f) := by
  unfold State.sampleBegin
  exact Only.ite (Only.refl _ _) (only_with_rgl _ _)

theorem only_latency (f : Nat) : Only [.freeIx] s (s.latency f).2 := only_draw s

theorem only_sampleEnd (t c f tier : Nat) (b : Bool) : Only [.rgl, .tenants, .freeIx] s (s.sampleEnd t c f tier b) := by
  unfold State.sampleEnd
  dsimp only
  have h0 := (only_latency s f).mono (l' := [.rgl, .tenants, .freeIx]) (by decide)
  generalize (s.latency f).2 = u at *
  generalize (s.latency f).1 = lat
  refine Only.trans h0 ?_
  generalize hv : (if (s.ten t).sealed then u else u.updRun c _) = v
  have hv : Only [.rgl, .tenants, .freeIx] u v := by
    rw [← hv]; exact Only.ite (Only.refl _ _) ((only_with_rgl _ _).mono (by decide))
  exact Only.ite (Only.trans hv ((only_updTen _ _ _).mono (by decide))) hv

theorem only_setTrans' (k : Nat) (t : Option Trans) : Only [.dir] s (s.setTrans k t) := only_with_dir _ _
theorem only_updTrans (k : Nat) (f : Trans → Trans) : Only [.dir] s (s.updTrans k f) := only_with_dir _ _
theorem only_setEnt' (k : Nat) (e : DirEnt) : Only [.dir] s (s.setEnt k e) := only_with_dir _ _
theorem only_setPent' (k : Nat) (e : PeerEnt) : Only [.fab] s (s.setPent k e) := only_with_fab _ _

theorem only_transStart (k : Nat) (w : TransFor) : Only [.dir] s (s.transStart k w) := by
  unfold State.transStart
  split <;> exact only_setTrans' _ _ _

theorem only_dropGrant (l h : Nat) : Only [.dir] s (s.dropGrant l h) := by
  unfold State.dropGrant
  dsimp only
  exact Only.ite (Only.refl _ _) (Only.ite (only_setEnt' _ _ _) (only_setEnt' _ _ _))

theorem only_freeCoarse (l : Nat) : Only [.dir, .fab] s (s.freeCoarse l) := by
  unfold State.freeCoarse
  dsimp only
  generalize hu : (if (s.dirEnt l).coarse then s.setEnt l {} else s) = u
  have uo : Only [.dir, .fab] s u := by rw [← hu]; exact Only.ite ((only_setEnt' _ _ _).mono (by decide)) (Only.refl _ _)
  exact Only.ite (Only.trans uo ((only_setPent' _ _ _).mono (by decide))) uo

theorem only_transDone (k : Nat) : Only [.dir] s (s.transDone k) := only_updTrans _ _ _

theorem only_endReq (r : Req) : Only [.rgl, .tenants, .freeIx, .dir] s (s.endReq r) := by
  unfold State.endReq
  dsimp only
  have h1 := (only_freeEntry s r.tenant r.cls r.place).mono (l' := [.rgl, .tenants, .freeIx, .dir]) (by decide)
  generalize s.freeEntry r.tenant r.cls r.place = u at *
  generalize hv : (if r.place = 1 ∨ r.place = 2 ∨ r.place = 3 then
      (if r.kind = .rd ∨ r.kind = .rdData then u.sampleEnd r.tenant r.cls r.since r.tier true else u) else u) = v
  have hv : Only [.rgl, .tenants, .freeIx, .dir] s v := by
    rw [← hv]
    exact Only.ite (Only.ite (Only.trans h1 ((only_sampleEnd _ _ _ _ _ _).mono (by decide))) h1) h1
  exact Only.ite hv (Only.trans hv ((only_transDone _ _).mono (by decide)))

theorem only_readResp (r : Req) (d : List Byte) (b : Bool) (dev : Nat) : Only [.ctrs, .hports, .out] s (s.readResp r d b dev) := by
  unfold State.readResp
  dsimp only
  generalize hu : (if b then s.bump (ofsOf (pgHPORT r.m.port) 0x6C) 5 1 else s) = u
  have uo : Only [.ctrs, .hports, .out] s u := by rw [← hu]; exact Only.ite ((only_bump _ _ _ _).mono (by decide)) (Only.refl _ _)
  exact Only.ite (Only.trans uo ((only_sendResp _ _ _).mono (by decide))) (Only.trans uo ((only_sendResp _ _ _).mono (by decide)))

theorem only_writeResp (r : Req) (dev : Nat) : Only [.hports, .out] s (s.writeResp r dev) := only_sendResp _ _ _

theorem only_notePeakOf (sel p : Nat) : Only [.sys] s (s.notePeakOf sel p) := only_with_sys _ _

theorem only_notePeaks : Only [.sys] s s.notePeaks := by
  unfold State.notePeaks
  refine Only.forEach (fun u sel => ?_) _ _
  exact Only.ite (Only.forEach (fun v p => only_notePeakOf v _ _) _ _) (only_notePeakOf _ _ _)

theorem only_touch (p : Nat) : Only [.tier] s (s.touch p) := by
  unfold State.touch
  exact Only.ite (Only.refl _ _) (only_updPage _ _ _)

theorem only_updRun' (c : Nat) (f : ClassRun → ClassRun) : Only [.rgl] s (s.updRun c f) := only_with_rgl _ _

theorem only_updFc' (l : Nat) (f : FcLine → FcLine) : Only [.dram] s (s.updFc l f) := only_with_dram _ _

theorem only_admitReq (r : Req) (pl : Nat) : Only [.tenants, .rgl, .slate, .daily, .ctrs, .hports, .frame, .dir] s (s.admitReq r pl) := by
  unfold State.admitReq
  dsimp only
  generalize h1 : State.charge r.m.port 0 0 (s.ownerCode r.tenant) 1 (State.takeEntry r.tenant r.cls pl (s.updTen r.tenant fun x => x.pay 1)) = a
  have o1 : Only [.tenants, .rgl, .slate, .daily, .ctrs, .hports, .frame, .dir] s a := by
    rw [← h1]
    exact Only.trans (Only.trans ((only_updTen s _ _).mono (by decide)) ((only_takeEntry _ _ _ _).mono (by decide))) ((only_charge _ _ _ _ _ _).mono (by decide))
  generalize h2 : ((State.chargeSplit gDIR 0 0 (s.ownerCode r.tenant) 1 a).dirCount 0 1).updPort r.m.port (fun h => { h with reelUse := h.reelUse + 1, idle := 0 }) = b
  have o2 : Only [.tenants, .rgl, .slate, .daily, .ctrs, .hports, .frame, .dir] s b := by
    rw [← h2]
    exact Only.trans o1 (Only.trans (Only.trans ((only_chargeSplit a _ _ _ _ _).mono (by decide)) ((only_dirCount' _ _ _).mono (by decide))) ((only_updPort _ _ _).mono (by decide)))
  generalize h3 : (if r.kind = .rd ∨ r.kind = .rdData then b.sampleBegin r.tenant r.cls r.since else b) = c
  have o3 : Only [.tenants, .rgl, .slate, .daily, .ctrs, .hports, .frame, .dir] s c := by
    rw [← h3]
    exact Only.ite (Only.trans o2 ((only_sampleBegin _ _ _ _).mono (by decide))) o2
  exact Only.trans o3 (Only.trans ((only_with_frame c _).mono (by decide)) ((only_transStart _ _ _).mono (by decide)))

/-! ### What a request's checks depend on -/

variable {s}

theorem isDb_congr {u : State} (ht : u.tables = s.tables) (he : u.extents = s.extents) (l : Nat) : u.isDb l = s.isDb l := by
  unfold State.isDb State.rgnAt; rw [ht, he]

theorem rgnAt_congr {u : State} (ht : u.tables = s.tables) (g : Nat) : u.rgnAt g = s.rgnAt g := by
  unfold State.rgnAt; rw [ht]

theorem page_congr {u : State} (ht : u.tier = s.tier) (p : Nat) : u.page p = s.page p := by
  unfold State.page; rw [ht]

theorem hport_congr {u : State} (ht : u.hports = s.hports) (p : Nat) : u.hport p = s.hport p := by
  unfold State.hport; rw [ht]

theorem reach_rgnAt {t g : Nat} {x : Nat × Range} (h : s.reach t g = some x) : s.rgnAt g = some x := by
  unfold State.reach State.boundAt at h
  cases hr : s.rgnAt g with
  | none => rw [hr] at h; cases h
  | some y =>
    rw [hr] at h
    by_cases h1 : (y.2.unbinding || y.2.fault) = true
    · simp [h1] at h
    · by_cases h2 : y.2.passes t = true
      · simp [h1, h2] at h; rw [h]
      · simp [h1, h2] at h

/-! ### A single transaction -/

theorem trans_one {k : Nat} {t : Trans} (h : s.dir.trans = [(k, some t)]) : s.trans k = some t := by
  unfold State.trans; rw [h]; simp [mapGet]

theorem setTrans_one {k : Nat} {t t' : Trans} (h : s.dir.trans = [(k, some t)]) : (s.setTrans k (some t')).dir.trans = [(k, some t')] := by
  show mapPut noTrans k (some t') s.dir.trans = _
  rw [h]; simp [mapPut, mapInsert, noTrans]

theorem setTrans_last {k : Nat} {t : Trans} (h : s.dir.trans = [(k, some t)]) : (s.setTrans k none).dir.trans = [] := by
  show mapPut noTrans k none s.dir.trans = _
  rw [h]; simp [mapPut, noTrans]

theorem setTrans_first {k : Nat} {t : Trans} (h : s.dir.trans = []) : (s.setTrans k (some t)).dir.trans = [(k, some t)] := by
  show mapPut noTrans k (some t) s.dir.trans = _
  rw [h]; simp [mapPut, mapInsert, noTrans]

theorem updTrans_one {k : Nat} {t : Trans} (f : Trans → Trans) (h : s.dir.trans = [(k, some t)]) : (s.updTrans k f).dir.trans = [(k, some (f t))] := by
  unfold State.updTrans; rw [trans_one h]; exact setTrans_one h

theorem dirFuel_one {k : Nat} {t : Trans} (h : s.dir.trans = [(k, some t)]) (hw : t.wait = []) : s.dirFuel = 48 := by
  unfold State.dirFuel; rw [h]; simp [hw]

theorem dirRun_move {k n : Nat} {t : Trans} (h : s.dir.trans = [(k, some t)]) (hm : t.movable = true) : s.dirRun (n + 1) = (s.transAdvance k t).dirRun n := by
  rw [State.dirRun]; rw [h]; simp [hm]

theorem dirRun_stuck {k : Nat} {t : Trans} (h : s.dir.trans = [(k, some t)]) (hm : t.movable = false) : ∀ n, s.dirRun n = s
  | 0 => rfl
  | n + 1 => by rw [State.dirRun]; rw [h]; simp [hm]

theorem advance_start {k : Nat} {r : Req} (hk : keyLine k = r.m.line) (hdb : s.isDb r.m.line = false) (hb : r.m.dirBad = false) :
    s.transAdvance k { what := .req r } = s.updTrans k fun t => { t with phase := .ready } := by
  unfold State.transAdvance
  simp [hb, hk, State.needs, hdb]

/-- The state from which a request is served. -/
theorem advance_ready {k : Nat} {r : Req} (hk : keyLine k = r.m.line) (hdb : s.isDb r.m.line = false) (hh : (s.page (pageOfLine r.m.line)).held = [])
    {i : Nat} {g : Range} (hg : s.rgnAt (granuleOfLine r.m.line) = some (i, g)) (hr : g.remote = false) :
    s.transAdvance k { what := .req r, phase := .ready }
      = ((if s.recallsAll r.m.line (.req r) then s.freeCoarse r.m.line else s).updTrans k fun t => { t with phase := .serving }).serve k (.req r) := by
  have h0 : ∀ u : State, Only [.dir, .fab] s u → u.grantOf r = 0 ∧ (u.page (pageOfLine r.m.line)).held = [] ∧ u.rgnAt (granuleOfLine r.m.line) = some (i, g)
      ∧ u.noRoom r.m.line 0 = false := by
    intro u hu
    have ht := hu .tables (by decide); have he := hu .extents (by decide); have hp := hu .tier (by decide)
    refine ⟨?_, by rw [page_congr hp]; exact hh, by rw [rgnAt_congr ht]; exact hg, by simp [State.noRoom]⟩
    unfold State.grantOf; rw [isDb_congr ht he, hdb]; rfl
  unfold State.transAdvance
  dsimp only
  rw [hk]
  have h1 := h0 _ (show Only [.dir, .fab] s (if s.recallsAll r.m.line (.req r) then s.freeCoarse r.m.line else s) from Only.ite (only_freeCoarse _ _) (Only.refl _ _))
  generalize (if s.recallsAll r.m.line (.req r) then s.freeCoarse r.m.line else s) = u at *
  obtain ⟨a, b, c, d⟩ := h1
  simp [a, b, c, d, hr]

theorem advance_done {k : Nat} {w : TransFor} (h : s.dir.trans = [(k, some { what := w, phase := .done })]) :
    (s.transAdvance k { what := w, phase := .done }).dir.trans = [] ∧ (s.transAdvance k { what := w, phase := .done }).dir.issue = s.dir.issue
      ∧ Only [.dir] s (s.transAdvance k { what := w, phase := .done }) := by
  have hw : (match w with | .free => true | _ => true) = true := by cases w <;> rfl
  have e : s.transAdvance k { what := w, phase := .done } = ({ s with dir := { s.dir with trans := mapAll noTrans (fun _ (x : Option Trans) => x.map fun t => { t with blocked := false }) s.dir.trans } } : State).setTrans k none := by
    unfold State.transAdvance; dsimp only
    cases w <;> rfl
  rw [e]
  refine ⟨?_, rfl, ?_⟩
  · apply setTrans_last (t := { what := w, phase := .done })
    show mapAll _ _ s.dir.trans = _
    rw [h]; simp [mapAll, noTrans]
  · exact Only.trans (only_with_dir s _) (only_setTrans' _ _ _)

/-- The directory runs a request alone: it is served once, from a state that differs in the directory only, and ends if serving it
ends it. -/
theorem dirTick_req {B : State} {r : Req} {i : Nat} {g : Range} (hk : r.m.line < 2 ^ 42) (hT : B.dir.trans = [(r.m.line, some { what := .req r })])
    (hI : B.dir.issue = []) (hdb : B.isDb r.m.line = false) (hb : r.m.dirBad = false) (hg : B.rgnAt (granuleOfLine r.m.line) = some (i, g))
    (hr : g.remote = false) (hh : (B.page (pageOfLine r.m.line)).held = []) :
    ∃ U, Only [.dir, .fab] B U ∧ U.dir.trans = [(r.m.line, some { what := .req r, phase := .serving })] ∧ U.dir.issue = []
      ∧ ((U.serve r.m.line (.req r)).dir.trans = [(r.m.line, some { what := .req r, phase := .done })] → (U.serve r.m.line (.req r)).dir.issue = [] →
          Only [.dir] (U.serve r.m.line (.req r)) B.dirTick ∧ B.dirTick.DirIdle)
      ∧ ((U.serve r.m.line (.req r)).dir.trans = [(r.m.line, some { what := .req r, phase := .serving })] → (U.serve r.m.line (.req r)).dir.issue = [] →
          B.dirTick = U.serve r.m.line (.req r)) := by
  have hkl : keyLine r.m.line = r.m.line := Nat.mod_eq_of_lt hk
  generalize hB1 : (B.updTrans r.m.line fun t => { t with phase := .ready }) = B1
  have o1 : Only [.dir] B B1 := by rw [← hB1]; exact only_updTrans _ _ _
  have t1 : B1.dir.trans = [(r.m.line, some { what := .req r, phase := .ready })] := by rw [← hB1]; exact updTrans_one _ hT
  have i1 : B1.dir.issue = [] := by rw [← hB1]; exact hI
  have e1 : B.transAdvance r.m.line { what := .req r } = B1 := by rw [advance_start hkl hdb hb, hB1]
  have db1 : B1.isDb r.m.line = false := by rw [isDb_congr (o1 .tables (by decide)) (o1 .extents (by decide))]; exact hdb
  have g1 : B1.rgnAt (granuleOfLine r.m.line) = some (i, g) := by rw [rgnAt_congr (o1 .tables (by decide))]; exact hg
  have h1 : (B1.page (pageOfLine r.m.line)).held = [] := by rw [page_congr (o1 .tier (by decide))]; exact hh
  have e2 := advance_ready hkl db1 h1 g1 hr
  generalize hV : (if B1.recallsAll r.m.line (.req r) then B1.freeCoarse r.m.line else B1) = V at e2
  have oV : Only [.dir, .fab] B1 V := by rw [← hV]; exact Only.ite (only_freeCoarse _ _) (Only.refl _ _)
  have tV : V.dir.trans = B1.dir.trans ∧ V.dir.issue = B1.dir.issue := by
    rw [← hV]; unfold State.freeCoarse; dsimp only
    repeat' split
    all_goals exact ⟨rfl, rfl⟩
  refine ⟨V.updTrans r.m.line fun t => { t with phase := .serving }, ?_, ?_, ?_, ?_, ?_⟩
  · exact Only.trans (o1.mono (by decide)) (Only.trans oV ((only_updTrans _ _ _).mono (by decide)))
  · exact updTrans_one _ (tV.1.trans t1)
  · exact tV.2.trans i1
  all_goals
    generalize (V.updTrans r.m.line fun t => { t with phase := .serving }).serve r.m.line (.req r) = C at *
    intro hC hCi
    have run : B.dirRun B.dirFuel = C.dirRun 46 := by
      rw [dirFuel_one hT rfl, dirRun_move hT rfl, e1, dirRun_move t1 rfl, e2]
  · obtain ⟨d1, d2, d3⟩ := advance_done hC
    rw [dirRun_move hC rfl] at run
    generalize C.transAdvance r.m.line { what := .req r, phase := .done } = X at *
    rw [dirRun_idle d1] at run
    have hXi : X.dir.issue = [] := d2.trans hCi
    have : B.dirTick = X := by
      unfold State.dirTick
      simp only [run, issueSnoops_none hXi, dirRun_idle d1]
    rw [this]
    exact ⟨d3, d1, hXi⟩
  · rw [dirRun_stuck hC rfl] at run
    unfold State.dirTick
    simp only [run, issueSnoops_none hCi, dirRun_stuck hC rfl]

/-! ### Receipt and admission -/

/-- A port as a response leaves it by: what waits, and the credits. -/
def HPort.sameOut (a b : HPort) : Prop := a.respQ = b.respQ ∧ a.s2mNdr = b.s2mNdr ∧ a.s2mDrs = b.s2mDrs

theorem Output.credits_same {a b : HPort} (h : a.sameOut b) (o : Output) : o.credits a = o.credits b := by
  cases o <;> first | rfl | exact h.2.1 | exact h.2.2

theorem State.Sent.from {u t : State} {p : Nat} {o : Output} (h : u.Sent p o t) (e1 : u.out = s.out) (e2 : (u.hport p).sameOut (s.hport p)) : s.Sent p o t :=
  h.of e1.symm e2.1.symm (Output.credits_same e2 o).symm rfl rfl

theorem State.Sent.upto {t t' : State} {p : Nat} {o : Output} (h : s.Sent p o t) {l : List Part} (ho : Only l t t') (h1 : Part.out ∉ l) (h2 : Part.hports ∉ l) : s.Sent p o t' :=
  h.of rfl rfl rfl (ho .out h1) (by rw [hport_congr (ho .hports h2)])

/-- Receipt of a request that passes: it waits at its port, and the port admits. -/
theorem hostReceive_passes {kind : ReqKind} {m : MemReq} {h : Nat} {g : Range} (hp : s.Passes m h g) :
    ∃ u r, s.hostReceive kind m = u.hubAdmit m.port ∧ r = ({ m := m, kind := kind, hid := h, tenant := (s.ident h).tenant, cls := (s.ident h).cls, since := s.frame.num } : Req)
      ∧ (u.hport m.port).waiting = (s.hport m.port).waiting ++ [r] ∧ (u.hport m.port).sameOut (s.hport m.port) ∧ Only [.ctrs, .daily, .hports] s u := by
  obtain ⟨p1, p2, p3, p4, ⟨i, p5⟩, p6, p7, p8⟩ := hp
  generalize hs0 : (if kind.isWrite && m.poison then s.bump (ofsOf (pgHPORT m.port) 0x6C) 6 1 else s) = s0
  have o0 : Only [.ctrs] s s0 := by rw [← hs0]; exact Only.ite (only_bump _ _ _ _) (Only.refl _ _)
  generalize hs1 : ({ s0 with daily := { s0.daily with acc := if kind.isWrite then { s0.daily.acc with hostWr := satAdd 32 s0.daily.acc.hostWr 1 } else { s0.daily.acc with hostRd := satAdd 32 s0.daily.acc.hostRd 1 } } } : State) = s1
  have o1 : Only [.ctrs, .daily] s s1 := by rw [← hs1]; exact Only.trans (o0.mono (by decide)) ((only_with_daily s0 _).mono (by decide))
  have e2 : s1.sys = s.sys := o1 .sys (by decide)
  have et : s1.tables = s.tables := o1 .tables (by decide)
  have er : s1.regs = s.regs := o1 .regs (by decide)
  have eh : s1.hports = s.hports := o1 .hports (by decide)
  have e3 : s1.matchId m.port m.link m.src = s.matchId m.port m.link m.src := by
    unfold State.matchId State.idSource State.idMode State.lds State.regF State.reg State.hport; rw [et, er, eh]
  have e4 : s1.ident h = s.ident h := by unfold State.ident; rw [et]
  have e5 : s1.reach (s.ident h).tenant (granuleOfLine m.line) = s.reach (s.ident h).tenant (granuleOfLine m.line) := by
    unfold State.reach State.boundAt State.rgnAt; rw [et]
  have e6 : s1.hport m.port = s.hport m.port := hport_congr eh _
  have ef : (((s.hport m.port).linkOf m.link).flit != 1 || g.kind == kPrivate) = true := by
    rcases p7 with p7 | p7 <;> simp [p7]
  generalize hr : ({ m := m, kind := kind, hid := h, tenant := (s.ident h).tenant, cls := (s.ident h).cls, since := s.frame.num } : Req) = r
  refine ⟨s1.updPort m.port fun x => { x with waiting := x.waiting ++ [r] }, r, ?_, rfl, ?_, ?_, ?_⟩
  · unfold State.hostReceive
    rw [if_neg (by simp [p1])]
    dsimp only
    have ea : s0.sys.memActive = true := by rw [show s0.sys = s.sys from o0 .sys (by decide)]; exact p2
    rw [hs0, ea, if_neg (by decide), hs1, e3, p3]
    dsimp only
    rw [e4, if_neg (by simp [p4]), e5, p5]
    rw [e6]
    refine (if_neg ?_).trans ?_
    · show ¬ (!(((s.hport m.port).linkOf m.link).flit != 1 || g.kind == kPrivate)) = true
      rw [ef]; decide
    · rw [hr]
  · rw [hport_updPort_same, e6]
  · rw [hport_updPort_same, e6]; exact ⟨rfl, rfl, rfl⟩
  · exact Only.trans (o1.mono (by decide)) ((only_updPort _ _ _).mono (by decide))

theorem placeFor_small (t c : Nat) : s.placeFor t c ≠ 4 := by
  unfold State.placeFor
  dsimp only
  repeat' split
  all_goals decide

theorem admitReq_trans {r : Req} {pl : Nat} (hT : s.dir.trans = []) :
    (s.admitReq r pl).dir = { s.dir with trans := [(r.m.line, some { what := .req { r with place := pl } })] } := by
  have hd : ∀ u : State, u.dir = s.dir → (({ u with frame := { u.frame with hostSeen := true } } : State).transStart r.m.line (.req { r with place := pl })).dir
      = { s.dir with trans := [(r.m.line, some { what := .req { r with place := pl } })] } := by
    intro u hu
    generalize hv : ({ u with frame := { u.frame with hostSeen := true } } : State) = v
    have hvd : v.dir = s.dir := by rw [← hv]; exact hu
    have hn : v.trans r.m.line = none := by unfold State.trans; rw [hvd, hT]; rfl
    unfold State.transStart
    rw [hn]
    dsimp only
    have := setTrans_first (s := v) (k := r.m.line) (t := { what := .req { r with place := pl } }) (by rw [hvd]; exact hT)
    show { v.dir with trans := (v.setTrans r.m.line (some { what := .req { r with place := pl } })).dir.trans } = _
    rw [this, hvd]
  unfold State.admitReq
  dsimp only
  apply hd
  have hb : ∀ a : State, a.dir = s.dir → ∀ f, (((State.chargeSplit gDIR 0 0 (s.ownerCode r.tenant) 1 a).dirCount 0 1).updPort r.m.port f).dir = s.dir := by
    intro a ha f
    have o := Only.trans (Only.trans ((only_chargeSplit a gDIR 0 0 (s.ownerCode r.tenant) 1).mono (l' := [.slate, .daily, .ctrs, .hports]) (by decide)) ((only_dirCount' _ 0 1).mono (by decide))) ((only_updPort _ r.m.port f).mono (by decide))
    rw [o .dir (by decide), ha]
  have ha : (State.charge r.m.port 0 0 (s.ownerCode r.tenant) 1 (State.takeEntry r.tenant r.cls pl (s.updTen r.tenant fun x => x.pay 1))).dir = s.dir := by
    have o := Only.trans (Only.trans ((only_updTen s r.tenant fun x => x.pay 1).mono (l' := [.tenants, .rgl, .slate, .daily]) (by decide)) ((only_takeEntry _ r.tenant r.cls pl).mono (by decide)))
      ((only_charge _ r.m.port 0 0 (s.ownerCode r.tenant) 1).mono (by decide))
    exact o .dir (by decide)
  generalize (State.charge r.m.port 0 0 (s.ownerCode r.tenant) 1 (State.takeEntry r.tenant r.cls pl (s.updTen r.tenant fun x => x.pay 1))) = a at *
  split
  · rw [(only_sampleBegin _ _ _ _) .dir (by decide)]; exact hb a ha _
  · exact hb a ha _

theorem admitReq_port {r : Req} {pl : Nat} : ((s.admitReq r pl).hport r.m.port).sameOut (s.hport r.m.port)
    ∧ ((s.admitReq r pl).hport r.m.port).waiting = (s.hport r.m.port).waiting ∧ (∀ t, ((s.admitReq r pl).ten t).keyFault = (s.ten t).keyFault)
    ∧ (s.admitReq r pl).frame.num = s.frame.num := by
  unfold State.admitReq
  dsimp only
  generalize hw : (s.updTen r.tenant fun x => x.pay 1) = w
  have hwt : ∀ t, (w.ten t).keyFault = (s.ten t).keyFault := by
    intro t; rw [← hw]
    by_cases h : t = r.tenant
    · subst h; rw [ten_updTen_same]; unfold Tenant.pay; split <;> rfl
    · rw [ten_updTen_other _ _ h]
  have hwp : w.hports = s.hports := by rw [← hw]; rfl
  have hwf : w.frame = s.frame := by rw [← hw]; rfl
  generalize ha : State.charge r.m.port 0 0 (s.ownerCode r.tenant) 1 (State.takeEntry r.tenant r.cls pl w) = a
  have oa : Only [.rgl, .slate, .daily] w a := by
    rw [← ha]; exact Only.trans ((only_takeEntry _ _ _ _).mono (by decide)) ((only_charge _ _ _ _ _ _).mono (by decide))
  generalize hc : (State.chargeSplit gDIR 0 0 (s.ownerCode r.tenant) 1 a).dirCount 0 1 = c
  have oc : Only [.rgl, .slate, .daily, .ctrs] w c := by
    rw [← hc]; exact Only.trans (oa.mono (by decide)) (Only.trans ((only_chargeSplit _ _ _ _ _ _).mono (by decide)) ((only_dirCount' _ _ _).mono (by decide)))
  generalize hb : c.updPort r.m.port (fun h => { h with reelUse := h.reelUse + 1, idle := 0 }) = b
  have hbp : b.hport r.m.port = { s.hport r.m.port with reelUse := (s.hport r.m.port).reelUse + 1, idle := 0 } := by
    rw [← hb, hport_updPort_same, hport_congr (oc .hports (by decide)), hport_congr hwp]
  have hbt : b.tenants = w.tenants := by
    have h1 : c.tenants = w.tenants := oc .tenants (by decide)
    rw [← hb]; exact h1
  have hbf : b.frame = s.frame := by
    have h1 : c.frame = w.frame := oc .frame (by decide)
    rw [← hb]; exact h1.trans hwf
  generalize hd : (if r.kind = .rd ∨ r.kind = .rdData then b.sampleBegin r.tenant r.cls r.since else b) = d
  have od : Only [.rgl] b d := by rw [← hd]; exact Only.ite (only_sampleBegin _ _ _ _) (Only.refl _ _)
  have of := Only.trans ((only_with_frame d { d.frame with hostSeen := true }).mono (l' := [.frame, .dir]) (by decide)) ((only_transStart _ r.m.line (.req { r with place := pl })).mono (by decide))
  have off := only_transStart ({ d with frame := { d.frame with hostSeen := true } } : State) r.m.line (.req { r with place := pl })
  generalize State.transStart r.m.line (.req { r with place := pl }) ({ d with frame := { d.frame with hostSeen := true } } : State) = X at *
  have hX : X.hport r.m.port = b.hport r.m.port := by rw [hport_congr (of .hports (by decide)), hport_congr (od .hports (by decide))]
  refine ⟨?_, ?_, ?_, ?_⟩
  · rw [hX, hbp]; exact ⟨rfl, rfl, rfl⟩
  · rw [hX, hbp]
  · intro t
    have : X.ten t = w.ten t := by
      unfold State.ten; rw [of .tenants (by decide), od .tenants (by decide), hbt]
    rw [this, hwt]
  · rw [off .frame (by decide)]
    show d.frame.num = _
    rw [od .frame (by decide), hbf]

/-- A port with one waiting request that is admitted at once. -/
theorem admitPort_one {p : Nat} {r : Req} (hw : (s.hport p).waiting = [r]) (hp : r.m.port = p) (hA : s.AdmitsAtOnce p r.tenant r.cls) (hT : s.dir.trans = []) :
    ∃ pl, pl ≠ 4 ∧ Only [.tenants, .rgl, .slate, .daily, .ctrs, .hports, .frame, .dir] s (s.admitPort p)
      ∧ (s.admitPort p).dir = { s.dir with trans := [(r.m.line, some { what := .req { r with place := pl } })] }
      ∧ ((s.admitPort p).hport p).sameOut (s.hport p) ∧ ((s.admitPort p).hport p).waiting = []
      ∧ (∀ t, ((s.admitPort p).ten t).keyFault = (s.ten t).keyFault) ∧ (s.admitPort p).frame.num = s.frame.num := by
  obtain ⟨a1, a2, a3⟩ := hA
  generalize hu : (s.updPort p fun h => { h with waiting := [] }) = u
  have uo : Only [.hports] s u := by rw [← hu]; exact only_updPort _ _ _
  have up : u.hport p = { s.hport p with waiting := [] } := by rw [← hu, hport_updPort_same]
  have hadm : u.admitOf r = .ok (s.placeFor r.tenant r.cls) := by
    have h1 : u.ten r.tenant = s.ten r.tenant := by rw [← hu]; rfl
    have h2 : u.placeFor r.tenant r.cls = s.placeFor r.tenant r.cls := by rw [← hu]; rfl
    have h3 : u.finishes p 0 (u.ownerCode r.tenant) 1 = s.finishes p 0 (s.ownerCode r.tenant) 1 := by rw [← hu]; rfl
    unfold State.admitOf
    rw [h1, h2, hp, h3, a1, a3]
    simp [a2]
  generalize hv : (if (u.ten r.tenant).sealed || s.placeFor r.tenant r.cls == 1 then u else u.updTen r.tenant fun x => { x with fullNow := true }) = v
  have vo : Only [.tenants] u v := by rw [← hv]; exact Only.ite (Only.refl _ _) (only_updTen _ _ _)
  have vt : ∀ t, (v.ten t).keyFault = (s.ten t).keyFault := by
    intro t
    have hut : u.ten t = s.ten t := by rw [← hu]; rfl
    rw [← hv, ← hut]
    split
    · rfl
    · by_cases h : t = r.tenant
      · subst h; rw [ten_updTen_same]
      · rw [ten_updTen_other _ _ h]
  have e : s.admitPort p = (v.admitReq r (s.placeFor r.tenant r.cls)).updPort p fun h => { h with waiting := [] } := by
    unfold State.admitPort
    dsimp only
    rw [hw, hu]
    simp only [List.foldl_cons, List.foldl_nil, Bool.false_eq_true, if_false]
    rw [hadm]
    dsimp only
    rw [hv]
  rw [e]
  have hvT : v.dir.trans = [] := by rw [vo .dir (by decide), uo .dir (by decide)]; exact hT
  obtain ⟨q1, q2, q3, q4⟩ := admitReq_port (s := v) (r := r) (pl := s.placeFor r.tenant r.cls)
  have hd := admitReq_trans (s := v) (r := r) (pl := s.placeFor r.tenant r.cls) hvT
  have oq := only_admitReq v r (s.placeFor r.tenant r.cls)
  generalize v.admitReq r (s.placeFor r.tenant r.cls) = w at *
  have hvp : v.hport p = { s.hport p with waiting := [] } := by rw [hport_congr (vo .hports (by decide)), up]
  rw [hp, hvp] at q1 q2
  refine ⟨s.placeFor r.tenant r.cls, placeFor_small _ _, ?_, ?_, ?_, ?_, ?_, ?_⟩
  · exact Only.trans (uo.mono (by decide)) (Only.trans (vo.mono (by decide)) (Only.trans oq ((only_updPort _ _ _).mono (by decide))))
  · show w.dir = _
    rw [hd, vo .dir (by decide), uo .dir (by decide)]
  · rw [hport_updPort_same]; exact q1
  · rw [hport_updPort_same]
  · intro t; show (w.ten t).keyFault = _; rw [q3, vt]
  · show w.frame.num = _
    rw [q4, vo .frame (by decide), uo .frame (by decide)]

/-! ### Serving -/

theorem only_deliver_host (r : Req) (l : Nat) (d : List Byte) (bad : Bool) :
    Only [.fns, .ctrs, .hports, .out, .rgl, .tenants, .freeIx, .dir] s (s.deliver (.host r) l d bad) := by
  unfold State.deliver
  dsimp only
  generalize hu : (if bad then s.idCause r.hid 11 else s) = u
  have uo : Only [.fns, .ctrs, .hports, .out, .rgl, .tenants, .freeIx, .dir] s u := by
    rw [← hu]; exact Only.ite ((only_idCause _ _ _).mono (by decide)) (Only.refl _ _)
  exact Only.trans uo (Only.trans ((only_readResp _ _ _ _ _).mono (by decide)) ((only_endReq _ _).mono (by decide)))

theorem endReq_trans {r : Req} {t : Trans} (hpl : r.place ≠ 4) (hT : s.dir.trans = [(r.m.line, some t)]) :
    (s.endReq r).dir.trans = [(r.m.line, some { t with phase := .done })] ∧ (s.endReq r).dir.issue = s.dir.issue := by
  unfold State.endReq
  dsimp only
  have h1 := only_freeEntry s r.tenant r.cls r.place
  generalize s.freeEntry r.tenant r.cls r.place = u at *
  generalize hv : (if r.place = 1 ∨ r.place = 2 ∨ r.place = 3 then
      (if r.kind = .rd ∨ r.kind = .rdData then u.sampleEnd r.tenant r.cls r.since r.tier true else u) else u) = v
  have hv : Only [.rgl, .tenants, .freeIx] u v := by
    rw [← hv]
    exact Only.ite (Only.ite (only_sampleEnd _ _ _ _ _ _) (Only.refl _ _)) (Only.refl _ _)
  have hvd : v.dir = s.dir := by
    have a := hv .dir (by decide); have b := h1 .dir (by decide)
    exact Eq.trans a b
  rw [if_neg hpl]
  refine ⟨updTrans_one _ (by rw [hvd]; exact hT), ?_⟩
  show v.dir.issue = _
  rw [hvd]

theorem endReq_port {r : Req} : (s.endReq r).out = s.out ∧ (s.endReq r).hports = s.hports :=
  ⟨only_endReq s r .out (by decide), only_endReq s r .hports (by decide)⟩

/-- The end of a host request's read: its answer leaves, and its transaction is over. -/
theorem deliver_host {r : Req} {l : Nat} {d : List Byte} {bad : Bool} {t : Trans} (hpl : r.place ≠ 4) (hgr : r.grant = 0)
    (hT : s.dir.trans = [(r.m.line, some t)]) :
    (s.deliver (.host r) l d bad).dir.trans = [(r.m.line, some { t with phase := .done })] ∧ (s.deliver (.host r) l d bad).dir.issue = s.dir.issue
      ∧ ∃ dev, s.Sent r.m.port (readAnswer r.kind r.m d bad dev) (s.deliver (.host r) l d bad) := by
  unfold State.deliver
  dsimp only
  generalize hu : (if bad then s.idCause r.hid 11 else s) = u
  have uo : Only [.fns] s u := by rw [← hu]; exact Only.ite (only_idCause _ _ _) (Only.refl _ _)
  generalize s.devLoad r.m.port r.tenant = dev
  have ro := only_readResp u r d bad dev
  have hw : (u.readResp r d bad dev).dir = s.dir := by
    have a := ro .dir (by decide); have b := uo .dir (by decide)
    exact Eq.trans a b
  obtain ⟨e1, e2⟩ := endReq_trans (s := u.readResp r d bad dev) hpl (by rw [hw]; exact hT)
  refine ⟨e1, by rw [e2, hw], dev, ?_⟩
  have hs : u.Sent r.m.port (readAnswer r.kind r.m d bad dev) (u.readResp r d bad dev) := by
    unfold State.readResp readAnswer
    dsimp only
    rw [hgr]
    have ho : ∀ x : State, x = (if bad then u.bump (ofsOf (pgHPORT r.m.port) 0x6C) 5 1 else u) → x.out = u.out ∧ x.hports = u.hports := by
      rintro x rfl; cases bad <;> exact ⟨rfl, rfl⟩
    have hx := ho _ rfl
    generalize (if bad then u.bump (ofsOf (pgHPORT r.m.port) 0x6C) 5 1 else u) = x at *
    by_cases hk : r.kind = .inv
    · rw [if_pos hk, if_pos hk]
      exact (sendResp_sent x _ _ rfl).from hx.1 (by rw [hport_congr hx.2]; exact ⟨rfl, rfl, rfl⟩)
    · rw [if_neg hk, if_neg hk]
      exact (sendResp_sent x _ _ rfl).from hx.1 (by rw [hport_congr hx.2]; exact ⟨rfl, rfl, rfl⟩)
  have hs' := hs.upto (only_endReq (u.readResp r d bad dev) r) (by decide) (by decide)
  exact hs'.from (uo .out (by decide)) (by rw [hport_congr (uo .hports (by decide))]; exact ⟨rfl, rfl, rfl⟩)

theorem only_applied_host (r : Req) : Only [.hports, .out, .rgl, .tenants, .freeIx, .dir] s (s.applied (.host r)) := by
  unfold State.applied
  exact Only.trans ((only_writeResp _ _ _).mono (by decide)) ((only_endReq _ _).mono (by decide))

/-- The end of a host request's write. -/
theorem applied_host {r : Req} {t : Trans} (hpl : r.place ≠ 4) (hgr : r.grant = 0) (hT : s.dir.trans = [(r.m.line, some t)]) :
    (s.applied (.host r)).dir.trans = [(r.m.line, some { t with phase := .done })] ∧ (s.applied (.host r)).dir.issue = s.dir.issue
      ∧ ∃ dev, s.Sent r.m.port (.ndr r.m.port r.m.tag 0 0 dev) (s.applied (.host r)) := by
  unfold State.applied
  dsimp only
  generalize s.devLoad r.m.port r.tenant = dev
  have ro := only_writeResp s r dev
  have hw : (s.writeResp r dev).dir = s.dir := ro .dir (by decide)
  obtain ⟨e1, e2⟩ := endReq_trans (s := s.writeResp r dev) hpl (by rw [hw]; exact hT)
  refine ⟨e1, by rw [e2, hw], dev, ?_⟩
  have hs : s.Sent r.m.port (.ndr r.m.port r.m.tag 0 0 dev) (s.writeResp r dev) := by
    unfold State.writeResp
    rw [hgr]
    exact sendResp_sent s _ _ rfl
  exact hs.upto (only_endReq _ r) (by decide) (by decide)

/-! ### The front cache and the channels, with sound decoding -/

theorem only_fcEvict (l : Nat) : Only [.ctrs, .slate, .daily, .rgl, .dram] s (s.fcEvict l) := by
  unfold State.fcEvict
  dsimp only
  generalize hu : (if (s.fcLine l).dirty then (s.bump (ofsOf (pgMEDIA 0) 0x124) 2 1).chargeSplit gDRAM (s.frameChan (pageOfLine l)) 0 ((s.fcLine l).sealedBy.getD ownOpen) 1 else s) = u
  have uo : Only [.ctrs, .slate, .daily, .rgl, .dram] s u := by
    rw [← hu]
    exact Only.ite (Only.trans ((only_bump s _ _ _).mono (by decide)) ((only_chargeSplit _ _ _ _ _ _).mono (by decide))) (Only.refl _ _)
  generalize hv : (if (s.fcLine l).sealedBy.isNone then u.updRun (s.fcLine l).cls fun r => { r with fcLines := r.fcLines - 1 } else u) = v
  have vo : Only [.ctrs, .slate, .daily, .rgl, .dram] s v := by
    rw [← hv]; exact Only.ite (Only.trans uo ((only_with_rgl _ _).mono (by decide))) uo
  exact Only.trans vo ((only_with_dram _ _).mono (by decide))

theorem only_fcAlloc (l t c : Nat) (d : Bool) : Only [.ctrs, .slate, .daily, .rgl, .dram] s (s.fcAlloc l t c d) := by
  unfold State.fcAlloc
  dsimp only
  have hput : ∀ (u : State) (f : FcLine → FcLine) (g : ClassRun → ClassRun) (b : Prop) [Decidable b], Only [.ctrs, .slate, .daily, .rgl, .dram] s u →
      Only [.ctrs, .slate, .daily, .rgl, .dram] s (if b then u.updFc l f else (u.updFc l f).updRun c g) := by
    intro u f g b _ hu
    have h1 := Only.trans hu ((only_updFc' u l f).mono (by decide))
    exact Only.ite h1 (Only.trans h1 ((only_updRun' _ _ _).mono (by decide)))
  have hb : Only [.ctrs, .slate, .daily, .rgl, .dram] s (s.bump (ofsOf (pgMEDIA 0) 0x124) 3 1) := (only_bump s _ _ _).mono (by decide)
  refine Only.ite hb (Only.ite ?_ ?_)
  · split
    · exact hb
    · exact hput _ _ _ _ (only_fcEvict _)
  · split
    · exact hput _ _ _ _ (Only.refl _ _)
    · split
      · exact hb
      · exact hput _ _ _ _ (only_fcEvict _)

/-- A read of a line whose decoding is sound: the line's own poison, and no change outside charges, counts and the cache. -/
theorem fcRead_good {l t c : Nat} {env : ReadEnv} (he : env.dec = .good) :
    (s.fcRead l t c env).1 = s.isPoison l ∧ Only [.ctrs, .slate, .daily, .rgl, .dram] s (s.fcRead l t c env).2 := by
  unfold State.fcRead
  dsimp only
  generalize hu : s.chargeSplit gDIR 1 0 (s.ownerCode t) 1 = u
  have uo : Only [.ctrs, .slate, .daily, .rgl, .dram] s u := by rw [← hu]; exact (only_chargeSplit _ _ _ _ _ _).mono (by decide)
  by_cases hv : (s.fcLine l).valid = true
  · rw [if_pos hv, he]
    dsimp only
    exact ⟨rfl, Only.trans uo (Only.trans ((only_bump _ _ _ _).mono (by decide)) ((only_updFc' _ _ _).mono (by decide)))⟩
  · rw [if_neg hv]
    unfold State.dramRead
    rw [he]
    dsimp only
    generalize hw : u.bump (ofsOf (pgMEDIA 0) 0x124) 1 1 = w
    have wo : Only [.ctrs, .slate, .daily, .rgl, .dram] s w := by rw [← hw]; exact Only.trans uo ((only_bump _ _ _ _).mono (by decide))
    have wp : w.isPoison l = s.isPoison l := by unfold State.isPoison; rw [wo .poison (by decide)]
    generalize hx : w.chargeSplit gDRAM (w.frameChan (pageOfLine l)) 0 (s.ownerCode t) 1 = x
    have xo : Only [.ctrs, .slate, .daily, .rgl, .dram] s x := by rw [← hx]; exact Only.trans wo ((only_chargeSplit _ _ _ _ _ _).mono (by decide))
    rw [wp]
    cases hp : s.isPoison l
    · simp only [Bool.false_eq_true, if_false]
      exact ⟨trivial, Only.trans xo (only_fcAlloc _ _ _ _)⟩
    · simp only [if_true, reduceCtorEq, if_false]
      exact ⟨trivial, Only.trans xo (Only.trans ((only_bump _ _ _ _).mono (by decide)) (only_fcAlloc _ _ _ _))⟩

theorem readFor_zero {l t c : Nat} {env : ReadEnv} {who : Who} (hk : s.keyBad l = false) (hst : (s.page (pageOfLine l)).st = .zero) :
    s.readFor l t c env false who = s.deliver who l zeroLine (s.isPoison l) := by
  have ht : s.touch (pageOfLine l) = s := by unfold State.touch; dsimp only; rw [if_pos hst]
  unfold State.readFor
  dsimp only
  rw [if_neg (by simp [hk]), if_neg (by decide), ht, hst]

theorem readFor_open {l t c : Nat} {env : ReadEnv} {who : Who} (hk : s.keyBad l = false)
    (hst : (s.page (pageOfLine l)).st = .opened ∨ (s.page (pageOfLine l)).st = .folding) (he : env.dec = .good) :
    ∃ u, Only [.tier, .ctrs, .slate, .daily, .rgl, .dram] s u ∧ s.readFor l t c env false who = u.deliver who l (s.readLine l) (s.isPoison l)
      ∧ u.page (pageOfLine l) = { s.page (pageOfLine l) with age := 0, touched := true } ∧ (∀ q, q ≠ pageOfLine l → u.page q = s.page q) := by
  have hnz : (s.page (pageOfLine l)).st ≠ .zero := by rcases hst with h | h <;> rw [h] <;> decide
  have ht : s.touch (pageOfLine l) = s.updPage (pageOfLine l) fun r => { r with age := 0, touched := true } := by
    unfold State.touch; dsimp only; rw [if_neg hnz]
  generalize hv : s.touch (pageOfLine l) = v
  have vo : Only [.tier] s v := by rw [← hv]; exact only_touch _ _
  have vst : (v.page (pageOfLine l)).st = (s.page (pageOfLine l)).st := by rw [← hv, ht, page_updPage_same]
  obtain ⟨f1, f2⟩ := fcRead_good (s := v) (l := l) (t := t) (c := c) he
  have pg : ∀ q, (v.fcRead l t c env).2.page q = v.page q := fun q => page_congr (f2 .tier (by decide)) q
  refine ⟨(v.fcRead l t c env).2, Only.trans (vo.mono (by decide)) (f2.mono (by decide)), ?_, by rw [pg, ← hv, ht, page_updPage_same],
    fun q hq => by rw [pg, ← hv, ht, page_updPage_other _ _ hq]⟩
  have hrl : (v.fcRead l t c env).2.readLine l = s.readLine l := by
    have a := f2 .mem (by decide); have b := vo .mem (by decide)
    unfold State.readLine State.readBytes State.readByte
    rw [show (v.fcRead l t c env).2.mem = s.mem from Eq.trans a b]
  have hp : v.isPoison l = s.isPoison l := by unfold State.isPoison; rw [vo .poison (by decide)]
  unfold State.readFor
  dsimp only
  rw [if_neg (by simp [hk]), if_neg (by decide), hv]
  rcases hst with h | h <;>
  · rw [vst, h]
    dsimp only
    rw [hrl, f1, hp]

/-- A write of an open page on which no write is held: the line is written at once. A narrow write is one that hits the front cache. -/
theorem writeFor_open {l t c be : Nat} {d : List Byte} {p : Bool} {env : ReadEnv} {who : Who} (hk : s.keyBad l = false)
    (hst : (s.page (pageOfLine l)).st = .opened) (hh : (s.page (pageOfLine l)).held = []) (hb : be = fullBe ∨ (s.fcLine l).valid = true) :
    ∃ u v, Only [.tier, .ctrs, .slate, .daily] s u ∧ Only [.ctrs, .slate, .daily, .rgl, .dram] (u.applyWrite l d be p) v
      ∧ s.writeFor l t c d be p env false who = v.applied who
      ∧ v.page (pageOfLine l) = { s.page (pageOfLine l) with age := 0, touched := true } ∧ (∀ q, q ≠ pageOfLine l → v.page q = s.page q) := by
  have hnz : (s.page (pageOfLine l)).st ≠ .zero := by rw [hst]; decide
  have ht : s.touch (pageOfLine l) = s.updPage (pageOfLine l) fun r => { r with age := 0, touched := true } := by
    unfold State.touch; dsimp only; rw [if_neg hnz]
  generalize hv : s.touch (pageOfLine l) = v
  have vo : Only [.tier] s v := by rw [← hv]; exact only_touch _ _
  have vst : (v.page (pageOfLine l)).st = .opened := by rw [← hv, ht, page_updPage_same]; exact hst
  have vh : (v.page (pageOfLine l)).held = [] := by rw [← hv, ht, page_updPage_same]; exact hh
  have vf : v.fcLine l = s.fcLine l := by unfold State.fcLine; rw [vo .dram (by decide)]
  have hw : s.writeFor l t c d be p env false who = (v.fcWrite l t c d be p env).applied who := by
    unfold State.writeFor
    dsimp only
    rw [if_neg (by simp [hk])]
    simp only [Bool.false_eq_true, if_false]
    rw [hv, if_pos ⟨vst, by simp [vh]⟩]
  rw [hw]
  generalize hu : v.chargeSplit gDIR 1 0 (v.ownerCode t) 1 = u
  have uo : Only [.tier, .ctrs, .slate, .daily] s u := by rw [← hu]; exact Only.trans (vo.mono (by decide)) ((only_chargeSplit _ _ _ _ _ _).mono (by decide))
  have up : ∀ q, u.page q = v.page q := fun q => by rw [← hu]; exact page_congr ((only_chargeSplit _ _ _ _ _ _) .tier (by decide)) q
  have key : Only [.ctrs, .slate, .daily, .rgl, .dram] (u.applyWrite l d be p) (v.fcWrite l t c d be p env) := ?_
  · have pg : ∀ q, (v.fcWrite l t c d be p env).page q = v.page q := by
      intro q
      rw [page_congr (key .tier (by decide)) q, page_congr (only_applyWrite u l d be p .tier (by decide)) q, up]
    exact ⟨u, v.fcWrite l t c d be p env, uo, key, rfl, by rw [pg, ← hv, ht, page_updPage_same], fun q hq => by rw [pg, ← hv, ht, page_updPage_other _ _ hq]⟩
  unfold State.fcWrite
  dsimp only
  rw [hu, vf]
  generalize u.applyWrite l d be p = w
  by_cases hbe : be = fullBe
  · rw [if_pos hbe]
    exact Only.ite (Only.trans ((only_bump _ _ _ _).mono (by decide)) ((only_updFc' _ _ _).mono (by decide)))
      (Only.trans ((only_bump _ _ _ _).mono (by decide)) (only_fcAlloc _ _ _ _))
  · have hvalid : (s.fcLine l).valid = true := hb.resolve_left hbe
    rw [if_neg hbe, if_pos hvalid]
    exact Only.trans ((only_bump _ _ _ _).mono (by decide)) ((only_updFc' _ _ _).mono (by decide))

/-! ### A request alone, from its receipt to its service -/

theorem serve_local {r : Req} {i : Nat} {g : Range} (hk : r.m.line < 2 ^ 42) (hdb : s.isDb r.m.line = false) (hg : s.rgnAt (granuleOfLine r.m.line) = some (i, g))
    (hr : g.remote = false) : ∃ n, s.serve r.m.line (.req r) =
      if r.kind.isWrite then (s.dropGrant r.m.line r.hid).writeFor r.m.line r.tenant r.cls r.m.data (if r.kind = .wr then fullBe else r.m.be) r.m.poison r.m.env r.m.sheetBad
        (.host { r with grant := 0, tier := n })
      else s.readFor r.m.line r.tenant r.cls r.m.env r.m.sheetBad (.host { r with grant := 0, tier := n }) := by
  have hkl : keyLine r.m.line = r.m.line := Nat.mod_eq_of_lt hk
  have hgr : s.grantOf r = 0 := by unfold State.grantOf; rw [hdb]; rfl
  refine ⟨(match (s.page (pageOfLine r.m.line)).st with | .zero | .opened | .folding => 0 | .folded | .unfolding => 1 | _ => 2), ?_⟩
  unfold State.serve
  dsimp only
  rw [hkl, hg]
  dsimp only
  rw [hgr, if_neg (by simp [hr])]
  unfold State.setGrant
  rw [if_pos rfl]
  cases hw : r.kind.isWrite
  · rw [if_neg (by decide), if_neg (by decide), if_neg (by decide)]; try rfl
  · rw [if_pos rfl, if_pos rfl, if_pos rfl]; try rfl

theorem dropGrant_trans (l h : Nat) : (s.dropGrant l h).dir.trans = s.dir.trans ∧ (s.dropGrant l h).dir.issue = s.dir.issue := by
  unfold State.dropGrant
  dsimp only
  repeat' split
  all_goals exact ⟨rfl, rfl⟩

theorem keyBad_congr {u : State} (ht : u.tables = s.tables) (hk : ∀ t, (u.ten t).keyFault = (s.ten t).keyFault) (l : Nat) : u.keyBad l = s.keyBad l := by
  unfold State.keyBad
  rw [rgnAt_congr ht]
  split
  · exact hk _
  · rfl

/-- The service of a request's line, as its kind asks. -/
def State.serveLine (u : State) (r : Req) : State :=
  if r.kind.isWrite then u.writeFor r.m.line r.tenant r.cls r.m.data (if r.kind = .wr then fullBe else r.m.be) r.m.poison r.m.env r.m.sheetBad (.host r)
  else u.readFor r.m.line r.tenant r.cls r.m.env r.m.sheetBad (.host r)

/-- HUB_REQUEST_ADMIT where one request waits and nothing stands in its way: it is admitted and served. -/
theorem hubAdmit_one {p i : Nat} {r : Req} {g : Range} (hw : (s.hport p).waiting = [r]) (hp : r.m.port = p) (hA : s.AdmitsAtOnce p r.tenant r.cls)
    (hf : s.fab.waiting = []) (hd : s.DirIdle) (hdb : s.isDb r.m.line = false) (hg : s.rgnAt (granuleOfLine r.m.line) = some (i, g)) (hr : g.remote = false)
    (hso : s.Sound r.m) :
    ∃ (U : State) (q r' : Req), r'.m = r.m ∧ r'.kind = r.kind ∧ r'.grant = 0 ∧ r'.place ≠ 4 ∧ r'.tenant = r.tenant ∧ r'.cls = r.cls
      ∧ Only [.tenants, .rgl, .slate, .daily, .ctrs, .hports, .frame, .dir, .fab] s U ∧ (U.hport p).sameOut (s.hport p) ∧ (U.hport p).waiting = []
      ∧ U.keyBad r.m.line = false ∧ U.frame.num = s.frame.num
      ∧ U.dir.trans = [(r.m.line, some { what := .req q, phase := .serving })] ∧ U.dir.issue = []
      ∧ ((U.serveLine r').dir.trans = [(r.m.line, some { what := .req q, phase := .done })] → (U.serveLine r').dir.issue = [] →
          Only [.dir] (U.serveLine r') (s.hubAdmit p) ∧ (s.hubAdmit p).DirIdle)
      ∧ ((U.serveLine r').dir.trans = [(r.m.line, some { what := .req q, phase := .serving })] → (U.serveLine r').dir.issue = [] →
          s.hubAdmit p = U.serveLine r') := by
  obtain ⟨s1, s2, s3, s4, s5⟩ := hso
  obtain ⟨pl, hpl, ob, hbd, hbp, hbw, hbk, hbf⟩ := admitPort_one hw hp hA hd.1
  generalize hB : s.admitPort p = B at *
  have hjobs : B.admitJobs = B := by
    unfold State.admitJobs
    rw [show B.fab = s.fab from ob .fab (by decide), hf]; rfl
  have hhub : s.hubAdmit p = B.dirTick := by unfold State.hubAdmit; rw [hB, hjobs]
  have ht : B.tables = s.tables := ob .tables (by decide)
  have hx : B.extents = s.extents := ob .extents (by decide)
  have hti : B.tier = s.tier := ob .tier (by decide)
  generalize hq : ({ r with place := pl } : Req) = q at hbd
  have qm : q.m = r.m := by rw [← hq]
  have qk : q.kind = r.kind := by rw [← hq]
  have qp : q.place = pl := by rw [← hq]
  have qt : q.tenant = r.tenant := by rw [← hq]
  have qc : q.cls = r.cls := by rw [← hq]
  obtain ⟨U, uo, ut, ui, u1, u2⟩ := dirTick_req (B := B) (r := q) (i := i) (g := g) (by rw [qm]; exact s5) (by rw [hbd, qm]) (by rw [hbd]; exact hd.2)
    (by rw [isDb_congr ht hx, qm]; exact hdb) (by rw [qm]; exact s3) (by rw [rgnAt_congr ht, qm]; exact hg) hr (by rw [page_congr hti, qm]; exact s4)
  have utab : U.tables = s.tables := by
    have a := uo .tables (by decide)
    exact Eq.trans a ht
  have uext : U.extents = s.extents := by
    have a := uo .extents (by decide)
    exact Eq.trans a hx
  have uten : U.tenants = B.tenants := uo .tenants (by decide)
  obtain ⟨n, hn⟩ := serve_local (s := U) (r := q) (i := i) (g := g) (by rw [qm]; exact s5) (by rw [isDb_congr utab uext, qm]; exact hdb) (by rw [rgnAt_congr utab, qm]; exact hg) hr
  rw [hn] at u1 u2
  have kU : U.keyBad r.m.line = false := by
    rw [keyBad_congr utab (fun t => by rw [show U.ten t = B.ten t by unfold State.ten; rw [uten]]; exact hbk t)]; exact s1
  have pU : U.hports = B.hports := uo .hports (by decide)
  have fU : U.frame.num = s.frame.num := by rw [show U.frame = B.frame from uo .frame (by decide)]; exact hbf
  have oU : Only [.tenants, .rgl, .slate, .daily, .ctrs, .hports, .frame, .dir, .fab] s U := Only.trans (ob.mono (by decide)) (uo.mono (by decide))
  cases hiw : q.kind.isWrite
  · simp only [hiw, Bool.false_eq_true, if_false] at u1 u2
    refine ⟨U, q, { q with grant := 0, tier := n }, qm, qk, rfl, by rw [qp]; exact hpl, qt, qc, oU, ?_, ?_, kU, fU, by rw [← qm]; exact ut, ui, ?_, ?_⟩
    · rw [hport_congr pU]; exact hbp
    · rw [hport_congr pU]; exact hbw
    · intro h1 h2
      have e : U.serveLine { q with grant := 0, tier := n } = U.readFor q.m.line q.tenant q.cls q.m.env q.m.sheetBad (.host { q with grant := 0, tier := n }) := by
        unfold State.serveLine; rw [if_neg (by simp [hiw])]
      rw [e] at h1 h2 ⊢
      rw [hhub]; rw [← qm] at h1; exact u1 h1 h2
    · intro h1 h2
      have e : U.serveLine { q with grant := 0, tier := n } = U.readFor q.m.line q.tenant q.cls q.m.env q.m.sheetBad (.host { q with grant := 0, tier := n }) := by
        unfold State.serveLine; rw [if_neg (by simp [hiw])]
      rw [e] at h1 h2 ⊢
      rw [hhub]; rw [← qm] at h1; exact u2 h1 h2
  · simp only [hiw, if_true] at u1 u2
    have dt := dropGrant_trans (s := U) q.m.line q.hid
    have dk := only_dropGrant U q.m.line q.hid
    generalize hV : U.dropGrant q.m.line q.hid = V at *
    have oV : Only [.tenants, .rgl, .slate, .daily, .ctrs, .hports, .frame, .dir, .fab] s V := Only.trans oU (dk.mono (by decide))
    have vp : V.hports = B.hports := by
      have a := dk .hports (by decide)
      exact Eq.trans a pU
    have vk : V.keyBad r.m.line = false := by
      have a : V.tables = U.tables := dk .tables (by decide)
      have b : V.tenants = U.tenants := dk .tenants (by decide)
      rw [keyBad_congr a (fun t => by rw [show V.ten t = U.ten t by unfold State.ten; rw [b]])]; exact kU
    have vf : V.frame.num = s.frame.num := by rw [show V.frame = U.frame from dk .frame (by decide)]; exact fU
    refine ⟨V, q, { q with grant := 0, tier := n }, qm, qk, rfl, by rw [qp]; exact hpl, qt, qc, oV, ?_, ?_, vk, vf, by rw [← qm, dt.1]; exact ut, by rw [dt.2]; exact ui, ?_, ?_⟩
    · rw [hport_congr vp]; exact hbp
    · rw [hport_congr vp]; exact hbw
    · intro h1 h2
      have e : V.serveLine { q with grant := 0, tier := n } = V.writeFor q.m.line q.tenant q.cls q.m.data (if q.kind = .wr then fullBe else q.m.be) q.m.poison q.m.env q.m.sheetBad (.host { q with grant := 0, tier := n }) := by
        unfold State.serveLine; rw [if_pos (by simp [hiw])]
      rw [e] at h1 h2 ⊢
      rw [hhub]; rw [← qm] at h1; exact u1 h1 h2
    · intro h1 h2
      have e : V.serveLine { q with grant := 0, tier := n } = V.writeFor q.m.line q.tenant q.cls q.m.data (if q.kind = .wr then fullBe else q.m.be) q.m.poison q.m.env q.m.sheetBad (.host { q with grant := 0, tier := n }) := by
        unfold State.serveLine; rw [if_pos (by simp [hiw])]
      rw [e] at h1 h2 ⊢
      rw [hhub]; rw [← qm] at h1; exact u2 h1 h2

/-- A write of a page that is not OPEN waits for it. -/
theorem writeFor_hold {l t c be : Nat} {d : List Byte} {p : Bool} {env : ReadEnv} {who : Who} (hk : s.keyBad l = false)
    (hst : (s.page (pageOfLine l)).st ≠ .opened) :
    Only [.tier] s (s.writeFor l t c d be p env false who)
      ∧ ((s.writeFor l t c d be p env false who).page (pageOfLine l)).st = (s.page (pageOfLine l)).st
      ∧ ((s.writeFor l t c d be p env false who).page (pageOfLine l)).want = true
      ∧ ((s.writeFor l t c d be p env false who).page (pageOfLine l)).held
          = (s.page (pageOfLine l)).held ++ [{ line := l, data := d, be := be, poison := p, env := env, who := who }]
      ∧ ∀ q, q ≠ pageOfLine l → (s.writeFor l t c d be p env false who).page q = s.page q := by
  generalize hv : s.touch (pageOfLine l) = v
  have vo : Only [.tier] s v := by rw [← hv]; exact only_touch _ _
  have vp : (v.page (pageOfLine l)).st = (s.page (pageOfLine l)).st ∧ (v.page (pageOfLine l)).held = (s.page (pageOfLine l)).held
      ∧ ∀ q, q ≠ pageOfLine l → v.page q = s.page q := by
    rw [← hv]; unfold State.touch; dsimp only
    split
    · exact ⟨rfl, rfl, fun _ _ => rfl⟩
    · exact ⟨by rw [page_updPage_same], by rw [page_updPage_same], fun q hq => page_updPage_other _ _ hq⟩
  have hw : s.writeFor l t c d be p env false who = v.updPage (pageOfLine l) fun r => { r with want := true, held := r.held ++ [{ line := l, data := d, be := be, poison := p, env := env, who := who }] } := by
    unfold State.writeFor
    dsimp only
    rw [if_neg (by simp [hk])]
    simp only [Bool.false_eq_true, if_false]
    rw [hv, if_neg (by rw [vp.1]; exact fun h => hst h.1)]
  rw [hw]
  refine ⟨Only.trans vo (only_updPage _ _ _), ?_, ?_, ?_, fun q hq => ?_⟩
  · rw [page_updPage_same]; exact vp.1
  · rw [page_updPage_same]
  · rw [page_updPage_same, vp.2.1]
  · rw [page_updPage_other _ _ hq, vp.2.2 q hq]

/-- A read that one waiting request makes, from its admission to its answer. -/
theorem hubAdmit_read {p i : Nat} {r : Req} {g : Range} (hw : (s.hport p).waiting = [r]) (hp : r.m.port = p) (hA : s.AdmitsAtOnce p r.tenant r.cls)
    (hf : s.fab.waiting = []) (hd : s.DirIdle) (hdb : s.isDb r.m.line = false) (hg : s.rgnAt (granuleOfLine r.m.line) = some (i, g)) (hr : g.remote = false)
    (hso : s.Sound r.m) (hk : r.kind.isWrite = false) :
    ((s.page (pageOfLine r.m.line)).st = .zero → (∃ dev, s.Sent p (readAnswer r.kind r.m zeroLine (s.isPoison r.m.line) dev) (s.hubAdmit p)) ∧ (s.hubAdmit p).DirIdle
        ∧ ((s.hubAdmit p).hport p).waiting = [] ∧ Only reqPath s (s.hubAdmit p))
    ∧ ((s.page (pageOfLine r.m.line)).st = .opened ∨ (s.page (pageOfLine r.m.line)).st = .folding → r.m.env.dec = .good →
        (∃ dev, s.Sent p (readAnswer r.kind r.m (s.readLine r.m.line) (s.isPoison r.m.line) dev) (s.hubAdmit p)) ∧ (s.hubAdmit p).DirIdle
        ∧ ((s.hubAdmit p).hport p).waiting = [] ∧ (s.hubAdmit p).page (pageOfLine r.m.line) = { s.page (pageOfLine r.m.line) with age := 0, touched := true }
        ∧ (∀ q, q ≠ pageOfLine r.m.line → (s.hubAdmit p).page q = s.page q) ∧ Only (.tier :: .dram :: reqPath) s (s.hubAdmit p)) := by
  obtain ⟨U, q, r', e1, e2, e3, e4, e5, e6, uo, up, uw, uk, -, ut, ui, d1, -⟩ := hubAdmit_one hw hp hA hf hd hdb hg hr hso
  have hsl : U.serveLine r' = U.readFor r.m.line r.tenant r.cls r.m.env false (.host r') := by
    unfold State.serveLine; rw [e2, hk, e1, e5, e6, hso.2.1]; rfl
  have upg : ∀ x, U.page x = s.page x := fun x => page_congr (uo .tier (by decide)) x
  have upo : U.isPoison r.m.line = s.isPoison r.m.line := by unfold State.isPoison; rw [uo .poison (by decide)]
  have ume : U.readLine r.m.line = s.readLine r.m.line := by unfold State.readLine State.readBytes State.readByte; rw [uo .mem (by decide)]
  have uou : U.out = s.out := uo .out (by decide)
  have hw' : ∀ (C : State) (d : List Byte) (bad : Bool), (C.deliver (.host r') r.m.line d bad).dir.trans = [(r.m.line, some { what := .req q, phase := .done })] →
      (((C.deliver (.host r') r.m.line d bad)).hport p).waiting = (C.hport p).waiting := by
    intro C d bad _
    unfold State.deliver
    dsimp only
    rw [hport_congr endReq_port.2]
    unfold State.readResp
    dsimp only
    have hs : ∀ (x : State) (o : Output), ((x.sendResp p o).hport p).waiting = (x.hport p).waiting := by
      intro x o; unfold State.sendResp; dsimp only
      cases o <;> dsimp only
      case ndr | drs =>
        split
        · rw [show ∀ (u : State) o, (State.emit o u).hport p = u.hport p from fun _ _ => rfl, hport_updPort_same]
        · rw [hport_updPort_same]
      all_goals rfl
    have e7 : r'.m.port = p := by rw [e1]; exact hp
    have hx : ∀ x : State, x = (if bad then C.idCause r'.hid 11 else C) → x.hports = C.hports := by rintro x rfl; cases bad <;> simp
    have hx := hx _ rfl
    generalize (if bad then C.idCause r'.hid 11 else C) = x at *
    have hy : ∀ y : State, y = (if bad then x.bump (ofsOf (pgHPORT r'.m.port) 0x6C) 5 1 else x) → y.hports = x.hports := by rintro y rfl; cases bad <;> rfl
    have hy := hy _ rfl
    generalize (if bad then x.bump (ofsOf (pgHPORT r'.m.port) 0x6C) 5 1 else x) = y at *
    split
    · rw [e7, hs, hport_congr hy, hport_congr hx]
    · rw [e7, hs, hport_congr hy, hport_congr hx]
  refine ⟨fun hz => ?_, fun hz he => ?_⟩
  · rw [readFor_zero uk (by rw [upg]; exact hz), upo] at hsl
    obtain ⟨q1, q2, dev, q3⟩ := deliver_host (s := U) (r := r') (l := r.m.line) (d := zeroLine) (bad := s.isPoison r.m.line) e4 e3 (by rw [e1]; exact ut)
    rw [hsl] at d1
    rw [e1] at q1
    obtain ⟨c1, c2⟩ := d1 q1 (by rw [q2]; exact ui)
    refine ⟨⟨dev, ?_⟩, c2, ?_, ?_⟩
    · rw [e1, hp, e2] at q3
      exact (q3.upto c1 (by decide) (by decide)).from uou up
    · rw [hport_congr (c1 .hports (by decide)), hw' _ _ _ q1, uw]
    · exact Only.trans (uo.mono (by decide)) (Only.trans ((only_deliver_host _ _ _ _).mono (by decide)) (c1.mono (by decide)))
  · obtain ⟨C, co, cr, cp, cq⟩ := readFor_open (t := r.tenant) (c := r.cls) (who := .host r') uk (by rw [upg]; exact hz) he
    rw [cr, ume, upo] at hsl
    obtain ⟨q1, q2, dev, q3⟩ := deliver_host (s := C) (r := r') (l := r.m.line) (d := s.readLine r.m.line) (bad := s.isPoison r.m.line) e4 e3
      (by rw [e1, show C.dir = U.dir from co .dir (by decide)]; exact ut)
    rw [hsl] at d1
    rw [e1] at q1
    obtain ⟨c1, c2⟩ := d1 q1 (by rw [q2, show C.dir = U.dir from co .dir (by decide)]; exact ui)
    have cpt : C.hports = U.hports := co .hports (by decide)
    have do' := only_deliver_host (s := C) r' r.m.line (s.readLine r.m.line) (s.isPoison r.m.line)
    have pg : ∀ x, (s.hubAdmit p).page x = C.page x := fun x => by
      rw [page_congr (c1 .tier (by decide)), page_congr (do' .tier (by decide))]
    refine ⟨⟨dev, ?_⟩, c2, ?_, ?_, ?_, ?_⟩
    · rw [e1, hp, e2] at q3
      refine (q3.upto c1 (by decide) (by decide)).from ?_ ?_
      · rw [show C.out = U.out from co .out (by decide), uou]
      · rw [hport_congr cpt]; exact up
    · rw [hport_congr (c1 .hports (by decide)), hw' _ _ _ q1, hport_congr cpt, uw]
    · rw [pg, cp, upg]
    · intro x hx; rw [pg, cq x hx, upg]
    · exact Only.trans (uo.mono (by decide)) (Only.trans (co.mono (by decide)) (Only.trans (do'.mono (by decide)) (c1.mono (by decide))))

/-! ### Receipt -/

/-- Two states that differ in nothing are one. -/
theorem Only.eq_of {t u : State} (h : Only [] t u) : u = t := by
  have a := fun p => h p (by simp)
  cases t; cases u
  simp only [State.mk.injEq]
  exact ⟨a .frame, a .slate, a .regs, a .ctrs, a .hdrs, a .mgmt, a .log, a .daily, a .svc, a .svcEvt, a .svcRej, a .mem, a .poison, a .tier, a .tenants, a .tables, a .hports, a .extents, a .fns, a .mfn, a .bg, a .bgLast, a .mctp, a .dir, a .rgl, a .fab, a .lanes, a .pats, a .chans, a .dram, a .shelf, a .cues, a .press, a .coll, a .power, a .fw, a .sys, a .out, a .freeIx, a .pending⟩

theorem hostSide_eq {s u : State} (h : Only [.ctrs, .daily, .hports] s u) : u = { s with ctrs := u.ctrs, daily := u.daily, hports := u.hports } := by
  refine Only.eq_of fun p _ => ?_
  by_cases hp : p ∈ [Part.ctrs, .daily, .hports]
  · simp at hp; rcases hp with rfl | rfl | rfl <;> rfl
  · have a := h p hp
    cases p <;> first | exact a | simp at hp

theorem admitsAtOnce_congr {s u : State} {p t c : Nat} (h : Only [.ctrs, .daily, .hports] s u) (ha : s.AdmitsAtOnce p t c) : u.AdmitsAtOnce p t c := by
  rw [hostSide_eq h]; exact ha

theorem sound_congr {s u : State} {m : MemReq} (h : Only [.ctrs, .daily, .hports] s u) (ha : s.Sound m) : u.Sound m := by
  rw [hostSide_eq h]; exact ha
/-- A refused request: poison, or a normal completion, and nothing else but the count and the identity's cause. -/
theorem only_refuse (s : State) (r : Req) : Only [.fns, .ctrs, .hports, .out] s (s.refuse r) := by
  unfold State.refuse
  dsimp only
  refine Only.ite ((only_writeResp _ _ _).mono (by decide)) ?_
  split
  · exact Only.trans ((only_idCause _ _ _).mono (by decide)) ((only_readResp _ _ _ _ _).mono (by decide))
  · exact (only_readResp _ _ _ _ _).mono (by decide)

theorem refuse_sent {s u : State} {r : Req} {l : List Part} (ho : Only l s u) (h1 : Part.out ∉ l) (h2 : Part.hports ∉ l) :
    s.Sent r.m.port (if r.kind.isWrite then .ndr r.m.port r.m.tag 0 0 0 else readAnswer r.kind r.m zeroLine true 0) (u.refuse r) := by
  unfold State.refuse
  dsimp only
  have eo : u.out = s.out := ho .out h1
  have eh : u.hports = s.hports := ho .hports h2
  cases hw : r.kind.isWrite
  · rw [if_neg (by decide), if_neg (by decide)]
    have key : ∀ x : State, Only [.fns] u x → s.Sent r.m.port (readAnswer r.kind r.m zeroLine true 0) (x.readResp { r with grant := 0 } zeroLine true 0) := by
      intro x ox
      unfold State.readResp readAnswer
      dsimp only
      rw [if_pos rfl, if_pos rfl]
      have e1 : (x.bump (ofsOf (pgHPORT r.m.port) 0x6C) 5 1).out = s.out := by show x.out = _; rw [ox .out (by decide), eo]
      have e2 : (x.bump (ofsOf (pgHPORT r.m.port) 0x6C) 5 1).hports = s.hports := by show x.hports = _; rw [ox .hports (by decide), eh]
      split
      · exact (sendResp_sent _ _ _ rfl).of e1.symm (by rw [hport_congr e2]) (by rw [hport_congr e2]) rfl rfl
      · exact (sendResp_sent _ _ _ rfl).of e1.symm (by rw [hport_congr e2]) (by rw [hport_congr e2]) rfl rfl
    split
    · exact key _ (only_idCause _ _ _)
    · exact key _ (Only.refl _ _)
  · rw [if_pos rfl, if_pos rfl]
    unfold State.writeResp
    exact (sendResp_sent _ _ _ rfl).of eo.symm (by rw [hport_congr eh]) (by rw [hport_congr eh]) rfl rfl

/-! ### A write alone -/

theorem lineWritten_of {s u t : State} {line be : Nat} {d : List Byte} {p : Bool} {l l' : List Part} (h : Only l s u) (h' : Only l' (u.applyWrite line d be p) t)
    (m1 : Part.mem ∉ l) (m2 : Part.poison ∉ l) (m3 : Part.mem ∉ l') (m4 : Part.poison ∉ l') : s.LineWritten line d be p t := by
  have a1 : ∀ x, u.readByte x = s.readByte x := fun x => readByte_congr (h .mem m1) x
  have a2 : ∀ x, u.isPoison x = s.isPoison x := fun x => by unfold State.isPoison; rw [h .poison m2]
  have a3 : ∀ x, t.readByte x = (u.applyWrite line d be p).readByte x := fun x => readByte_congr (h' .mem m3) x
  have a4 : ∀ x, t.isPoison x = (u.applyWrite line d be p).isPoison x := fun x => by unfold State.isPoison; rw [h' .poison m4]
  exact ⟨fun x => by rw [a3, readByte_applyWrite, a1], fun x => by rw [a4, isPoison_applyWrite, a2, a2]⟩

/-- A write that one waiting request makes, from its admission to its completion or to its page's held writes. -/
theorem hubAdmit_write {p i : Nat} {r : Req} {g : Range} (hw : (s.hport p).waiting = [r]) (hp : r.m.port = p) (hA : s.AdmitsAtOnce p r.tenant r.cls)
    (hf : s.fab.waiting = []) (hd : s.DirIdle) (hdb : s.isDb r.m.line = false) (hg : s.rgnAt (granuleOfLine r.m.line) = some (i, g)) (hr : g.remote = false)
    (hso : s.Sound r.m) (hk : r.kind.isWrite = true) :
    let be := if r.kind = .wr then fullBe else r.m.be
    ((s.page (pageOfLine r.m.line)).st = .opened → be = fullBe ∨ (s.fcLine r.m.line).valid = true →
        (∃ dev, s.Sent p (.ndr p r.m.tag 0 0 dev) (s.hubAdmit p)) ∧ s.LineWritten r.m.line r.m.data be r.m.poison (s.hubAdmit p)
        ∧ (s.hubAdmit p).page (pageOfLine r.m.line) = { s.page (pageOfLine r.m.line) with age := 0, touched := true }
        ∧ (∀ q, q ≠ pageOfLine r.m.line → (s.hubAdmit p).page q = s.page q) ∧ Only (.tier :: .dram :: .mem :: .poison :: .log :: reqPath) s (s.hubAdmit p))
    ∧ ((s.page (pageOfLine r.m.line)).st ≠ .opened →
        (∃ w : LineWrite, (w.line, w.data, w.be, w.poison) = (r.m.line, r.m.data, be, r.m.poison) ∧ ((s.hubAdmit p).page (pageOfLine r.m.line)).held = [w])
        ∧ ((s.hubAdmit p).page (pageOfLine r.m.line)).want = true ∧ ((s.hubAdmit p).page (pageOfLine r.m.line)).st = (s.page (pageOfLine r.m.line)).st
        ∧ (s.hubAdmit p).out = s.out ∧ (∀ q, q ≠ pageOfLine r.m.line → (s.hubAdmit p).page q = s.page q) ∧ Only (.tier :: reqPath) s (s.hubAdmit p)) := by
  intro be
  obtain ⟨U, q, r', e1, e2, e3, e4, e5, e6, uo, up, uw, uk, -, ut, ui, d1, d2⟩ := hubAdmit_one hw hp hA hf hd hdb hg hr hso
  have hsl : U.serveLine r' = U.writeFor r.m.line r.tenant r.cls r.m.data be r.m.poison r.m.env false (.host r') := by
    unfold State.serveLine; rw [e2, hk, e1, e5, e6, hso.2.1]; rfl
  have upg : ∀ x, U.page x = s.page x := fun x => page_congr (uo .tier (by decide)) x
  have ufc : U.fcLine r.m.line = s.fcLine r.m.line := by unfold State.fcLine; rw [uo .dram (by decide)]
  have uou : U.out = s.out := uo .out (by decide)
  have hhd : (U.page (pageOfLine r.m.line)).held = [] := by rw [upg]; exact hso.2.2.2.1
  refine ⟨fun hz hb => ?_, fun hz => ?_⟩
  · obtain ⟨A, C, ao, co, cr, cp, cq⟩ := writeFor_open (t := r.tenant) (c := r.cls) (be := be) (d := r.m.data) (p := r.m.poison) (env := r.m.env) (who := .host r') uk
      (by rw [upg]; exact hz) hhd (by rw [ufc]; exact hb)
    rw [cr] at hsl
    have aw := only_applyWrite A r.m.line r.m.data be r.m.poison
    have cd : C.dir = U.dir := by rw [co .dir (by decide), aw .dir (by decide), ao .dir (by decide)]
    have ch : C.hports = U.hports := by rw [co .hports (by decide), aw .hports (by decide), ao .hports (by decide)]
    have cou : C.out = s.out := by rw [co .out (by decide), aw .out (by decide), ao .out (by decide), uou]
    obtain ⟨q1, q2, dev, q3⟩ := applied_host (s := C) (r := r') e4 e3 (by rw [e1, cd]; exact ut)
    rw [hsl] at d1
    rw [e1] at q1
    obtain ⟨c1, c2⟩ := d1 q1 (by rw [q2, cd]; exact ui)
    have do' := only_applied_host (s := C) r'
    have pg : ∀ x, (s.hubAdmit p).page x = C.page x := fun x => by
      rw [page_congr (c1 .tier (by decide)), page_congr (do' .tier (by decide))]
    refine ⟨⟨dev, ?_⟩, ?_, ?_, ?_, ?_⟩
    · rw [e1, hp] at q3
      refine (q3.upto c1 (by decide) (by decide)).from cou ?_
      rw [hport_congr ch]; exact up
    · refine lineWritten_of (u := A) (l := [.tenants, .rgl, .slate, .daily, .ctrs, .hports, .frame, .dir, .fab, .tier])
        (l' := [.ctrs, .slate, .daily, .rgl, .dram, .hports, .out, .tenants, .freeIx, .dir]) (Only.trans (uo.mono (by decide)) (ao.mono (by decide)))
        (Only.trans (co.mono (by decide)) (Only.trans (do'.mono (by decide)) (c1.mono (by decide)))) (by decide) (by decide) (by decide) (by decide)
    · rw [pg, cp, upg]
    · intro x hx; rw [pg, cq x hx, upg]
    · exact Only.trans (uo.mono (by decide)) (Only.trans (ao.mono (by decide)) (Only.trans (aw.mono (by decide)) (Only.trans (co.mono (by decide))
        (Only.trans (do'.mono (by decide)) (c1.mono (by decide))))))
  · obtain ⟨w1, w2, w3, w4, w5⟩ := writeFor_hold (t := r.tenant) (c := r.cls) (be := be) (d := r.m.data) (p := r.m.poison) (env := r.m.env) (who := .host r') uk
      (by rw [upg]; exact hz)
    rw [← hsl] at w1 w2 w3 w4 w5
    have wd : (U.serveLine r').dir = U.dir := w1 .dir (by decide)
    rw [d2 (by rw [wd]; exact ut) (by rw [wd]; exact ui)]
    refine ⟨⟨_, ?_, by rw [w4, hhd]; rfl⟩, w3, by rw [w2, upg], ?_, fun x hx => by rw [w5 x hx, upg], ?_⟩
    · rfl
    · rw [show (U.serveLine r').out = U.out from w1 .out (by decide)]; exact uou
    · exact Only.trans (uo.mono (by decide)) (w1.mono (by decide))

/-- A line write through the front cache: all of the line, or a narrow write that hits. -/
theorem fcWrite_line {s : State} {l t c be : Nat} {d : List Byte} {p : Bool} {env : ReadEnv} (hb : be = fullBe ∨ (s.fcLine l).valid = true) :
    ∃ u, Only [.slate, .daily] s u ∧ Only [.ctrs, .slate, .daily, .rgl, .dram] (u.applyWrite l d be p) (s.fcWrite l t c d be p env) := by
  generalize hu : s.chargeSplit gDIR 1 0 (s.ownerCode t) 1 = u
  refine ⟨u, by rw [← hu]; exact only_chargeSplit _ _ _ _ _ _, ?_⟩
  unfold State.fcWrite
  dsimp only
  rw [hu]
  generalize u.applyWrite l d be p = w
  by_cases hbe : be = fullBe
  · rw [if_pos hbe]
    exact Only.ite (Only.trans ((only_bump _ _ _ _).mono (by decide)) ((only_updFc' _ _ _).mono (by decide)))
      (Only.trans ((only_bump _ _ _ _).mono (by decide)) (only_fcAlloc _ _ _ _))
  · have hvalid : (s.fcLine l).valid = true := hb.resolve_left hbe
    rw [if_neg hbe, if_pos hvalid]
    exact Only.trans ((only_bump _ _ _ _).mono (by decide)) ((only_updFc' _ _ _).mono (by decide))

/-- The held write of a page that has become OPEN. -/
theorem applyHeld_one {s : State} {p : Nat} {w : LineWrite} {r : Req} (hst : (s.page p).st = .opened) (hh : (s.page p).held = [w]) (hw : w.who = .host r)
    (hb : w.be = fullBe ∨ (s.fcLine w.line).valid = true) :
    (∃ dev, s.Sent r.m.port (.ndr r.m.port r.m.tag 0 r.grant dev) (s.applyHeld p)) ∧ s.LineWritten w.line w.data w.be w.poison (s.applyHeld p)
      ∧ (s.applyHeld p).page p = { s.page p with held := [], want := false, age := 0 } ∧ (∀ q, q ≠ p → (s.applyHeld p).page q = s.page q)
      ∧ Only [.tier, .dram, .mem, .poison, .log, .dir, .ctrs, .slate, .daily, .rgl, .hports, .out, .tenants, .freeIx] s (s.applyHeld p) := by
  generalize hs0 : s.updPage p (fun r => { r with held := [], want := false, age := 0 }) = s0
  have o0 : Only [.tier] s s0 := by rw [← hs0]; exact only_updPage _ _ _
  generalize hs1 : ({ s0 with dir := { s0.dir with trans := mapAll noTrans (fun _ (x : Option Trans) => x.map fun t => { t with blocked := false }) s0.dir.trans } } : State) = s1
  have o1 : Only [.tier, .dir] s s1 := by rw [← hs1]; exact Only.trans (o0.mono (by decide)) ((only_with_dir s0 _).mono (by decide))
  have e : s.applyHeld p = (s1.fcWrite w.line r.tenant r.cls w.data w.be w.poison w.env).applied (.host r) := by
    unfold State.applyHeld
    dsimp only
    rw [if_neg (by simp [hst]), hh, hs0, hs1]
    simp only [List.foldl_cons, List.foldl_nil]
    unfold State.whoTenant
    rw [hw]
  rw [e]
  obtain ⟨A, ao, co⟩ := fcWrite_line (s := s1) (l := w.line) (t := r.tenant) (c := r.cls) (be := w.be) (d := w.data) (p := w.poison) (env := w.env)
    (by rcases hb with h | h; exact .inl h; right; unfold State.fcLine at *; rw [o1 .dram (by decide)]; exact h)
  generalize s1.fcWrite w.line r.tenant r.cls w.data w.be w.poison w.env = C at *
  have aw := only_applyWrite A w.line w.data w.be w.poison
  have dn := only_applied_host (s := C) r
  have cT : C.tier = s1.tier := by rw [co .tier (by decide), aw .tier (by decide), ao .tier (by decide)]
  have ch : C.hports = s.hports := by rw [co .hports (by decide), aw .hports (by decide), ao .hports (by decide), o1 .hports (by decide)]
  have cou : C.out = s.out := by rw [co .out (by decide), aw .out (by decide), ao .out (by decide), o1 .out (by decide)]
  have pg : ∀ x, (State.applied (.host r) C).page x = s0.page x := fun x => by
    rw [page_congr (dn .tier (by decide)), page_congr cT, ← hs1]; rfl
  refine ⟨?_, ?_, ?_, ?_, ?_⟩
  · unfold State.applied
    dsimp only
    refine ⟨C.devLoad r.m.port r.tenant, ?_⟩
    unfold State.writeResp
    exact ((sendResp_sent C r.m.port _ rfl).of cou.symm (by rw [hport_congr ch]) (by rw [hport_congr ch]) rfl rfl).upto (only_endReq _ r) (by decide) (by decide)
  · exact lineWritten_of (l := [.tier, .dir, .slate, .daily]) (l' := [.ctrs, .slate, .daily, .rgl, .dram, .hports, .out, .tenants, .freeIx, .dir])
      (Only.trans (o1.mono (by decide)) (ao.mono (by decide))) (Only.trans (co.mono (by decide)) (dn.mono (by decide))) (by decide) (by decide) (by decide) (by decide)
  · rw [pg, ← hs0, page_updPage_same]
  · intro q hq; rw [pg, ← hs0, page_updPage_other _ _ hq]
  · exact Only.trans (o1.mono (by decide)) (Only.trans (ao.mono (by decide)) (Only.trans (aw.mono (by decide)) (Only.trans (co.mono (by decide)) (dn.mono (by decide)))))

end Sys2Proof.Machine
end

