-- ==== Sys2Proof/Laws/Recalls.lean ====
section
/-!
SUPPORT. Recalls: what an answer to a snoop changes where the transaction still waits for another.
-/

namespace Sys2Proof.Machine

open Sys2Proof

variable {s : State}

theorem dirTick_waits {k : Nat} {t : Trans} (h : s.dir.trans = [(k, some t)]) (hm : t.movable = false) (hi : s.dir.issue = []) : s.dirTick = s := by
  unfold State.dirTick
  dsimp only
  rw [dirRun_stuck h hm, issueSnoops_none hi, dirRun_stuck h hm, issueSnoops_none hi, dirRun_stuck h hm]

theorem recall_waits {t : Trans} (hp : t.phase = .recall) {m : Snoop} (hm : m ∈ t.snoops) : t.movable = false := by
  unfold Trans.movable
  rw [hp]
  dsimp only
  cases h : t.snoops with
  | nil => rw [h] at hm; simp at hm
  | cons a l => rfl

theorem trans_key_other {k k' : Nat} {t : Trans} (h : s.dir.trans = [(k, some t)]) (hk : k' ≠ k) : s.trans k' = none := by
  unfold State.trans; rw [h]; unfold mapGet; simp [Ne.symm hk, noTrans]

/-- The snoop that a recall awaits is open, and no other transaction knows the identity. -/
theorem openSnoop_recalling {line : Nat} {t : Trans} {n : Snoop} (h : s.Recalling line t n) : s.openSnoop line n.hid = some n := by
  obtain ⟨h1, h2, h3, h4, h5, h6, f, h7, h8⟩ := h
  unfold State.openSnoop
  rw [trans_one h2]
  simp only [Option.bind_some]
  rw [h5]
  dsimp only
  rw [h7]
  dsimp only
  rw [if_pos h8]

theorem openSnoop_backing {line : Nat} {t : Trans} {n : Snoop} (h : s.Recalling line t n) (x : Nat) : s.openSnoop (recallKey line) x = none := by
  obtain ⟨h1, h2, -⟩ := h
  unfold State.openSnoop
  rw [trans_key_other h2 (by unfold recallKey; omega)]
  rfl

theorem find_map_hid {f : Snoop → Snoop} (hf : ∀ m, (f m).hid = m.hid) (h : Nat) (l : List Snoop) {n : Snoop} (hn : l.find? (fun m => m.hid == h) = some n) :
    (l.map fun m => if m.hid == h then f m else m).find? (fun m => m.hid == h) = some (f n) := by
  induction l with
  | nil => simp at hn
  | cons a l ih =>
    rw [List.map_cons]
    by_cases ha : (a.hid == h) = true
    · simp only [List.find?, ha] at hn ⊢
      cases hn
      simp only [if_true, hf, ha]
    · have ha' : (a.hid == h) = false := by simpa using ha
      simp only [List.find?, ha'] at hn ⊢
      simp only [Bool.false_eq_true, if_false, ha']
      exact ih hn

theorem only_snoopEffect (line : Nat) (n : Snoop) : Only [.dir] s (s.snoopEffect line n) := by
  unfold State.snoopEffect
  exact Only.ite (only_dropGrant _ _ _) (Only.ite (Only.ite (only_setEnt' _ _ _) (Only.refl _ _)) (Only.refl _ _))

theorem snoopEffect_dir (line : Nat) (n : Snoop) : (s.snoopEffect line n).dir.trans = s.dir.trans ∧ (s.snoopEffect line n).dir.issue = s.dir.issue := by
  unfold State.snoopEffect
  split
  · exact dropGrant_trans _ _
  · split
    · split <;> exact ⟨rfl, rfl⟩
    · exact ⟨rfl, rfl⟩

/-- Once a grant is dropped, its entry holds it no more. -/
theorem dropGrant_holds (line h : Nat) (hc : (s.dirEnt line).coarse = false) : (s.dropGrant line h).holds ((s.dropGrant line h).dirEnt line) h = false ∨ (s.dirEnt line).valid = false := by
  unfold State.dropGrant
  dsimp only
  by_cases hv : (s.dirEnt line).valid = true
  · left
    rw [if_neg (by simp [hv, hc])]
    generalize hl : (s.liveSlots (s.dirEnt line)).filter (fun x => x.1 != h) = l
    have hge : ∀ e : DirEnt, (s.setEnt line e).dirEnt line = e := fun e => mapGet_put_same _ _ _
    split
    · rw [hge]; rfl
    · rw [hge]
      unfold State.holds
      rw [List.any_eq_false]
      intro x hx
      have hx' : x ∈ l := by
        unfold State.liveSlots at hx
        dsimp only at hx
        rw [hc] at hx
        simp only [Bool.false_eq_true, if_false] at hx
        exact (List.mem_filter.mp hx).1
      rw [← hl] at hx'
      simpa using (List.mem_filter.mp hx').2
  · right; simpa using hv

/-- An answered snoop leaves its transaction, which waits on for another. -/
theorem answerSnoop_recalling {line : Nat} {t : Trans} {n : Snoop} (hl : line < 2 ^ 42) (h2 : s.dir.trans = [(line, some t)]) (h3 : s.dir.issue = [])
    (h4 : t.phase = .recall) (h5 : t.snoops.find? (fun m => m.hid == n.hid) = some n) (h6 : ∃ m ∈ t.snoops, m.hid ≠ n.hid) :
    (s.answerSnoop line n.hid).dir.trans = [(line, some (t.without n.hid))] ∧ (s.answerSnoop line n.hid).dirTick = s.answerSnoop line n.hid
      ∧ (s.answerSnoop line n.hid).dir.issue = []
      ∧ Only [.dir] s (s.answerSnoop line n.hid) ∧ ∀ l, (s.answerSnoop line n.hid).dirEnt l = (s.snoopEffect line n).dirEnt l := by
  have e : s.answerSnoop line n.hid = (s.snoopEffect line n).setTrans line (some (t.without n.hid)) := by
    unfold State.answerSnoop
    rw [trans_one h2]
    dsimp only
    rw [h5]
    dsimp only
    rw [show keyLine line = line from Nat.mod_eq_of_lt hl]
    rfl
  rw [e]
  obtain ⟨d1, d2⟩ := snoopEffect_dir (s := s) line n
  have ht : ((s.snoopEffect line n).setTrans line (some (t.without n.hid))).dir.trans = [(line, some (t.without n.hid))] := setTrans_one (by rw [d1]; exact h2)
  obtain ⟨m, hm, hne⟩ := h6
  refine ⟨ht, dirTick_waits ht (recall_waits (m := m) h4 ?_) (by show (s.snoopEffect line n).dir.issue = []; rw [d2]; exact h3),
    by show (s.snoopEffect line n).dir.issue = []; rw [d2]; exact h3, Only.trans (only_snoopEffect _ _) (only_setTrans' _ _ _), fun _ => rfl⟩
  exact List.mem_filter.mpr ⟨hm, by simpa using hne⟩

/-- What arrives for a snoop is noted; the snoop is answered where that is all. -/
theorem noteSnoop_recalling {line : Nat} {t : Trans} {n : Snoop} (h : s.Recalling line t n) (f : Snoop → Snoop) (hf : ∀ m, (f m).hid = m.hid)
    (hs : ∀ m, (f m).sent = m.sent) :
    let u := s.updTrans line fun t => { t with snoops := t.snoops.map fun m => if m.hid == n.hid then f m else m }
    s.noteSnoop line n.hid f = (if (f n).resp && (!(f n).needWb || (f n).wb) then u.answerSnoop line n.hid else u)
      ∧ u.Recalling line (t.noting n.hid f) (f n) ∧ Only [.dir] s u := by
  intro u
  have h' := h
  obtain ⟨h1, h2, h3, h4, h5, ⟨m, hm, hne⟩, g, h7, h8⟩ := h
  have hu : u.Recalling line (t.noting n.hid f) (f n) := by
    refine ⟨h1, updTrans_one _ h2, h3, h4, ?_, ⟨m, ?_, by rw [hf]; exact hne⟩, g, by rw [hs]; exact h7, h8⟩
    · rw [hf]; exact find_map_hid hf _ _ h5
    · exact List.mem_map.mpr ⟨m, hm, if_neg (by simpa using hne)⟩
  refine ⟨?_, hu, only_updTrans _ _ _⟩
  unfold State.noteSnoop
  dsimp only
  have := openSnoop_recalling hu
  rw [hf] at this
  rw [this]

theorem noting_without (t : Trans) (h : Nat) (f : Snoop → Snoop) (hf : ∀ m, (f m).hid = m.hid) : (t.noting h f).without h = t.without h := by
  unfold Trans.noting Trans.without
  dsimp only
  congr 1
  induction t.snoops with
  | nil => rfl
  | cons a l ih =>
    rw [List.map_cons]
    by_cases ha : (a.hid == h) = true
    · have ha' : a.hid = h := by simpa using ha
      rw [if_pos ha, List.filter_cons_of_neg (by simp [hf, ha']), List.filter_cons_of_neg (by simp [ha']), ih]
    · have ha' : a.hid ≠ h := by simpa using ha
      rw [if_neg ha, List.filter_cons_of_pos (by simp [ha']), List.filter_cons_of_pos (by simp [ha']), ih]

theorem openSnoop_none {k k' h : Nat} {t : Trans} (ht : s.dir.trans = [(k, some t)]) (hk : k' ≠ k) : s.openSnoop k' h = none := by
  unfold State.openSnoop
  rw [trans_key_other ht hk]
  rfl

/-- A BIRsp under a recall. -/
theorem birsp_recalling {p link src line rsp : Nat} {dirty : Bool} {tr : Trans} {n : Snoop} (h : s.Recalling line tr n) (hm : s.matchId p link src = some n.hid)
    (ha : s.accepts p link = true) (hl : (s.ident n.hid).lost = 0) :
    s.birsp p link src line rsp dirty = (if !rspFits n.kind rsp then s.dirCount 8 1
      else s.noteSnoop line n.hid fun n => { n with resp := true, needWb := dirty && n.hadM }).dirTick := by
  have hb : ∀ u : State, (∃ t', u.dir.trans = [(line, some t')]) → u.openSnoop (recallKey line) n.hid = none := by
    rintro u ⟨t', ht⟩
    exact openSnoop_none ht (by unfold recallKey; omega)
  have key : ∃ t', (if !rspFits n.kind rsp then s.dirCount 8 1
      else s.noteSnoop line n.hid fun n => { n with resp := true, needWb := dirty && n.hadM }).dir.trans = [(line, some t')] := by
    split
    · exact ⟨tr, h.2.1⟩
    · obtain ⟨e, hu, ho⟩ := noteSnoop_recalling h (fun n => { n with resp := true, needWb := dirty && n.hadM }) (fun _ => rfl) (fun _ => rfl)
      rw [e]
      split
      · exact ⟨_, (answerSnoop_recalling hu.1 hu.2.1 hu.2.2.1 hu.2.2.2.1 hu.2.2.2.2.1 hu.2.2.2.2.2.1).1⟩
      · exact ⟨_, hu.2.1⟩
  unfold State.birsp
  rw [hm]
  dsimp only
  rw [if_neg (by simp [ha, hl]), openSnoop_recalling h]
  dsimp only
  rw [hb _ key]

theorem recalling_tick {line : Nat} {t : Trans} {n : Snoop} (h : s.Recalling line t n) : s.dirTick = s := by
  obtain ⟨m, hm, -⟩ := h.2.2.2.2.2.1
  exact dirTick_waits h.2.1 (recall_waits h.2.2.2.1 hm) h.2.2.1

theorem recalling_congr {u : State} {line : Nat} {t : Trans} {n : Snoop} (h : s.Recalling line t n) (hd : u.dir = s.dir) (hf : u.frame.num = s.frame.num) :
    u.Recalling line t n := by
  unfold State.Recalling at *
  rw [hd, hf]
  exact h

/-- The answer to a snoop under a recall. -/
theorem answer_recalling {line : Nat} {t : Trans} {n : Snoop} (h : s.Recalling line t n) :
    (s.answerSnoop line n.hid).dir.trans = [(line, some (t.without n.hid))] ∧ (s.answerSnoop line n.hid).dirTick = s.answerSnoop line n.hid
      ∧ (s.answerSnoop line n.hid).dir.issue = []
      ∧ Only [.dir] s (s.answerSnoop line n.hid) ∧ ∀ l, (s.answerSnoop line n.hid).dirEnt l = (s.snoopEffect line n).dirEnt l :=
  answerSnoop_recalling h.1 h.2.1 h.2.2.1 h.2.2.2.1 h.2.2.2.2.1 h.2.2.2.2.2.1

/-- A write-back under a recall, of a line of an OPEN page. -/
theorem writeback_recalling {m : MemReq} {i : Nat} {g : Range} {tr : Trans} {n : Snoop} (h : s.Recalling m.line tr n) (hm : s.matchId m.port m.link m.src = some n.hid)
    (ha : s.accepts m.port m.link = true) (hl : (s.ident n.hid).lost = 0) (hg : s.rgnAt (granuleOfLine m.line) = some (i, g)) (hr : g.remote = false)
    (hk : s.keyBad m.line = false) (hsb : m.sheetBad = false) (hst : (s.page (pageOfLine m.line)).st = .opened) (hh : (s.page (pageOfLine m.line)).held = []) :
    ∃ A : State, Only [.tier, .ctrs, .slate, .daily] s A
      ∧ Only [.ctrs, .slate, .daily, .rgl, .dram, .hports, .out, .tenants, .freeIx, .dir] (A.applyWrite m.line m.data fullBe m.poison) (s.writeback m)
      ∧ (∃ dev, s.Sent m.port (.ndr m.port m.tag 0 0 dev) (s.writeback m))
      ∧ (s.writeback m).dir.trans = [(m.line, some (if n.resp then tr.without n.hid else tr.noting n.hid fun x => { x with wb := true }))] := by
  generalize hrq : ({ m := m, kind := .wr, hid := n.hid, tenant := (s.ident n.hid).tenant, cls := (s.ident n.hid).cls, since := s.frame.num, place := 4 } : Req) = r
  have rm : r.m = m := by rw [← hrq]
  have rp : r.place = 4 := by rw [← hrq]
  have rg : r.grant = 0 := by rw [← hrq]
  obtain ⟨A, v, o1, o2, e1, -, -⟩ := writeFor_open (t := (s.ident n.hid).tenant) (c := (s.ident n.hid).cls) (be := fullBe) (d := m.data) (p := m.poison) (env := m.env)
    (who := .host r) hk hst hh (.inl rfl)
  have aw := only_applyWrite A m.line m.data fullBe m.poison
  have wr := only_writeResp v r (v.devLoad m.port r.tenant)
  have eq1 : v.applied (.host r) = v.writeResp r (v.devLoad m.port r.tenant) := by
    unfold State.applied
    dsimp only
    rw [rm]
    unfold State.endReq State.freeEntry
    rw [rp]
    rfl
  generalize hB : v.writeResp r (v.devLoad m.port r.tenant) = B at *
  have bd : B.dir = s.dir := by rw [wr .dir (by decide), o2 .dir (by decide), aw .dir (by decide), o1 .dir (by decide)]
  have bf : B.frame = s.frame := by rw [wr .frame (by decide), o2 .frame (by decide), aw .frame (by decide), o1 .frame (by decide)]
  have hR : B.Recalling m.line tr n := recalling_congr h bd (by rw [bf])
  obtain ⟨e2, hu, ho⟩ := noteSnoop_recalling hR (fun x => { x with wb := true }) (fun _ => rfl) (fun _ => rfl)
  have e3 : s.writeback m = (B.noteSnoop m.line n.hid fun x => { x with wb := true }).dirTick := by
    unfold State.writeback
    rw [hm]
    dsimp only
    rw [if_neg (by simp [ha, hl]), openSnoop_backing h, openSnoop_recalling h, hg]
    dsimp only
    rw [hr, hrq, hsb, e1, eq1]
    rfl
  have sent : ∃ dev, s.Sent m.port (.ndr m.port m.tag 0 0 dev) B := by
    refine ⟨v.devLoad m.port r.tenant, ?_⟩
    rw [← hB]
    unfold State.writeResp
    rw [rm, rg]
    have ch : v.hports = s.hports := by rw [o2 .hports (by decide), aw .hports (by decide), o1 .hports (by decide)]
    have co : v.out = s.out := by rw [o2 .out (by decide), aw .out (by decide), o1 .out (by decide)]
    exact (sendResp_sent v m.port _ rfl).of co.symm (by rw [hport_congr ch]) (by rw [hport_congr ch]) rfl rfl
  obtain ⟨dev, sent⟩ := sent
  have fin : ∀ w : State, Only [.dir] B w → s.writeback m = w →
      Only [.ctrs, .slate, .daily, .rgl, .dram, .hports, .out, .tenants, .freeIx, .dir] (A.applyWrite m.line m.data fullBe m.poison) (s.writeback m)
        ∧ ∃ dev, s.Sent m.port (.ndr m.port m.tag 0 0 dev) (s.writeback m) := by
    intro w hw e
    rw [e]
    exact ⟨Only.trans (o2.mono (by decide)) (Only.trans (wr.mono (by decide)) (hw.mono (by decide))), dev, sent.upto hw (by decide) (by decide)⟩
  rw [e2] at e3
  cases hn : n.resp
  · rw [if_neg (by simp [hn]), recalling_tick hu] at e3
    obtain ⟨f1, f2⟩ := fin _ ho e3
    refine ⟨A, o1, f1, f2, ?_⟩
    rw [e3, hu.2.1]
    rfl
  · rw [if_pos (by simp [hn])] at e3
    obtain ⟨a1, a2, a3, a4, a5⟩ := answer_recalling hu
    dsimp only at a1 a2 a3 a4 a5
    rw [a2] at e3
    obtain ⟨f1, f2⟩ := fin _ (Only.trans ho a4) e3
    refine ⟨A, o1, f1, f2, ?_⟩
    rw [e3, a1, noting_without tr n.hid (fun x => { x with wb := true }) (fun _ => rfl)]
    rfl

theorem only_foldOriginPoison (m : List Nat) : Only [.poison, .log] s (m.foldl (fun (s : State) l => s.originPoison l) s) :=
  Only.foldl (fun s l => only_originPoison s l) m s

theorem foldOriginPoison (m : List Nat) : ∀ (s : State) (l : Nat), l ∈ m ∨ s.isPoison l = true → (m.foldl (fun (s : State) l => s.originPoison l) s).isPoison l = true := by
  induction m with
  | nil => intro s l h; simpa using h
  | cons a m ih =>
    intro s l h
    refine ih (s.originPoison a) l ?_
    rcases h with h | h
    · rcases List.mem_cons.mp h with rfl | h
      · right; rw [originPoison_isPoison]; exact setPoison_isPoison_same s l true
      · exact .inl h
    · right
      rw [originPoison_isPoison]
      by_cases e : l = a
      · subst e; exact setPoison_isPoison_same s l true
      · rw [setPoison_isPoison_other s true e]; exact h

/-- A snoop that is unanswered at its deadline, of a transaction that is not the identity's own (R326). -/
theorem recallDeadline_one {line h f : Nat} {tr : Trans} {n : Snoop} (hl : line < 2 ^ 42) (h2 : s.dir.trans = [(line, some tr)]) (h3 : s.dir.issue = [])
    (h4 : tr.phase = .recall) (hh : n.hid = h) (h5 : tr.snoops.find? (fun m => m.hid == h) = some n) (h6 : ∃ m ∈ tr.snoops, m.hid ≠ h) (h7 : n.sent = some f)
    (h8 : 4 ≤ framesSince f s.frame.num) (h9 : (s.ident h).lost = 0) (ho : ∀ r, tr.what = .req r → r.hid ≠ h) :
    let t := s.recallDeadline line h
    (t.ident h).lost = 1 ∧ (t.ident h).clearing = some s.frame.num ∧ (∀ l ∈ s.mLines h, t.isPoison l = true) ∧ (t.hdr pgDIR).stat.getLsbD 0 = true
      ∧ (s.mLines h ≠ [] → (t.hdr pgDIR).stat.getLsbD 1 = true) ∧ t.dir.trans = [(line, some (tr.without h))]
      ∧ (s.mLines h = [] → s.Records 0x0501 3 (some (s.ident h).tenant) pgDIR (64 * line) [h, 1] t)
      ∧ Only [.tables, .ctrs, .hdrs, .mfn, .log, .dir, .poison] s t := by
  intro t
  subst hh
  generalize hs1 : ((((s.updId n.hid fun i => { i with lost := 1 }).dirCount 4 1).setEvt pgDIR 0).logE 0x0501 3 (some (s.ident n.hid).tenant) pgDIR (64 * line) [n.hid, 1]) = s1
  have o1 : Only [.tables, .ctrs, .hdrs, .mfn, .log] s s1 := by
    rw [← hs1]
    exact Only.trans ((only_updId _ _ _).mono (by decide)) (Only.trans ((only_dirCount' _ _ _).mono (by decide))
      (Only.trans ((only_setEvt _ _ _).mono (by decide)) ((only_logE _ _ _ _ _ _ _).mono (by decide))))
  have b1 : (s1.hdr pgDIR).stat.getLsbD 0 = true := by rw [← hs1]; exact bitsKept_logE _ _ _ _ _ _ _ _ _ (setEvt_sets _ _ (by decide))
  have d1 : s1.dir = s.dir := o1 .dir (by decide)
  have i1 : s1.tables = (s.updId n.hid fun i => { i with lost := 1 }).tables := by
    rw [← hs1, only_logE _ _ _ _ _ _ _ .tables (by decide), only_setEvt _ _ _ .tables (by decide)]
    rfl
  obtain ⟨a1, a2, a3, a4, a5⟩ := answerSnoop_recalling (s := s1) hl (by rw [d1]; exact h2) (by rw [d1]; exact h3) h4 h5 h6
  generalize hs2 : s1.answerSnoop line n.hid = s2 at *
  generalize hs3 : (s.mLines n.hid).foldl (fun (s : State) l => s.originPoison l) s2 = s3
  have o3 : Only [.poison, .log] s2 s3 := by rw [← hs3]; exact only_foldOriginPoison _
  generalize hs4 : (if (s.mLines n.hid).isEmpty then s3 else (s3.dirCount 5 (s.mLines n.hid).length).setEvt pgDIR 1) = s4
  have o4 : Only [.ctrs, .hdrs, .mfn] s3 s4 := by
    rw [← hs4]; exact Only.ite (Only.refl _ _) (Only.trans ((only_dirCount' _ _ _).mono (by decide)) ((only_setEvt _ _ _).mono (by decide)))
  generalize hs5 : (s4.updId n.hid fun i => { i with clearing := some s4.frame.num }) = s5
  have o5 : Only [.tables] s4 s5 := by rw [← hs5]; exact only_updId _ _ _
  have f4 : s2.frame.num = s.frame.num := by
    rw [a4 .frame (by decide), o1 .frame (by decide)]
  have d5 : s5.dir = s2.dir := by rw [o5 .dir (by decide), o4 .dir (by decide), o3 .dir (by decide)]
  have eD : s.declareLost n.hid 1 line = s5 := by
    unfold State.declareLost
    dsimp only
    rw [if_pos rfl, hs1]
    unfold State.bulkClear
    rw [d1, h2]
    simp only [List.foldl_cons, List.foldl_nil]
    rw [hs2, hs3, hs4, ← hs5]
    rw [show s1.frame = s4.frame from by rw [o4 .frame (by decide), o3 .frame (by decide), a4 .frame (by decide)]]
  have hw : (tr.without n.hid).movable = false := by
    obtain ⟨m, hm, hne⟩ := h6
    exact recall_waits (m := m) h4 (List.mem_filter.mpr ⟨hm, by simpa using hne⟩)
  have eT : t = s5 := by
    show s.recallDeadline line n.hid = s5
    unfold State.recallDeadline
    rw [trans_one h2]
    simp only [Option.bind_some]
    rw [h5]
    dsimp only
    rw [h7]
    dsimp only
    rw [if_neg (by simp [h9]; omega), show keyLine line = line from Nat.mod_eq_of_lt hl, eD, d5, a1]
    have e : ∀ (g : Nat × Option Trans → Option (Nat × Req)), g (line, some (tr.without n.hid)) = none →
        (List.filterMap g [(line, some (tr.without n.hid))]) = [] := by
      intro g hg; simp [hg]
    rw [e _ ?_]
    · show s5.dirTick = s5
      exact dirTick_waits (by rw [d5]; exact a1) hw (by rw [d5]; exact a3)
    · dsimp only
      show (match tr.what with | .req r => _ | _ => none) = none
      cases hwh : tr.what with
      | req r => simp [ho r hwh]
      | _ => rfl
  rw [eT]
  have hid5 : s5.ident n.hid = { s1.ident n.hid with clearing := some s.frame.num } := by
    rw [← hs5, ident_updId_same]
    have : s4.ident n.hid = s1.ident n.hid := by
      unfold State.ident
      rw [o4 .tables (by decide), o3 .tables (by decide), a4 .tables (by decide)]
    rw [this, show s4.frame = s.frame from by rw [o4 .frame (by decide), o3 .frame (by decide), a4 .frame (by decide), o1 .frame (by decide)]]
  have hid1 : s1.ident n.hid = { s.ident n.hid with lost := 1 } := by
    have e := ident_updId_same s n.hid (fun i => { i with lost := 1 })
    unfold State.ident at e ⊢
    rw [i1]
    exact e
  have k2 : BitsKept s1 s2 := .of_only a4 (by decide)
  have k3 : BitsKept s2 s3 := .of_only o3 (by decide)
  have k4 : BitsKept s3 s4 := by
    rw [← hs4]; exact bitsKept_ite (BitsKept.refl _) (BitsKept.trans (.of_only (only_dirCount' _ _ _) (by decide)) (bitsKept_setEvt _ _ _))
  have k5 : BitsKept s4 s5 := .of_only o5 (by decide)
  refine ⟨by rw [hid5, hid1], by rw [hid5], fun l hl' => ?_, k5 _ _ (k4 _ _ (k3 _ _ (k2 _ _ b1))), fun hne => k5 _ _ ?_, by rw [d5]; exact a1, fun he => ?_, ?_⟩
  · have e : s5.poison = s3.poison := by rw [o5 .poison (by decide), o4 .poison (by decide)]
    unfold State.isPoison
    rw [e, ← hs3]
    exact foldOriginPoison _ s2 l (.inl hl')
  · rw [← hs4, if_neg (by simpa using hne)]
    exact setEvt_sets _ _ (by decide)
  · have e3 : s3 = s2 := by rw [← hs3, he]; rfl
    have e : s5.log = s1.log := by
      rw [o5 .log (by decide), o4 .log (by decide), e3, a4 .log (by decide)]
    have r := logE_records (((s.updId n.hid fun i => { i with lost := 1 }).dirCount 4 1).setEvt pgDIR 0) 0x0501 3 (some (s.ident n.hid).tenant) pgDIR (64 * line) [n.hid, 1]
    rw [hs1] at r
    exact r.of_log (by rw [only_setEvt _ _ _ .log (by decide)]; rfl) (by rw [show ∀ x : State, (x.setEvt pgDIR 0).frame = x.frame from fun x => only_setEvt x _ _ .frame (by decide)]; rfl) e
  · exact Only.trans (o1.mono (by decide)) (Only.trans (a4.mono (by decide)) (Only.trans (o3.mono (by decide)) (Only.trans (o4.mono (by decide)) (o5.mono (by decide)))))

end Sys2Proof.Machine
end

