-- ==== Sys2Proof/Laws/Lanes.lean ====
section
/-!
SUPPORT. Lanes, the rack and pattern slots: what their updates read as, and which parts their operations change.
-/

namespace Sys2Proof.Machine

open Sys2Proof

variable (s : State)

theorem only_updSlot (n : Nat) (f : PatSlot → PatSlot) : Only [.pats] s (s.updSlot n f) := only_with_pats s _
theorem only_updRack (n : Nat) (f : RackEnt → RackEnt) : Only [.lanes] s (s.updRack n f) := only_with_lanes s _

theorem pslot_updSlot (n k : Nat) (f : PatSlot → PatSlot) : (s.updSlot n f).pslot k = if k = n then f (s.pslot n) else s.pslot k := by
  unfold State.updSlot State.pslot; dsimp only; rw [mapGet_upd]

theorem lane_updLane (n k : Nat) (f : Lane → Lane) : (s.updLane n f).lane k = if k = n then f (s.lane n) else s.lane k := by
  unfold State.updLane State.lane; dsimp only; rw [mapGet_upd]

theorem lane_updLane_same (n : Nat) (f : Lane → Lane) : (s.updLane n f).lane n = f (s.lane n) := by rw [lane_updLane, if_pos rfl]
theorem lane_updLane_other {n k : Nat} (f : Lane → Lane) (h : k ≠ n) : (s.updLane n f).lane k = s.lane k := by rw [lane_updLane, if_neg h]

theorem rackEnt_updRack (n k : Nat) (f : RackEnt → RackEnt) : (s.updRack n f).rackEnt k = if k = n then f (s.rackEnt n) else s.rackEnt k := by
  unfold State.updRack State.rackEnt; dsimp only; rw [mapGet_upd]

variable {s}

theorem lane_congr {u : State} (h : u.lanes = s.lanes) (n : Nat) : u.lane n = s.lane n := by unfold State.lane; rw [h]
theorem pslot_congr {u : State} (h : u.pats = s.pats) (n : Nat) : u.pslot n = s.pslot n := by unfold State.pslot; rw [h]
theorem ten_congr {u : State} (h : u.tenants = s.tenants) (n : Nat) : u.ten n = s.ten n := by unfold State.ten; rw [h]

variable (s)

theorem only_laneCount (l k n : Nat) : Only [.ctrs] s (s.laneCount l k n) := only_bump _ _ _ _
theorem only_chkCount (k : Nat) : Only [.ctrs] s (s.chkCount k) := only_bump _ _ _ _

theorem only_dispatch (w : LaneWork) (n : Nat) : Only [.lanes, .slate, .daily] s (s.dispatch w n) := by
  unfold State.dispatch
  dsimp only
  refine Only.ite (Only.trans ((only_updLane _ _ _).mono (by decide)) ((only_chargeSplit _ _ _ _ _ _).mono (by decide))) (Only.ite ((only_updLane _ _ _).mono (by decide))
    (Only.trans ((only_updLane _ _ _).mono (by decide)) ((only_chargeSplit _ _ _ _ _ _).mono (by decide))))

theorem dispatch_lane (w : LaneWork) (n k : Nat) : (s.dispatch w n).lane k = if k = n then
    { s.lane n with queue := (s.lane n).queue ++ [{ w with escU := min 2 (s.freeFor w n).1, partU := 2 - min 2 (s.freeFor w n).1 }] } else s.lane k := by
  have h : (s.dispatch w n).lanes = (s.updLane n fun l => { l with queue := l.queue ++ [{ w with escU := min 2 (s.freeFor w n).1, partU := 2 - min 2 (s.freeFor w n).1 }] }).lanes := by
    unfold State.dispatch
    dsimp only
    split
    · exact only_chargeSplit _ _ _ _ _ _ .lanes (by decide)
    · split
      · rfl
      · exact only_chargeSplit _ _ _ _ _ _ .lanes (by decide)
  rw [lane_congr h, lane_updLane]

theorem only_payLane (n code : Nat) (w : LaneWork) (a : Nat) : Only [.lanes, .slate, .daily, .ctrs] s (s.payLane n code w a).2 := by
  unfold State.payLane
  dsimp only
  split
  · exact Only.refl _ _
  · split
    · dsimp only; exact (only_charge _ _ _ _ _ _).mono (by decide)
    · dsimp only; exact Only.trans ((only_charge _ _ _ _ _ _).mono (by decide)) (Only.trans ((only_overrun _ _ _ _ _).mono (by decide))
        (Only.trans ((only_updLane _ _ _).mono (by decide)) ((only_laneCount _ _ _ _).mono (by decide))))

theorem payLane_paid {n code : Nat} {w : LaneWork} {a : Nat} (h : w.overran = true ∨ a ≤ w.charge) : s.payLane n code w a = (true, s) := by
  unfold State.payLane
  rw [if_pos (by rcases h with h | h <;> simp [h])]

theorem only_leaveLane (n : Nat) (w : LaneWork) (b : Bool) : Only [.lanes] s (s.leaveLane n w b) := by
  unfold State.leaveLane; exact only_updLane _ _ _

theorem only_faultDrain (k : UnitKind) (i : Nat) : Only [.svc] s (s.faultDrain k i) := only_updUnit _ _ _ _
theorem only_dropCarry (g n c : Nat) : Only [.slate] s (s.dropCarry g n c) := only_with_slate s _
theorem only_dropPattern (r : Bool) (n : Nat) : Only [.lanes] s (s.dropPattern r n) := only_with_lanes s _
theorem only_markDirty (n : Nat) : Only [.pats] s (s.markDirty n) := only_updSlot _ _ _

theorem only_rackFill (slot owner : Nat) (pin : Bool) : Only [.lanes, .slate, .daily] s (s.rackFill slot owner pin).2 := by
  unfold State.rackFill
  dsimp only
  split
  · dsimp only
    exact Only.ite ((only_updRack _ _ _).mono (by decide)) (Only.refl _ _)
  · split
    · exact Only.refl _ _
    · split
      · exact Only.refl _ _
      · dsimp only
        refine Only.trans ?_ (Only.foldl (fun s c => (only_chargeSplit s _ _ _ _ _).mono (by decide)) _ _)
        exact Only.trans ((only_updRack _ _ _).mono (by decide)) ((only_with_lanes _ _).mono (by decide))

theorem only_pinStep : Only [.lanes, .slate, .daily] s s.pinStep := by
  unfold State.pinStep
  refine Only.trans ((only_with_lanes s _).mono (by decide)) (Only.foldl (fun s n => ?_) _ _)
  have h := only_rackFill s n (s.pslot n).owner true
  exact Only.ite h (Only.trans h ((only_with_lanes _ _).mono (by decide)))

theorem only_slotDamaged (n : Nat) (c : Bool) : Only [.pats, .lanes, .log, .hdrs, .mfn, .ctrs] s (s.slotDamaged n c) := by
  unfold State.slotDamaged
  dsimp only
  refine Only.ite (Only.trans ((only_updSlot _ _ _).mono (by decide)) ((only_logE _ _ _ _ _ _ _).mono (by decide))) ?_
  exact Only.trans ((only_updSlot _ _ _).mono (by decide)) (Only.trans ((only_dropPattern _ _ _).mono (by decide)) (Only.trans ((only_setEvt _ _ _).mono (by decide))
    (Only.trans ((only_logE _ _ _ _ _ _ _).mono (by decide)) ((only_markDirty _ _).mono (by decide)))))

end Sys2Proof.Machine
end

