-- ==== Sys2Proof/Tests/Slice0.lean ====
section
/-!
SUPPORT. Tests: small facts whose values come from the spec.
-/

namespace Sys2Proof.Machine

open Sys2Proof

theorem test_reset_queue : State.reset.pending = [] := rfl

end Sys2Proof.Machine
end

section
/-!
PROOFS. The frame number at an edge (R18, R20) and the shadow bank of the slate (R33, R35).
-/

namespace Sys2Proof.Machine

open Sys2Proof

section FrameNumber

variable {s : State}

/-- Whatever the edge does on its way, its last act is to put the frame number (R18, R59). -/
theorem frameEdge_num (x : EdgeEnv) (h : s.frame.started = true) : (s.frameEdge x).frame.num = s.numAfterEdge := by
  unfold State.frameEdge
  rw [if_neg (by simp [h])]
  rfl

theorem numAfterEdge_of_not_reseatDue (h : s.reseatDue = false) : s.numAfterEdge = s.edgeNum := by
  simp [State.numAfterEdge, h]

/-- The count modulo W, written with R18's last number before the wrap. -/
theorem edgeNum_eq_succ_or_zero (h : s.frame.num < frameWrap) :
    s.edgeNum = if s.frame.num = 0xF9FFFFFFFFFF then 0 else s.frame.num + 1 := by
  unfold State.edgeNum frameWrap at *
  split <;> omega

theorem edgeNum_lt_frameWrap (s : State) : s.edgeNum < frameWrap := Nat.mod_lt _ (by decide)

theorem keeping_frame_num {k : Touches} (hk : k.num = true) (s t : State) (ht : t.frame.num < frameWrap) :
    (s.keeping k t).frame.num = t.frame.num := by
  simp [State.keeping, hk, Nat.mod_eq_of_lt ht]

theorem exec_frameEdge (x : EdgeEnv) (s : State) : exec (.frameEdge x) s = .next (s.keeping { num := true } (s.frameEdge x)) := rfl

end FrameNumber

/-- Settles O9: the edge ends by putting the next number modulo W, which only a re-seat that is due would replace. -/
theorem frameEdgeCountsFrames : Obligations.FrameEdgeCountsFrames := by
  intro x s hnum hstart hseat
  have hedge : (s.frameEdge x).frame.num = s.edgeNum := by
    rw [frameEdge_num x hstart, numAfterEdge_of_not_reseatDue hseat]
  refine ⟨_, exec_frameEdge x s, ?_⟩
  rw [keeping_frame_num rfl s _ (hedge ▸ edgeNum_lt_frameWrap s), hedge, edgeNum_eq_succ_or_zero hnum]

/-- A running block in the last frame before the wrap. -/
def lastFrame : State := { State.reset with frame := { State.reset.frame with started := true, num := 0xF9FFFFFFFFFF } }

/-- R20: the edge after the last frame begins frame 0. -/
theorem frameEdge_lastFrame_wraps : ∃ t, exec (.frameEdge {}) lastFrame = .next t ∧ t.frame.num = 0 :=
  frameEdgeCountsFrames {} lastFrame (by decide) rfl rfl

/-! ### The shadow bank -/

/-- Values put under keys that differ are read back, and a key that none was put under keeps its value. -/
theorem mapGet_forEach_put {α : Type} [DecidableEq α] {d : Nat → α} {key : Nat → Nat} (hkey : key.Injective) (val : Nat → α)
    (l : List Nat) (m : Map α) (k : Nat) :
    mapGet d (forEach l (fun k m => mapPut d (key k) (val k) m) m) (key k) = if k ∈ l then val k else mapGet d m (key k) := by
  induction l generalizing m with
  | nil => simp [forEach]
  | cons a l ih =>
    show mapGet d (forEach l _ (mapPut d (key a) (val a) m)) (key k) = _
    rw [ih, mapGet_put]
    by_cases hl : k ∈ l
    · simp [hl]
    · by_cases ha : k = a
      · simp [ha]
      · simp [hl, ha, hkey.ne ha]

theorem slateKey_word_injective (row group word : Nat) : Function.Injective fun k => slateKey row group (4 * word + k) := by
  intro a b h
  simp only [slateKey] at h
  omega

section SlateWrite

variable {s : State}

theorem slateStore_eq (row group word : Nat) (v : Word32) (s : State) :
    s.slateStore row group word v = { s with slate := { s.slate with
      shadow := forEach (List.range 4) (fun k m =>
        mapPut slateReset (slateKey row group (4 * word + k)) (BitVec.ofNat 8 (v.toNat / 2 ^ (8 * k))) m) s.slate.shadow } } := rfl

/-- The four owner codes of the word that is stored. -/
theorem slateStore_code (row group word : Nat) (v : Word32) (s : State) {k : Nat} (hk : k < 4) :
    mapGet slateReset (s.slateStore row group word v).slate.shadow (slateKey row group (4 * word + k)) = BitVec.ofNat 8 (v.toNat / 2 ^ (8 * k)) := by
  rw [slateStore_eq]
  refine (mapGet_forEach_put (slateKey_word_injective row group word) _ _ _ k).trans ?_
  rw [if_pos (List.mem_range.mpr hk)]

/-- R35: a write while a swap is pending. -/
theorem slateData_of_pend (v : Word32) (hb : bitOf (s.reg (ofsOf pgFRAME 0x68)) 16 = false) (hp : s.slate.pend = true) :
    s.slateData v = { s with slate := { s.slate with wrDrop := true } } := by
  simp [State.slateData, hb, hp]

/-- R33: a write while no swap is pending. -/
theorem slateData_of_not_pend (v : Word32) (hb : bitOf (s.reg (ofsOf pgFRAME 0x68)) 16 = false) (hp : s.slate.pend = false) :
    s.slateData v = s.slateStore (s.regF pgFRAME 0x68 6 0) (s.regF pgFRAME 0x68 11 8) (s.regF pgFRAME 0x68 13 12) v := by
  simp [State.slateData, hb, hp]

/-- R33, R35: no write of SLATE_DATA reaches the active bank. -/
theorem slateData_act (v : Word32) (s : State) : (s.slateData v).slate.act = s.slate.act := by
  unfold State.slateData
  split
  · rfl
  · split
    · rfl
    · rw [slateStore_eq]

theorem only_slateStore (row group word : Nat) (v : Word32) (s : State) : Only [.slate] s (s.slateStore row group word v) := by
  rw [slateStore_eq]; exact only_with_slate s _

theorem only_slateData (v : Word32) (s : State) : Only [.slate] s (s.slateData v) := by
  unfold State.slateData
  exact Only.ite (Only.refl _ _) (Only.ite (only_with_slate s _) (only_slateStore _ _ _ _ _))

@[simp] theorem pathTaken_slate (src : MgmtSrc) (s : State) : (s.pathTaken src).slate = s.slate := rfl

theorem regWrite_slateData (v : Word32) (u : State) : u.regWrite (ofsOf pgFRAME 0x6C) v = u.slateData v := rfl

/-- A write of SLATE_DATA that is served at once: its own effect between what the path counts and the answer. -/
theorem exec_slateDataWrite {src : MgmtSrc} (h : s.Reaches src (ofsOf pgFRAME 0x6C)) (v : Word32) :
    ∃ a, exec (.slateDataWrite src v) s = .next (s.keeping {} (((s.pathTaken src).slateData v).mgmtReply a 0#32)) := by
  obtain ⟨a, ha⟩ := rowWrite_served h (by decide) (by decide) v
  rw [regWrite_slateData] at ha
  exact ⟨a, congrArg (done s) ha⟩

end SlateWrite

/-- Settles O11: the write reaches SLATE_DATA as the path left it, and splits on the pending swap; the answer changes neither bank. -/
theorem slateDataWriteStoresOrDrops : Obligations.SlateDataWriteStoresOrDrops := by
  intro src v s hreach hbank
  obtain ⟨a, hexec⟩ := exec_slateDataWrite hreach v
  have hb : bitOf ((s.pathTaken src).reg (ofsOf pgFRAME 0x68)) 16 = false := by simpa using hbank
  refine ⟨_, hexec, fun hp => ?pending, fun hp => ?stored, ?active, (only_served (only_slateData v _)).mono (by decide)⟩
  case pending => simp [slateData_of_pend v hb, hp]
  case stored =>
    rw [slateData_of_not_pend v hb (by simpa using hp)]
    refine ⟨by simp [slateStore_eq], fun k hk => ?_⟩
    simpa using slateStore_code _ _ _ v (s.pathTaken src) hk
  case active => simp [slateData_act]

/-- R919: the Keaquin reaches every register, before configuration ready too. -/
theorem reaches_keaquin {s : State} (hused : s.mgmt.used < 64) (hidle : s.mgmtIdle = true) (ofs : Nat) : s.Reaches .keaquin ofs :=
  ⟨hused, hidle, by simp, by simp⟩

/-- The block after reset, with a swap requested. -/
def swapPending : State := { State.reset with slate := { State.reset.slate with pend := true } }

/-- R35 at a state with a pending swap: the write is dropped. -/
theorem slateDataWrite_swapPending_dropped :
    ∃ t, exec (.slateDataWrite .keaquin 0x03020100#32) swapPending = .next t ∧ t.slate.wrDrop = true ∧ t.slate.shadow = [] := by
  obtain ⟨t, ht, hpend, -, -, -⟩ := slateDataWriteStoresOrDrops .keaquin 0x03020100#32 swapPending
    (reaches_keaquin (by decide) rfl _) (by decide)
  obtain ⟨hshadow, hdrop, -⟩ := hpend rfl
  exact ⟨t, ht, hdrop, hshadow⟩

/-- R33 at reset: slot 2 of row 0, group 0 takes the third byte of the word. -/
theorem slateDataWrite_reset_stored :
    ∃ t, exec (.slateDataWrite .keaquin 0x03020100#32) State.reset = .next t ∧ mapGet slateReset t.slate.shadow (slateKey 0 0 2) = 0x02#8 := by
  obtain ⟨t, ht, -, hidle, -, -⟩ := slateDataWriteStoresOrDrops .keaquin 0x03020100#32 State.reset
    (reaches_keaquin (by decide) rfl _) (by decide)
  exact ⟨t, ht, (hidle rfl).2 2 (by decide)⟩

end Sys2Proof.Machine
end

section
/-!
PROOFS. What a command may touch (Exec.lean's `Touches`), the queue, the invariant of every step, and the device reset.
-/

namespace Sys2Proof.Machine

open Sys2Proof

/-! ### What a command touches -/

/-- What the meaning of a command answers with: the parts that `State.keeping` lets it change. -/
def touchedBy : Instr → Touches
  | .deviceReset | .rstNDeassert _ => ⟨true, true, true, true, true, true, true⟩
  | .rngHealthTest _ => { boot := true }
  | .memoryActive => { active := true, fw := true }
  | .frameEdge _ | .frameInPulse .. | .marker .. => { num := true }
  | .transferFw .. | .activateFw .. | .mgmtWatchdog => { fw := true }
  | .trstAssert | .bypass | .idcode | .samplePreload | .extest | .jtagOtherInstruction => { tap := true }
  | .unlockDebug .. => { debug := true }
  | _ => {}

theorem exec_touchedBy (c : Instr) (s : State) : ∃ u, exec c s = .next (s.keeping (touchedBy c) u) := by
  cases c <;> exact ⟨_, rfl⟩

theorem fw_of_touchedBy {c : Instr} (h : (touchedBy c).fw = true) :
    c = .deviceReset ∨ (∃ e, c = .rstNDeassert e) ∨ c = .memoryActive ∨ c = .mgmtWatchdog
      ∨ (∃ f n l b v x a, c = .transferFw f n l b v x a) ∨ (∃ f n o w, c = .activateFw f n o w) := by
  cases c <;> simp [touchedBy] at h ⊢

theorem num_of_touchedBy {c : Instr} (h : (touchedBy c).num = true) :
    c = .deviceReset ∨ (∃ e, c = .rstNDeassert e) ∨ (∃ e, c = .frameEdge e) ∨ (∃ o w, c = .frameInPulse o w)
      ∨ (∃ f b r y, c = .marker f b r y) := by
  cases c <;> simp [touchedBy] at h ⊢

theorem tap_of_touchedBy {c : Instr} (h : (touchedBy c).tap = true) :
    c = .deviceReset ∨ (∃ e, c = .rstNDeassert e)
      ∨ c ∈ [Instr.trstAssert, .bypass, .idcode, .samplePreload, .extest, .jtagOtherInstruction] := by
  cases c <;> simp [touchedBy] at h ⊢

theorem debug_of_touchedBy {c : Instr} (h : (touchedBy c).debug = true) :
    c = .deviceReset ∨ (∃ e, c = .rstNDeassert e) ∨ (∃ v k, c = .unlockDebug v k) := by
  cases c <;> simp [touchedBy] at h ⊢

/-! ### What `keeping` keeps -/

section Keeping

variable {k : Touches} (s t : State)

theorem keeping_fw_of_not (h : k.fw = false) : (s.keeping k t).fw = s.fw := by simp [State.keeping, h]
theorem keeping_num_of_not (h : k.num = false) : (s.keeping k t).frame.num = s.frame.num := by simp [State.keeping, h]
theorem keeping_tap_of_not (h : k.tap = false) : (s.keeping k t).sys.tap = s.sys.tap := by simp [State.keeping, h]
theorem keeping_debug_of_not (h : k.debug = false) : (s.keeping k t).tables.debug = s.tables.debug := by simp [State.keeping, h]

/-- R20: whatever a meaning answers, the frame number stays below the wrap. -/
theorem keeping_num_lt (h : s.frame.num < frameWrap) : (s.keeping k t).frame.num < frameWrap := by
  simp only [State.keeping]
  split
  · exact Nat.mod_lt _ (by decide)
  · exact h

end Keeping

/-- Settles O3: every meaning answers through `keeping`, which keeps the queue. -/
theorem everyCommandCompletes : Obligations.EveryCommandCompletes := fun c s =>
  let ⟨_, h⟩ := exec_touchedBy c s
  ⟨_, h, rfl⟩

/-- Settles O6: a part that a command does not touch is kept, and few commands touch each. -/
theorem onlyTheirCommandsChangeThem : Obligations.OnlyTheirCommandsChangeThem := by
  intro c s t h
  obtain ⟨u, hu⟩ := exec_touchedBy c s
  obtain rfl : s.keeping (touchedBy c) u = t := Host.Outcome.next.inj (hu.symm.trans h)
  refine ⟨fun hne => fw_of_touchedBy ?_, fun _ hne => num_of_touchedBy ?_, fun hne => tap_of_touchedBy ?_, fun hne => debug_of_touchedBy ?_⟩
  · exact Bool.not_eq_false _ ▸ fun hk => hne (keeping_fw_of_not s u hk)
  · exact Bool.not_eq_false _ ▸ fun hk => hne (keeping_num_of_not s u hk)
  · exact Bool.not_eq_false _ ▸ fun hk => hne (keeping_tap_of_not s u hk)
  · exact Bool.not_eq_false _ ▸ fun hk => hne (keeping_debug_of_not s u hk)

/-! ### A step and the queue -/

/-- Settles O1: the definition of a step on a queue that is not empty. -/
theorem stepRunsFrontCommand : Obligations.StepRunsFrontCommand := fun _ _ _ h => step_cons h

/-- Settles O2: the definition of a step on an empty queue. -/
theorem stepIdlesOnEmptyQueue : Obligations.StepIdlesOnEmptyQueue := fun _ h => step_nil h

/-! ### The invariant -/

/-- Settles O4: every clause at the values of reset. -/
theorem resetMeetsInvariant : Obligations.ResetMeetsInvariant :=
  { num := by decide, jtag := by decide, frames := by decide, booted := by decide, waits := by decide, active := by decide }

section Invariant

variable {s : State}

/-- A meaning that touches neither firmware, nor start-up, nor memory active, nor the test port keeps the invariant. -/
theorem State.Inv.keeping_of_not {k : Touches} (h : s.Inv) (t : State) (hfw : k.fw = false) (hs : k.start = false) (hb : k.boot = false)
    (ha : k.active = false) (ht : k.tap = false) : (s.keeping k t).Inv where
  num := keeping_num_lt s t h.num
  jtag := by simpa [State.keeping, ht, hs] using h.jtag
  frames := by simpa [State.keeping, hs] using h.frames
  booted := by simpa [State.keeping, hb, hs, hfw] using h.booted
  waits := by simpa [State.keeping, hb, hs, hfw] using h.waits
  active := by simpa [State.keeping, ha, hb] using h.active

/-- A meaning that touches only the firmware, and not whether the part is in recovery, keeps it. -/
theorem State.Inv.keeping_fw (h : s.Inv) {t : State} (hr : t.fw.recovery = s.fw.recovery) : (s.keeping { fw := true } t).Inv where
  num := keeping_num_lt s t h.num
  jtag := h.jtag
  frames := h.frames
  booted := by simpa [State.keeping, hr] using h.booted
  waits := by simpa [State.keeping, hr] using h.waits
  active := h.active

/-- A meaning that touches only the test port keeps it where SAMPLE/PRELOAD and EXTEST are loaded under RST_N alone (R986). -/
theorem State.Inv.keeping_tap (h : s.Inv) {t : State} (ht : t.sys.tap = .sample ∨ t.sys.tap = .extest → s.sys.rstLow = true) :
    (s.keeping { tap := true } t).Inv where
  num := keeping_num_lt s t h.num
  jtag := by simpa [State.keeping] using ht
  frames := h.frames
  booted := h.booted
  waits := h.waits
  active := h.active

theorem tapLoad_sample {i : TapIr} {n : Nat} (h : (s.tapLoad i n).sys.tap = .sample ∨ (s.tapLoad i n).sys.tap = .extest) :
    s.sys.rstLow = true := by
  cases hr : s.sys.rstLow
  · cases hd : s.tables.debug <;> cases i <;> simp [State.tapLoad, hr, hd] at h
  · rfl

theorem State.Inv.tapLoad (h : s.Inv) (i : TapIr) (n : Nat) : (s.keeping { tap := true } (s.tapLoad i n)).Inv := h.keeping_tap tapLoad_sample

@[simp] theorem writeRec_recovery (r : BootRec) (f : FwS) : (f.writeRec r).recovery = f.recovery := by
  unfold FwS.writeRec
  dsimp only
  repeat' split
  all_goals rfl

@[simp] theorem setSlot_recovery (n : Nat) (i : FwImage) (f : FwS) : (f.setSlot n i).recovery = f.recovery := by
  unfold FwS.setSlot
  repeat' split
  all_goals rfl

theorem transferFw_recovery (f : Option Nat) (n : Nat) (l : Bool) (i : FwImage) : (s.transferFw f n l i).fw.recovery = s.fw.recovery := by
  unfold State.transferFw
  dsimp only
  repeat' split
  all_goals simp

theorem activateFw_recovery (f : Option Nat) (n : Nat) (o w : Bool) : (s.activateFw f n o w).fw.recovery = s.fw.recovery := by
  unfold State.activateFw
  repeat' split
  all_goals simp

theorem mgmtWatchdog_recovery : s.mgmtWatchdog.fw.recovery = s.fw.recovery := by
  unfold State.mgmtWatchdog
  simp
  split <;> rfl

/-- The state that a device reset leaves, before the pins are driven. -/
theorem deviceReset_eq (s : State) : ∃ l, s.deviceReset = { State.reset with
      log := { post := s.log.post }
      pats := { store := s.pats.store, seq := s.pats.seq }
      shelf := { inv := s.shelf.inv }
      press := { swatch := { s.press.swatch with now := false, fails := 0, last := 0, advised := false } }
      fw := { slot1 := s.fw.slot1, slot2 := s.fw.slot2, recA := s.fw.recA, recB := s.fw.recB, svnMin := s.fw.svnMin, trialEnded := s.fw.trialEnded }
      sys := { tap := s.sys.tap }
      out := s.out ++ l, freeIx := s.freeIx, pending := s.pending } := by
  unfold State.deviceReset
  cases s.sys.fatalPin <;> cases s.sys.alertPin
  · exact ⟨[], by rw [List.append_nil]; rfl⟩
  · exact ⟨[.pin 1 false], rfl⟩
  · exact ⟨[.pin 0 false], rfl⟩
  · exact ⟨[.pin 0 false, .pin 1 false], by rw [List.append_cons]; rfl⟩

/-- The reset state meets the invariant, and what outlives a reset is under none of its clauses but the test port's. -/
theorem State.Inv.deviceReset (s : State) : (s.keeping ⟨true, true, true, true, true, true, true⟩ s.deviceReset).Inv := by
  constructor
  case num => exact Nat.mod_lt _ (by decide)
  all_goals
    obtain ⟨l, hl⟩ := deviceReset_eq s
    simp [State.keeping, hl, State.reset]

/-- What RST_N deassertion leaves of start-up, whatever the boot ROM and the rest of the sequence have done (R926, R980, R986). -/
theorem rstDeassert_eq (h : s.sys.rstLow = true) (e : BootEnv) : ∃ (u : State) (f : FwS), s.rstDeassert e = { u with
      fw := f
      frame := { u.frame with started := true }
      sys := { u.sys with
        rstLow := false, smbAddr := e.smbAddr % 8, dbgEn := e.dbgEn
        tap := if s.sys.tap = .sample ∨ s.sys.tap = .extest then .bypass else s.sys.tap
        boot := if f.recovery || e.rngOk then none else some e
        bootDone := !f.recovery && e.rngOk
        memActive := false } } := by
  unfold State.rstDeassert
  rw [if_neg (by simp [h])]
  exact ⟨_, _, rfl⟩

/-- RST_N deassertion (R926, R935, R980, R986): start-up ends or waits only outside recovery, and the pins return. -/
theorem State.Inv.rstDeassert (h : s.Inv) (e : BootEnv) : (s.keeping ⟨true, true, true, true, true, true, true⟩ (s.rstDeassert e)).Inv := by
  have hn := keeping_num_lt (k := ⟨true, true, true, true, true, true, true⟩) s (s.rstDeassert e) h.num
  by_cases hl : s.sys.rstLow = true
  · obtain ⟨u, f, hr⟩ := rstDeassert_eq hl e
    rw [hr] at hn ⊢
    constructor
    case num => exact hn
    all_goals simp only [State.keeping, if_true]
    case jtag => split <;> simp_all
    case waits => cases f.recovery <;> simp
    case booted => cases f.recovery <;> simp
    all_goals simp
  · have hr : s.rstDeassert e = s := by simp [State.rstDeassert, hl]
    rw [hr] at hn ⊢
    constructor
    case num => exact hn
    all_goals simp only [State.keeping, if_true]
    exacts [h.jtag, h.frames, h.booted, h.waits, h.active]

/-- The health test ends a wait, and start-up waits only outside recovery (R936). -/
theorem State.Inv.rngTest (h : s.Inv) (ok : Bool) : (s.keeping { boot := true } (s.rngTest ok)).Inv := by
  have hb : ((s.rngTest ok).sys.boot = s.sys.boot ∧ (s.rngTest ok).sys.bootDone = s.sys.bootDone)
      ∨ (s.rngTest ok).sys.boot = none ∧ (s.rngTest ok).sys.bootDone = true ∧ s.sys.boot.isSome = true := by
    unfold State.rngTest
    split
    · exact .inl ⟨rfl, rfl⟩
    · split
      · simp
      · split
        · rename_i e he
          exact .inr ⟨rfl, rfl, by simp [he]⟩
        · exact .inl ⟨rfl, rfl⟩
  refine { num := keeping_num_lt s _ h.num, jtag := h.jtag, frames := h.frames, booted := ?_, waits := ?_, active := ?_ }
  all_goals simp only [State.keeping]
  all_goals rcases hb with ⟨h1, h2⟩ | ⟨h1, h2, h3⟩
  · simpa [h2] using h.booted
  · simpa [h2] using h.waits h3
  · simpa [h1] using h.waits
  · simp [h1]
  · simpa [h2] using h.active
  · simp [h2]

/-- Memory becomes active only once start-up has ended (R937), and its firmware record says nothing of recovery. -/
theorem State.Inv.memoryActive (h : s.Inv) : (s.keeping { active := true, fw := true } s.memoryActive).Inv := by
  have hr : s.memoryActive.fw.recovery = s.fw.recovery := by
    unfold State.memoryActive
    dsimp only
    split
    · rfl
    · rw [setEvt_fw]
      repeat' split
      all_goals simp
  have ha : s.memoryActive.sys.memActive = true → s.sys.bootDone = true := by
    unfold State.memoryActive
    split
    · exact h.active
    · intro; simp_all
  exact { num := keeping_num_lt s _ h.num, jtag := h.jtag, frames := h.frames,
          booted := by simpa [State.keeping, hr] using h.booted, waits := by simpa [State.keeping, hr] using h.waits,
          active := by simpa [State.keeping] using ha }

/-- Every command keeps the invariant: few touch what it speaks of. -/
theorem exec_keeps_inv (h : s.Inv) (c : Instr) {t : State} (hc : exec c s = .next t) : t.Inv := by
  cases c
  case deviceReset => obtain rfl := Host.Outcome.next.inj hc; exact State.Inv.deviceReset s
  case rstNDeassert e => obtain rfl := Host.Outcome.next.inj hc; exact h.rstDeassert e
  case rngHealthTest ok => obtain rfl := Host.Outcome.next.inj hc; exact h.rngTest ok
  case memoryActive => obtain rfl := Host.Outcome.next.inj hc; exact h.memoryActive
  case transferFw => obtain rfl := Host.Outcome.next.inj hc; exact h.keeping_fw (transferFw_recovery ..)
  case activateFw => obtain rfl := Host.Outcome.next.inj hc; exact h.keeping_fw (activateFw_recovery ..)
  case mgmtWatchdog => obtain rfl := Host.Outcome.next.inj hc; exact h.keeping_fw mgmtWatchdog_recovery
  case trstAssert => obtain rfl := Host.Outcome.next.inj hc; exact h.keeping_tap (by simp [State.trst])
  case bypass => obtain rfl := Host.Outcome.next.inj hc; exact h.tapLoad _ _
  case idcode => obtain rfl := Host.Outcome.next.inj hc; exact h.tapLoad _ _
  case samplePreload => obtain rfl := Host.Outcome.next.inj hc; exact h.tapLoad _ _
  case extest => obtain rfl := Host.Outcome.next.inj hc; exact h.tapLoad _ _
  case jtagOtherInstruction => obtain rfl := Host.Outcome.next.inj hc; exact h.tapLoad _ _
  all_goals obtain rfl := Host.Outcome.next.inj hc; exact h.keeping_of_not _ rfl rfl rfl rfl rfl

/-- The queue is under no clause of the invariant. -/
theorem State.Inv.with_pending (h : s.Inv) (q : List Instr) : State.Inv { s with pending := q } :=
  { num := h.num, jtag := h.jtag, frames := h.frames, booted := h.booted, waits := h.waits, active := h.active }

end Invariant

/-- Settles O5: with an empty queue nothing moves; else the front command runs, and every command keeps the invariant. -/
theorem everyStepKeepsInvariant : Obligations.EveryStepKeepsInvariant := by
  intro s t h hstep
  cases hq : s.pending with
  | nil =>
    rw [step_nil hq] at hstep
    exact Host.Outcome.next.inj hstep ▸ h
  | cons c rest =>
    rw [step_cons hq] at hstep
    exact exec_keeps_inv (h.with_pending rest) c hstep

/-- A reset part in which a deassertion of RST_N waits in the queue. -/
def resetWithDeassert : State := { State.reset with pending := [.rstNDeassert {}] }

/-- The invariant is met by a state that steps, and by the state it steps to. -/
theorem step_resetWithDeassert_inv : ∃ t, step resetWithDeassert = .next t ∧ t.Inv :=
  have h : resetWithDeassert.Inv := resetMeetsInvariant.with_pending _
  ⟨_, rfl, everyStepKeepsInvariant resetWithDeassert _ h rfl⟩

/-! ### Device reset -/

/-- Settles O7: `deviceReset_eq` names every part. -/
theorem deviceResetRestoresReset : Obligations.DeviceResetRestoresReset := by
  intro s
  obtain ⟨l, hl⟩ := deviceReset_eq s
  refine ⟨_, rfl, ?_⟩
  rw [hl]
  refine ⟨fun p hp => ?_, rfl, rfl, rfl, rfl, rfl, rfl, rfl, rfl, ⟨l, rfl⟩⟩
  cases p
  all_goals first | exact absurd (by decide) hp | rfl

end Sys2Proof.Machine
end

section
/-!
PROOFS. What `State.keeping` leaves of an answer: all of it where the meaning changed nothing that its command may not touch.
-/

namespace Sys2Proof.Machine

open Sys2Proof

section Parts

variable (k : Touches) (s t : State)

@[simp] theorem keeping_regs : (s.keeping k t).regs = t.regs := rfl
@[simp] theorem keeping_ctrs : (s.keeping k t).ctrs = t.ctrs := rfl
@[simp] theorem keeping_hdrs : (s.keeping k t).hdrs = t.hdrs := rfl
@[simp] theorem keeping_mgmt : (s.keeping k t).mgmt = t.mgmt := rfl
@[simp] theorem keeping_log : (s.keeping k t).log = t.log := rfl
@[simp] theorem keeping_daily : (s.keeping k t).daily = t.daily := rfl
@[simp] theorem keeping_svc : (s.keeping k t).svc = t.svc := rfl
@[simp] theorem keeping_svcEvt : (s.keeping k t).svcEvt = t.svcEvt := rfl
@[simp] theorem keeping_svcRej : (s.keeping k t).svcRej = t.svcRej := rfl
@[simp] theorem keeping_mem : (s.keeping k t).mem = t.mem := rfl
@[simp] theorem keeping_poison : (s.keeping k t).poison = t.poison := rfl
@[simp] theorem keeping_tier : (s.keeping k t).tier = t.tier := rfl
@[simp] theorem keeping_tenants : (s.keeping k t).tenants = t.tenants := rfl
@[simp] theorem keeping_hports : (s.keeping k t).hports = t.hports := rfl
@[simp] theorem keeping_extents : (s.keeping k t).extents = t.extents := rfl
@[simp] theorem keeping_fns : (s.keeping k t).fns = t.fns := rfl
@[simp] theorem keeping_mfn : (s.keeping k t).mfn = t.mfn := rfl
@[simp] theorem keeping_bg : (s.keeping k t).bg = t.bg := rfl
@[simp] theorem keeping_bgLast : (s.keeping k t).bgLast = t.bgLast := rfl
@[simp] theorem keeping_mctp : (s.keeping k t).mctp = t.mctp := rfl
@[simp] theorem keeping_dir : (s.keeping k t).dir = t.dir := rfl
@[simp] theorem keeping_rgl : (s.keeping k t).rgl = t.rgl := rfl
@[simp] theorem keeping_fab : (s.keeping k t).fab = t.fab := rfl
@[simp] theorem keeping_lanes : (s.keeping k t).lanes = t.lanes := rfl
@[simp] theorem keeping_pats : (s.keeping k t).pats = t.pats := rfl
@[simp] theorem keeping_chans : (s.keeping k t).chans = t.chans := rfl
@[simp] theorem keeping_dram : (s.keeping k t).dram = t.dram := rfl
@[simp] theorem keeping_shelf : (s.keeping k t).shelf = t.shelf := rfl
@[simp] theorem keeping_cues : (s.keeping k t).cues = t.cues := rfl
@[simp] theorem keeping_press : (s.keeping k t).press = t.press := rfl
@[simp] theorem keeping_coll : (s.keeping k t).coll = t.coll := rfl
@[simp] theorem keeping_power : (s.keeping k t).power = t.power := rfl
@[simp] theorem keeping_out : (s.keeping k t).out = t.out := rfl
@[simp] theorem keeping_freeIx : (s.keeping k t).freeIx = t.freeIx := rfl

end Parts

section Whole

variable {s t : State}

/-- The tables of an answer are the meaning's where it left the debug unlock. -/
theorem keeping_tables_of {k : Touches} (h : t.tables.debug = s.tables.debug) : (s.keeping k t).tables = t.tables := by
  simp only [State.keeping, ← h, ite_self]

/-- The frame part of an answer is the meaning's where it left the number and whether frames run. -/
theorem keeping_frame_of {k : Touches} (hk : k.num = false) (hn : t.frame.num = s.frame.num) (hs : t.frame.started = s.frame.started) :
    (s.keeping k t).frame = t.frame := by
  simp only [State.keeping, hk, ← hn, ← hs, ite_self, Bool.false_eq_true, if_false]

/-- The system part of an answer is the meaning's where it left it, whatever the command may touch of it. -/
theorem keeping_sys_of {k : Touches} (h : t.sys = s.sys) : (s.keeping k t).sys = t.sys := by
  simp only [State.keeping, ← h, ite_self]

/-- An answer of a command that touches none of these is the meaning's state, where it touched none of them. -/
theorem keeping_eq (hp : t.pending = s.pending) (hw : t.fw = s.fw) (hn : t.frame.num = s.frame.num) (hf : t.frame.started = s.frame.started)
    (hd : t.tables.debug = s.tables.debug) (hs : t.sys = s.sys) : s.keeping {} t = t := by
  have h : ∀ p, p ∉ ([] : List Part) → p.Same t (s.keeping {} t) := fun p _ => by
    cases p
    case frame => exact keeping_frame_of rfl hn hf
    case tables => exact keeping_tables_of hd
    case sys => exact keeping_sys_of hs
    case fw => exact hw.symm
    case pending => exact hp.symm
    all_goals rfl
  exact Only.eq_of h

theorem keeping_eq_of_only {l : List Part} (h : Only l s t) (hl : ([.pending, .fw, .frame, .tables, .sys].all fun p => !l.contains p) = true) :
    s.keeping {} t = t := by
  have hm : ∀ p, p ∈ [Part.pending, .fw, .frame, .tables, .sys] → p ∉ l := fun p hp => by simpa using List.all_eq_true.mp hl p hp
  have hfr : t.frame = s.frame := h .frame (hm _ (by decide))
  have htb : t.tables = s.tables := h .tables (hm _ (by decide))
  exact keeping_eq (h .pending (hm _ (by decide))) (h .fw (hm _ (by decide))) (hfr ▸ rfl) (hfr ▸ rfl) (htb ▸ rfl) (h .sys (hm _ (by decide)))

/-- What a meaning leaves, its answer leaves; a command that touches the frame number may have it reduced below the wrap. -/
theorem Only.keeping_any {k : Touches} {l : List Part} (h : Only l s t) (hk : k.num = true → Part.frame ∈ l) : Only l s (s.keeping k t) := by
  intro p hp
  have hs : p.Same s t := h p hp
  cases p
  case frame =>
    have hn : k.num = false := Bool.not_eq_true _ ▸ fun e => hp (hk e)
    exact (keeping_frame_of hn (congrArg FrameS.num hs) (congrArg FrameS.started hs)).trans hs
  case tables => exact (keeping_tables_of (congrArg TablesS.debug hs)).trans hs
  case sys => exact (keeping_sys_of hs).trans hs
  case fw =>
    have hs : t.fw = s.fw := hs
    simp [Part.Same, State.keeping, hs]
  case pending => rfl
  all_goals exact hs

@[simp] theorem keeping_self (s : State) : s.keeping {} s = s := keeping_eq rfl rfl rfl rfl rfl rfl

/-- The answer of a command that touches none of these, its meaning rewritten. -/
theorem exec_done {c : Instr} {u : State} (hc : exec c s = done s u) (h : u = t) : exec c s = .next (s.keeping {} t) := hc.trans (congrArg (done s) h)

end Whole

end Sys2Proof.Machine
end

section
/-!
PROOFS. Start-up, and what moves the sync state outside the edge.
-/

namespace Sys2Proof.Machine

open Sys2Proof

variable {s : State}

/-! ### Start-up -/

theorem rstDeassert_startUp (h : s.sys.rstLow = true) (e : BootEnv) : ∃ t, exec (.rstNDeassert e) s = .next t
    ∧ t.sys.rstLow = false ∧ t.frame.started = true ∧ t.sys.smbAddr = e.smbAddr % 8 ∧ t.sys.dbgEn = e.dbgEn ∧ t.sys.memActive = false
    ∧ (s.sys.tap = .sample ∨ s.sys.tap = .extest → t.sys.tap = .bypass)
    ∧ (t.fw.recovery = true → t.sys.bootDone = false ∧ t.sys.boot = none)
    ∧ (t.fw.recovery = false → t.sys.bootDone = e.rngOk ∧ t.sys.boot = (if e.rngOk then none else some e)) := by
  obtain ⟨u, f, hr⟩ := rstDeassert_eq h e
  refine ⟨_, rfl, ?_⟩
  rw [hr]
  simp only [State.keeping, if_true]
  refine ⟨trivial, trivial, trivial, trivial, trivial, fun ht => if_pos ht, fun hf => ?recovery, fun hf => ?up⟩
  case recovery => simp [hf]
  case up => simp [hf]

theorem rngHealthTest_startUp (ok : Bool) (h : s.sys.rstLow = false) : ∃ t, exec (.rngHealthTest ok) s = .next t
    ∧ (ok = false → t.tables.rngBad = true ∧ (t.hdr pgKEY).stat.getLsbD 4 = true ∧ t.sys.boot = s.sys.boot)
    ∧ (ok = true → s.sys.boot.isSome = true → t.sys.boot = none ∧ t.sys.bootDone = true)
    ∧ (ok = true → s.sys.boot = none → t = { s with tables := { s.tables with rngBad := false } }) := by
  refine ⟨_, rfl, fun ho => ?fails, fun ho hb => ?waited, fun ho hb => ?clear⟩ <;> subst ho
  case fails =>
    have hr : s.rngTest false = (({ s with tables := { s.tables with rngBad := true } } : State).setEvt pgKEY 4).logE 0x0304 3 none pgKEY 0 [] := by
      rw [State.rngTest, if_neg (by simp [h])]; rfl
    refine ⟨?_, ?_, ?_⟩
    · rw [keeping_tables_of (by simp [hr]), hr]; simp
    · rw [hr]; exact bitsKept_logE _ _ _ _ _ _ _ _ _ (setEvt_sets _ _ (by decide))
    · rw [keeping_sys_of (by simp [hr]), hr]; simp
  case waited =>
    obtain ⟨e, he⟩ := Option.isSome_iff_exists.mp hb
    have hr : s.rngTest true = s.bootRest e := by simp [State.rngTest, h, he]
    rw [hr]
    exact ⟨rfl, rfl⟩
  case clear =>
    have hr : s.rngTest true = { s with tables := { s.tables with rngBad := false } } := by simp [State.rngTest, h, hb]
    rw [hr]
    rfl

theorem memoryActive_startUp (hb : s.sys.bootDone = true) (hm : s.sys.memActive = false) (hr : s.fw.recovery = false) (hd : s.someDram = true) :
    ∃ t, exec .memoryActive s = .next t ∧ t.sys.memActive = true ∧ t.sys.dGiB = s.inGiB ∧ (t.hdr pgSYS).stat.getLsbD 0 = true
      ∧ Only [.sys, .fw, .hdrs, .mfn] s t := by
  have hx : ∃ f, s.memoryActive = ({ s with sys := { s.sys with memActive := true, dGiB := s.inGiB }, fw := f } : State).setEvt pgSYS 0 := by
    unfold State.memoryActive
    rw [if_neg (by simp [hb, hm, hr, hd])]
    dsimp only
    split
    · split
      · exact ⟨_, rfl⟩
      · exact ⟨_, rfl⟩
    · exact ⟨_, rfl⟩
  obtain ⟨f, hx⟩ := hx
  refine ⟨_, rfl, ?_⟩
  rw [hx]
  refine ⟨by simp [State.keeping], by simp [State.keeping], setEvt_sets _ _ (by decide), fun p hp => ?_⟩
  cases p <;> first | exact absurd (by decide) hp | simp [Part.Same, State.keeping]

/-- Settles O8: one lemma for each of the three commands. -/
theorem startUpProceeds : Obligations.StartUpProceeds :=
  ⟨fun e _ h => rstDeassert_startUp h e, fun ok _ h => rngHealthTest_startUp ok h, fun _ => memoryActive_startUp⟩

/-! ### Sync (R54, R58, R60, R65, R66, R75) -/

theorem field_role_clock (w : Word32) : field ((w &&& ~~~3#32) ||| 2#32) 1 0 = roleClock := by
  have h : ((w &&& ~~~3#32) ||| 2#32) &&& 3#32 = 2#32 := by
    rw [BitVec.and_or_distrib_right, BitVec.and_assoc]
    simp
  have hn : field ((w &&& ~~~3#32) ||| 2#32) 1 0 = (((w &&& ~~~3#32) ||| 2#32) &&& 3#32).toNat := by
    simp only [field, BitVec.toNat_and, pow_zero, Nat.div_one]
    exact (Nat.and_two_pow_sub_one_eq_mod _ 2).symm
  rw [hn, h]; rfl

theorem takeover_acts (hr : s.role = roleStandby) (hs : s.takeoverReels ≤ s.frame.silent) : ∃ t, exec .takeover s = .next t
    ∧ t.role = roleClock ∧ t.frame.epoch = some (((s.frame.epoch.getD 255) + 1) % 256) ∧ t.frame.num = s.frame.num
    ∧ t.frame.phase = s.frame.phase ∧ (t.hdr pgFRAME).stat.getLsbD 3 = true ∧ Only [.frame, .regs, .hdrs, .mfn] s t := by
  have ht : s.takeover = (({ s.setReg (ofsOf pgFRAME 0x48) ((s.reg (ofsOf pgFRAME 0x48) &&& ~~~3#32) ||| 2#32) with
      frame := { s.frame with epoch := some (((s.frame.epoch.getD 255) + 1) % 256), clockNode := s.ownNode } } : State)).setEvt pgFRAME 3 := by
    rw [State.takeover, if_neg (by simp [hr]; omega)]
    rfl
  refine ⟨_, rfl, ?role, ?_⟩
  case role =>
    rw [ht]
    simp only [State.role, keeping_regF, setEvt_regF]
    show field ((s.setReg (ofsOf pgFRAME 0x48) _).reg (ofsOf pgFRAME 0x48)) 1 0 = roleClock
    rw [reg_setReg_same, field_role_clock]
  rw [keeping_frame_of rfl (by simp [ht]) (by simp [ht])]
  refine ⟨by simp [ht], by simp [ht], by simp [ht], by rw [ht]; exact setEvt_sets _ _ (by decide), Only.keeping_any ?_ nofun⟩
  rw [ht]
  exact Only.trans ((only_setReg s _ _).mono (by decide)) (Only.trans ((only_with_frame _ _).mono (by decide)) ((only_setEvt _ _ _).mono (by decide)))

theorem only_syncLost (s : State) : Only [.frame, .hdrs, .mfn, .log, .ctrs] s s.syncLost :=
  Only.trans ((only_with_frame s _).mono (by decide)) (Only.trans ((only_setEvt _ _ _).mono (by decide)) ((only_logE _ _ _ _ _ _ _).mono (by decide)))

theorem syncLost_frame (s : State) : s.syncLost.frame = { s.frame with sync := .lost, slew := -s.frame.integ, inSyncReel := false } := by
  simp [State.syncLost]

theorem syncLost_sets (s : State) : (s.syncLost.hdr pgFRAME).stat.getLsbD 0 = true :=
  bitsKept_logE _ _ _ _ _ _ _ _ _ (setEvt_sets _ _ (by decide))

theorem syncCoastTimeout_loses (hc : s.frame.sync = .coast) (hl : s.lossReels ≤ s.frame.silent) : ∃ t, exec .syncCoastTimeout s = .next t
    ∧ t.frame.sync = .lost ∧ t.frame.slew = -s.frame.integ ∧ t.frame.integ = s.frame.integ ∧ (t.hdr pgFRAME).stat.getLsbD 0 = true
    ∧ Only [.frame, .hdrs, .mfn, .log, .ctrs] s t := by
  have ht : s.coastTimeout = s.syncLost := by simp [State.coastTimeout, hc, hl]
  refine ⟨_, rfl, ?_⟩
  rw [ht, keeping_frame_of rfl (by simp [syncLost_frame]) (by simp [syncLost_frame])]
  simp only [syncLost_frame, keeping_hdr]
  exact ⟨trivial, trivial, trivial, syncLost_sets s, (only_syncLost s).keeping_any nofun⟩

theorem framePllUnlock_loses (hs : s.frame.started = true) (hp : s.frame.pll = true) (hn : s.frame.sync ≠ .lost) :
    ∃ t, exec .framePllUnlock s = .next t ∧ t.frame.pll = false ∧ t.frame.sync = .lost ∧ t.frame.num = s.frame.num
      ∧ (t.hdr pgFRAME).stat.getLsbD 0 = true ∧ Only [.frame, .hdrs, .mfn, .log, .ctrs] s t := by
  have ht : s.pllUnlock = ({ s with frame := { s.frame with pll := false } } : State).syncLost := by
    rw [State.pllUnlock, if_neg (by simp [hs, hp])]
    exact if_neg hn
  refine ⟨_, rfl, ?_⟩
  rw [ht, keeping_frame_of rfl (by simp [syncLost_frame]) (by simp [syncLost_frame])]
  simp only [syncLost_frame, keeping_hdr]
  exact ⟨trivial, trivial, trivial, syncLost_sets _,
    (Only.trans ((only_with_frame s _).mono (by decide)) (only_syncLost _)).keeping_any nofun⟩

theorem framePllRelock_locks (hs : s.frame.started = true) : exec .framePllRelock s = .next { s with frame := { s.frame with pll := true } } := by
  show Host.Outcome.next _ = _
  rw [if_pos hs]
  exact congrArg _ (keeping_eq rfl rfl rfl rfl rfl rfl)

/-- An accepted reference, whatever the events that it sets: its record, its offset, and what becomes of the sync state. -/
theorem acceptRef_frame (m : MarkerRec) (n : Nat) :
    let join := (s.frame.sync = .free ∨ s.frame.sync = .acquire) ∧ s.frame.hostSeen = false ∧ s.frame.joined = false
    let t := s.acceptRef m n
    t.frame.srcAct = m.port ∧ t.frame.mark.isSome = true ∧ t.frame.ofs = (if join then 0 else m.ofs)
      ∧ t.frame.joined = (s.frame.joined || decide join) ∧ (s.frame.sync = .free → t.frame.sync = .acquire) := by
  unfold State.acceptRef
  dsimp only
  refine ⟨?_, ?_, ?_, ?_, fun hf => ?_⟩
  all_goals simp only [ite_frame, setEvt_frame, ite_self]
  · rfl
  · simp [hf]

theorem only_acceptRef (m : MarkerRec) (n : Nat) : Only [.frame, .hdrs, .mfn] s (s.acceptRef m n) := by
  unfold State.acceptRef
  have h1 : ∀ u : State, ∀ b, Only [.frame, .hdrs, .mfn] u (u.setEvt pgFRAME b) := fun u b => (only_setEvt u _ _).mono (by decide)
  have h0 : ∀ f, Only [.frame, .hdrs, .mfn] s { s with frame := f } := fun f => (only_with_frame s f).mono (by decide)
  dsimp only
  exact Only.ite (Only.trans (Only.ite (Only.trans (h0 _) (h1 _ _)) (h0 _)) (h1 _ _)) (Only.ite (Only.trans (h0 _) (h1 _ _)) (h0 _))

theorem frameInPulse_refers (ofs : Int) (width : Nat) (hs : s.frame.started = true) (hc : s.syncSrc = 1) (hr : s.role = roleFollower ∨ s.role = roleStandby) :
    ∃ t, exec (.frameInPulse ofs width) s = .next t ∧ t.frame.srcAct = 1 ∧ t.frame.mark.isSome = true
      ∧ (t.frame.ofs = -(ofs + (s.regF pgFRAME 0x58 11 0 : Int)) ∨ t.frame.ofs = 0 ∧ s.frame.joined = false ∧ t.frame.joined = true)
      ∧ (s.frame.sync = .free → t.frame.sync = .acquire) ∧ Only [.frame, .hdrs, .mfn] s t := by
  have hi : ∃ m n, m.port = 1 ∧ m.ofs = -(ofs + (s.regF pgFRAME 0x58 11 0 : Int)) ∧ s.frameIn ofs width = s.acceptRef m n := by
    have hr' : ¬ (s.syncSrc ≠ 1 ∨ s.role = roleStandalone ∨ s.role = roleClock) := by
      rcases hr with hr | hr <;> simp [hc, hr, roleFollower, roleStandby, roleStandalone, roleClock]
    rw [State.frameIn, if_neg hr']
    exact ⟨_, _, rfl, rfl, rfl⟩
  obtain ⟨m, n, hport, hofs, hm⟩ := hi
  obtain ⟨h1, h2, h3, h4, h5⟩ := acceptRef_frame (s := s) m n
  refine ⟨s.keeping { num := true } (s.acceptRef m n), ?_, h1.trans hport, h2, ?_, h5, (only_acceptRef m n).keeping_any fun _ => by decide⟩
  · show Host.Outcome.next _ = _
    rw [if_pos hs, hm]
  · show (s.acceptRef m n).frame.ofs = _ ∨ (s.acceptRef m n).frame.ofs = 0 ∧ _ ∧ (s.acceptRef m n).frame.joined = true
    rw [h3, h4]
    split
    · rename_i hj
      exact .inr ⟨rfl, hj.2.2, by simp [hj]⟩
    · exact .inl hofs

/-- Settles O10: one lemma for each of the five events. -/
theorem syncEventsMoveSyncState : Obligations.SyncEventsMoveSyncState :=
  ⟨fun _ => takeover_acts, fun _ => syncCoastTimeout_loses, fun _ => framePllUnlock_loses, fun _ => framePllRelock_locks,
    fun ofs width _ => frameInPulse_refers ofs width⟩

end Sys2Proof.Machine
end

section
/-!
PROOFS. Rows that write a register of the slate, of the sync page and of a tenant's floors.
-/

namespace Sys2Proof.Machine

open Sys2Proof

variable {s : State} {src : MgmtSrc}

/-! ### A row that is served at once -/

/-- The answer of a register write that is served at once, of any command that is such a write. -/
theorem exec_row_served {c : Instr} {ofs : Nat} {v : Word32} (h : s.Reaches src ofs) (ha : ofs % 4 = 0) (hp : (pageFamily (ofs / 4096)).isSome = true)
    (hc : exec c s = done s (s.rowWrite src ofs v)) :
    ∃ a, exec c s = .next (s.keeping {} (((s.pathTaken src).regWrite ofs v).mgmtReply a 0#32)) := by
  obtain ⟨a, h⟩ := rowWrite_served h ha hp v
  exact ⟨a, hc.trans (congrArg (done s) h)⟩

/-- An event bit of what the write left is set in the answer. -/
theorem served_bit {u : State} {p b : Nat} (a : MgmtAcc) (h : (u.hdr p).stat.getLsbD b = true) :
    ((s.keeping {} (u.mgmtReply a 0#32)).hdr p).stat.getLsbD b = true := bitsKept_mgmtReply u a 0#32 p b h

theorem served_tables {u : State} (a : MgmtAcc) (h : u.tables.debug = s.tables.debug) : (s.keeping {} (u.mgmtReply a 0#32)).tables = u.tables := by
  rw [keeping_tables_of (by simpa using h)]
  simp

theorem served_frame {u : State} (a : MgmtAcc) (hn : u.frame.num = s.frame.num) (hs : u.frame.started = s.frame.started) :
    (s.keeping {} (u.mgmtReply a 0#32)).frame = u.frame := by
  rw [keeping_frame_of rfl (by simpa using hn) (by simpa using hs)]
  simp

theorem only_writePlain (ofs : Nat) (v : Word32) (s : State) : Only [.regs, .hdrs, .mfn, .ctrs] s (s.writePlain ofs v) := by
  unfold State.writePlain
  have hs : ∀ w, Only [.regs, .hdrs, .mfn, .ctrs] s (s.setReg ofs w) := fun w => (only_setReg s _ w).mono (by decide)
  exact Only.ite (Only.refl _ _) (Only.ite (Only.trans (hs _) ((only_lockWrite _).mono (by decide))) (hs _))

/-! ### Requests for a swap and for a re-seat (R33, R59) -/

theorem regWrite_slateCtl (v : Word32) (u : State) : u.regWrite (ofsOf pgFRAME 0x64) v = u.slateCtl v := rfl
theorem regWrite_syncCtl (v : Word32) (u : State) : u.regWrite (ofsOf pgFRAME 0x48) v = u.syncCtl v := rfl

theorem slateCtl_swap (u : State) : u.slateCtl 2#32 = { u with slate := { u.slate with pend := true, err := false } } := rfl

theorem syncCtl_reseat (v : Word32) (u : State) : u.syncCtl (v ||| 0x200#32)
    = { u.writePlain (ofsOf pgFRAME 0x48) (v ||| 0x200#32) with frame := { u.frame with reseat := true } } := by
  have hf : (u.writePlain (ofsOf pgFRAME 0x48) (v ||| 0x200#32)).frame = u.frame := only_writePlain _ _ u .frame (by decide)
  simp only [State.syncCtl, hf]
  exact if_pos (by simp [bitOf])

theorem slateSwapRequest_pends (h : s.Reaches src (ofsOf pgFRAME 0x64)) : ∃ t, exec (.slateSwapRequest src) s = .next t
    ∧ t.slate.pend = true ∧ t.slate.err = false ∧ t.slate.act = s.slate.act ∧ t.slate.shadow = s.slate.shadow ∧ t.slate.bank = s.slate.bank
    ∧ Only regPath s t := by
  obtain ⟨a, ha⟩ := exec_row_served (c := .slateSwapRequest src) (v := 2#32) h (by decide) (by decide) rfl
  rw [regWrite_slateCtl, slateCtl_swap] at ha
  exact ⟨_, ha, by simp, by simp, by simp, by simp, by simp, (only_served (l := [.slate]) (only_with_slate _ _)).mono (by decide)⟩

theorem reseatRequest_records (h : s.Reaches src (ofsOf pgFRAME 0x48)) (v : Word32) : ∃ t, exec (.reseatRequest src v) s = .next t
    ∧ t.frame = { s.frame with reseat := true } ∧ Only (.frame :: .regs :: regPath) s t := by
  obtain ⟨a, ha⟩ := exec_row_served (c := .reseatRequest src v) (v := v ||| 0x200#32) h (by decide) (by decide) rfl
  rw [regWrite_syncCtl, syncCtl_reseat] at ha
  refine ⟨_, ha, served_frame a rfl rfl, (only_served (src := src) (l := [.frame, .regs, .hdrs, .mfn, .ctrs]) ?_).mono (by decide)⟩
  exact Only.trans ((only_writePlain _ _ _).mono (by decide)) ((only_with_frame _ _).mono (by decide))

/-- Settles O12: one lemma for each of the two requests. -/
theorem swapAndReseatAreRequested : Obligations.SwapAndReseatAreRequested :=
  ⟨fun _ _ => slateSwapRequest_pends, fun _ v _ h => reseatRequest_records h v⟩

/-! ### Floors (R110, R111, R164, R902) -/

/-- The register of a tenant's floor. -/
def floorOfs (folded : Bool) : Nat := if folded then 0x104 else 0x100

theorem regWrite_floor {t : Nat} (ht : t < 128) (folded : Bool) (v : Word32) (u : State) :
    u.regWrite (ofsOf (pgTEN t) (floorOfs folded)) v = u.floorWrite t (floorOfs folded) v.toNat := by
  rw [regWrite_ten ht (by cases folded <;> decide) (by cases folded <;> decide)]
  cases folded <;> rfl

section FloorWrite

variable {t v : Nat} {folded : Bool} (ht : t < 128) (u : State)

include ht

theorem floorWrite_sealed (hs : (u.ten t).sealed = true) : u.floorWrite t (floorOfs folded) v = u.lockWrite := by
  cases folded <;> simp [State.floorWrite, floorOfs, ht, hs]

theorem floorWrite_refused (hs : (u.ten t).sealed = false) (hl : (u.reg (ofsOf (pgTEN t) (floorOfs folded))).toNat < v % 2 ^ 23)
    (hp : u.poolMiB < u.writtenFloors true + u.writtenFloors false + v % 2 ^ 23 - (u.reg (ofsOf (pgTEN t) (floorOfs folded))).toNat) :
    u.floorWrite t (floorOfs folded) v = u.setEvt pgTIER 7 := by
  unfold State.floorWrite
  rw [if_neg (by cases folded <;> simp [floorOfs, ht]), if_neg (by simp [hs])]
  exact if_pos ⟨hl, hp⟩

theorem floorWrite_raised (hs : (u.ten t).sealed = false) (hl : (u.reg (ofsOf (pgTEN t) (floorOfs folded))).toNat < v % 2 ^ 23)
    (hp : u.writtenFloors true + u.writtenFloors false + v % 2 ^ 23 - (u.reg (ofsOf (pgTEN t) (floorOfs folded))).toNat ≤ u.poolMiB) :
    u.floorWrite t (floorOfs folded) v = u.setReg (ofsOf (pgTEN t) (floorOfs folded)) (BitVec.ofNat 32 (v % 2 ^ 23)) := by
  unfold State.floorWrite
  rw [if_neg (by cases folded <;> simp [floorOfs, ht]), if_neg (by simp [hs])]
  exact (if_neg fun h => Nat.not_lt.mpr hp h.2).trans (if_pos hl)

theorem floorWrite_lowered (hs : (u.ten t).sealed = false) (hl : v % 2 ^ 23 ≤ (u.reg (ofsOf (pgTEN t) (floorOfs folded))).toNat) :
    u.floorWrite t (floorOfs folded) v = (u.setReg (ofsOf (pgTEN t) (floorOfs folded)) (BitVec.ofNat 32 (v % 2 ^ 23))).updTen t
      fun x => if floorOfs folded = 0x100 then { x with ofEff := min x.ofEff (v % 2 ^ 23) } else { x with ffEff := min x.ffEff (v % 2 ^ 23) } := by
  unfold State.floorWrite
  rw [if_neg (by cases folded <;> simp [floorOfs, ht]), if_neg (by simp [hs])]
  exact (if_neg fun h => Nat.not_lt.mpr hl h.1).trans (if_neg (Nat.not_lt.mpr hl))

end FloorWrite

theorem only_floorWrite (t r v : Nat) (u : State) : Only [.regs, .tenants, .hdrs, .mfn, .ctrs] u (u.floorWrite t r v) := by
  unfold State.floorWrite
  have hr : ∀ w, Only [.regs, .tenants, .hdrs, .mfn, .ctrs] u (u.setReg (ofsOf (pgTEN t) r) w) := fun w => (only_setReg u _ w).mono (by decide)
  exact Only.ite (Only.refl _ _) (Only.ite ((only_lockWrite u).mono (by decide)) (Only.ite ((only_setEvt u _ _).mono (by decide))
    (Only.ite (hr _) (Only.trans (hr _) ((only_updTen _ _ _).mono (by decide))))))

theorem floorWrite_acts {t : Nat} (ht : t < 128) (folded : Bool) (v : Word32) (h : s.Reaches src (ofsOf (pgTEN t) (floorOfs folded))) :
    let ofs := ofsOf (pgTEN t) (floorOfs folded)
    let old := (s.reg ofs).toNat
    let new := v.toNat % 2 ^ 23
    ∃ u, exec (.floorWrite src t folded v) s = .next u
      ∧ ((s.ten t).sealed = true → u.regs = s.regs ∧ u.tenants = s.tenants ∧ (u.hdr pgSYS).stat.getLsbD 3 = true)
      ∧ ((s.ten t).sealed = false → old < new → s.poolMiB < s.writtenFloors true + s.writtenFloors false + new - old →
          u.regs = s.regs ∧ u.tenants = s.tenants ∧ (u.hdr pgTIER).stat.getLsbD 7 = true)
      ∧ ((s.ten t).sealed = false → old < new → s.writtenFloors true + s.writtenFloors false + new - old ≤ s.poolMiB →
          u.reg ofs = BitVec.ofNat 32 new ∧ u.tenants = s.tenants)
      ∧ ((s.ten t).sealed = false → new ≤ old →
          u.reg ofs = BitVec.ofNat 32 new
          ∧ (folded = false → (u.ten t).ofEff = min (s.ten t).ofEff new ∧ (u.ten t).ffEff = (s.ten t).ffEff)
          ∧ (folded = true → (u.ten t).ffEff = min (s.ten t).ffEff new ∧ (u.ten t).ofEff = (s.ten t).ofEff))
      ∧ Only (.regs :: .tenants :: regPath) s u := by
  intro ofs old new
  obtain ⟨a, ha⟩ := exec_row_served (c := .floorWrite src t folded v) (v := v) h (ofsOf_word (by cases folded <;> decide))
    (family_ten ht (by cases folded <;> decide)) (by show done s _ = _; rw [if_pos ht]; rfl)
  rw [regWrite_floor ht] at ha
  refine ⟨_, ha, fun hs => ?sealed, fun hs hl hp => ?refused, fun hs hl hp => ?raised, fun hs hl => ?lowered,
    (only_served (only_floorWrite _ _ _ _)).mono (by decide)⟩
  case sealed =>
    rw [floorWrite_sealed ht (s.pathTaken src) hs]
    exact ⟨by simp; rfl, by simp; rfl, served_bit a (lockWrite_sets _)⟩
  case refused =>
    rw [floorWrite_refused ht (s.pathTaken src) hs hl hp]
    exact ⟨by simp; rfl, by simp; rfl, served_bit a (setEvt_sets _ _ (by decide))⟩
  case raised =>
    rw [floorWrite_raised ht (s.pathTaken src) hs hl hp]
    exact ⟨by simp [ofs, new], by simp; rfl⟩
  case lowered =>
    rw [floorWrite_lowered ht (s.pathTaken src) hs hl]
    refine ⟨by simp [ofs, new], fun hf => ?_, fun hf => ?_⟩ <;> subst hf <;> simp [floorOfs, new]

theorem floorIncreaseEffect_acts {t : Nat} (ht : t < 128) (h : s.ofReg t + s.ffReg t ≤ (s.ten t).ofEff + (s.ten t).ffEff
      ∨ (s.ofReg t + s.ffReg t - ((s.ten t).ofEff + (s.ten t).ffEff)) * mib ≤ s.ovfFree) :
    ∃ u, exec (.floorIncreaseEffect t) s = .next u ∧ (u.ten t).ofEff = s.ofReg t ∧ (u.ten t).ffEff = s.ffReg t ∧ Only [.tenants] s u := by
  refine ⟨s.floorEffect t, ?_, ?_⟩
  all_goals rw [show s.floorEffect t = s.updTen t fun x => { x with ofEff := s.ofReg t, ffEff := s.ffReg t } from if_pos h]
  · show Host.Outcome.next _ = _
    rw [if_pos ht, show s.floorEffect t = s.updTen t fun x => { x with ofEff := s.ofReg t, ffEff := s.ffReg t } from if_pos h]
    exact congrArg _ (keeping_eq_of_only (only_updTen s _ _) (by decide))
  · exact ⟨by simp, by simp, only_updTen s _ _⟩

/-- Settles O13: a write splits on the seal, then on the size and cover of the increase. -/
theorem floorsAreWrittenAndTakeEffect : Obligations.FloorsAreWrittenAndTakeEffect :=
  ⟨fun _ _ folded v _ ht h => floorWrite_acts ht folded v h, fun _ _ ht h => floorIncreaseEffect_acts ht h⟩

end Sys2Proof.Machine
end

section
/-!
PROOFS. The identity and range tables, key slots and seals, class registers and buckets: what their rows request.
-/

namespace Sys2Proof.Machine

open Sys2Proof

variable {s : State} {src : MgmtSrc}

/-! ### Readings of an answer -/

theorem reg_of_regs {u t : State} (h : t.regs = u.regs) (ofs : Nat) : t.reg ofs = u.reg ofs := by unfold State.reg; rw [h]

/-! ### The identity table (R139, R140, R905) -/

theorem regWrite_ten128 {r : Nat} (h0 : 0x40 ≤ r) (hr : r < 4096) (v : Word32) (u : State) :
    u.regWrite (ofsOf pgTEN128 r) v = u.writeTen128 r v := by
  rw [regWrite_block (by decide) h0 hr]
  rfl

theorem regWrite_hidCmd (op : Word32) (u : State) : u.regWrite (ofsOf pgTEN128 0x4C) op = u.hidCmd (field op 1 0) :=
  regWrite_ten128 (by decide) (by decide) op u

theorem hidCmd_busy {u : State} (h : u.tables.hidBusy = true) (op : Nat) : u.hidCmd op = u := by
  unfold State.hidCmd State.hidRead State.hidCommand
  simp [h]

theorem hidCmd_read {u : State} (h : u.tables.hidBusy = false) : u.hidCmd 1 =
    { (u.setReg (ofsOf pgTEN128 0x44) (u.ident u.hidIdx).lo).setReg (ofsOf pgTEN128 0x48) (u.ident u.hidIdx).hi with
      tables := { u.tables with hidStat := 0 } } := by
  rw [State.hidCmd, if_pos rfl, State.hidRead, if_neg (by simp [h])]
  rfl

theorem hidCmd_write {u : State} (h : u.tables.hidBusy = false) (hc : u.sys.cfgReady = true) : u.hidCmd 2 =
    { u with tables := { u.tables with hidBusy := true, cmds := u.tables.cmds ++ [.hidWrite u.hidIdx (u.reg (ofsOf pgTEN128 0x44)) (u.reg (ofsOf pgTEN128 0x48))] } } := by
  rw [State.hidCmd, if_neg (by decide), if_pos rfl, State.hidCommand, if_neg (by simp [h, hc])]
  rfl

theorem hidCmd_invalidate {u : State} (h : u.tables.hidBusy = false) (hc : u.sys.cfgReady = true) : u.hidCmd 3 =
    { u with tables := { u.tables with hidBusy := true, cmds := u.tables.cmds ++ [.hidInval u.hidIdx] } } := by
  rw [State.hidCmd, if_neg (by decide), if_neg (by decide), if_pos rfl, State.hidCommand, if_neg (by simp [h, hc])]
  rfl

section Identity

variable (h : s.Reaches src (ofsOf pgTEN128 0x4C))
include h

theorem exec_hidRow {c : Instr} {op : Word32} (hc : exec c s = done s (s.rowWrite src (ofsOf pgTEN128 0x4C) op)) :
    ∃ a, exec c s = .next (s.keeping {} (((s.pathTaken src).hidCmd (field op 1 0)).mgmtReply a 0#32)) := by
  obtain ⟨a, ha⟩ := exec_row_served h (by decide) (by decide) hc
  exact ⟨a, regWrite_hidCmd op _ ▸ ha⟩

theorem hidRow_busy {c : Instr} {op : Word32} (hc : exec c s = done s (s.rowWrite src (ofsOf pgTEN128 0x4C) op)) (hb : s.tables.hidBusy = true) :
    ∃ t, exec c s = .next t ∧ t.tables = s.tables ∧ t.regs = s.regs := by
  obtain ⟨a, ha⟩ := exec_hidRow h hc
  rw [hidCmd_busy (u := s.pathTaken src) hb] at ha
  exact ⟨_, ha, served_tables a rfl, by simp; rfl⟩

theorem hidRead_fills (hb : s.tables.hidBusy = false) : ∃ t, exec (.hidRead src) s = .next t
    ∧ t.reg (ofsOf pgTEN128 0x44) = (s.ident s.hidIdx).lo ∧ t.reg (ofsOf pgTEN128 0x48) = (s.ident s.hidIdx).hi
    ∧ t.tables = { s.tables with hidStat := 0 } ∧ Only (.regs :: .tables :: regPath) s t := by
  obtain ⟨a, ha⟩ := exec_hidRow (c := .hidRead src) (op := 1#32) h rfl
  rw [show field 1#32 1 0 = 1 from rfl, hidCmd_read (u := s.pathTaken src) hb] at ha
  refine ⟨_, ha, ?lo, ?hi, served_tables a rfl, only_served (src := src) (l := [.regs, .tables]) ?only⟩
  case lo =>
    rw [served_reg]
    exact (reg_setReg_other _ _ (by decide)).trans (reg_setReg_same _ _ _)
  case hi =>
    rw [served_reg]
    exact reg_setReg_same _ _ _
  case only =>
    exact Only.trans ((only_setReg _ _ _).mono (by decide)) (Only.trans ((only_setReg _ _ _).mono (by decide)) ((only_with_tables _ _).mono (by decide)))

theorem hidWrite_waits (hb : s.tables.hidBusy = false) (hr : s.sys.cfgReady = true) : ∃ t, exec (.hidWrite src) s = .next t
    ∧ t.tables = { s.tables with hidBusy := true, cmds := s.tables.cmds ++ [.hidWrite s.hidIdx (s.reg (ofsOf pgTEN128 0x44)) (s.reg (ofsOf pgTEN128 0x48))] }
    ∧ Only (.tables :: regPath) s t := by
  obtain ⟨a, ha⟩ := exec_hidRow (c := .hidWrite src) (op := 2#32) h rfl
  rw [show field 2#32 1 0 = 2 from rfl, hidCmd_write (u := s.pathTaken src) hb hr] at ha
  exact ⟨_, ha, served_tables a rfl, only_served (src := src) (l := [.tables]) (only_with_tables _ _)⟩

theorem hidInvalidate_waits (hb : s.tables.hidBusy = false) (hr : s.sys.cfgReady = true) : ∃ t, exec (.hidInvalidate src) s = .next t
    ∧ t.tables = { s.tables with hidBusy := true, cmds := s.tables.cmds ++ [.hidInval s.hidIdx] } ∧ Only (.tables :: regPath) s t := by
  obtain ⟨a, ha⟩ := exec_hidRow (c := .hidInvalidate src) (op := 3#32) h rfl
  rw [show field 3#32 1 0 = 3 from rfl, hidCmd_invalidate (u := s.pathTaken src) hb hr] at ha
  exact ⟨_, ha, served_tables a rfl, only_served (src := src) (l := [.tables]) (only_with_tables _ _)⟩

end Identity

/-- Settles O14: the three commands, and `hidRow_busy` for each while one waits. -/
theorem identityCommandsWait : Obligations.IdentityCommandsWait := by
  intro src s h
  refine ⟨fun hb => ⟨hidRead_fills h hb, fun hr => ⟨hidWrite_waits h hb hr, hidInvalidate_waits h hb hr⟩⟩, fun hb c hc => ?_⟩
  simp only [List.mem_cons, List.not_mem_nil, or_false] at hc
  rcases hc with rfl | rfl | rfl
  · exact hidRow_busy (op := 1#32) h rfl hb
  · exact hidRow_busy (op := 2#32) h rfl hb
  · exact hidRow_busy (op := 3#32) h rfl hb

/-! ### The range table (R143, R145 to R147, R905) -/

theorem regWrite_rgnCmd (op : Word32) (u : State) : u.regWrite (ofsOf pgTEN128 0x74) op = u.rgnCmd (field op 2 0) :=
  regWrite_ten128 (by decide) (by decide) op u

/-- The eight words of an entry, put in the staged registers. -/
def State.stageWords (w : Nat → Word32) (u : State) : State := forEach (List.range 8) (fun k s => s.setReg (ofsOf pgTEN128 (0x54 + 4 * k)) (w k)) u

theorem only_stageWords (w : Nat → Word32) (u : State) : Only [.regs] u (u.stageWords w) := Only.forEach (fun s _ => only_setReg s _ _) _ _

theorem stageWords_reg (w : Nat → Word32) (u : State) {k : Nat} (hk : k < 8) : (u.stageWords w).reg (ofsOf pgTEN128 (0x54 + 4 * k)) = w k := by
  have key : (Function.Injective fun k => ofsOf pgTEN128 (0x54 + 4 * k)) := by intro a b h; simp [ofsOf] at h; exact h
  have hr : (u.stageWords w).regs = forEach (List.range 8) (fun k m => mapPut regReset (ofsOf pgTEN128 (0x54 + 4 * k)) (w k) m) u.regs := rfl
  rw [State.reg, hr, mapGet_forEach_put key, if_pos (List.mem_range.mpr hk)]

theorem rgnCmd_read {u : State} (h : u.tables.rgnBusy = false) : u.rgnCmd 1 =
    { u.stageWords (u.rgn u.rgnIdx).word with tables := { u.tables with rgnStat := if (u.rgn u.rgnIdx).fault then rgnFault else 0 } } := by
  rw [State.rgnCmd, if_pos rfl, State.rgnRead, if_neg (by simp [h])]
  rfl

/-- The command that a write of RGN_CMD puts at the end of those that wait. -/
def State.rgnWaiting (u : State) (op : Nat) : TableCmd :=
  if op = 2 then .rgnBind u.rgnIdx u.stagedRange else if op = 3 then .rgnUnbind u.rgnIdx else .rgnShare u.rgnIdx (Range.ofWords u.stagedRange).sharers

theorem rgnCmd_wait {u : State} (h : u.tables.rgnBusy = false) {op : Nat} (ho : op = 2 ∨ op = 3 ∨ op = 4) : u.rgnCmd op =
    { u with tables := { u.tables with rgnBusy := true, cmds := u.tables.cmds ++ [u.rgnWaiting op] } } := by
  rw [State.rgnCmd, if_neg (by omega), if_pos ho, State.rgnCommand, if_neg (by simp [h])]
  rfl

section Ranges

variable (h : s.Reaches src (ofsOf pgTEN128 0x74)) (hb : s.tables.rgnBusy = false)
include h hb

theorem rgnRead_fills : ∃ t, exec (.rgnRead src) s = .next t ∧ (∀ k < 8, t.reg (ofsOf pgTEN128 (0x54 + 4 * k)) = (s.rgn s.rgnIdx).word k)
    ∧ t.tables = { s.tables with rgnStat := if (s.rgn s.rgnIdx).fault then rgnFault else 0 } ∧ Only (.regs :: .tables :: regPath) s t := by
  obtain ⟨a, ha⟩ := exec_row_served (c := .rgnRead src) (v := 1#32) h (by decide) (by decide) rfl
  have hi : (s.pathTaken src).rgn (s.pathTaken src).rgnIdx = s.rgn s.rgnIdx := rfl
  rw [regWrite_rgnCmd, show field 1#32 2 0 = 1 from rfl, rgnCmd_read (u := s.pathTaken src) hb, hi] at ha
  generalize s.rgn s.rgnIdx = r at ha ⊢
  have hw : ∀ k < 8, ((s.pathTaken src).stageWords r.word).reg (ofsOf pgTEN128 (0x54 + 4 * k)) = r.word k := fun k hk => stageWords_reg _ _ hk
  have ho := only_stageWords r.word (s.pathTaken src)
  generalize (s.pathTaken src).stageWords r.word = w at ha hw ho
  refine ⟨_, ha, fun k hk => ?_, served_tables a rfl, only_served (src := src) (l := [.regs, .tables]) ?_⟩
  · rw [served_reg]
    exact hw k hk
  · exact Only.trans (ho.mono (by decide)) ((only_with_tables _ _).mono (by decide))

theorem rgnRow_waits {c : Instr} {v : Word32} {op : Nat} (hc : exec c s = done s (s.rowWrite src (ofsOf pgTEN128 0x74) v)) (hv : field v 2 0 = op)
    (ho : op = 2 ∨ op = 3 ∨ op = 4) : ∃ t, exec c s = .next t
      ∧ t.tables = { s.tables with rgnBusy := true, cmds := s.tables.cmds ++ [s.rgnWaiting op] } ∧ Only (.tables :: regPath) s t := by
  obtain ⟨a, ha⟩ := exec_row_served h (by decide) (by decide) hc
  rw [regWrite_rgnCmd, hv, rgnCmd_wait (u := s.pathTaken src) hb ho] at ha
  exact ⟨_, ha, served_tables a rfl, only_served (src := src) (l := [.tables]) (only_with_tables _ _)⟩

end Ranges

/-- Settles O15: a read stages the words; the other three differ only in the command that waits. -/
theorem rangeCommandsWait : Obligations.RangeCommandsWait := fun _ _ h hb =>
  ⟨rgnRead_fills h hb, rgnRow_waits (v := 2#32) h hb rfl rfl (.inl rfl), rgnRow_waits (v := 3#32) h hb rfl rfl (.inr (.inl rfl)),
    rgnRow_waits (v := 4#32) h hb rfl rfl (.inr (.inr rfl))⟩

/-! ### Storage faults of the tables (R145, R184 to R186) -/

theorem idEntryFault_waits {i : Nat} (hi : i < 1024) : ∃ t, exec (.idEntryFault i) s = .next t
    ∧ t = { s with tables := { s.tables with cmds := s.tables.cmds ++ [.hidFault i] } } := by
  refine ⟨_, ?_, rfl⟩
  show Host.Outcome.next _ = _
  rw [if_pos hi]
  exact congrArg _ (keeping_eq rfl rfl rfl rfl rfl rfl)

theorem rangeEntryFault_marks {i : Nat} (hi : i < 4096) (hv : (s.rgn i).valid = true) (hf : (s.rgn i).fault = false) :
    ∃ t, exec (.rangeEntryFault i) s = .next t
      ∧ t.rgn i = { s.rgn i with fault := true } ∧ (∀ j, j ≠ i → t.rgn j = s.rgn j) ∧ (t.hdr pgTEN128).stat.getLsbD 7 = true
      ∧ Only [.tables, .hdrs, .mfn, .log, .ctrs] s t := by
  have hr : (if i < 4096 then s.rangeFault i else s)
      = ((s.updRgn i fun r => { r with fault := true }).setEvt pgTEN128 7).logE 0x0302 3 (some (s.rgn i).owner) pgTEN128 0 [1, i] := by
    rw [if_pos hi, State.rangeFault, if_pos (by simp [hv, hf])]
  refine ⟨_, exec_done rfl hr, by simp, fun j hj => by simp [rgn_updRgn_other _ _ hj],
    bitsKept_logE _ _ _ _ _ _ _ _ _ (setEvt_sets _ _ (by decide)), Only.keeping_any ?_ nofun⟩
  exact Only.trans ((only_updRgn s _ _).mono (by decide)) (Only.trans ((only_setEvt _ _ _).mono (by decide)) ((only_logE _ _ _ _ _ _ _).mono (by decide)))

theorem keySlotFault_marks {k : Nat} (hk : k < 128) : ∃ t, exec (.keySlotFault k) s = .next t
    ∧ t.ten k = { s.ten k with keyFault := true } ∧ (∀ j, j ≠ k → t.ten j = s.ten j) ∧ (t.hdr pgKEY).stat.getLsbD 4 = true
    ∧ Only [.tenants, .hdrs, .mfn, .log, .ctrs] s t := by
  have hr : (if k < 128 then s.keyFault k else s) = ((s.updTen k fun x => { x with keyFault := true }).setEvt pgKEY 4).logE 0x0303 3 (some k) pgKEY 0 [k] :=
    if_pos hk
  refine ⟨_, exec_done rfl hr, by simp, fun j hj => by simp [ten_updTen_other _ _ hj],
    bitsKept_logE _ _ _ _ _ _ _ _ _ (setEvt_sets _ _ (by decide)), Only.keeping_any ?_ nofun⟩
  exact Only.trans ((only_updTen s _ _).mono (by decide)) (Only.trans ((only_setEvt _ _ _).mono (by decide)) ((only_logE _ _ _ _ _ _ _).mono (by decide)))

theorem unbindDone_empties {i : Nat} (hu : s.unbound i = true) : ∃ t, exec (.unbindDone i) s = .next t
    ∧ t.rgn i = {} ∧ (∀ j, j ≠ i → t.rgn j = s.rgn j) ∧ (t.hdr pgTEN128).stat.getLsbD 4 = true
    ∧ Only [.tables, .tier, .poison, .log, .hdrs, .mfn] s t := by
  refine ⟨_, exec_done rfl (if_pos hu), by simp, fun j hj => ?_, setEvt_sets _ _ (by decide), Only.keeping_any ?_ nofun⟩
  · simp only [keeping_rgn, setEvt_rgn, rgn_updRgn_other _ _ hj]
    rfl
  · refine Only.trans (fun p hp => ?_) ((only_setEvt _ _ _).mono (by decide))
    cases p <;> first | exact absurd (by decide) hp | rfl

/-- Settles O17: one lemma for each of the four events. -/
theorem tableFaultsAndUnbinds : Obligations.TableFaultsAndUnbinds :=
  ⟨fun _ _ => idEntryFault_waits, fun _ _ => rangeEntryFault_marks, fun _ _ => keySlotFault_marks, fun _ _ => unbindDone_empties⟩

/-! ### Keys and seals (R159, R163, R165, R187) -/

theorem regWrite_rotate (u : State) : u.regWrite (ofsOf pgKEY 0x44) 1#32 = u.rotateWrite :=
  regWrite_block (by decide) (by decide) (by decide) _ u

theorem rotate_waits (h : s.Reaches src (ofsOf pgKEY 0x44)) : ∃ t, exec (.rotate src) s = .next t
    ∧ (s.tables.rngBad = true → t.tenants = s.tenants ∧ t.tables = s.tables ∧ (t.hdr pgKEY).stat.getLsbD 1 = true)
    ∧ (s.tables.rngBad = false → t.ten (s.regF pgKEY 0x40 6 0) = { s.ten (s.regF pgKEY 0x40 6 0) with keyBusy := true }
        ∧ t.tables = { s.tables with cmds := s.tables.cmds ++ [.rotate (s.regF pgKEY 0x40 6 0)] })
    ∧ Only (.tenants :: .tables :: regPath) s t := by
  obtain ⟨a, ha⟩ := exec_row_served (c := .rotate src) (v := 1#32) h (by decide) (by decide) rfl
  rw [regWrite_rotate] at ha
  cases hb : s.tables.rngBad
  · have hr : (s.pathTaken src).rotateWrite = ((s.pathTaken src).updTen (s.regF pgKEY 0x40 6 0) fun x => { x with keyBusy := true }).queueCmd
        (.rotate (s.regF pgKEY 0x40 6 0)) := if_neg (by show ¬ s.tables.rngBad = true; simp [hb])
    rw [hr] at ha
    refine ⟨_, ha, nofun, fun _ => ⟨by simp, served_tables a rfl⟩, only_served (src := src) (l := [.tenants, .tables]) ?_⟩
    exact Only.trans ((only_updTen _ _ _).mono (by decide)) ((only_queueCmd _ _).mono (by decide))
  · have hr : (s.pathTaken src).rotateWrite = (s.pathTaken src).setEvt pgKEY 1 := if_pos hb
    rw [hr] at ha
    refine ⟨_, ha, fun _ => ⟨by simp; rfl, (served_tables a (by simp; rfl)).trans (by simp; rfl), served_bit a (setEvt_sets _ _ (by decide))⟩, nofun, ?_⟩
    exact (only_served (src := src) (l := [.hdrs, .mfn]) (only_setEvt _ _ _)).mono (by decide)

theorem regWrite_seal {k : Nat} (hk : k < 128) (v : Word32) (u : State) : u.regWrite (ofsOf (pgTEN k) 0x40) v = u.sealWrite k v :=
  regWrite_ten hk (by decide) (by decide) v u

/-- A write of a tenant's seal register that only updates the tenant. -/
theorem sealRow_acts {c : Instr} {k : Nat} {v : Word32} {f : Tenant → Tenant} (hk : k < 128) (h : s.Reaches src (ofsOf (pgTEN k) 0x40))
    (hc : exec c s = done s (s.rowWrite src (ofsOf (pgTEN k) 0x40) v))
    (hw : ∀ u : State, u.sys = s.sys → ∃ g, u.sealWrite k v = (u.updTen k g).updTen k f ∧ ∀ x, (g x).sealed = x.sealed) :
    ∃ (t : State) (g : Tenant → Tenant), exec c s = .next t ∧ t.ten k = f (g (s.ten k)) ∧ (g (s.ten k)).sealed = (s.ten k).sealed ∧ Only (.tenants :: regPath) s t := by
  obtain ⟨a, ha⟩ := exec_row_served h (ofsOf_word (by decide)) (family_ten hk (by decide)) hc
  obtain ⟨g, hg, hs⟩ := hw (s.pathTaken src) rfl
  rw [regWrite_seal hk, hg] at ha
  refine ⟨_, g, ha, by simp, hs _, only_served (src := src) (l := [.tenants]) ?_⟩
  exact Only.trans (only_updTen _ _ _) (only_updTen _ _ _)

theorem reqSeal_requests {k : Nat} (hk : k < 128) (h : s.Reaches src (ofsOf (pgTEN k) 0x40)) (hm : s.sys.memActive = true) :
    ∃ t, exec (.reqSeal src k) s = .next t
      ∧ (t.ten k).reqSeal = true ∧ (t.ten k).reqUnseal = false ∧ (t.ten k).sealed = (s.ten k).sealed ∧ Only (.tenants :: regPath) s t := by
  obtain ⟨t, g, ht, hten, hs, ho⟩ := sealRow_acts (c := .reqSeal src k) (v := 1#32) (f := fun x => { x with reqSeal := true, reqUnseal := false }) hk h
    (congrArg (done s) (if_pos hk)) fun u hu => ⟨_, (if_pos (hu ▸ hm) : (if u.sys.memActive = true then _ else _) = _), fun _ => rfl⟩
  exact ⟨t, ht, by rw [hten], by rw [hten], by rw [hten]; exact hs, ho⟩

theorem reqUnseal_requests {k : Nat} (hk : k < 128) (h : s.Reaches src (ofsOf (pgTEN k) 0x40)) :
    ∃ t, exec (.reqUnseal src k) s = .next t
      ∧ (t.ten k).reqUnseal = true ∧ (t.ten k).reqSeal = false ∧ (t.ten k).sealed = (s.ten k).sealed ∧ Only (.tenants :: regPath) s t := by
  obtain ⟨t, g, ht, hten, hs, ho⟩ := sealRow_acts (c := .reqUnseal src k) (v := 2#32) (f := fun x => { x with reqUnseal := true, reqSeal := false }) hk h
    (congrArg (done s) (if_pos hk)) fun u _ => ⟨_, rfl, fun _ => rfl⟩
  exact ⟨t, ht, by rw [hten], by rw [hten], by rw [hten]; exact hs, ho⟩

/-- Settles O18: a rotation splits on the generator; a request for a seal or its end is one update of the tenant. -/
theorem keysAndSealsAreRequested : Obligations.KeysAndSealsAreRequested :=
  ⟨fun _ _ => rotate_waits, fun _ _ _ hk h => ⟨reqSeal_requests hk h, reqUnseal_requests hk h⟩⟩

/-! ### Class registers and buckets (R356, R366, R373) -/

theorem regWrite_class {r : Nat} (hr : r ∈ [0x44, 0x48, 0x4C, 0x50]) (v : Word32) (u : State) : u.regWrite (ofsOf pgRGL r) v = u.classWrite r v := by
  simp only [List.mem_cons, List.not_mem_nil, or_false] at hr
  rcases hr with rfl | rfl | rfl | rfl <;> rfl

section ClassWrite

variable {u : State} {r : Nat} {v : Word32} {c : ClassS} (hi : u.clsIdx < 20) (hw : (u.clsNext u.clsIdx).write r v = some c)
include hi hw

theorem classWrite_of_sums (hs : u.classSumsOk u.clsIdx c = true) :
    u.classWrite r v = { u with rgl := { u.rgl with next := mapPut classReset u.clsIdx c u.rgl.next } } := by
  unfold State.classWrite
  simp only [hw, hs]
  exact if_neg (by omega)

theorem classWrite_of_not_sums (hs : u.classSumsOk u.clsIdx c = false) : u.classWrite r v = u.setEvt pgRGL 2 := by
  unfold State.classWrite
  simp only [hw, hs]
  exact if_neg (by omega)

end ClassWrite

theorem rglClassWrite_waits {r : Nat} {v : Word32} {c : ClassS} (hr : r ∈ [0x44, 0x48, 0x4C, 0x50]) (h : s.Reaches src (ofsOf pgRGL r))
    (hi : s.clsIdx < 20) (hw : (s.clsNext s.clsIdx).write r v = some c) : ∃ t, exec (.rglClassWrite src r v) s = .next t
      ∧ (s.classSumsOk s.clsIdx c = true → t.clsNext s.clsIdx = c)
      ∧ (s.classSumsOk s.clsIdx c = false → t.rgl = s.rgl ∧ (t.hdr pgRGL).stat.getLsbD 2 = true)
      ∧ t.rgl.cls = s.rgl.cls ∧ Only (.rgl :: regPath) s t := by
  have hr' := hr
  simp only [List.mem_cons, List.not_mem_nil, or_false] at hr'
  obtain ⟨a, ha⟩ := exec_row_served (c := .rglClassWrite src r v) (v := v) h (ofsOf_word (by omega)) (by rcases hr' with rfl | rfl | rfl | rfl <;> decide)
    (congrArg (done s) (if_pos (by omega)))
  rw [regWrite_class hr] at ha
  cases hs : s.classSumsOk s.clsIdx c
  · rw [classWrite_of_not_sums (u := s.pathTaken src) hi hw hs] at ha
    refine ⟨_, ha, nofun, fun _ => ⟨by simp; rfl, served_bit a (setEvt_sets _ _ (by decide))⟩, by simp; rfl,
      (only_served (src := src) (l := [.hdrs, .mfn]) (only_setEvt _ _ _)).mono (by decide)⟩
  · rw [classWrite_of_sums (u := s.pathTaken src) hi hw hs] at ha
    refine ⟨_, ha, fun _ => ?_, nofun, by simp; rfl, only_served (src := src) (l := [.rgl]) (only_with_rgl _ _)⟩
    simp only [State.clsNext, keeping_rgl, mgmtReply_rgl]
    exact mapGet_put_same _ _ _

theorem regWrite_bucket {k : Nat} (hk : k < 128) (hi : Bool) (v : Word32) (u : State) :
    u.regWrite (ofsOf (pgTEN k) (if hi then 0x124 else 0x120)) v = u.bucketWrite k (if hi then 0x124 else 0x120) v := by
  rw [regWrite_ten hk (by cases hi <;> decide) (by cases hi <;> decide)]
  cases hi <;> rfl

theorem bucketWrite_waits {k : Nat} (hi : Bool) (v : Word32) (hk : k < 128) (h : s.Reaches src (ofsOf (pgTEN k) (if hi then 0x124 else 0x120))) :
    let cur := (s.ten k).bktNext.getD ((s.ten k).bktRate, (s.ten k).bktOn, (s.ten k).bktDepth)
    ∃ t, exec (.bucketWrite src k hi v) s = .next t
      ∧ t.ten k = { s.ten k with bktNext := some (if hi then (cur.1, cur.2.1, field v 19 0) else (field v 19 0, bitOf v 31, cur.2.2)) }
      ∧ Only (.tenants :: regPath) s t := by
  intro cur
  obtain ⟨a, ha⟩ := exec_row_served (c := .bucketWrite src k hi v) (v := v) h (ofsOf_word (by cases hi <;> decide)) (family_ten hk (by cases hi <;> decide))
    (congrArg (done s) (if_pos hk))
  have hb : (s.pathTaken src).bucketWrite k (if hi then 0x124 else 0x120) v = (s.pathTaken src).updTen k fun x =>
      { x with bktNext := some (if hi then (cur.1, cur.2.1, field v 19 0) else (field v 19 0, bitOf v 31, cur.2.2)) } := by cases hi <;> rfl
  rw [regWrite_bucket hk, hb] at ha
  exact ⟨_, ha, by simp, only_served (src := src) (l := [.tenants]) (only_updTen _ _ _)⟩

/-- Settles O20: a class write splits on the sums; a bucket write is one update of the tenant. -/
theorem classAndBucketWritesWait : Obligations.ClassAndBucketWritesWait :=
  ⟨fun _ _ _ _ _ => rglClassWrite_waits, fun _ _ hi v _ hk h => bucketWrite_waits hi v hk h⟩

end Sys2Proof.Machine
end

section
/-!
PROOFS. Identities and their generations, calls and waits: the rows that end what another began.
-/

namespace Sys2Proof.Machine

open Sys2Proof

variable {s : State} {src : MgmtSrc}

/-! ### Bulk clears, generations and drains (R316, R327, R330, R332) -/

section Identity

variable {h e : Nat}

/-- An identity whose bulk clear has ended, but for what its release waits for. -/
def Identity.cleared (i : Identity) : Identity := { i with clearing := none, lost := if i.valid then i.lost else 0 }

theorem bulkClearDone_eq (hc : (s.ident h).clearing = some e) (hf : 2 ≤ framesSince e s.frame.num) :
    s.bulkClearDone h =
      if (s.ident h).releasing = false then s.updId h Identity.cleared
      else if s.genFull h then ((s.updId h Identity.cleared).updId h fun i => { i with genWait := true }).setEvt pgDIR 4
      else (s.updId h Identity.cleared).updId h fun i => { i with releasing := false } := by
  unfold State.bulkClearDone
  simp only [hc, Nat.not_lt.mpr hf, if_false, Bool.not_eq_true']
  rfl

theorem only_bulkClearDone (h : Nat) (s : State) : Only [.tables, .hdrs, .mfn] s (s.bulkClearDone h) := by
  have hu : ∀ (f : Identity → Identity) (u : State), Only [.tables, .hdrs, .mfn] u (u.updId h f) := fun f u => (only_updId u h f).mono (by decide)
  unfold State.bulkClearDone
  split
  · exact Only.refl _ _
  · exact Only.ite (Only.refl _ _) (Only.ite (hu _ _) (Only.ite ((hu _ _).trans ((hu _ _).trans ((only_setEvt _ _ _).mono (by decide)))) ((hu _ _).trans (hu _ _))))

/-- The debug unlock stands beside the identities. -/
@[simp] theorem updId_debug (h : Nat) (f : Identity → Identity) (u : State) : (u.updId h f).tables.debug = u.tables.debug := rfl

theorem bulkClearDone_debug (h : Nat) (s : State) : (s.bulkClearDone h).tables.debug = s.tables.debug := by
  unfold State.bulkClearDone
  split
  · rfl
  · dsimp only
    repeat' split
    all_goals simp

theorem keeping_rest {t : State} {l : List Part} (ho : Only l s t) (hd : t.tables.debug = s.tables.debug)
    (hl : ([.pending, .fw, .frame, .sys].all fun p => !l.contains p) = true) : s.keeping {} t = t := by
  have hm : ∀ p, p ∈ [Part.pending, .fw, .frame, .sys] → p ∉ l := fun p hp => by simpa using List.all_eq_true.mp hl p hp
  have hfr : t.frame = s.frame := ho .frame (hm _ (by decide))
  exact keeping_eq (ho .pending (hm _ (by decide))) (ho .fw (hm _ (by decide))) (hfr ▸ rfl) (hfr ▸ rfl) hd (ho .sys (hm _ (by decide)))

theorem bulkClearDone_acts (hc : (s.ident h).clearing = some e) (hf : 2 ≤ framesSince e s.frame.num) :
    ∃ t, exec (.bulkClearDone h) s = .next t
      ∧ (t.ident h).clearing = none
      ∧ ((s.ident h).releasing = true → s.genFull h = false → (t.ident h).releasing = false)
      ∧ ((s.ident h).releasing = true → s.genFull h = true → (t.ident h).releasing = true ∧ (t.ident h).genWait = true ∧ (t.hdr pgDIR).stat.getLsbD 4 = true)
      ∧ ((s.ident h).releasing = false → (s.ident h).valid = true → (t.ident h).lost = (s.ident h).lost)
      ∧ Only [.tables, .hdrs, .mfn] s t := by
  have ho := only_bulkClearDone h s
  refine ⟨s.bulkClearDone h, congrArg _ (keeping_rest ho (bulkClearDone_debug h s) (by decide)), ?_, fun hr hg => ?_, fun hr hg => ?_, fun hr hv => ?_, ho⟩ <;>
    rw [bulkClearDone_eq hc hf]
  · by_cases hr : (s.ident h).releasing = false
    · simp [hr, Identity.cleared]
    · by_cases hg : s.genFull h = true <;> simp [hr, hg, Identity.cleared]
  · simp [hr, hg]
  · rw [if_neg (by simp [hr]), if_pos hg]
    exact ⟨by simp [Identity.cleared, hr], by simp, setEvt_sets _ _ (by decide)⟩
  · simp [hr, hv, Identity.cleared]

theorem regWrite_lostCtl (u : State) : u.regWrite (ofsOf pgDIR 0x58) 1#32 = u.lostClear := rfl

theorem lostClear_deadline {u : State} (hl : (u.ident (u.regF pgDIR 0x54 9 0)).lost = 1) :
    u.lostClear = u.updId (u.regF pgDIR 0x54 9 0) fun i => { i with clearReq := true } := if_pos hl

theorem lostClear_other {u : State} (hl : (u.ident (u.regF pgDIR 0x54 9 0)).lost ≠ 1) : u.lostClear = u := if_neg hl

theorem only_lostClear (u : State) : Only [.tables] u u.lostClear := Only.ite (only_updId _ _ _) (Only.refl _ _)

theorem lostClear_acts (hr : s.Reaches src (ofsOf pgDIR 0x58)) : ∃ t, exec (.lostClear src) s = .next t
    ∧ ((s.ident (s.regF pgDIR 0x54 9 0)).lost = 1 → (t.ident (s.regF pgDIR 0x54 9 0)).clearReq = true
        ∧ (t.ident (s.regF pgDIR 0x54 9 0)).lost = 1)
    ∧ ((s.ident (s.regF pgDIR 0x54 9 0)).lost ≠ 1 → t.tables = s.tables) ∧ Only (.tables :: regPath) s t := by
  obtain ⟨a, ha⟩ := exec_row_served (c := .lostClear src) (v := 1#32) hr (by decide) (by decide) rfl
  rw [regWrite_lostCtl] at ha
  refine ⟨_, ha, fun hl => ?_, fun hl => ?_, (only_served (only_lostClear _)).mono (by decide)⟩
  · have hl : ((s.pathTaken src).ident ((s.pathTaken src).regF pgDIR 0x54 9 0)).lost = 1 := hl
    rw [lostClear_deadline hl, keeping_ident, mgmtReply_ident]
    exact ⟨congrArg Identity.clearReq (ident_updId_same (s.pathTaken src) _ _), (congrArg Identity.lost (ident_updId_same (s.pathTaken src) _ _)).trans hl⟩
  · rw [lostClear_other (u := s.pathTaken src) hl]
    exact served_tables a rfl

theorem genProceed_released (hw : (s.ident h).genWait = true) (hg : s.genFull h = false) (hr : (s.ident h).releasing = true) :
    s.genProceed h = s.updId h fun i => { i with genWait := false, releasing := false } := by
  simp [State.genProceed, hw, hg, hr]

theorem genProceed_advanced (hw : (s.ident h).genWait = true) (hg : s.genFull h = false) (hr : (s.ident h).releasing = false) :
    s.genProceed h = (s.genAdvance h).updId h fun i => { i with lost := 0 } := by
  simp [State.genProceed, hw, hg, hr]

theorem genAdvance_acts (hw : (s.ident h).genWait = true) (hg : s.genFull h = false) : ∃ t, exec (.genAdvance h) s = .next t
    ∧ (t.ident h).genWait = false
    ∧ ((s.ident h).releasing = true → (t.ident h).releasing = false ∧ (t.ident h).gen = (s.ident h).gen)
    ∧ ((s.ident h).releasing = false → (t.ident h).lost = 0 ∧ (t.ident h).gen = ((s.ident h).gen + 1) % 16)
    ∧ Only [.tables] s t := by
  cases hr : (s.ident h).releasing
  case true =>
    have ho : Only [.tables] s (s.updId h fun i => { i with genWait := false, releasing := false }) := only_updId _ _ _
    exact ⟨_, (exec_done rfl (genProceed_released hw hg hr)).trans (congrArg _ (keeping_rest ho rfl (by decide))), by simp, by simp, by simp, ho⟩
  case false =>
    have ho : Only [.tables] s ((s.genAdvance h).updId h fun i => { i with lost := 0 }) := (only_updId _ _ _).trans (only_updId _ _ _)
    exact ⟨_, (exec_done rfl (genProceed_advanced hw hg hr)).trans (congrArg _ (keeping_rest ho rfl (by decide))), by simp [State.genAdvance], by simp,
      by simp [State.genAdvance], ho⟩

theorem resDrained_eq {k : Nat} (hd : (s.ten k).dirDrain = true)
    (hn : (s.dir.ents.any fun e => e.2.valid && (e.2.set / 256) ∈ (s.ten k).dirBlocks && !(e.2.resv && e.2.owner == k)) = false) :
    s.resDrained k = (s.updTen k fun x => { x with dirDrain := false }).setEvt pgDIR 2 := by
  unfold State.resDrained
  exact if_pos (by rw [hd, hn]; rfl)

theorem resDrained_acts {k : Nat} (hk : k < 128) (hd : (s.ten k).dirDrain = true)
    (hn : (s.dir.ents.any fun e => e.2.valid && (e.2.set / 256) ∈ (s.ten k).dirBlocks && !(e.2.resv && e.2.owner == k)) = false) :
    ∃ t, exec (.resDrained k) s = .next t ∧ t.ten k = { s.ten k with dirDrain := false } ∧ (t.hdr pgDIR).stat.getLsbD 2 = true
      ∧ Only [.tenants, .hdrs, .mfn] s t := by
  have ho : Only [.tenants, .hdrs, .mfn] s ((s.updTen k fun x => { x with dirDrain := false }).setEvt pgDIR 2) :=
    ((only_updTen _ _ _).mono (by decide)).trans ((only_setEvt _ _ _).mono (by decide))
  refine ⟨_, (exec_done rfl ((if_pos hk).trans (resDrained_eq hd hn))).trans (congrArg _ (keeping_eq_of_only ho (by decide))), ?_, setEvt_sets _ _ (by decide), ho⟩
  rw [setEvt_ten, ten_updTen_same]

/-- Settles O19: one lemma for each of the four rows. -/
theorem identityReleasesEnd : Obligations.IdentityReleasesEnd :=
  ⟨fun _ _ _ => bulkClearDone_acts, fun _ _ => lostClear_acts, fun _ _ => genAdvance_acts, fun _ _ => resDrained_acts⟩

end Identity

/-! ### Calls and waits (R115, R119, R121, R122) -/

section Calls

variable {slot : Nat} {c : Nat × Call}

/-- The calls of a state with one slot's record replaced. -/
def State.putCall (slot : Nat) (c : Call) (s : State) : State :=
  { s with tier := { s.tier with calls := s.tier.calls.map fun x => if x.1 = slot then (slot, c) else x } }

theorem mem_putCall (hc : (s.tier.calls.find? fun x => x.1 == slot) = some c) (d : Call) : (slot, d) ∈ (s.putCall slot d).tier.calls := by
  have hs : c.1 = slot := by simpa using List.find?_some hc
  exact List.mem_map.mpr ⟨c, List.mem_of_find?_eq_some hc, if_pos hs⟩

theorem callJudge_early (hc : (s.tier.calls.find? fun x => x.1 == slot) = some c) (hj : c.2.judged = false) (hr : s.reached c.2.evalAt = false) :
    s.callJudge slot = s := by
  simp [State.callJudge, hc, hj, hr]

theorem callJudge_met (hc : (s.tier.calls.find? fun x => x.1 == slot) = some c) (hj : c.2.judged = false) (hr : s.reached c.2.evalAt = true)
    (hl : s.callRemain c.2 = 0) : s.callJudge slot = (s.putCall slot { c.2 with st := .met, judged := true }).fnCause c.2.fn 8 := by
  simp [State.callJudge, hc, hj, hr, hl, State.putCall]

theorem callJudge_missed (hc : (s.tier.calls.find? fun x => x.1 == slot) = some c) (hj : c.2.judged = false) (hr : s.reached c.2.evalAt = true)
    (hl : s.callRemain c.2 ≠ 0) : s.callJudge slot =
      (((s.putCall slot { c.2 with st := .missed, judged := true }).setEvt pgTIER 0).fnCause c.2.fn 9).logE 0x0201 0 (some c.2.tenant) pgTIER 0
        (c.2.callId :: x2 (s.callRemain c.2)) := by
  simp [State.callJudge, hc, hj, hr, hl, State.putCall]

theorem callDeadline_acts (hc : (s.tier.calls.find? fun x => x.1 == slot) = some c) (hj : c.2.judged = false) :
    ∃ t, exec (.callDeadline slot) s = .next t
      ∧ (s.reached c.2.evalAt = false → t = s)
      ∧ (s.reached c.2.evalAt = true → s.callRemain c.2 = 0 →
          (slot, { c.2 with st := .met, judged := true }) ∈ t.tier.calls ∧ Only [.tier, .fns] s t)
      ∧ (s.reached c.2.evalAt = true → s.callRemain c.2 ≠ 0 →
          (slot, { c.2 with st := .missed, judged := true }) ∈ t.tier.calls ∧ (t.hdr pgTIER).stat.getLsbD 0 = true
          ∧ Only [.tier, .fns, .hdrs, .mfn, .log, .ctrs] s t) := by
  have hp : ∀ d, Only [.tier] s (s.putCall slot d) := fun d => only_with_tier s _
  refine ⟨_, rfl, fun hr => ?early, fun hr hl => ?met, fun hr hl => ?missed⟩
  case early => exact (congrArg _ (callJudge_early hc hj hr)).trans (keeping_self s)
  case met =>
    rw [callJudge_met hc hj hr hl]
    exact ⟨mem_putCall hc _, Only.keeping_any (((hp _).mono (by decide)).trans ((only_updFn _ _ _).mono (by decide))) nofun⟩
  case missed =>
    rw [callJudge_missed hc hj hr hl]
    refine ⟨?_, bitsKept_logE _ _ _ _ _ _ _ _ _ (setEvt_sets _ _ (by decide)), Only.keeping_any ?_ nofun⟩
    · rw [keeping_tier, logE_tier, fnCause_tier, setEvt_tier]
      exact mem_putCall hc _
    · exact ((hp _).mono (by decide)).trans (((only_setEvt _ _ _).mono (by decide)).trans
        (((only_updFn _ _ _).mono (by decide)).trans ((only_logE _ _ _ _ _ _ _).mono (by decide))))

theorem callRelease_frees (hc : (s.tier.calls.find? fun x => x.1 == slot) = some c) (hj : c.2.judged = true) (he : s.reached c.2.endAt = true) :
    ∃ t, exec (.callRelease slot) s = .next t ∧ t.tier = { s.tier with calls := s.tier.calls.filter fun x => x.1 != slot } ∧ Only [.tier] s t := by
  have hr : s.callRelease slot = { s with tier := { s.tier with calls := s.tier.calls.filter fun x => x.1 != slot } } := by
    simp [State.callRelease, hc, hj, he]
  exact ⟨_, exec_done rfl hr, rfl, Only.keeping_any (only_with_tier s _) nofun⟩

end Calls

/-- Where a tenant's wait for folded room, or for an open frame, is kept. -/
def waitIx (k : Nat) (folded : Bool) : Nat := k * 2 + (if folded then 1 else 0)

theorem waitExpired_eq {k : Nat} {folded : Bool} (hn : max 1 (s.regF pgTIER 0x5C 31 16) ≤ mapGet (fun _ => 0) s.tier.waits (waitIx k folded))
    (he : waitIx k folded ∉ s.tier.expired) : s.waitExpired k folded =
      (((({ s with tier := { s.tier with expired := s.tier.expired ++ [waitIx k folded] } } : State).tierCount 7).setEvt pgTIER 3).tenCause k 17).logE
        0x0202 0 (some k) pgTIER 0 [mapGet (fun _ => 0) s.tier.waits (waitIx k folded)] :=
  if_neg (not_or.mpr ⟨Nat.not_lt.mpr hn, he⟩)

theorem waitExpired_acts {k : Nat} (folded : Bool) (hk : k < 128)
    (hn : max 1 (s.regF pgTIER 0x5C 31 16) ≤ mapGet (fun _ => 0) s.tier.waits (waitIx k folded)) (he : waitIx k folded ∉ s.tier.expired) :
    ∃ t, exec (.waitExpired k folded) s = .next t ∧ t.tier = { s.tier with expired := s.tier.expired ++ [waitIx k folded] }
      ∧ (t.hdr pgTIER).stat.getLsbD 3 = true ∧ Only [.tier, .ctrs, .hdrs, .mfn, .fns, .log] s t := by
  refine ⟨_, exec_done rfl ((if_pos hk).trans (waitExpired_eq hn he)), ?_, ?_, Only.keeping_any ?_ nofun⟩
  · simp
  · refine bitsKept_logE _ _ _ _ _ _ _ _ _ ?_
    rw [tenCause_hdr]
    exact setEvt_sets _ _ (by decide)
  · exact ((only_with_tier s _).mono (by decide)).trans (((only_tierCount _ _).mono (by decide)).trans
      (((only_setEvt _ _ _).mono (by decide)).trans (((only_tenCause _ _ _).mono (by decide)).trans ((only_logE _ _ _ _ _ _ _).mono (by decide)))))

/-- Settles O21: the judgement splits on the edge and on what is left to promote; a release and a wait are one equation each. -/
theorem callsAndWaitsEnd : Obligations.CallsAndWaitsEnd :=
  ⟨fun _ _ _ => callDeadline_acts, fun _ _ _ => callRelease_frees, fun _ folded _ => waitExpired_acts folded⟩

end Sys2Proof.Machine
end

section
/-!
PROOFS. Host links: what training, degrading and falling leave of a port, and the causes that freeze one.
-/

namespace Sys2Proof.Machine

open Sys2Proof

variable {s : State} {src : MgmtSrc} {p : Nat}

/-- The parts a hold cause writes, and with them a link that falls. -/
abbrev holdParts : List Part := [.ctrs, .hports, .log, .hdrs, .mfn, .mgmt]

/-! ### A port's link records -/

theorem only_updLink (p l : Nat) (f : HLink → HLink) (s : State) : Only [.hports] s (s.updLink p l f) := only_updPort _ _ _

theorem hport_updLink (p l : Nat) (f : HLink → HLink) (s : State) :
    (s.updLink p l f).hport p = if l = 0 then { s.hport p with link0 := f (s.hport p).link0 } else { s.hport p with link1 := f (s.hport p).link1 } :=
  hport_updPort_same _ _ _

theorem linkOf_updLink (p l : Nat) (f : HLink → HLink) (s : State) : ((s.updLink p l f).hport p).linkOf l = f (((s.hport p).linkOf l)) := by
  rw [hport_updLink]
  by_cases h : l = 0 <;> simp [HPort.linkOf, h]

@[simp] theorem hold_updLink (p l : Nat) (f : HLink → HLink) (s : State) : ((s.updLink p l f).hport p).hold = (s.hport p).hold := by
  rw [hport_updLink]
  split <;> rfl

/-! ### What a hold cause leaves -/

theorem holdCause_links (p c w l : Nat) (s : State) : ((s.holdCause p c w).hport p).linkOf l = (s.hport p).linkOf l := by
  rw [holdCause_hport]
  dsimp only
  split <;> rfl

theorem holdCause_freezes {c w : Nat} (h : (s.hport p).hold = .run ∨ (s.hport p).hold = .releasing) :
    ((s.holdCause p c w).hport p).hold = .freeze ∧ ((s.holdCause p c w).hport p).cause = c := by
  rw [holdCause_hport]
  dsimp only
  rw [if_pos h]
  exact ⟨rfl, rfl⟩

/-! ### Training (R190 to R196) -/

/-- Whether a training ends in CXL. -/
def State.trainsCxl (s : State) (p rate width : Nat) (cxl f256 : Bool) : Bool :=
  cxl && decide (2 ≤ rate) && decide (2 ≤ width) && (s.flitFor p rate f256 != 0)

/-- The record of a link that has trained. -/
def State.trained (s : State) (p rate width : Nat) (cxl f256 : Bool) : HLink :=
  let ok := s.trainsCxl p rate width cxl f256
  { up := true, proto := if ok then 2 else 1, flit := if ok then s.flitFor p rate f256 else 0, rate := rate, width := width }

/-- A port whose first link has trained. -/
def HPort.linked (h : HPort) (k : HLink) (viral : Bool) (ndr drs : Nat) : HPort :=
  { h with link0 := k, lstate := 0, retrain := false, l0p := 0, idle := 0, s2mNdr := ndr, s2mDrs := drs, quiesced := false, viralHost := viral }

section Training

variable {rate width ndr drs : Nat} {cxl f256 viral : Bool}

theorem linkUp_eq (hp : (s.hport p).perst = false) (hf : s.linkFits p rate width = true) :
    let s1 := (s.updLink p 0 fun _ => s.trained p rate width cxl f256).updPort p
      fun h => { h with lstate := 0, retrain := false, l0p := 0, idle := 0, s2mNdr := ndr, s2mDrs := drs, quiesced := false, viralHost := viral }
    let s2 := (s1.setEvt (pgHPORT p) 3).emit (.linkAct p 0 0)
    s.linkUp p 0 rate width cxl f256 viral ndr drs = if s.trainsCxl p rate width cxl f256 then s2 else s2.setEvt (pgHPORT p) 12 :=
  if_neg (by simp [hp, hf])

theorem linkUp_hport (hp : (s.hport p).perst = false) (hf : s.linkFits p rate width = true) :
    (s.linkUp p 0 rate width cxl f256 viral ndr drs).hport p = (s.hport p).linked (s.trained p rate width cxl f256) viral ndr drs := by
  rw [linkUp_eq hp hf]
  simp [hport_updLink, HPort.linked]

theorem linkUp_sets (hp : (s.hport p).perst = false) (hf : s.linkFits p rate width = true) :
    ((s.linkUp p 0 rate width cxl f256 viral ndr drs).hdr (pgHPORT p)).stat.getLsbD 3 = true := by
  rw [linkUp_eq hp hf]
  exact bitsKept_ite (BitsKept.refl _) (bitsKept_setEvt _ _ _) (pgHPORT p) 3 (setEvt_sets _ _ (by decide))

theorem only_linkUp (p l rate width : Nat) (cxl f256 viral : Bool) (ndr drs : Nat) (s : State) :
    Only [.hports, .hdrs, .mfn, .out] s (s.linkUp p l rate width cxl f256 viral ndr drs) := by
  have he : ∀ (u : State) (b : Nat), Only [.hports, .hdrs, .mfn, .out] u (u.setEvt (pgHPORT p) b) := fun u b => (only_setEvt u _ _).mono (by decide)
  have h2 := (((only_updLink p l (fun _ => s.trained p rate width cxl f256) s).trans (only_updPort _ p
      fun h => { h with lstate := 0, retrain := false, l0p := 0, idle := 0, s2mNdr := ndr, s2mDrs := drs, quiesced := false, viralHost := viral })).mono
    (l' := [.hports, .hdrs, .mfn, .out]) (by decide)).trans ((he _ 3).trans ((only_emit _ (.linkAct p 0 l)).mono (by decide)))
  exact Only.ite (Only.refl _ _) (Only.ite h2 (h2.trans (he _ _)))

theorem linkUp_trains (hp8 : p < 8) (hp : (s.hport p).perst = false) (hf : s.linkFits p rate width = true) :
    ∃ t, exec (.linkUp p 0 rate width cxl f256 viral ndr drs) s = .next t
      ∧ (t.hport p).link0 = s.trained p rate width cxl f256
      ∧ (t.hport p).s2mNdr = ndr ∧ (t.hport p).s2mDrs = drs ∧ (t.hport p).hold = (s.hport p).hold
      ∧ (t.hdr (pgHPORT p)).stat.getLsbD 3 = true ∧ Only [.hports, .hdrs, .mfn, .out] s t := by
  refine ⟨_, exec_done rfl (if_pos ⟨hp8, by decide⟩), ?_, ?_, ?_, ?_, linkUp_sets hp hf, Only.keeping_any (only_linkUp _ _ _ _ _ _ _ _ _ _) nofun⟩
  all_goals rw [keeping_hport, linkUp_hport hp hf]; rfl

end Training

/-! ### Falling and degrading (R209, R224, R236) -/

section Falling

variable {l : Nat}

/-- A port whose link has left L0, before it counts as a hold cause. -/
def State.linkFallen (p l : Nat) (s : State) : State :=
  ((s.updLink p l fun _ => {}).updPort p fun h => { h with lstate := 6 }).setEvt (pgHPORT p) 4

theorem linkDown_eq (hu : ((s.hport p).linkOf l).up = true) :
    s.linkDown p l = if (s.unit .hport p).st ≠ .inn then s.linkFallen p l else (s.linkFallen p l).holdCause p 1 0 :=
  if_neg (by simp [hu])

theorem linkFallen_link (p l : Nat) (s : State) : ((s.linkFallen p l).hport p).linkOf l = {} := by
  rw [State.linkFallen, setEvt_hport, hport_updPort_same]
  exact linkOf_updLink p l _ s

@[simp] theorem linkFallen_hold (p l : Nat) (s : State) : ((s.linkFallen p l).hport p).hold = (s.hport p).hold := by
  rw [State.linkFallen, setEvt_hport, hport_updPort_same]
  exact hold_updLink p l _ s

theorem linkFallen_sets (p l : Nat) (s : State) : ((s.linkFallen p l).hdr (pgHPORT p)).stat.getLsbD 4 = true := setEvt_sets _ _ (by decide)

theorem only_linkFallen (p l : Nat) (s : State) : Only [.hports, .hdrs, .mfn] s (s.linkFallen p l) :=
  (((only_updLink _ _ _ _).trans (only_updPort _ _ _)).mono (by decide)).trans ((only_setEvt _ _ _).mono (by decide))

theorem linkDown_acts (hp : p < 8) (hl : l < 2) (hu : ((s.hport p).linkOf l).up = true) : ∃ t, exec (.linkDown p l) s = .next t
    ∧ (t.hport p).linkOf l = {} ∧ (t.hdr (pgHPORT p)).stat.getLsbD 4 = true
    ∧ ((s.unit .hport p).st = .inn → (s.hport p).hold = .run ∨ (s.hport p).hold = .releasing → (t.hport p).hold = .freeze ∧ (t.hport p).cause = 1)
    ∧ ((s.unit .hport p).st ≠ .inn → (t.hport p).hold = (s.hport p).hold)
    ∧ Only holdParts s t := by
  have ho : Only holdParts s (s.linkFallen p l) := (only_linkFallen p l s).mono (by decide)
  refine ⟨_, exec_done rfl ((if_pos ⟨hp, hl⟩).trans (linkDown_eq hu)), ?_⟩
  by_cases hi : (s.unit .hport p).st = .inn
  · rw [if_neg (not_not.mpr hi)]
    exact ⟨(holdCause_links _ _ _ _ _).trans (linkFallen_link p l s), bitsKept_holdCause _ _ _ _ _ _ (linkFallen_sets p l s),
      fun _ hh => holdCause_freezes (by simpa using hh), fun h => absurd hi h, Only.keeping_any (ho.trans (only_holdCause _ _ _ _)) nofun⟩
  · rw [if_pos hi]
    exact ⟨linkFallen_link p l s, linkFallen_sets p l s, fun h => absurd h hi, fun _ => linkFallen_hold p l s, Only.keeping_any ho nofun⟩

theorem linkDegraded_acts {rate width : Nat} (hp : p < 8) (hl : l < 2) (hu : ((s.hport p).linkOf l).up = true) :
    ∃ t, exec (.linkDegraded p l rate width) s = .next t
      ∧ (t.hport p).linkOf l = { (s.hport p).linkOf l with rate := rate, width := width } ∧ (t.hdr (pgHPORT p)).stat.getLsbD 5 = true
      ∧ Only [.hports, .hdrs, .mfn] s t := by
  refine ⟨_, exec_done rfl ((if_pos ⟨hp, hl⟩).trans (if_pos hu)), ?_, setEvt_sets _ _ (by decide), Only.keeping_any ?_ nofun⟩
  · rw [keeping_hport, setEvt_hport, linkOf_updLink]
  · exact ((only_updLink _ _ _ _).mono (by decide)).trans ((only_setEvt _ _ _).mono (by decide))

theorem flitDown_acts {rate width : Nat} (hp : p < 8) (hl : l < 2) (hu : ((s.hport p).linkOf l).up = true) :
    ∃ t, exec (.flitDown p l rate width) s = .next t
      ∧ (t.hport p).linkOf l = { (s.hport p).linkOf l with flit := 1, rate := rate, width := width }
      ∧ (s.dbOn p = true → (s.hport p).hold = .run ∨ (s.hport p).hold = .releasing → (t.hport p).hold = .freeze ∧ (t.hport p).cause = 5)
      ∧ (s.dbOn p = false → (t.hport p).hold = (s.hport p).hold)
      ∧ Only holdParts s t := by
  have ho : Only holdParts s (s.updLink p l fun k => { k with flit := 1, rate := rate, width := width }) := (only_updLink _ _ _ _).mono (by decide)
  refine ⟨_, exec_done rfl ((if_pos ⟨hp, hl⟩).trans (if_neg (by simp [hu]))), ?_⟩
  dsimp only
  by_cases hd : s.dbOn p = true
  · rw [if_pos hd]
    exact ⟨(holdCause_links _ _ _ _ _).trans (linkOf_updLink p l _ s), fun _ hh => holdCause_freezes (by simpa using hh), fun h => by simp [hd] at h,
      Only.keeping_any (ho.trans (only_holdCause _ _ _ _)) nofun⟩
  · rw [if_neg hd]
    refine ⟨?_, fun h => absurd h hd, fun _ => ?_, Only.keeping_any ho nofun⟩
    · rw [keeping_hport, linkOf_updLink]
    · rw [keeping_hport, hold_updLink]

end Falling

/-- Settles O22: a training, a fall and a degradation each; a fall splits on whether the port is in service. -/
theorem linksTrainAndFall : Obligations.LinksTrainAndFall :=
  ⟨fun _ _ _ _ _ _ _ _ _ => linkUp_trains, fun _ _ _ => linkDown_acts, fun _ _ _ _ _ hp hl hu => ⟨linkDegraded_acts hp hl hu, flitDown_acts hp hl hu⟩⟩

/-! ### Hold causes (R219, R221, R224, R230, R825) -/

/-- The port is frozen with a cause, and its event bit 0 is set. -/
def State.FrozenAs (p c : Nat) (t : State) : Prop := (t.hport p).hold = .freeze ∧ (t.hport p).cause = c ∧ (t.hdr (pgHPORT p)).stat.getLsbD 0 = true

theorem holdCause_frozenAs {c w : Nat} (h : (s.hport p).hold = .run ∨ (s.hport p).hold = .releasing) : (s.holdCause p c w).FrozenAs p c :=
  ⟨(holdCause_freezes h).1, (holdCause_freezes h).2, holdCause_sets s h⟩

section Causes

variable (hp : p < 8)
include hp

theorem wedge_freezes (hr : (s.hport p).hold = .run) (hw : s.regF pgSYS 0x34C 15 0 ≤ (s.hport p).wedge) (h0 : (s.hport p).wedge ≠ 0) :
    ∃ t, exec (.wedge p) s = .next t ∧ t.FrozenAs p 6 ∧ t.sys.full.getLsbD 0 = true ∧ Only (.sys :: holdParts) s t := by
  refine ⟨_, exec_done rfl ((if_pos hp).trans (if_pos ⟨hw, h0, hr⟩)), holdCause_frozenAs (Or.inl hr), ?_, ?_⟩
  · have h : ∀ u : State, (u.holdCause p 6 1).sys = u.sys := fun u => only_holdCause u p 6 1 .sys (by decide)
    show (BitVec.getLsbD (State.sys _).full 0) = true
    simp only [State.keeping, h]
    simp
  · exact Only.keeping_any (((only_with_sys s _).mono (by decide)).trans ((only_holdCause _ _ _ _).mono (by decide))) nofun

variable (hh : (s.hport p).hold = .run ∨ (s.hport p).hold = .releasing)
include hh

theorem uncorr_freezes : ∃ t, exec (.uncorr p) s = .next t ∧ t.FrozenAs p 2 ∧ Only holdParts s t :=
  ⟨_, exec_done rfl (if_pos hp), holdCause_frozenAs hh,
    Only.keeping_any (((only_bump s _ _ _).mono (by decide)).trans (only_holdCause _ _ _ _)) nofun⟩

theorem viralRx_freezes : ∃ t, exec (.viralRx p) s = .next t ∧ t.FrozenAs p 4 ∧ (t.hport p).viralRx = true
    ∧ (t.hdr (pgHPORT p)).stat.getLsbD 7 = true ∧ Only holdParts s t := by
  have ho : Only holdParts s ((s.updPort p fun h => { h with viralRx := true }).setEvt (pgHPORT p) 7) :=
    ((only_updPort s _ _).mono (by decide)).trans ((only_setEvt _ _ _).mono (by decide))
  refine ⟨_, exec_done rfl (if_pos hp), holdCause_frozenAs (by simpa using hh), ?_, bitsKept_holdCause _ _ _ _ _ _ (setEvt_sets _ _ (by decide)),
    Only.keeping_any (ho.trans (only_holdCause _ _ _ _)) nofun⟩
  rw [keeping_hport, State.viralRx, holdCause_hport]
  dsimp only
  split <;> simp

theorem ideFailure_freezes (hi : (s.hport p).ideIo = true ∨ (s.hport p).ideMem = true ∨ (s.hport p).ideSel ≠ 0) :
    ∃ t, exec (.ideFailure p) s = .next t ∧ t.FrozenAs p 3 ∧ (t.hport p).ideFail = true ∧ (t.hdr (pgHPORT p)).stat.getLsbD 6 = true
      ∧ Only holdParts s t := by
  have ho : Only holdParts s (((s.updPort p fun h => { h with ideFail := true }).setEvt (pgHPORT p) 6).bump (ofsOf (pgHPORT p) 0x6C) 3 1) :=
    ((only_updPort s _ _).mono (by decide)).trans (((only_setEvt _ _ _).mono (by decide)).trans ((only_bump _ _ _ _).mono (by decide)))
  refine ⟨_, exec_done rfl ((if_pos hp).trans (if_pos (by simpa [or_assoc] using hi))), holdCause_frozenAs (by simpa using hh), ?_,
    bitsKept_holdCause _ _ _ _ _ _ (setEvt_sets _ _ (by decide)), Only.keeping_any (ho.trans (only_holdCause _ _ _ _)) nofun⟩
  rw [keeping_hport, holdCause_hport]
  dsimp only
  split <;> simp

theorem holdForce_freezes (hr : s.Reaches src (ofsOf (pgHPORT p) 0x50)) : ∃ t, exec (.holdForce src p) s = .next t ∧ t.FrozenAs p 6
    ∧ Only (.hports :: .log :: regPath) s t := by
  obtain ⟨a, ha⟩ := exec_row_served (c := .holdForce src p) (v := 0x200#32) hr (ofsOf_word (by decide)) (family_hport hp (by decide))
    (congrArg (done s) (if_pos hp))
  have hw : (s.pathTaken src).regWrite (ofsOf (pgHPORT p) 0x50) 0x200#32 = (s.pathTaken src).holdCause p 6 0 := by
    rw [regWrite_hport hp (by decide) (by decide)]
    rfl
  rw [hw] at ha
  obtain ⟨hf, hc, hb⟩ := holdCause_frozenAs (s := s.pathTaken src) (c := 6) (w := 0) hh
  refine ⟨_, ha, ⟨?_, ?_, served_bit a hb⟩, (only_served (src := src) (only_holdCause _ _ _ _)).mono (by decide)⟩
  · rwa [keeping_hport, mgmtReply_hport]
  · rwa [keeping_hport, mgmtReply_hport]

end Causes

/-- Settles O23: one lemma for each cause, all through what a hold cause does. -/
theorem holdCausesFreeze : Obligations.HoldCausesFreeze := by
  intro p s hp hh
  exact ⟨uncorr_freezes hp hh, viralRx_freezes hp hh, ideFailure_freezes hp hh, fun _ hr => holdForce_freezes hp hh hr,
    fun hr hw h0 => wedge_freezes hp hr hw h0⟩

end Sys2Proof.Machine
end

section
/-!
PROOFS. What mailbox commands change, and the transfer and activation of firmware.
-/

namespace Sys2Proof.Machine

open Sys2Proof

variable {s : State} {f : Option Nat}

/-! ### A mailbox command that is run -/

/-- The answer of a mailbox command of a mailbox that takes commands: what its opcode does. -/
theorem exec_mailbox {c : Instr} {op : Nat} {args : List Nat} {r : State} (hm : s.mboxUp f = true) (hc : exec c s = done s (s.mailboxOp f op args))
    (ho : s.mailboxOp f op args = if !s.mboxUp f then s else r) : exec c s = .next (s.keeping {} r) :=
  exec_done hc (ho.trans (if_neg (by simp [hm])))

theorem only_mbReply_of {l : List Part} {t : State} (h : Only l s t) (c : Nat) (d : List Nat) : Only (.out :: .mfn :: l) s (t.mbReply f c d) := by
  have h1 : Only (.out :: .mfn :: l) s t := fun p hp => h p fun hm => hp (List.mem_cons_of_mem _ (List.mem_cons_of_mem _ hm))
  have h2 : Only (.out :: .mfn :: l) t (t.mbReply f c d) := fun p hp => only_mbReply t f c d p fun hm => hp (by
    rcases List.mem_cons.mp hm with rfl | hm
    · exact List.mem_cons_self
    · exact List.mem_cons_of_mem _ (by simp_all))
  exact h1.trans h2

section Records

theorem recordsOf_congr {s t : State} (hl : t.log = s.log) (ht : t.tables = s.tables) (hh : t.hports = s.hports) (hr : t.regs = s.regs)
    (k : Nat) : t.recordsOf f k =
      (((s.log.records.filter fun r => r.1 == k && s.sees f r.2).map (·.2))).drop ((t.fnOf f).cleared.getD k 0) := by
  have hs : t.sees f = s.sees f := funext fun e => sees_congr ht hh hr f e
  unfold State.recordsOf
  rw [hl, hs]

/-- A function that has taken `n` more records of log `l`. -/
def Fn.took (l n : Nat) (x : Fn) : Fn := { x with cleared := x.cleared.set l (x.cleared.getD l 0 + n) }

theorem clearEventRecords_takes (hm : s.mboxUp f = true) {l : Nat} (n : Nat) (h4 : l ≠ 4) (hl : l < (s.fnOf f).cleared.length) :
    ∃ t, exec (.clearEventRecords f l n) s = .next t
      ∧ t.recordsOf f l = (s.recordsOf f l).drop n ∧ (∀ k, k ≠ l → t.recordsOf f k = s.recordsOf f k)
      ∧ t.out = s.out ++ [.mbox (fnNum f) mbOk []] ∧ Only [.out, .fns, .mfn] s t := by
  have ho : Only [.out, .fns, .mfn] s
      (s.keeping {} ((s.updFnOf f (Fn.took l (min n (s.recordsOf f l).length))).mbReply f mbOk [])) :=
    Only.keeping_any ((only_mbReply_of (only_updFnOf s f _) _ _).mono (by decide)) nofun
  have hr : s.mailboxOp f 0x0101 [l, n] = if !s.mboxUp f then s
      else (s.updFnOf f (Fn.took l (min n (s.recordsOf f l).length))).mbReply f mbOk [] := congrArg (ite _ s ·) (if_neg h4)
  refine ⟨_, exec_mailbox hm rfl hr, ?taken, fun k hk => ?others, ?said, ho⟩
  case said =>
    rw [keeping_out, mbReply_says, updFnOf_out]
  all_goals
    refine (recordsOf_congr (ho .log (by decide)) (ho .tables (by decide)) (ho .hports (by decide)) (ho .regs (by decide)) _).trans ?_
    rw [keeping_fnOf, mbReply_cleared, fnOf_updFnOf]
  case taken =>
    simp only [Fn.took, State.recordsOf, List.getD_eq_getElem?_getD, List.getElem?_set_self hl, Option.getD_some, ← List.drop_drop]
    rw [List.drop_eq_drop_iff]
    simp
  case others => simp only [Fn.took, State.recordsOf, List.getD_eq_getElem?_getD, List.getElem?_set_ne (Ne.symm hk)]

theorem clearEventRecords_dynamic (hm : s.mboxUp f = true) (n : Nat) : ∃ t, exec (.clearEventRecords f 4 n) s = .next t
    ∧ (t.fnOf f).dcRecs = (s.fnOf f).dcRecs.drop n ∧ t.out = s.out ++ [.mbox (fnNum f) mbOk []] ∧ Only [.out, .fns, .mfn] s t := by
  refine ⟨_, exec_mailbox (op := 0x0101) (args := [4, n]) (r := (s.updFnOf f fun x => { x with dcRecs := x.dcRecs.drop n }).mbReply f mbOk []) hm rfl rfl,
    ?_, ?_, Only.keeping_any ((only_mbReply_of (only_updFnOf s f _) _ _).mono (by decide)) nofun⟩
  · rw [keeping_fnOf, mbReply_dcRecs, fnOf_updFnOf]
  · rw [keeping_out, mbReply_says, updFnOf_out]

end Records

section Policy

variable (hm : s.mboxUp f = true)
include hm

theorem setEventInterruptPolicy_stores (v : Nat) : ∃ t, exec (.setEventInterruptPolicy f v) s = .next t ∧ (t.fnOf f).policy = v % 32
    ∧ t.out = s.out ++ [.mbox (fnNum f) mbOk []] ∧ Only [.out, .fns, .mfn] s t := by
  refine ⟨_, exec_mailbox (op := 0x0103) (args := [v]) hm rfl rfl, ?_, ?_, Only.keeping_any ((only_mbReply_of (only_updFnOf s f _) _ _).mono (by decide)) nofun⟩
  · rw [keeping_fnOf, mbReply_policy, fnOf_updFnOf]
    rfl
  · rw [keeping_out, mbReply_says, updFnOf_out]

theorem setTimestamp_stores (v : Nat) : ∃ t, exec (.setTimestamp f v) s = .next t
    ∧ (f = none → t.mfn.tstamp = v ∧ t.mfn.tstampAt = s.frame.num ∧ t.out = s.out ++ [.mbox 0 mbOk []] ∧ Only [.out, .mfn] s t)
    ∧ (f ≠ none → s.MailboxAnswers f mbUnsupported [] t) := by
  refine ⟨_, exec_mailbox (op := 0x0301) (args := [v]) hm rfl rfl, ?_⟩
  cases f with
  | none =>
    have ho : Only [.out, .mfn] s (({ s with mfn := { s.mfn with tstamp := v, tstampAt := s.frame.num } } : State).mbReply none mbOk []) :=
      (only_mbReply_of (only_with_mfn s _) _ _).mono (by decide)
    exact ⟨fun _ => ⟨rfl, rfl, rfl, Only.keeping_any ho nofun⟩, fun h => absurd rfl h⟩
  | some k => exact ⟨nofun, fun _ => mailboxAnswers_reply s (some k) mbUnsupported []⟩

/-- A command that debug alone permits, from the management function alone, is Unsupported otherwise. -/
theorem poisonCommands_unsupported (l : Nat) (d : List Byte) (h : f ≠ none ∨ s.tables.debug = false) :
    (∃ t, exec (.injectPoison f l) s = .next t ∧ s.MailboxAnswers f mbUnsupported [] t)
    ∧ ∃ t, exec (.clearPoison f l d) s = .next t ∧ s.MailboxAnswers f mbUnsupported [] t := by
  have hd : ¬ (f.isNone && s.tables.debug) = true := by
    rcases h with h | h
    · cases f with
      | none => exact absurd rfl h
      | some k => simp
    · simp [h]
  have hi := exec_mailbox (c := .injectPoison f l) (op := 0x4301) (args := [l]) hm rfl rfl
  have hc := exec_mailbox (c := .clearPoison f l d) (op := 0x4302) (args := l :: d.map BitVec.toNat) hm rfl rfl
  rw [if_neg hd] at hi hc
  exact ⟨⟨_, hi, mailboxAnswers_reply s f mbUnsupported []⟩, ⟨_, hc, mailboxAnswers_reply s f mbUnsupported []⟩⟩

end Policy

section Poison

variable (hm : s.mboxUp none = true) (hd : s.tables.debug = true)
include hm hd

theorem injectPoison_marks (l : Nat) : ∃ t, exec (.injectPoison none l) s = .next t ∧ t.isPoison l = true ∧ l ∈ t.log.plist
    ∧ (∀ k, k ≠ l → t.isPoison k = s.isPoison k) ∧ t.out = s.out ++ [.mbox 0 mbOk []] ∧ Only [.out, .mfn, .poison, .log] s t := by
  have hi := exec_mailbox (c := .injectPoison none l) (op := 0x4301) (args := [l]) hm rfl rfl
  rw [if_pos (by simp [hd])] at hi
  refine ⟨_, hi, ?_, ?_, fun k hk => ?_, ?_, Only.keeping_any (only_mbReply_of (only_originPoison s l) _ _) nofun⟩
  · rw [keeping_isPoison, mbReply_isPoison]
    exact (originPoison_isPoison s l l).trans (setPoison_isPoison_same s l true)
  · rw [keeping_log, mbReply_log]
    exact plistAdd_mem (s.setPoison l true) l
  · rw [keeping_isPoison, mbReply_isPoison]
    exact (originPoison_isPoison s l k).trans (setPoison_isPoison_other s true hk)
  · rw [keeping_out, mbReply_says]
    exact congrArg (· ++ _) (only_originPoison s l .out (by decide))

theorem clearPoison_clears (l : Nat) (d : List Byte) :
    ∃ t, exec (.clearPoison none l d) s = .next t ∧ t.isPoison l = false ∧ l ∉ t.log.plist := by
  have hc := exec_mailbox (c := .clearPoison none l d) (op := 0x4302) (args := l :: d.map BitVec.toNat) hm rfl rfl
  rw [if_pos (by simp [hd])] at hc
  simp only [List.getD_cons_zero] at hc
  generalize State.writeFor l 0 _ _ _ _ _ _ _ s = u at hc
  refine ⟨_, hc, ?_, ?_⟩
  · rw [keeping_isPoison, mbReply_isPoison]
    exact setPoison_isPoison_same u l false
  · rw [keeping_log, mbReply_log]
    exact plistDrop_mem _ l

end Poison

/-- The offer that a response of the host names. -/
def Extent.offer (h b c : Nat) (e : Extent) : Prop := e.hid = h ∧ e.offered = true ∧ e.base = b ∧ e.count = c

theorem offer_iff (h b c : Nat) (e : Extent) : (e.hid == h && e.offered && e.base == b && e.count == c) = true ↔ e.offer h b c := by
  simp [Extent.offer, and_assoc]

theorem only_dcAccept (h b c : Nat) (x : Bool) (s : State) : Only [.extents] s (s.dcAccept h b c x) :=
  Only.ite (only_with_extents s _) (only_with_extents s _)

theorem mem_dcAccept_refused {h b c : Nat} {e : Extent} : e ∈ (s.dcAccept h b c false).extents ↔ e ∈ s.extents ∧ ¬ e.offer h b c := by
  show e ∈ s.extents.filter _ ↔ _
  rw [List.mem_filter, Bool.not_eq_true', ← Bool.not_eq_true, offer_iff]

theorem addDcResponse_answers {k h : Nat} (b c : Nat) (x : Bool) (hm : s.mboxUp (some k) = true) (hi : s.fnIdent k = some h) :
    ∃ t, exec (.addDcResponse (some k) b c x) s = .next t ∧ t.extents = (s.dcAccept h b c x).extents
      ∧ t.out = s.out ++ [.mbox (fnNum (some k)) mbOk []] ∧ Only [.out, .extents] s t := by
  have hc := exec_mailbox (c := .addDcResponse (some k) b c x) (op := 0x4802) (args := [b, c, if x then 1 else 0]) hm rfl rfl
  simp only [Option.bind_some, hi, Option.isNone_some, Bool.false_eq_true, if_false] at hc
  have hx : ((if x = true then 1 else 0) != 0) = x := by cases x <;> rfl
  refine ⟨_, hc, ?_, ?_, Only.keeping_any (((only_dcAccept _ _ _ _ s).mono (by decide)).trans ((only_emit _ _).mono (by decide))) nofun⟩
  · show (s.dcAccept h b c ((if x = true then 1 else 0) != 0)).extents = _
    rw [hx]
  · rw [keeping_out, mbReply_says]
    exact congrArg (· ++ _) (only_dcAccept _ _ _ _ s .out (by decide))

/-- Settles O28: one lemma for each command. -/
theorem mailboxCommandsChange : Obligations.MailboxCommandsChange := by
  intro f s hm
  refine ⟨fun l n => clearEventRecords_takes hm n, clearEventRecords_dynamic hm, setEventInterruptPolicy_stores hm, setTimestamp_stores hm,
    fun l hf hd => ?inject, fun l d hf hd => ?clear, poisonCommands_unsupported hm, fun k h b c hf hi => ?response⟩
  case inject => subst hf; exact injectPoison_marks hm hd l
  case clear => subst hf; exact clearPoison_clears hm hd l d
  case response =>
    subst hf
    obtain ⟨t, ht, hx, hrest⟩ := addDcResponse_answers b c true hm hi
    obtain ⟨u, hu, hy, urest⟩ := addDcResponse_answers b c false hm hi
    refine ⟨⟨t, ht, hx.trans ?_, hrest⟩, u, hu, fun e => hy ▸ mem_dcAccept_refused, urest⟩
    exact List.map_congr_left fun e _ => if_congr (offer_iff h b c e) rfl rfl

/-! ### Firmware (R928, R929, R949, R950, R958) -/

section Slots

variable {n m : Nat}

theorem slot_setSlot_same (hn : n = 1 ∨ n = 2) (i : FwImage) (w : FwS) : (w.setSlot n i).slot n = i := by
  rcases hn with rfl | rfl <;> rfl

theorem slot_setSlot_other (hm : m ≠ n) (i : FwImage) (w : FwS) : (w.setSlot n i).slot m = w.slot m := by
  by_cases h1 : n = 1
  · subst h1
    simp [FwS.setSlot, FwS.slot, hm]
  · by_cases h2 : n = 2
    · subst h2
      simp [FwS.setSlot, FwS.slot, hm]
    · simp [FwS.setSlot, h1, h2]

/-- The record that is written becomes the current one, and the record that was stays as the other copy. -/
theorem writeRec_current (r : BootRec) (w : FwS) :
    (w.writeRec r).current = some { r with valid := true, seq := (w.current.elim 0 (·.seq)) + 1 } := by
  unfold FwS.writeRec FwS.current
  cases ha : w.recA.valid <;> cases hb : w.recB.valid <;> simp [ha, hb]
  by_cases hq : w.recB.seq ≤ w.recA.seq
  · simp [hq, ha]
  · by_cases he : w.recB = w.recA
    · simp [he] at hq
    · simp [hq, hb, he]

theorem writeRec_keepsOld {r c : BootRec} {w : FwS} (hc : w.current = some c) : (w.writeRec r).recA = c ∨ (w.writeRec r).recB = c := by
  unfold FwS.writeRec
  rw [hc]
  unfold FwS.current at hc
  split at hc
  · obtain rfl := Option.some.inj hc
    exact Or.inl (by simp_all)
  · split at hc
    · obtain rfl := Option.some.inj hc
      by_cases he : (w.recA.valid && w.recB == w.recA) = true
      · exact Or.inl (by simp_all)
      · exact Or.inr (by simp [he])
    · simp at hc

theorem writeRec_slots (r : BootRec) (w : FwS) :
    (w.writeRec r).slot1 = w.slot1 ∧ (w.writeRec r).slot2 = w.slot2 ∧ (w.writeRec r).running = w.running := by
  unfold FwS.writeRec
  split
  · exact ⟨rfl, rfl, rfl⟩
  · dsimp only
    split <;> exact ⟨rfl, rfl, rfl⟩

end Slots

section Transfer

variable {slot bad ver svn : Nat} {last adv : Bool}

/-- What a transfer leaves in its slot: the image with the last part, else one that does not verify. -/
def FwImage.transferred (i : FwImage) (last : Bool) : FwImage :=
  if last && i.bad == 0 then { i with present := true } else if last then { i with present := true, bad := max 1 i.bad } else { present := true, bad := 1 }

theorem transferred_verifies {i : FwImage} (hb : i.bad = 0) : i.transferred true = { i with present := true } := by simp [FwImage.transferred, hb]

theorem transferred_fails {i : FwImage} (h : last = false ∨ i.bad ≠ 0) : (i.transferred last).bad ≠ 0 := by
  unfold FwImage.transferred
  rcases h with rfl | h
  · simp
  · rw [if_neg (by simp [h])]
    split
    · show max 1 i.bad ≠ 0
      omega
    · simp

variable (hm : s.mboxUp none = true)
include hm

theorem transferFw_busy (i : FwImage) (hb : s.bg ≠ none) : s.transferFw none slot last i = s.mbReply none mbBusy [] := by
  simp [State.transferFw, hm, Option.isSome_iff_ne_none, hb]

theorem transferFw_refused (i : FwImage) (hb : s.bg = none) (hs : (slot ≠ 1 ∧ slot ≠ 2) ∨ slot = s.fw.running) :
    s.transferFw none slot last i = s.mbReply none mbInvalidSlot [] := by
  unfold State.transferFw
  rw [if_neg (by simp [hm]), if_neg (by simp), if_neg (by simp [hb])]
  exact if_pos (hs.imp_right Or.inl)

theorem transferFw_accepted (i : FwImage) (hb : s.bg = none) (hs : slot = 1 ∨ slot = 2) (hr : slot ≠ s.fw.running)
    (ht : s.fw.trial = true → ∀ c, s.fw.current = some c → slot ≠ c.prev) : s.transferFw none slot last i =
      ({ s with fw := s.fw.setSlot slot (i.transferred last),
                bg := some { fn := 0, opcode := 0x0201, arg := slot, result := if last && !(i.bad == 0) then mbFwAuth else mbOk } } : State).mbReply none mbStarted [] := by
  unfold State.transferFw
  rw [if_neg (by simp [hm]), if_neg (by simp), if_neg (by simp [hb])]
  refine if_neg ?_
  rintro (hx | hx | hx)
  · omega
  · exact hr hx
  · cases htr : s.fw.trial
    · simp only [htr, Bool.false_eq_true, if_false] at hx; omega
    · cases hc : s.fw.current with
      | none => simp only [htr, hc, if_true, Option.map_none, Option.getD_none] at hx; omega
      | some c => exact ht htr c hc (by simpa [htr, hc] using hx)

omit hm in
theorem only_with_fw_bg (w : FwS) (b : Option Background) : Only [.fw, .bg] s { s with fw := w, bg := b } := by
  intro p hp
  cases p <;> first | exact absurd (by decide) hp | rfl

theorem transferFw_stores (hb : s.bg = none) (hs : slot = 1 ∨ slot = 2) (hr : slot ≠ s.fw.running)
    (ht : s.fw.trial = true → ∀ c, s.fw.current = some c → slot ≠ c.prev) :
    ∃ t, exec (.transferFw none slot last bad ver svn adv) s = .next t
      ∧ (last = true → bad = 0 → t.fw.slot slot = { present := true, bad := 0, version := ver, svn := svn, advance := adv })
      ∧ (last = false ∨ bad ≠ 0 → (t.fw.slot slot).bad ≠ 0)
      ∧ (∀ n, n ≠ slot → t.fw.slot n = s.fw.slot n)
      ∧ (t.bg.map fun b => (b.fn, b.opcode, b.result)) = some (0, 0x0201, if last = true ∧ bad ≠ 0 then mbFwAuth else mbOk)
      ∧ t.out = s.out ++ [.mbox 0 mbStarted []] ∧ Only [.fw, .bg, .out, .mfn] s t := by
  have hi : ∀ (w : FwImage), ((s.fw.setSlot slot (w.transferred last)).slot slot) = w.transferred last := fun w => slot_setSlot_same hs _ _
  refine ⟨_, congrArg (answer { fw := true } s) (transferFw_accepted hm _ hb hs hr ht), fun hl hbad => ?_, fun h => ?_, fun n hn => ?_, ?_, ?_, ?_⟩
  · subst hl hbad
    exact (hi _).trans (transferred_verifies rfl)
  · exact (congrArg FwImage.bad (hi _)).trans_ne (transferred_fails h)
  · exact slot_setSlot_other hn _ _
  · simp [State.mbReply]
  · rfl
  · exact Only.keeping_any (Only.mono (only_mbReply_of (only_with_fw_bg _ _) _ _) (by decide)) nofun

end Transfer

/-- The boot record of an activation: the slot, on trial, with the running slot as the previous one. -/
def State.trialRec (s : State) (slot : Nat) : BootRec := { active := slot, trial := true, prev := s.fw.running }

theorem activateFw_eq {slot : Nat} (hm : s.mboxUp none = true) (hs : slot = 1 ∨ slot = 2) :
    s.activateFw none slot false true = ({ s with fw := s.fw.writeRec (s.trialRec slot) } : State).mbReply none mbOk [] := by
  unfold State.activateFw
  rw [if_neg (by simp [hm]), if_neg (by simp), if_neg (by omega), if_neg (by simp)]
  rfl

theorem activateFw_records {slot : Nat} (hm : s.mboxUp none = true) (hs : slot = 1 ∨ slot = 2) : ∃ t, exec (.activateFw none slot false true) s = .next t
    ∧ (∃ r, t.fw.current = some r ∧ r.active = slot ∧ r.trial = true ∧ r.prev = s.fw.running ∧ r.seq = (s.fw.current.elim 0 (·.seq)) + 1)
    ∧ (∀ c, s.fw.current = some c → t.fw.recA = c ∨ t.fw.recB = c) ∧ t.fw.slot1 = s.fw.slot1 ∧ t.fw.slot2 = s.fw.slot2 ∧ t.fw.running = s.fw.running
    ∧ t.out = s.out ++ [.mbox 0 mbOk []] ∧ Only [.fw, .out, .mfn] s t := by
  obtain ⟨h1, h2, hr⟩ := writeRec_slots (s.trialRec slot) s.fw
  exact ⟨_, congrArg (answer { fw := true } s) (activateFw_eq hm hs), ⟨_, writeRec_current (s.trialRec slot) s.fw, rfl, rfl, rfl, rfl⟩,
    fun _ hc => writeRec_keepsOld (r := s.trialRec slot) hc, h1, h2, hr, rfl,
    Only.keeping_any (Only.mono (only_mbReply_of (only_with_fw s _) _ _) (by decide)) nofun⟩

theorem activateFw_online {slot : Nat} {w : Bool} (hm : s.mboxUp none = true) : s.activateFw none slot true w = s.mbReply none mbUnsupported [] := by
  simp [State.activateFw, hm]

/-- A refusal of a firmware command is an answer and nothing else. -/
theorem answers_refusal {c : Instr} {u : State} {code : Nat} (hc : exec c s = answer { fw := true } s u) (h : u = s.mbReply none code []) :
    ∃ t, exec c s = .next t ∧ s.MailboxAnswers none code [] t := by
  subst h
  have hk : s.keeping { fw := true } (s.mbReply none code []) = s.keeping {} (s.mbReply none code []) := by
    simp [State.keeping, mbReply_fw]
  exact ⟨_, hc.trans (congrArg _ hk), mailboxAnswers_reply s none code []⟩

theorem cause_stat (x : Fn) {c : Nat} (hc : c < 32) : (x.cause c).stat.getLsbD c = true := by simp [Fn.cause, bit32_self hc]

theorem fn_updFn_same (k : Nat) (g : Fn → Fn) (s : State) : (s.updFn k g).fn k = g (s.fn k) := mapGet_upd_same _ _ _

/-- A background command that has completed. -/
def State.bgEnded (b : Background) (s : State) : State := { s with bg := none, bgLast := b.result }

theorem only_bgEnded (b : Background) (s : State) : Only [.bg, .bgLast] s (s.bgEnded b) := by
  intro p hp
  cases p <;> first | exact absurd (by decide) hp | rfl

theorem bgDone_eq {b : Background} (hb : s.bg = some b) :
    s.bgDone = if b.fn = 0 then (s.bgEnded b).mgmtCause 0 else (s.bgEnded b).fnCause (b.fn - 1) 15 := by
  unfold State.bgDone
  rw [hb]
  rfl

theorem backgroundCommandDone_acts {b : Background} (hb : s.bg = some b) : ∃ t, exec .backgroundCommandDone s = .next t ∧ t.bg = none ∧ t.bgLast = b.result
    ∧ (b.fn = 0 → 0 ∈ t.mfn.now) ∧ (b.fn ≠ 0 → (t.fn (b.fn - 1)).stat.getLsbD 15 = true) ∧ Only [.bg, .bgLast, .mfn, .fns] s t := by
  have ho : Only [.bg, .bgLast, .mfn, .fns] s (s.bgEnded b) := (only_bgEnded b s).mono (by decide)
  refine ⟨_, exec_done rfl (bgDone_eq hb), ?_⟩
  by_cases h0 : b.fn = 0
  · rw [if_pos h0]
    exact ⟨rfl, rfl, fun _ => mem_addOnce _ _, fun h => absurd h0 h, Only.keeping_any (ho.trans ((only_mgmtCause _ _).mono (by decide))) nofun⟩
  · rw [if_neg h0]
    refine ⟨rfl, rfl, fun h => absurd h h0, fun _ => ?_, Only.keeping_any (ho.trans ((only_updFn _ _ _).mono (by decide))) nofun⟩
    rw [keeping_fn, State.fnCause, fn_updFn_same]
    exact cause_stat _ (by decide)

/-- Settles O29: a transfer splits on what refuses it, an activation on which copy of the boot record is current. -/
theorem firmwareIsTransferred : Obligations.FirmwareIsTransferred := by
  refine ⟨fun s hm => ⟨?info, fun slot last bad ver svn adv => transferFw_stores hm, fun slot last bad ver svn adv hb hs => ?invalid,
    fun slot last bad ver svn adv hb => ?busy, fun slot => activateFw_records hm, fun slot w => ?online⟩, fun s b => backgroundCommandDone_acts⟩
  case info => exact ⟨_, exec_done rfl (if_neg (by simp [hm])), mailboxAnswers_reply s none mbOk _⟩
  case invalid => exact answers_refusal rfl (transferFw_refused hm _ hb hs)
  case busy => exact answers_refusal rfl (transferFw_busy hm _ hb)
  case online => exact answers_refusal rfl (activateFw_online hm)

end Sys2Proof.Machine
end

section
/-!
PROOFS. Dynamic capacity: extents that are added, accepted, released and ended.
-/

namespace Sys2Proof.Machine

open Sys2Proof

variable {s : State} {hid base count tag : Nat}

/-! ### The record that a function is given -/

/-- The functions after one has been given a record of dynamic capacity. -/
def State.recorded (s : State) (h kind base count tag : Nat) : List (Nat × Fn) := (s.dcRecord h kind base count tag).fns

theorem dcRecord_eq (h kind : Nat) (s : State) : s.dcRecord h kind base count tag =
    { s with fns := s.recorded h kind base count tag, out := s.out ++ [.dcEvent (s.fnOfId h) kind base count tag] } := by
  unfold State.recorded State.dcRecord State.idCause
  dsimp only
  split <;> rfl

theorem dcRecord_dcRecs (h kind : Nat) (s : State) :
    ((s.dcRecord h kind base count tag).fn (s.fnOfId h)).dcRecs = (s.fn (s.fnOfId h)).dcRecs ++ [(kind, base, count, tag)] := by
  unfold State.dcRecord State.idCause
  dsimp only
  generalize hg : (fun f : Fn => ({ f with dcRecs := f.dcRecs ++ [(kind, base, count, tag)] } : Fn)) = g
  have hu : ((s.updFn (s.fnOfId h) g).fn (s.fnOfId h)).dcRecs = (s.fn (s.fnOfId h)).dcRecs ++ [(kind, base, count, tag)] := by
    rw [fn_updFn_same, ← hg]
  split
  · rw [emit_fn, hu]
  · show ((((s.updFn (s.fnOfId h) g).emit _).updFn (s.fnOfId h) fun f => f.cause 14).fn (s.fnOfId h)).dcRecs = _
    rw [fn_updFn_same, emit_fn]
    exact hu

theorem only_dcRecord (h kind : Nat) (s : State) : Only [.fns, .out] s (s.dcRecord h kind base count tag) :=
  ((only_updFn _ _ _).mono (by decide)).trans (((only_emit _ _).mono (by decide)).trans ((only_idCause _ _ _).mono (by decide)))

/-! ### Adding (R203 to R205) -/

theorem dcAdd_accepted {rg : Nat} {r : Range} (h0 : s.dcAddStat hid base count tag = 0) (hb : s.boundAt base = some (rg, r)) :
    s.dcAdd hid base count tag =
      (({ s with extents := s.extents ++ [(⟨hid, rg, base, count, tag, true⟩ : Extent)] } : State).dcRecord hid 0 base count tag).emit (.fm 0 []) := by
  unfold State.dcAdd
  rw [hb, h0]
  rfl

theorem initiateDcAdd_adds {rg : Nat} {r : Range} (hc : s.sys.cfgReady = true) (h0 : s.dcAddStat hid base count tag = 0) (hb : s.boundAt base = some (rg, r)) :
    ∃ t, exec (.initiateDcAdd hid base count tag) s = .next t ∧ t.extents = s.extents ++ [⟨hid, rg, base, count, tag, true⟩]
      ∧ (t.fn (s.fnOfId hid)).dcRecs = (s.fn (s.fnOfId hid)).dcRecs ++ [(0, base, count, tag)]
      ∧ t.out = s.out ++ [.dcEvent (s.fnOfId hid) 0 base count tag, .fm 0 []] ∧ Only [.extents, .fns, .out] s t := by
  refine ⟨_, exec_done rfl ((if_pos hc).trans (dcAdd_accepted h0 hb)), ?_, ?_, ?_, Only.keeping_any ?_ nofun⟩
  · rw [keeping_extents, emit_extents, dcRecord_eq]
  · rw [keeping_fn, emit_fn]
    exact dcRecord_dcRecs hid 0 _
  · rw [keeping_out, dcRecord_eq]
    exact List.append_assoc s.out _ _
  · exact ((only_with_extents s _).mono (by decide)).trans (((only_dcRecord hid 0 _).mono (by decide)).trans ((only_emit _ _).mono (by decide)))

theorem initiateDcAdd_refused (hc : s.sys.cfgReady = true) (h0 : s.dcAddStat hid base count tag ≠ 0) :
    ∃ t, exec (.initiateDcAdd hid base count tag) s = .next t ∧ (t.hdr (pgHPORT (s.ident hid).port)).stat.getLsbD 10 = true
      ∧ t.out = s.out ++ [.fm (s.dcAddStat hid base count tag) []] ∧ Only [.hdrs, .mfn, .out] s t := by
  refine ⟨_, exec_done rfl ((if_pos hc).trans (if_pos h0)), setEvt_sets _ _ (by decide), ?_, Only.keeping_any ?_ nofun⟩
  · rw [keeping_out]
    exact congrArg (· ++ _) (setEvt_out s _ _)
  · exact ((only_setEvt _ _ _).mono (by decide)).trans ((only_emit _ _).mono (by decide))

theorem dcAddStat_refuses (h : s.boundAt base = none ∨ (s.ident hid).valid = false ∨ (s.hport (s.ident hid).port).hold ≠ .run) :
    s.dcAddStat hid base count tag ≠ 0 := by
  unfold State.dcAddStat
  cases hb : s.boundAt base with
  | none => simp
  | some x =>
    obtain ⟨rg, r⟩ := x
    cases hv : (s.ident hid).valid
    · simp [hv]
    · have hh : (s.hport (s.ident hid).port).hold ≠ .run := by simpa [hb, hv] using h
      simp [hv, hh]

/-! ### Releasing (R207, R232) -/

theorem dcRelease_eq {e : Extent} (forced : Bool) (he : s.extents.find? (Extent.named hid base count) = some e) :
    s.dcRelease hid base count forced =
      let s1 := (s.dcRecord hid (if forced then 2 else 1) base count e.tag).emit (.fm 0 [])
      if forced then s1.dcEnd hid base count else s1 := by
  unfold State.dcRelease
  rw [show (s.extents.find? fun e => e.hid == hid && e.base == base && e.count == count) = some e from he]

theorem dcRelease_unknown {forced : Bool} (he : s.extents.find? (Extent.named hid base count) = none) :
    s.dcRelease hid base count forced = s.emit (.fm 1 []) := by
  unfold State.dcRelease
  rw [show (s.extents.find? fun e => e.hid == hid && e.base == base && e.count == count) = none from he]

theorem initiateDcRelease_asks {e : Extent} (hc : s.sys.cfgReady = true) (he : s.extents.find? (Extent.named hid base count) = some e) :
    ∃ t, exec (.initiateDcRelease hid base count false) s = .next t ∧ (t.fn (s.fnOfId hid)).dcRecs = (s.fn (s.fnOfId hid)).dcRecs ++ [(1, base, count, e.tag)]
      ∧ t.out = s.out ++ [.dcEvent (s.fnOfId hid) 1 base count e.tag, .fm 0 []] ∧ Only [.fns, .out] s t := by
  refine ⟨_, exec_done rfl ((if_pos hc).trans (dcRelease_eq false he)), ?_, ?_, Only.keeping_any ?_ nofun⟩
  · rw [keeping_fn]
    exact dcRecord_dcRecs hid 1 s
  · show (State.dcRecord hid 1 base count e.tag s).out ++ _ = _
    rw [dcRecord_eq]
    exact List.append_assoc s.out _ _
  · exact (only_dcRecord hid 1 s).trans ((only_emit _ _).mono (by decide))

/-- The extent is gone, and the pages that only it covered of a region with one owner are released. -/
def State.ExtentEnded (s : State) (hid base count : Nat) (e : Extent) (t : State) : Prop :=
  (∀ x, x ∈ t.extents ↔ x ∈ s.extents ∧ Extent.named hid base count x = false)
  ∧ ∀ p, t.page p = if (s.rgn e.rgn).ownerOnly = true ∧ p ∈ s.pageKeys ∧ base ≤ granuleOfPage p ∧ granuleOfPage p < base + count
        ∧ (t.extents.any fun x => x.base ≤ granuleOfPage p && granuleOfPage p < x.base + x.count) = false
      then { s.page p with release := true } else s.page p

section Ending

variable {e : Extent} (hd : s.DirIdle) (he : s.extents.find? (Extent.named hid base count) = some e)
  (hn : ∀ x ∈ s.dir.ents, base ≤ granuleOfLine x.1 → granuleOfLine x.1 < base + count → s.holds x.2 hid = false)
include hd he hn

theorem dcEnd_ends : s.ExtentEnded hid base count e (s.dcEnd hid base count) ∧ Only [.extents, .tier] s (s.dcEnd hid base count) := by
  obtain ⟨hx, hp, ho⟩ := dcEnd_quiet hd he hn
  refine ⟨⟨fun x => ?_, fun p => ?_⟩, ho⟩
  · rw [hx, List.mem_filter, Bool.not_eq_true']
  · rw [hp p, hx]

theorem initiateDcRelease_ends (hc : s.sys.cfgReady = true) : ∃ t, exec (.initiateDcRelease hid base count true) s = .next t
    ∧ s.ExtentEnded hid base count e t ∧ t.out = s.out ++ [.dcEvent (s.fnOfId hid) 2 base count e.tag, .fm 0 []]
    ∧ Only [.extents, .tier, .fns, .out] s t := by
  have h1 : (s.dcRecord hid 2 base count e.tag).emit (.fm 0 []) = { s with
      fns := s.recorded hid 2 base count e.tag
      out := s.out ++ [.dcEvent (s.fnOfId hid) 2 base count e.tag] ++ [.fm 0 []] } := by
    rw [dcRecord_eq]
    rfl
  obtain ⟨hend, ho⟩ := dcEnd_ends (s := (s.dcRecord hid 2 base count e.tag).emit (.fm 0 [])) (hid := hid) (base := base) (count := count) (e := e)
    (by rw [h1]; exact hd) (by rw [h1]; exact he) (by rw [h1]; exact hn)
  refine ⟨_, exec_done rfl ((if_pos hc).trans (dcRelease_eq true he)), ?_, ?_, Only.keeping_any ?_ nofun⟩
  · have hend : s.ExtentEnded hid base count e (((s.dcRecord hid 2 base count e.tag).emit (.fm 0 [])).dcEnd hid base count) := by
      rw [h1] at hend ⊢
      exact hend
    exact hend
  · have hout : (((s.dcRecord hid 2 base count e.tag).emit (.fm 0 [])).dcEnd hid base count).out = _ := ho .out (by decide)
    refine Eq.trans hout ?_
    rw [h1]
    exact List.append_assoc s.out _ _
  · exact ((only_dcRecord hid 2 s).mono (by decide)).trans (((only_emit _ _).mono (by decide)).trans (ho.mono (by decide)))

theorem releaseDc_ends {k : Nat} (hm : s.mboxUp (some k) = true) (hi : s.fnIdent k = some hid) : ∃ t, exec (.releaseDc (some k) base count) s = .next t
    ∧ s.ExtentEnded hid base count e t ∧ t.out = s.out ++ [.mbox (k + 1) mbOk []] ∧ Only [.extents, .tier, .out] s t := by
  obtain ⟨hend, ho⟩ := dcEnd_ends hd he hn
  have hc := exec_mailbox (c := .releaseDc (some k) base count) (op := 0x4803) (args := [base, count]) hm rfl rfl
  have hx : (s.extents.any (Extent.named hid base count)) = true := by
    rw [List.any_eq_true]
    exact ⟨e, List.mem_of_find?_eq_some he, List.find?_some he⟩
  simp only [Option.bind_some, hi, Option.isNone_some, Bool.false_eq_true, if_false] at hc
  have hr := hc.trans (congrArg (fun t : State => Host.Outcome.next (s.keeping {} t)) (if_pos hx))
  refine ⟨_, hr, hend, ?_, Only.keeping_any ((ho.mono (by decide)).trans ((only_emit _ _).mono (by decide))) nofun⟩
  show (s.dcEnd hid base count).out ++ _ = _
  rw [show (s.dcEnd hid base count).out = s.out from ho .out (by decide)]
  rfl

end Ending

theorem releaseDc_refused {k : Nat} (hm : s.mboxUp (some k) = true) (hi : s.fnIdent k = some hid)
    (he : s.extents.find? (Extent.named hid base count) = none) :
    ∃ t, exec (.releaseDc (some k) base count) s = .next t ∧ s.MailboxAnswers (some k) mbInvalid [] t := by
  have hc := exec_mailbox (c := .releaseDc (some k) base count) (op := 0x4803) (args := [base, count]) hm rfl rfl
  have hx : ¬ (s.extents.any (Extent.named hid base count)) = true := by simpa [List.find?_eq_none] using he
  simp only [Option.bind_some, hi, Option.isNone_some, Bool.false_eq_true, if_false] at hc
  exact ⟨_, hc.trans (congrArg (fun t : State => Host.Outcome.next (s.keeping {} t)) (if_neg hx)), mailboxAnswers_reply s (some k) mbInvalid []⟩

/-- Settles O30: an addition splits on its status, a release on whether the extent is held and on its force. -/
theorem dynamicCapacityMoves : Obligations.DynamicCapacityMoves := by
  refine ⟨fun _ _ _ _ _ _ _ => initiateDcAdd_adds, fun _ _ _ _ _ => initiateDcAdd_refused, fun _ _ _ _ _ => dcAddStat_refuses, ?held, ?unknown⟩
  case held =>
    intro hid base count e s hc he
    exact ⟨initiateDcRelease_asks hc he, fun hd hn => ⟨initiateDcRelease_ends hd he hn hc, fun k hm hi => releaseDc_ends hd he hn hm hi⟩⟩
  case unknown =>
    intro hid base count f s hc he
    exact ⟨⟨_, exec_done rfl ((if_pos hc).trans (dcRelease_unknown he)), rfl, Only.keeping_any (only_emit _ _) nofun⟩, fun k hm hi => releaseDc_refused hm hi he⟩

end Sys2Proof.Machine
end

section
/-!
PROOFS. The window and the lease, MCTP control and SPDM's order of requests.
-/

namespace Sys2Proof.Machine

open Sys2Proof

variable {s : State}

/-! ### The window control page (R255, R262) -/

theorem only_leaseTake (o : Nat) (s : State) : Only [.mgmt] s (s.leaseTake o) := Only.ite (only_with_mgmt s _) (Only.refl _ _)

theorem only_leaseDrop (o : Nat) (s : State) : Only [.mgmt] s (s.leaseDrop o) := Only.ite (only_with_mgmt s _) (Only.refl _ _)

theorem leaseTake_lease (o : Nat) (s : State) : (s.leaseTake o).mgmt.lease = if s.mgmt.lease = 0 then o else s.mgmt.lease := by
  unfold State.leaseTake
  split <;> rfl

theorem leaseDrop_lease (o : Nat) (s : State) : (s.leaseDrop o).mgmt.lease = if s.mgmt.lease = o then 0 else s.mgmt.lease := by
  unfold State.leaseDrop
  split <;> rfl

theorem leaseTake_winMode (o : Nat) (s : State) : (s.leaseTake o).mgmt.winMode = s.mgmt.winMode := by
  unfold State.leaseTake
  split <;> rfl

theorem leaseDrop_winMode (o : Nat) (s : State) : (s.leaseDrop o).mgmt.winMode = s.mgmt.winMode := by
  unfold State.leaseDrop
  split <;> rfl

section Window

variable (hw : s.windowUp = true) (hc : s.sys.cfgReady = true) (hu : s.mgmt.used < 64) (hi : s.mgmtIdle = true)
include hw hc hu hi

/-- A write of the window control page that is served at once has the register's effect on what the path has counted. -/
theorem windowCtl_served (r : Nat) (hr : r < 4096) (v : Word32) : ∃ a : MgmtAcc, a.write = true ∧ a.val = v
    ∧ s.windowCtl true r v 0 = (s.pathTaken .window).serveCtl a r := by
  refine ⟨{ src := 1, write := true, ofs := ctlPage + r % 4096, val := v, tag := 0 }, rfl, rfl, ?_⟩
  have hz : ¬ ctlPage + r % 4096 = zeroRead := by simp only [ctlPage, zeroRead]; omega
  have hsub : ctlPage + r % 4096 - ctlPage = r := by omega
  have hreach : s.mgmtReaches 1 = true := by simp [State.mgmtReaches, hc]
  unfold State.windowCtl State.mgmtAccess State.mgmtServe
  rw [if_neg (by simp [hw])]
  dsimp only
  rw [if_neg (by simp [hreach]), if_pos ⟨hu, hi⟩, if_neg (fun h => hz h.2), if_neg (not_not.mpr rfl), if_pos (Nat.le_add_right _ _), hsub]
  rfl

theorem winCtlWrite_sets (v : Word32) : ∃ t, exec (.winCtlWrite v) s = .next t ∧ t.mgmt.winMode = bitOf v 0 ∧ t.mgmt.winBase = field v 21 16
    ∧ t.mgmt.lease = s.mgmt.lease ∧ Only [.mgmt, .ctrs] s t := by
  obtain ⟨a, hwr, hv, h⟩ := windowCtl_served hw hc hu hi 0 (by decide) v
  have hs : s.windowCtl true 0 v 0 = (s.pathTaken .window).winCtl v := by
    rw [h, State.serveCtl, if_pos hwr, if_pos rfl, hv]
  refine ⟨_, exec_done rfl hs, rfl, rfl, rfl, Only.keeping_any ?_ nofun⟩
  exact ((only_with_mgmt s _).mono (by decide)).trans (((only_bump _ _ _ _).mono (by decide)).trans ((only_with_mgmt _ _).mono (by decide)))

/-- CLAIM and FREE of WIN_LEASE, of what the path has counted. -/
theorem winLease_served (v : Word32) : s.windowCtl true 8 v 0 = (s.pathTaken .window).winLease v := by
  obtain ⟨a, hwr, hv, h⟩ := windowCtl_served hw hc hu hi 8 (by decide) v
  rw [h, State.serveCtl, if_pos hwr, if_neg (by decide), if_pos rfl, hv]

theorem winLeaseClaim_takes : ∃ t, exec .winLeaseClaim s = .next t ∧ t.mgmt.lease = (if s.mgmt.lease = 0 then 1 else s.mgmt.lease)
    ∧ t.mgmt.winMode = s.mgmt.winMode ∧ Only [.mgmt, .ctrs] s t := by
  refine ⟨_, exec_done rfl (winLease_served hw hc hu hi 0x100#32), leaseTake_lease 1 (s.pathTaken .window), leaseTake_winMode 1 (s.pathTaken .window),
    Only.keeping_any ?_ nofun⟩
  exact ((only_with_mgmt s _).mono (by decide)).trans (((only_bump _ _ _ _).mono (by decide)).trans ((only_leaseTake 1 _).mono (by decide)))

theorem winLeaseFree_frees : ∃ t, exec .winLeaseFree s = .next t ∧ t.mgmt.lease = (if s.mgmt.lease = 1 then 0 else s.mgmt.lease)
    ∧ t.mgmt.winMode = s.mgmt.winMode ∧ Only [.mgmt, .ctrs] s t := by
  refine ⟨_, exec_done rfl (winLease_served hw hc hu hi 0x200#32), leaseDrop_lease 1 (s.pathTaken .window), leaseDrop_winMode 1 (s.pathTaken .window),
    Only.keeping_any ?_ nofun⟩
  exact ((only_with_mgmt s _).mono (by decide)).trans (((only_bump _ _ _ _).mono (by decide)).trans ((only_leaseDrop 1 _).mono (by decide)))

end Window

/-! ### The lease's messages and its end (R264, R266) -/

theorem leaseClaim_answers (src : MgmtSrc) (hc : s.sys.cfgReady = true) : ∃ t, exec (.leaseClaim src) s = .next t
    ∧ t.mgmt.lease = (if s.mgmt.lease = 0 then src.code else s.mgmt.lease)
    ∧ t.out = s.out ++ [.mctp 0x7E [2, src.code, t.mgmt.lease]] ∧ Only [.mgmt, .out] s t := by
  refine ⟨_, exec_done rfl (if_pos hc), leaseTake_lease src.code s, ?_, Only.keeping_any ?_ nofun⟩
  · exact congrArg (· ++ _) (only_leaseTake src.code s .out (by decide))
  · exact ((only_leaseTake _ _).mono (by decide)).trans ((only_emit _ _).mono (by decide))

theorem leaseFree_answers (src : MgmtSrc) (hc : s.sys.cfgReady = true) : ∃ t, exec (.leaseFree src) s = .next t
    ∧ t.mgmt.lease = (if s.mgmt.lease = src.code then 0 else s.mgmt.lease)
    ∧ t.out = s.out ++ [.mctp 0x7E [3, src.code, t.mgmt.lease]] ∧ Only [.mgmt, .out] s t := by
  refine ⟨_, exec_done rfl (if_pos hc), leaseDrop_lease src.code s, ?_, Only.keeping_any ?_ nofun⟩
  · exact congrArg (· ++ _) (only_leaseDrop src.code s .out (by decide))
  · exact ((only_leaseDrop _ _).mono (by decide)).trans ((only_emit _ _).mono (by decide))

theorem leaseTimeout_lease (s : State) : s.leaseTimeout.mgmt.lease = if 125000 ≤ s.mgmt.idle then 0 else s.mgmt.lease := by
  unfold State.leaseTimeout
  by_cases hl : s.mgmt.lease = 0
  · simp [hl]
  · by_cases hi : 125000 ≤ s.mgmt.idle
    · rw [if_pos ⟨hl, hi⟩, leaseDrop_lease, if_pos rfl, if_pos hi]
    · rw [if_neg (fun h => hi h.2), if_neg hi]

theorem only_leaseTimeout (s : State) : Only [.mgmt] s s.leaseTimeout := Only.ite (only_leaseDrop _ _) (Only.refl _ _)

/-- Settles O33: the window control page, the messages and the timeout all through what taking and dropping the lease does. -/
theorem windowAndLease : Obligations.WindowAndLease :=
  ⟨fun _ hw hc hu hi => ⟨winCtlWrite_sets hw hc hu hi, winLeaseClaim_takes hw hc hu hi, winLeaseFree_frees hw hc hu hi⟩,
    fun src _ hc => ⟨leaseClaim_answers src hc, leaseFree_answers src hc⟩,
    fun s => ⟨_, rfl, leaseTimeout_lease s, Only.keeping_any (only_leaseTimeout s) nofun⟩⟩

/-! ### MCTP control (R266, R280) -/

/-- The endpoint's new ID, before a lease that an MCTP holder has is freed. -/
def State.withEid (e : Nat) (s : State) : State := { s with mctp := { s.mctp with eid := e % 256 } }

theorem setEid_eq (hc : s.sys.cfgReady = true) (e : Nat) : s.setEid e =
    (if s.mgmt.lease = 2 ∨ s.mgmt.lease = 3 then (s.withEid e).leaseDrop s.mgmt.lease else s.withEid e).emit (.mctp 1 [e % 256]) :=
  if_neg (by simp [State.mctpUp, hc])

theorem setEndpointId_sets (hc : s.sys.cfgReady = true) (e : Nat) : ∃ t, exec (.setEndpointId e) s = .next t ∧ t.mctp.eid = e % 256
    ∧ t.mgmt.lease = (if s.mgmt.lease = 2 ∨ s.mgmt.lease = 3 then 0 else s.mgmt.lease)
    ∧ t.out = s.out ++ [.mctp 1 [e % 256]] ∧ Only [.mctp, .mgmt, .out] s t := by
  have he : Only [.mctp, .mgmt, .out] s (s.withEid e) := (only_with_mctp s _).mono (by decide)
  refine ⟨_, exec_done rfl (setEid_eq hc e), ?_⟩
  by_cases hl : s.mgmt.lease = 2 ∨ s.mgmt.lease = 3
  · have ho := only_leaseDrop s.mgmt.lease (s.withEid e)
    rw [if_pos hl, if_pos hl]
    refine ⟨congrArg MctpS.eid (ho .mctp (by decide)), ?_, congrArg (· ++ _) (ho .out (by decide)), Only.keeping_any ?_ nofun⟩
    · exact (leaseDrop_lease _ _).trans (if_pos rfl)
    · exact he.trans ((ho.mono (by decide)).trans ((only_emit _ _).mono (by decide)))
  · rw [if_neg hl, if_neg hl]
    exact ⟨rfl, rfl, rfl, Only.keeping_any (he.trans ((only_emit _ _).mono (by decide))) nofun⟩

/-! ### SPDM's order of requests (R281, R293) -/

/-- A request is accepted on a transport: its session state becomes `x`, and no other transport's changes. -/
def State.SpdmAccepts (s : State) (via : Nat) (c : Instr) (req : Nat) (x : Spdm) : Prop :=
  ∃ t, exec c s = .next t ∧ t.spdmOf via = x ∧ (∀ v, v ≠ via → t.spdmOf v = s.spdmOf v)
    ∧ t.out = s.out ++ [.spdm via req true] ∧ Only [.mctp, .out, .fns, .mfn] s t

/-- A request is answered with an error that changes nothing of the session. -/
def State.SpdmRefuses (s : State) (via : Nat) (c : Instr) (req : Nat) : Prop :=
  ∃ t, exec c s = .next t ∧ t.mctp = s.mctp ∧ t.out = s.out ++ [.spdm via req false] ∧ Only [.out, .fns, .mfn] s t

theorem spdmOf_updSpdm_same (via : Nat) (f : Spdm → Spdm) (s : State) : (s.updSpdm via f).spdmOf via = f (s.spdmOf via) := mapGet_upd_same _ _ _

theorem spdmOf_updSpdm_other {via v : Nat} (f : Spdm → Spdm) (s : State) (h : v ≠ via) : (s.updSpdm via f).spdmOf v = s.spdmOf v := mapGet_upd_other _ h _

theorem spdmOf_congr {t u : State} (h : t.mctp = u.mctp) (v : Nat) : t.spdmOf v = u.spdmOf v := by unfold State.spdmOf; rw [h]

section Spdm

variable {via req : Nat} {c : Instr} {ok : Bool} {f : Spdm → Spdm}

theorem spdmStep_accepts (hv : s.spdmUp via = true) (hc : exec c s = done s (s.spdmStep via req ok f)) (hok : ok = true) :
    s.SpdmAccepts via c req (f (s.spdmOf via)) := by
  have hs : s.spdmStep via req ok f = ((s.updSpdm via f).doePut via).emit (.spdm via req true) := (if_neg (by simp [hv])).trans (if_pos hok)
  have hm : ∀ v, (s.keeping {} (((s.updSpdm via f).doePut via).emit (.spdm via req true))).spdmOf v = (s.updSpdm via f).spdmOf v :=
    fun v => spdmOf_congr (doePut_mctp (s.updSpdm via f) via) v
  refine ⟨_, exec_done hc hs, (hm via).trans (spdmOf_updSpdm_same _ _ _), fun v h => (hm v).trans (spdmOf_updSpdm_other f s h), ?_, Only.keeping_any ?_ nofun⟩
  · exact congrArg (· ++ _) (doePut_out (s.updSpdm via f) via)
  · exact ((only_updSpdm s _ _).mono (by decide)).trans (((only_doePut _ _).mono (by decide)).trans ((only_emit _ _).mono (by decide)))

theorem spdmStep_refuses (hv : s.spdmUp via = true) (hc : exec c s = done s (s.spdmStep via req ok f)) (hok : ¬ ok = true) : s.SpdmRefuses via c req := by
  have hs : s.spdmStep via req ok f = (s.doePut via).emit (.spdm via req false) := (if_neg (by simp [hv])).trans (if_neg hok)
  refine ⟨_, exec_done hc hs, doePut_mctp s via, congrArg (· ++ _) (doePut_out s via), Only.keeping_any ?_ nofun⟩
  exact ((only_doePut s _).mono (by decide)).trans ((only_emit _ _).mono (by decide))

/-- A request is accepted where its condition holds and refused where it does not. -/
theorem spdmStep_answers {p : Prop} [Decidable p] (hv : s.spdmUp via = true) (hc : exec c s = done s (s.spdmStep via req ok f)) (hp : ok = true ↔ p) :
    if p then s.SpdmAccepts via c req (f (s.spdmOf via)) else s.SpdmRefuses via c req := by
  split
  · exact spdmStep_accepts hv hc (hp.mpr ‹_›)
  · exact spdmStep_refuses hv hc (fun h => ‹¬ p› (hp.mp h))

theorem heartbeatMissed_ends (via : Nat) (s : State) : ∃ t, exec (.heartbeatMissed via) s = .next t ∧ (t.spdmOf via).session = false
    ∧ (t.spdmOf via).mutualAuth = false ∧ (∀ v, v ≠ via → t.spdmOf v = s.spdmOf v) ∧ Only [.mctp] s t := by
  have he := spdmOf_updSpdm_same via (fun x => { x with session := false, opening := false, mutualAuth := false }) s
  exact ⟨_, rfl, congrArg Spdm.session he, congrArg Spdm.mutualAuth he, fun v h => spdmOf_updSpdm_other _ s h, Only.keeping_any (only_updSpdm s _ _) nofun⟩

end Spdm

/-- Settles O34: every SPDM request through what an accepted and a refused one does, by its condition. -/
theorem sessionsFollowSpdm : Obligations.SessionsFollowSpdm := by
  refine ⟨fun s hc => ⟨setEndpointId_sets hc, ?_, ?_, ?_⟩, fun via s hv => ?_, heartbeatMissed_ends⟩
  · exact ⟨_, exec_done rfl (if_pos hc), rfl, Only.keeping_any (only_emit _ _) nofun⟩
  · exact ⟨_, exec_done rfl (if_pos hc), rfl, Only.keeping_any (only_emit _ _) nofun⟩
  · exact ⟨_, _, exec_done rfl (if_pos hc), rfl, Only.keeping_any (((only_draw s).mono (by decide)).trans ((only_emit _ _).mono (by decide))) nofun⟩
  · have hstage : ((s.spdmOf via).stage == 3) = true ↔ (s.spdmOf via).stage = 3 := beq_iff_eq
    have query : ∀ c req, exec c s = done s (s.spdmQuery via req) →
        if (s.spdmOf via).stage = 3 then s.SpdmAccepts via c req (s.spdmOf via) else s.SpdmRefuses via c req :=
      fun c req hc => spdmStep_answers hv hc hstage
    have keyExchange : ∀ b, if (s.spdmOf via).stage = 3
        then s.SpdmAccepts via (.keyExchange via b) 0xE4 { s.spdmOf via with opening := true, session := false, mutualAuth := b }
        else s.SpdmRefuses via (.keyExchange via b) 0xE4 := fun b =>
      spdmStep_answers (f := fun x => { x with opening := true, session := false, mutualAuth := b }) hv rfl hstage
    have digests := query (.getDigests via) 0x81 rfl
    have certificate := query (.getCertificate via) 0x82 rfl
    have challenge := query (.challenge via) 0x83 rfl
    have measurements := query (.getMeasurements via) 0xE0 rfl
    have hsess : (s.spdmOf via).session = true ↔ (s.spdmOf via).session = true := Iff.rfl
    have heartbeat := spdmStep_answers (c := .heartbeat via) hv rfl hsess
    have keyUpdate := spdmStep_answers (c := .keyUpdate via) hv rfl hsess
    have endSession := spdmStep_answers (c := .endSession via) hv rfl hsess
    have version := spdmStep_accepts (c := .getVersion via) (f := fun _ => { stage := 1 }) hv rfl rfl
    have capabilities := spdmStep_answers (c := .getCapabilities via) (f := fun x => { x with stage := 2 }) hv rfl decide_eq_true_iff
    have algorithms := fun o => spdmStep_answers (c := .negotiateAlgorithms via o) (ok := decide (2 ≤ (s.spdmOf via).stage) && o)
      (p := 2 ≤ (s.spdmOf via).stage ∧ o = true) (f := fun x => { x with stage := 3 }) hv rfl (by simp)
    have finish := fun ok => spdmStep_answers (c := .spdmFinish via ok) (ok := (s.spdmOf via).opening && ok)
      (p := (s.spdmOf via).opening = true ∧ ok = true) (f := fun x => { x with opening := false, session := true }) hv rfl (by simp)
    refine ⟨version, capabilities, algorithms, ?_, finish, ?_⟩
    · dsimp only
      split
      next h =>
        simp only [if_pos h] at digests certificate challenge measurements keyExchange
        exact ⟨digests, certificate, challenge, measurements, keyExchange⟩
      next h =>
        simp only [if_neg h] at digests certificate challenge measurements keyExchange
        exact ⟨digests, certificate, challenge, measurements, keyExchange⟩
    · dsimp only
      split
      next h =>
        rw [if_pos h] at heartbeat keyUpdate endSession
        exact ⟨heartbeat, keyUpdate, endSession⟩
      next h =>
        rw [if_neg h] at heartbeat keyUpdate endSession
        exact ⟨heartbeat, keyUpdate, endSession⟩

end Sys2Proof.Machine
end

section
/-!
PROOFS. The fabric manager's queries, tunnelled commands and references, and the LDs of a port.
-/

namespace Sys2Proof.Machine

open Sys2Proof

variable {s : State}

/-! ### Queries (R202, R204, R223) -/

/-- The fabric manager is answered, and nothing else happens. -/
def State.FmSays (s : State) (c : Instr) (code : Nat) (data : List Nat) : Prop :=
  ∃ t, exec c s = .next t ∧ t.out = s.out ++ [.fm code data] ∧ Only [.out] s t

theorem fmReply_says {c : Instr} {code : Nat} {data : List Nat} (hr : s.sys.cfgReady = true) (hc : exec c s = done s (s.fmReply code data)) :
    s.FmSays c code data := ⟨_, exec_done hc (if_pos hr), rfl, Only.keeping_any (only_emit _ _) nofun⟩

theorem emit_says {c : Instr} {code : Nat} {data : List Nat} (hc : exec c s = done s (s.emit (.fm code data))) : s.FmSays c code data :=
  ⟨_, hc, rfl, Only.keeping_any (only_emit _ _) nofun⟩

/-- The tags in use are those of extents, but for 0, and those referred to. -/
theorem mem_dcTags (s : State) (g : Nat) : g ∈ s.dcTags ↔ (g ≠ 0 ∧ ∃ e ∈ s.extents, e.tag = g) ∨ g ∈ s.mctp.refs := by
  simp only [State.dcTags, List.mem_dedup, List.mem_append, List.mem_filter, List.mem_map, bne_iff_ne, ne_eq, and_comm]

theorem acceptedExtents_iff (s : State) (hid : Nat) (e : Extent) :
    e ∈ (s.extents.filter fun e => !e.offered && e.hid == hid) ↔ e ∈ s.extents ∧ e.offered = false ∧ e.hid = hid := by
  simp [List.mem_filter]

section Queries

variable (hr : s.sys.cfgReady = true)
include hr

theorem getHostDcRegionConfiguration_says (p ld : Nat) :
    (s.presents (fnKey p 0 ld) = true → s.FmSays (.getHostDcRegionConfiguration p ld) 0 [0, 262144, 1])
    ∧ (s.presents (fnKey p 0 ld) = false → s.FmSays (.getHostDcRegionConfiguration p ld) mbInvalid []) :=
  ⟨fun h => fmReply_says hr (congrArg (done s) (if_pos h)), fun h => fmReply_says hr (congrArg (done s) (if_neg (by simp [h])))⟩

theorem getLdInfo_says {p : Nat} (hp : p < 8) :
    s.FmSays (.getLdInfo p) 0 [s.lds p, s.bindMax] ∧ s.FmSays (.getLdAllocations p) 0 [s.lds p] :=
  ⟨fmReply_says hr (congrArg (done s) (if_pos hp)), fmReply_says hr (congrArg (done s) (if_pos hp))⟩

theorem tunnel_refused {p ld op : Nat} (args : List Nat) (h : s.presents (fnKey p 0 ld) = false) :
    s.FmSays (.tunnelManagementCommand p ld op args) mbInvalid [] := by
  have hn : ¬ (s.sys.cfgReady && s.presents (fnKey p 0 ld)) = true := by simp [h]
  refine fmReply_says hr (congrArg (done s) ?_)
  unfold State.fmTunnel
  rw [if_neg hn, if_neg hn, ite_self]

end Queries

/-! ### Tunnelled commands (R223) -/

/-- The opcodes of a tenant function's mailbox that do more than answer, beside that of the firmware. -/
def actingOps : List Nat := [0x0100, 0x0101, 0x0103, 0x4200, 0x4802, 0x4803]

/-- Any other command of a tenant function's mailbox is an answer. -/
theorem mailboxOp_answers {k op : Nat} (args : List Nat) (hm : s.mboxUp (some k) = true) (ho : op ∉ actingOps) :
    ∃ code data, s.mailboxOp (some k) op args = s.mbReply (some k) code data := by
  unfold State.mailboxOp
  dsimp only
  rw [if_neg (by simp [hm])]
  split
  all_goals first
    | exact ⟨_, _, rfl⟩
    | exact absurd (by decide) ho
    | exact ⟨_, _, if_neg Bool.false_ne_true⟩
    | (split <;> exact ⟨_, _, rfl⟩)

theorem getFwInfo_answers {k : Nat} (hm : s.mboxUp (some k) = true) : ∃ data, s.getFwInfo (some k) = s.mbReply (some k) mbOk data :=
  ⟨_, if_neg (by simp [hm])⟩

theorem tunnel_runs {p ld op : Nat} (args : List Nat) (hr : s.sys.cfgReady = true) (h : s.presents (fnKey p 0 ld) = true)
    (hm : s.mboxUp (some (fnKey p 0 ld)) = true) (ho : op ∉ actingOps) :
    ∃ code data t, exec (.tunnelManagementCommand p ld op args) s = .next t ∧ t.out = s.out ++ [.mbox (fnKey p 0 ld + 1) code data, .fm 0 []] ∧ Only [.out] s t := by
  have hu : (s.sys.cfgReady && s.presents (fnKey p 0 ld)) = true := by simp [h, hr]
  have hs : ∃ code data, (if op = 0x0200 then (if s.sys.cfgReady && s.presents (fnKey p 0 ld) then (s.getFwInfo (some (fnKey p 0 ld))).emit (.fm mbOk [])
      else s.fmReply mbInvalid []) else s.fmTunnel p ld op args) = (s.mbReply (some (fnKey p 0 ld)) code data).emit (.fm 0 []) := by
    by_cases hf : op = 0x0200
    · obtain ⟨data, hd⟩ := getFwInfo_answers hm
      exact ⟨_, data, (if_pos hf).trans ((if_pos hu).trans (congrArg (State.emit (.fm 0 [])) hd))⟩
    · obtain ⟨code, data, hd⟩ := mailboxOp_answers args hm ho
      exact ⟨code, data, (if_neg hf).trans ((if_pos hu).trans (congrArg (State.emit (.fm 0 [])) hd))⟩
  obtain ⟨code, data, hs⟩ := hs
  exact ⟨code, data, _, exec_done rfl hs, List.append_assoc s.out _ _, Only.keeping_any ((only_emit _ _).trans (only_emit _ _)) nofun⟩

/-! ### References to tags (R223) -/

section References

variable {tag : Nat} (hr : s.sys.cfgReady = true)
include hr

theorem addReference_keeps (h : (s.extents.any fun e => e.tag == tag) = true) : ∃ t, exec (.addDcExtentReference tag true) s = .next t ∧ tag ∈ t.mctp.refs
    ∧ (∀ g, g ≠ tag → (g ∈ t.mctp.refs ↔ g ∈ s.mctp.refs)) ∧ t.out = s.out ++ [.fm 0 []] ∧ Only [.mctp, .out] s t := by
  have hs : s.dcReference tag true = ({ s with mctp := { s.mctp with refs := addOnce tag s.mctp.refs } } : State).emit (.fm 0 []) :=
    (if_neg (by simp [hr])).trans (if_neg (by simp [h]))
  refine ⟨_, exec_done rfl hs, mem_addOnce _ _, fun g hg => ?_, rfl, Only.keeping_any (((only_with_mctp s _).mono (by decide)).trans ((only_emit _ _).mono (by decide))) nofun⟩
  show g ∈ addOnce tag s.mctp.refs ↔ _
  unfold addOnce
  split
  · rfl
  · simp [hg]

theorem addReference_refused (h : (s.extents.any fun e => e.tag == tag) = false) : s.FmSays (.addDcExtentReference tag true) mbInvalid [] :=
  emit_says (congrArg (done s) ((if_neg (by simp [hr])).trans (if_pos (by simp [h]))))

theorem removeReference_drops : ∃ t, exec (.addDcExtentReference tag false) s = .next t ∧ (∀ g, g ∈ t.mctp.refs ↔ g ∈ s.mctp.refs ∧ g ≠ tag)
    ∧ t.out = s.out ++ [.fm 0 []] ∧ Only [.mctp, .out] s t := by
  have hs : s.dcReference tag false = ({ s with mctp := { s.mctp with refs := s.mctp.refs.filter (· != tag) } } : State).emit (.fm 0 []) :=
    (if_neg (by simp [hr])).trans (if_neg (by simp))
  refine ⟨_, exec_done rfl hs, fun g => ?_, rfl, Only.keeping_any (((only_with_mctp s _).mono (by decide)).trans ((only_emit _ _).mono (by decide))) nofun⟩
  show g ∈ s.mctp.refs.filter (· != tag) ↔ _
  simp [List.mem_filter]

end References

/-! ### What a tenant is told (R222) -/

section Told

variable {f : Option Nat} (hm : s.mboxUp f = true)
include hm

theorem mailbox_says {c : Instr} {op code : Nat} {args data : List Nat} (hc : exec c s = done s (s.mailboxOp f op args))
    (ho : s.mailboxOp f op args = if !s.mboxUp f then s else s.mbReply f code data) : ∃ t, exec c s = .next t ∧ s.MailboxAnswers f code data t :=
  ⟨_, exec_mailbox hm hc ho, mailboxAnswers_reply s f code data⟩

theorem getTenantStatus_says {t u : Nat} (hn : f = none → u = t) (hk : ∀ k, f = some k → s.fnTenant k = some u) : ∃ v, exec (.getTenantStatus f t) s = .next v
    ∧ s.MailboxAnswers f mbOk [s.openBytes u, s.foldBytes u, s.ovfUse u, ((List.range 8).map fun p => mapGet (fun _ => 0) (s.hport p).load u).foldl max 0,
        ((List.range 8).filter fun p => (s.idsOn p).any (fun h => (s.ident h).tenant == u) && (s.hport p).hold != .run).length] v := by
  refine mailbox_says (op := 0xC000) (args := [t]) hm rfl (congrArg (ite _ s ·) ?_)
  cases f with
  | none => rw [hn rfl]; rfl
  | some k => simp only [Option.isNone_some, Bool.false_eq_true, if_false, Option.bind_some, hk k rfl]

theorem getRegionTag_says {g i : Nat} {r : Range} (hn : f = none → s.boundAt g = some (i, r))
    (hk : ∀ k, f = some k → ∃ u, s.fnTenant k = some u ∧ s.reach u g = some (i, r)) :
    ∃ v, exec (.getRegionTag f g) s = .next v ∧ s.MailboxAnswers f mbOk [s.regionTag i] v := by
  refine mailbox_says (op := 0xC001) (args := [g]) hm rfl (congrArg (ite _ s ·) ?_)
  cases f with
  | none => simp only [List.getD_cons_zero, hn rfl]
  | some k =>
    obtain ⟨u, hu, hi⟩ := hk k rfl
    simp only [List.getD_cons_zero, Option.bind_some, hu, hi]

theorem getRegionTag_invalid {k g u : Nat} (hf : f = some k) (hu : s.fnTenant k = some u) (hi : s.reach u g = none) :
    ∃ v, exec (.getRegionTag f g) s = .next v ∧ s.MailboxAnswers f mbInvalid [] v := by
  refine mailbox_says (op := 0xC001) (args := [g]) hm rfl (congrArg (ite _ s ·) ?_)
  subst hf
  simp only [List.getD_cons_zero, Option.bind_some, hu, hi]

end Told

/-! ### The LDs of a port (R195, R198, R199) -/

theorem field_eq_extractLsb' (w : Word32) (hi lo : Nat) : field w hi lo = (w.extractLsb' lo (hi - lo + 1)).toNat := by
  rw [field, BitVec.extractLsb'_toNat, Nat.shiftRight_eq_div_pow]

/-- ID_CFG with its LDs replaced. -/
def cfgWithLds (w : Word32) (n : Nat) : Word32 := (w &&& 0xFFFFE0FF#32) ||| place n 5 8

theorem place_toNat {v n lo : Nat} (h : n + lo ≤ 32) : (place v n lo).toNat = v % 2 ^ n * 2 ^ lo := by
  have h1 : v % 2 ^ n * 2 ^ lo < 2 ^ n * 2 ^ lo := Nat.mul_lt_mul_of_pos_right (Nat.mod_lt _ (by positivity)) (by positivity)
  have h2 : 2 ^ n * 2 ^ lo ≤ 2 ^ 32 := by rw [← pow_add]; exact Nat.pow_le_pow_right (by decide) h
  rw [place, BitVec.toNat_ofNat, Nat.mod_eq_of_lt (lt_of_lt_of_le h1 h2)]

theorem cfgWithLds_mode (w : Word32) (n : Nat) : field (cfgWithLds w n) 1 0 = field w 1 0 := by
  rw [field_eq_extractLsb', field_eq_extractLsb']
  congr 1
  apply BitVec.eq_of_getLsbD_eq
  intro i hi
  have h : (place n 5 8).getLsbD i = false := by
    rw [BitVec.getLsbD, place_toNat (by decide), Nat.testBit_mul_two_pow]
    simp; omega
  have hb : (0xFFFFE0FF#32).getLsbD i = true := by interval_cases i <;> rfl
  simp [cfgWithLds, h, hb]

theorem cfgWithLds_lds (w : Word32) (n : Nat) : field (cfgWithLds w n) 12 8 = n % 32 := by
  have h : (cfgWithLds w n).extractLsb' 8 5 = (place n 5 8).extractLsb' 8 5 := by
    apply BitVec.eq_of_getLsbD_eq
    intro i hi
    have hb : (0xFFFFE0FF#32).getLsbD (8 + i) = false := by interval_cases i <;> rfl
    simp only [cfgWithLds, BitVec.getLsbD_extractLsb', BitVec.getLsbD_or, BitVec.getLsbD_and, hb, Bool.and_false, Bool.false_or]
  rw [field_eq_extractLsb', h, ← field_eq_extractLsb' _ 12 8, field, place_toNat (by decide)]
  omega

theorem cfg_fields {m n : Nat} (hm : m < 4) : field (place m 2 0 ||| place n 5 8) 1 0 = m ∧ field (place m 2 0 ||| place n 5 8) 12 8 = n % 32 := by
  have h : (place m 2 0 ||| place n 5 8).toNat = n % 32 * 256 + m := by
    rw [BitVec.toNat_or, place_toNat (by decide), place_toNat (by decide), Nat.or_comm, Nat.mul_comm]
    rw [← Nat.two_pow_add_eq_or_of_lt (by omega)]
    omega
  constructor
  · rw [field, h]; omega
  · rw [field, h]; omega

/-- The LDs over all ports, were port `p` to have `n`. -/
def State.ldSum (s : State) (p n : Nat) : Nat := (List.range 8).foldl (fun m q => m + if q = p then n else s.lds q) 0

section IdCfg

variable {p : Nat} {w : Word32}

/-- The mode and the LDs that a write of ID_CFG asks for. -/
def State.askedMode (s : State) (p : Nat) (w : Word32) : Nat := if field w 1 0 = 3 then s.idMode p else field w 1 0
def State.askedLds (s : State) (p : Nat) (w : Word32) : Nat := if 1 ≤ field w 12 8 ∧ field w 12 8 ≤ 16 then field w 12 8 else s.lds p

theorem idCfgWrite_eq (p : Nat) (w : Word32) (s : State) : s.idCfgWrite p w =
    if (!(s.idsOn p).isEmpty || decide (128 < s.ldSum p (s.askedLds p w)) || (s.askedMode p w == 2 && (s.hport p).bifurc)) = true then s.setEvt (pgHPORT p) 11
    else s.setReg (ofsOf (pgHPORT p) 0x4C) (place (s.askedMode p w) 2 0 ||| place (s.askedLds p w) 5 8) := rfl

theorem askedMode_lt (s : State) (p : Nat) (w : Word32) : s.askedMode p w < 4 := by
  unfold State.askedMode State.idMode State.regF field
  split <;> exact Nat.mod_lt _ (by decide)

theorem idCfgWrite_stores (he : s.idsOn p = []) (hsum : s.ldSum p (s.askedLds p w) ≤ 128) (hm : ¬ (s.askedMode p w = 2 ∧ (s.hport p).bifurc = true)) :
    s.idCfgWrite p w = s.setReg (ofsOf (pgHPORT p) 0x4C) (place (s.askedMode p w) 2 0 ||| place (s.askedLds p w) 5 8) := by
  rw [idCfgWrite_eq]
  exact if_neg (by simpa [he, hsum] using hm)

theorem idCfgWrite_refuses (h : s.idsOn p ≠ [] ∨ 128 < s.ldSum p (s.askedLds p w)) : s.idCfgWrite p w = s.setEvt (pgHPORT p) 11 := by
  rw [idCfgWrite_eq]
  refine if_pos ?_
  rcases h with h | h
  · simp [h]
  · simp [h]

theorem cfgStored_fields {m n : Nat} (hm : m < 4) (u : State) :
    (u.setReg (ofsOf (pgHPORT p) 0x4C) (place m 2 0 ||| place n 5 8)).idMode p = m
    ∧ (u.setReg (ofsOf (pgHPORT p) 0x4C) (place m 2 0 ||| place n 5 8)).lds p = n % 32 := by
  unfold State.idMode State.lds State.regF
  rw [reg_setReg_same]
  exact cfg_fields hm

/-- What a port's LDs and mode are read from. -/
theorem fields_of_regs {t u : State} (h : t.regs = u.regs) (p : Nat) : t.idMode p = u.idMode p ∧ t.lds p = u.lds p := by
  unfold State.idMode State.lds State.regF State.reg
  rw [h]
  exact ⟨rfl, rfl⟩

section SetLds

variable {n : Nat} (hp : p < 8) (hr : s.sys.cfgReady = true) (h1 : 1 ≤ n) (h16 : n ≤ 16)

include h1 h16 in
theorem asked_withLds : s.askedLds p (cfgWithLds (s.reg (ofsOf (pgHPORT p) 0x4C)) n) = n
    ∧ s.askedMode p (cfgWithLds (s.reg (ofsOf (pgHPORT p) 0x4C)) n) = s.idMode p := by
  have hn : n % 32 = n := Nat.mod_eq_of_lt (by omega)
  refine ⟨?_, ?_⟩
  · rw [State.askedLds, cfgWithLds_lds, hn, if_pos ⟨h1, h16⟩]
  · rw [State.askedMode, cfgWithLds_mode]
    exact ite_self _

include hp hr

theorem setLds_eq : exec (.setLdAllocations p n) s =
    .next (s.keeping {} ((s.idCfgWrite p (cfgWithLds (s.reg (ofsOf (pgHPORT p) 0x4C)) n)).emit
      (.fm 0 [(s.idCfgWrite p (cfgWithLds (s.reg (ofsOf (pgHPORT p) 0x4C)) n)).lds p]))) :=
  exec_done rfl ((if_pos hp).trans (if_pos hr))

include h1 h16

theorem setLdAllocations_sets (he : s.idsOn p = []) (hsum : s.ldSum p n ≤ 128) (hb : ¬ (s.idMode p = 2 ∧ (s.hport p).bifurc = true)) :
    ∃ t, exec (.setLdAllocations p n) s = .next t ∧ t.lds p = n ∧ t.idMode p = s.idMode p ∧ t.out = s.out ++ [.fm 0 [n]] ∧ Only [.regs, .out] s t := by
  obtain ⟨hl, hm⟩ := asked_withLds (s := s) (p := p) h1 h16
  have hw := idCfgWrite_stores (w := cfgWithLds (s.reg (ofsOf (pgHPORT p) 0x4C)) n) he (by rwa [hl]) (by rwa [hm])
  rw [hl, hm] at hw
  have hn : n % 32 = n := Nat.mod_eq_of_lt (by omega)
  obtain ⟨fm, fl⟩ := cfgStored_fields (p := p) (m := s.idMode p) (n := n) (Nat.mod_lt _ (by decide)) s
  have hx := setLds_eq (n := n) hp hr
  rw [hw, fl, hn] at hx
  refine ⟨_, hx, ?_, ?_, rfl, Only.keeping_any (((only_setReg s _ _).mono (by decide)).trans ((only_emit _ _).mono (by decide))) nofun⟩
  · exact fl.trans hn
  · exact fm

theorem setLdAllocations_refused (h : s.idsOn p ≠ [] ∨ 128 < s.ldSum p n) : ∃ t, exec (.setLdAllocations p n) s = .next t ∧ t.regs = s.regs
    ∧ (t.hdr (pgHPORT p)).stat.getLsbD 11 = true ∧ t.out = s.out ++ [.fm 0 [s.lds p]] ∧ Only [.hdrs, .mfn, .out] s t := by
  obtain ⟨hl, hm⟩ := asked_withLds (s := s) (p := p) h1 h16
  have hw := idCfgWrite_refuses (w := cfgWithLds (s.reg (ofsOf (pgHPORT p) 0x4C)) n) (by rwa [hl])
  have hx := setLds_eq (n := n) hp hr
  rw [hw, (fields_of_regs (setEvt_regs s (pgHPORT p) 11) p).2] at hx
  refine ⟨_, hx, setEvt_regs s _ _, setEvt_sets _ _ (by decide), ?_, Only.keeping_any (((only_setEvt s _ _).mono (by decide)).trans ((only_emit _ _).mono (by decide))) nofun⟩
  exact congrArg (· ++ _) (setEvt_out s _ _)

end SetLds

section IdCfgRow

variable {src : MgmtSrc} (hp : p < 8) (hr : s.Reaches src (ofsOf (pgHPORT p) 0x4C))
include hp hr

theorem idCfgRow_served : ∃ a, exec (.idCfgWrite src p w) s = .next (s.keeping {} (((s.pathTaken src).idCfgWrite p w).mgmtReply a 0#32)) := by
  obtain ⟨a, ha⟩ := exec_row_served (c := .idCfgWrite src p w) (v := w) hr (ofsOf_word (by decide)) (family_hport hp (by decide))
    (congrArg (done s) (if_pos hp))
  have hw : (s.pathTaken src).regWrite (ofsOf (pgHPORT p) 0x4C) w = (s.pathTaken src).idCfgWrite p w := by
    rw [regWrite_hport hp (by decide) (by decide)]
    rfl
  exact ⟨a, hw ▸ ha⟩

theorem idCfgRow_sets (he : s.idsOn p = []) (hsum : s.ldSum p (field w 12 8) ≤ 128) (hm : field w 1 0 < 2) (h1 : 1 ≤ field w 12 8) (h16 : field w 12 8 ≤ 16) :
    ∃ t, exec (.idCfgWrite src p w) s = .next t ∧ t.lds p = field w 12 8 ∧ t.idMode p = field w 1 0 ∧ Only (.regs :: regPath) s t := by
  have hl : (s.pathTaken src).askedLds p w = field w 12 8 := if_pos ⟨h1, h16⟩
  have hmode : (s.pathTaken src).askedMode p w = field w 1 0 := if_neg (by omega)
  have hw := idCfgWrite_stores (s := s.pathTaken src) (w := w) he (by rw [hl]; exact hsum) (by rw [hmode]; omega)
  rw [hl, hmode] at hw
  obtain ⟨a, ha⟩ := idCfgRow_served (w := w) hp hr
  rw [hw] at ha
  obtain ⟨fm, fl⟩ := cfgStored_fields (p := p) (m := field w 1 0) (n := field w 12 8) (by omega) (s.pathTaken src)
  obtain ⟨tm, tl⟩ := fields_of_regs (only_mgmtReply ((s.pathTaken src).setReg (ofsOf (pgHPORT p) 0x4C) (place (field w 1 0) 2 0 ||| place (field w 12 8) 5 8)) a 0#32 .regs (by decide)) p
  exact ⟨_, ha, tl.trans (fl.trans (Nat.mod_eq_of_lt (by omega))), tm.trans fm, (only_served (src := src) (only_setReg (s.pathTaken src) _ _)).mono (by decide)⟩

theorem idCfgRow_refused (h : s.idsOn p ≠ [] ∨ 1 ≤ field w 12 8 ∧ field w 12 8 ≤ 16 ∧ 128 < s.ldSum p (field w 12 8)) :
    ∃ t, exec (.idCfgWrite src p w) s = .next t ∧ t.regs = s.regs ∧ (t.hdr (pgHPORT p)).stat.getLsbD 11 = true ∧ Only regPath s t := by
  have hq : (s.pathTaken src).idsOn p ≠ [] ∨ 128 < (s.pathTaken src).ldSum p ((s.pathTaken src).askedLds p w) := by
    refine h.imp_right ?_
    rintro ⟨h1, h16, hs⟩
    rwa [show (s.pathTaken src).askedLds p w = field w 12 8 from if_pos ⟨h1, h16⟩]
  obtain ⟨a, ha⟩ := idCfgRow_served (w := w) hp hr
  rw [idCfgWrite_refuses hq] at ha
  refine ⟨_, ha, ?_, served_bit a (setEvt_sets _ _ (by decide)), (only_served (src := src) (only_setEvt (s.pathTaken src) _ _)).mono (by decide)⟩
  rw [keeping_regs, mgmtReply_regs, setEvt_regs]
  rfl

end IdCfgRow

end IdCfg

/-- Settles O31: one lemma for each query; the LDs through what a write of ID_CFG asks for. -/
theorem fabricManagerIsAnswered : Obligations.FabricManagerIsAnswered := by
  refine ⟨fun s hr => ?queries, fun f s hm => ?told, fun p s hp hr n h1 h16 => ?lds, fun src p w s hp hr => ?cfg⟩
  case queries =>
    exact ⟨fmReply_says hr rfl, fun p ld => (getHostDcRegionConfiguration_says hr p ld).1, fun p ld => (getHostDcRegionConfiguration_says hr p ld).2,
      fun hid => ⟨_, acceptedExtents_iff s hid, fmReply_says hr rfl⟩, ⟨s.dcTags, List.nodup_dedup _, mem_dcTags s, fmReply_says hr rfl⟩,
      fmReply_says hr rfl, fmReply_says hr rfl, fun p hp => getLdInfo_says hr hp, fun _ _ _ args => tunnel_refused hr args,
      fun _ _ _ args h hm => tunnel_runs args hr h hm, fun _ => addReference_keeps hr, fun _ => addReference_refused hr, fun _ => removeReference_drops hr⟩
  case told => exact ⟨fun _ _ => getTenantStatus_says hm, fun _ _ _ => getRegionTag_says hm, fun _ _ _ => getRegionTag_invalid hm⟩
  case lds => exact ⟨fun he hs hb _ => setLdAllocations_sets hp hr h1 h16 he hs hb, setLdAllocations_refused hp hr h1 h16⟩
  case cfg => exact ⟨idCfgRow_sets hp hr, idCfgRow_refused hp hr⟩

end Sys2Proof.Machine
end

section
/-!
PROOFS. The common header of a page, the vector map, the dailies ring's selection and the continuity log's.
-/

namespace Sys2Proof.Machine

open Sys2Proof

variable {s : State} {src : MgmtSrc} {p : Nat} {v : Word32}

/-! ### A row that is served at once, with the answer's source -/

theorem exec_row_access {c : Instr} {ofs : Nat} (h : s.Reaches src ofs) (ha : ofs % 4 = 0) (hp : (pageFamily (ofs / 4096)).isSome = true)
    (hc : exec c s = done s (s.rowWrite src ofs v)) :
    ∃ a : MgmtAcc, a.src = src.code ∧ exec c s = .next (s.keeping {} (((s.pathTaken src).regWrite ofs v).mgmtReply a 0#32)) := by
  obtain ⟨a, hs, -, h⟩ := rowWrite_access h ha hp v
  exact ⟨a, hs, exec_done hc h⟩

theorem code_ne_relay (h : src ≠ .relay) : src.code ≠ 4 := by cases src <;> simp_all [MgmtSrc.code]

/-- The header that an answer has of a page that the relay's own answer cannot change. -/
theorem answered_hdr {a : MgmtAcc} (u : State) {q : Nat} (ha : a.src = src.code) (h : src ≠ .relay ∨ q ≠ pgFPORT 0) :
    (s.keeping {} (u.mgmtReply a 0#32)).hdr q = u.hdr q := by
  rw [keeping_hdr]
  exact mgmtReply_hdr u a 0#32 (h.symm.imp_right fun h => ha ▸ code_ne_relay h)

theorem hdr_pathTaken (q : Nat) : (s.pathTaken src).hdr q = s.hdr q := rfl

/-! ### EVT_STAT (R893, R914) -/

theorem clear_stat (h : PageHdr) (b : Nat) (hb : b < 32) :
    (h.clear v).stat.getLsbD b = (h.stat.getLsbD b && (!v.getLsbD b || h.now.getLsbD b)) := by
  simp [PageHdr.clear, hb]

theorem clear_first (h : PageHdr) : ((h.clear v).stat = 0#32 → (h.clear v).first = none) ∧ ((h.clear v).stat ≠ 0#32 → (h.clear v).first = h.first) :=
  ⟨fun e => if_pos e, fun e => if_neg e⟩

section Header

variable (hf : (pageFamily p).isSome = true)
include hf

theorem header_served {c : Instr} {r : Nat} (hr : r < 0x40) (hr4 : r % 4 = 0) (h : s.Reaches src (ofsOf p r)) (hc : exec c s = done s (s.rowWrite src (ofsOf p r) v)) :
    ∃ a : MgmtAcc, a.src = src.code ∧ exec c s = .next (s.keeping {} (((s.pathTaken src).writeHeader p r v).mgmtReply a 0#32)) := by
  obtain ⟨a, ha, hx⟩ := exec_row_access (v := v) h (ofsOf_word hr4) (by rw [page_div (by omega)]; exact hf) hc
  exact ⟨a, ha, regWrite_header hr v (s.pathTaken src) ▸ hx⟩

variable (hq : src ≠ .relay ∨ p ≠ pgFPORT 0)
include hq

theorem evtStatClear_acts (h : s.Reaches src (ofsOf p 0x14)) : ∃ t, exec (.evtStatClear src p v) s = .next t
    ∧ (∀ b < 32, (t.hdr p).stat.getLsbD b = ((s.hdr p).stat.getLsbD b && (!v.getLsbD b || (s.hdr p).now.getLsbD b)))
    ∧ ((t.hdr p).stat = 0#32 → (t.hdr p).first = none) ∧ ((t.hdr p).stat ≠ 0#32 → (t.hdr p).first = (s.hdr p).first)
    ∧ (∀ q, q ≠ p → q ≠ pgFPORT 0 → t.hdr q = s.hdr q) ∧ Only regPath s t := by
  obtain ⟨a, ha, hx⟩ := header_served (c := .evtStatClear src p v) (v := v) hf (by decide) (by decide) h rfl
  have hw : (s.pathTaken src).writeHeader p 0x14 v = (s.pathTaken src).updHdr p fun h => h.clear v := rfl
  rw [hw] at hx
  have hdr : (s.keeping {} (((s.pathTaken src).updHdr p fun h => h.clear v).mgmtReply a 0#32)).hdr p = (s.hdr p).clear v := by
    rw [answered_hdr _ ha hq, hdr_updHdr, if_pos rfl, hdr_pathTaken]
  refine ⟨_, hx, fun b hb => ?_, ?_, ?_, fun q hne h0 => ?_, (only_served (src := src) (only_updHdr (s.pathTaken src) _ _)).mono (by decide)⟩
  · rw [hdr, clear_stat _ _ hb]
  · rw [hdr]
    exact (clear_first _).1
  · rw [hdr]
    exact (clear_first _).2
  · rw [answered_hdr _ ha (Or.inr h0), hdr_updHdr, if_neg hne, hdr_pathTaken]

/-! ### EVT_ENA (R908) -/

/-- A page with the bits of `v` that its tables list enabled. -/
def State.enabling (p : Nat) (v : Word32) (u : State) : State := u.updHdr p fun h => { h with ena := v &&& eventMask p }

omit hf hq in
theorem evtEnable_eq (u : State) : u.evtEnable p v =
    if ((u.hdr p).stat &&& (v &&& eventMask p) &&& ~~~(u.hdr p).ena) ≠ 0#32 then (u.enabling p v).pageCause p else u.enabling p v := rfl

omit hf hq in
theorem evtEnable_hdr (u : State) (q : Nat) : (u.evtEnable p v).hdr q = (u.enabling p v).hdr q := by
  rw [evtEnable_eq]
  split
  · exact pageCause_hdr _ _ _
  · rfl

omit hf hq in
theorem only_evtEnable (u : State) : Only [.hdrs, .mfn] u (u.evtEnable p v) := by
  rw [evtEnable_eq]
  have he : Only [.hdrs, .mfn] u (u.enabling p v) := (only_updHdr u _ _).mono (by decide)
  exact Only.ite (he.trans ((only_pageCause _ _).mono (by decide))) he

omit hf hq in
/-- Enabling a bit that is set is a cause of the page's vector. -/
theorem evtEnable_cause {u : State} {b : Nat} (hs : (u.hdr p).stat.getLsbD b = true) (hn : (v &&& eventMask p).getLsbD b = true)
    (ho : (u.hdr p).ena.getLsbD b = false) (hv : (u.vmapOf p).2 = true) :
    (if (u.vmapOf p).1 < 2 then 2 else (u.vmapOf p).1) ∈ (u.evtEnable p v).mfn.now := by
  have hb : b < 32 := BitVec.lt_of_getLsbD hs
  have hne : ((u.hdr p).stat &&& (v &&& eventMask p) &&& ~~~(u.hdr p).ena) ≠ 0#32 := fun h => by
    have := congrArg (fun x : Word32 => x.getLsbD b) h
    rw [BitVec.getLsbD_and, BitVec.getLsbD_and, BitVec.getLsbD_not, hs, hn, ho] at this
    simp [hb] at this
  have hvm : (u.enabling p v).vmapOf p = u.vmapOf p := by
    unfold State.vmapOf State.enabling
    rw [hdr_updHdr, if_pos rfl]
  rw [evtEnable_eq, if_pos hne, ← hvm]
  exact pageCause_now _ _ (by rw [hvm]; exact hv)

theorem evtEnaWrite_acts (h : s.Reaches src (ofsOf p 0x18)) : ∃ t, exec (.evtEnaWrite src p v) s = .next t
    ∧ (∀ b < 32, (t.hdr p).ena.getLsbD b = (v.getLsbD b && (eventMask p).getLsbD b)) ∧ (t.hdr p).stat = (s.hdr p).stat
    ∧ ((∃ b < 32, (s.hdr p).stat.getLsbD b = true ∧ (t.hdr p).ena.getLsbD b = true ∧ (s.hdr p).ena.getLsbD b = false) → (s.vmapOf p).2 = true →
        (if (s.vmapOf p).1 < 2 then 2 else (s.vmapOf p).1) ∈ t.mfn.now)
    ∧ (∀ q, q ≠ p → q ≠ pgFPORT 0 → t.hdr q = s.hdr q) ∧ Only regPath s t := by
  obtain ⟨a, ha, hx⟩ := header_served (c := .evtEnaWrite src p v) (v := v) hf (by decide) (by decide) h rfl
  have hw : (s.pathTaken src).writeHeader p 0x18 v = (s.pathTaken src).evtEnable p v := rfl
  rw [hw] at hx
  have hp : (s.keeping {} (((s.pathTaken src).evtEnable p v).mgmtReply a 0#32)).hdr p = { s.hdr p with ena := v &&& eventMask p } := by
    rw [answered_hdr _ ha hq, evtEnable_hdr, State.enabling, hdr_updHdr, if_pos rfl, hdr_pathTaken]
  refine ⟨_, hx, fun b hb => ?_, ?_, ?_, fun q hne h0 => ?_, (only_served (src := src) (only_evtEnable (s.pathTaken src))).mono (by decide)⟩
  · rw [hp]
    exact BitVec.getLsbD_and
  · rw [hp]
  · rintro ⟨b, -, hst, hen, hoff⟩ hv
    rw [hp] at hen
    exact mgmtReply_now _ _ _ (evtEnable_cause (u := s.pathTaken src) hst hen hoff hv)
  · rw [answered_hdr _ ha (Or.inr h0), evtEnable_hdr, State.enabling, hdr_updHdr, if_neg hne, hdr_pathTaken]

/-! ### EVT_FORCE (R892) -/

omit hf hq in
theorem bit32_getLsbD {b c : Nat} (hc : c < 32) : (bit32 b).getLsbD c = decide (c = b) := by
  rw [bit32, BitVec.getLsbD_ofNat, Nat.testBit_two_pow]
  simp [hc, eq_comm]

omit hf hq in
/-- The bits of a page after events for some bits of a word. -/
theorem forced_stat (w : Word32) (l : List Nat) (u : State) {b : Nat} (hb : b < 32) :
    ((forEach l (fun b s => if bitOf w b then s.setEvt p b else s) u).hdr p).stat.getLsbD b
      = ((u.hdr p).stat.getLsbD b || (decide (b ∈ l) && w.getLsbD b)) := by
  induction l generalizing u with
  | nil => simp [forEach]
  | cons c l ih =>
    show ((forEach l _ (if bitOf w c then u.setEvt p c else u)).hdr p).stat.getLsbD b = _
    rw [ih]
    by_cases hw : bitOf w c = true
    · rw [if_pos hw, hdr_setEvt, if_pos rfl]
      have hset : ((u.hdr p).set c u.frame.num).stat.getLsbD b = ((u.hdr p).stat.getLsbD b || decide (b = c)) := by
        simp [PageHdr.set, bit32_getLsbD hb]
      rw [hset]
      by_cases hbc : b = c
      · subst hbc
        simp [show w.getLsbD b = true from hw]
      · simp [hbc]
    · rw [if_neg hw]
      by_cases hbc : b = c
      · subst hbc
        simp [show w.getLsbD b = false from by simpa [bitOf] using hw]
      · simp [hbc]

omit hf hq in
theorem forced_other (w : Word32) (l : List Nat) (u : State) {q : Nat} (hne : q ≠ p) :
    (forEach l (fun b s => if bitOf w b then s.setEvt p b else s) u).hdr q = u.hdr q := by
  induction l generalizing u with
  | nil => rfl
  | cons c l ih =>
    refine (ih _).trans ?_
    show (if bitOf w c then u.setEvt p c else u).hdr q = _
    split
    · rw [hdr_setEvt, if_neg hne]
    · rfl

omit hf hq in
theorem only_evtForce (u : State) : Only [.hdrs, .mfn] u (u.evtForce p v) :=
  Only.forEach (fun s b => Only.ite (only_setEvt s p b) (Only.refl _ _)) _ _

theorem evtForce_acts (h : s.Reaches src (ofsOf p 0x1C)) : ∃ t, exec (.evtForce src p v) s = .next t
    ∧ (∀ b < 32, (t.hdr p).stat.getLsbD b = ((s.hdr p).stat.getLsbD b || (v.getLsbD b && (eventMask p).getLsbD b)))
    ∧ (∀ q, q ≠ p → q ≠ pgFPORT 0 → t.hdr q = s.hdr q) ∧ Only regPath s t := by
  obtain ⟨a, ha, hx⟩ := header_served (c := .evtForce src p v) (v := v) hf (by decide) (by decide) h rfl
  have hw : (s.pathTaken src).writeHeader p 0x1C v = (s.pathTaken src).evtForce p v := rfl
  rw [hw] at hx
  refine ⟨_, hx, fun b hb => ?_, fun q hne h0 => ?_, (only_served (src := src) (only_evtForce (s.pathTaken src))).mono (by decide)⟩
  · rw [answered_hdr _ ha hq, State.evtForce, forced_stat _ _ _ hb, hdr_pathTaken]
    simp [hb]
  · rw [answered_hdr _ ha (Or.inr h0), State.evtForce, forced_other _ _ _ hne, hdr_pathTaken]

end Header

/-! ### The vector map (R908, R915) -/

theorem vmapDataWrite_acts (h : s.Reaches src (ofsOf pgSYS 0x74)) : ∃ t, exec (.vmapDataWrite src v) s = .next t
    ∧ (let p := s.regF pgSYS 0x70 13 0
       ((pageFamily p).isSome = true → p ≠ pgFPORT 0 → t.hdr p = { s.hdr p with vmapNext := some (field v 10 0, bitOf v 15) } ∧ t.vmapOf p = s.vmapOf p)
       ∧ ((pageFamily p).isSome = false → ∀ q, q ≠ pgFPORT 0 → t.hdr q = s.hdr q))
    ∧ Only regPath s t := by
  obtain ⟨a, ha, hx⟩ := exec_row_access (c := .vmapDataWrite src v) (v := v) h (by decide) (by decide) rfl
  have hw : (s.pathTaken src).regWrite (ofsOf pgSYS 0x74) v = (s.pathTaken src).vmapWrite v := rfl
  rw [hw] at hx
  refine ⟨_, hx, ⟨fun hf h0 => ?_, fun hf q h0 => ?_⟩, (only_served (src := src) (l := [.hdrs]) ?_).mono (by decide)⟩
  · have hh : (s.keeping {} (((s.pathTaken src).vmapWrite v).mgmtReply a 0#32)).hdr (s.regF pgSYS 0x70 13 0)
        = { s.hdr (s.regF pgSYS 0x70 13 0) with vmapNext := some (field v 10 0, bitOf v 15) } := by
      rw [answered_hdr _ ha (Or.inr h0)]
      refine (congrArg (fun u : State => u.hdr _) (if_pos hf)).trans ?_
      rw [hdr_updHdr]
      exact if_pos rfl
    refine ⟨hh, ?_⟩
    unfold State.vmapOf
    rw [hh]
  · rw [answered_hdr _ ha (Or.inr h0)]
    refine (congrArg (fun u : State => u.hdr q) (if_neg ?_)).trans rfl
    exact Bool.not_eq_true _ |>.mpr hf
  · exact Only.ite (only_updHdr _ _ _) (Only.refl _ _)

/-! ### DAILY_SEL and CLOG.RD_SEQ (R882, R911) -/

theorem dailyStat_congr {t u : State} (hf : t.frame = u.frame) (hd : t.daily = u.daily) (n : Nat) : t.dailyStat n = u.dailyStat n := by
  unfold State.dailyStat State.dailyReel State.dailyOf
  rw [hf, hd]

theorem dailyReel_mod (s : State) (n : Nat) : s.dailyReel (n % 2 ^ 32) = s.dailyReel n := by
  unfold State.dailyReel
  rw [Nat.mod_mod]

theorem dailyReel_current {s : State} (h : reelOf s.frame.num < 2 ^ 32) : s.dailyReel (reelOf s.frame.num) = some (reelOf s.frame.num) := by
  unfold State.dailyReel
  rw [Nat.mod_eq_of_lt h]
  simp

theorem only_damageDaily (reel : Nat) (d : Bool) (s : State) : Only [.daily] s (s.damageDaily reel d) := by
  unfold State.damageDaily
  split
  · exact Only.ite (only_with_daily s _) (Only.refl _ _)
  · exact Only.refl _ _

theorem damageDaily_ring (reel : Nat) (d : Bool) (s : State) : (s.damageDaily reel d).daily.ring = s.daily.ring := by
  unfold State.damageDaily
  split
  · split <;> rfl
  · rfl

theorem mem_damageDaily_bad {reel r : Nat} {d : Bool} (h : s.dailyReel reel = some r) :
    r ∈ (s.damageDaily reel d).daily.bad ↔ d = true ∨ r ∈ s.daily.bad := by
  unfold State.damageDaily
  rw [h]
  dsimp only
  cases d with
  | true => simp [mem_addOnce]
  | false => simp

/-- DAILY_STAT of a selection, where the record may be damaged as it is selected. -/
theorem dailyStat_damaged {reel : Nat} {d : Bool} (s : State) :
    (reel = reelOf s.frame.num → reel < 2 ^ 32 → (s.damageDaily reel d).dailyStat (reel % 2 ^ 32) = 2)
    ∧ (∀ r b, s.dailyReel (reel % 2 ^ 32) = some r → r ≠ reelOf s.frame.num → s.dailyOf r = some b →
        (s.damageDaily reel d).dailyStat (reel % 2 ^ 32) = if d = true ∨ r ∈ s.daily.bad then 3 else 0)
    ∧ (∀ r, s.dailyReel (reel % 2 ^ 32) = some r → r ≠ reelOf s.frame.num → s.dailyOf r = none → (s.damageDaily reel d).dailyStat (reel % 2 ^ 32) = 1)
    ∧ (s.dailyReel (reel % 2 ^ 32) = none → (s.damageDaily reel d).dailyStat (reel % 2 ^ 32) = 2) := by
  have hfr : (s.damageDaily reel d).frame = s.frame := only_damageDaily reel d s .frame (by decide)
  have hr : ∀ n, (s.damageDaily reel d).dailyReel n = s.dailyReel n := fun n => by unfold State.dailyReel; rw [hfr]
  have ho : ∀ r, (s.damageDaily reel d).dailyOf r = s.dailyOf r := fun r => by unfold State.dailyOf; rw [damageDaily_ring]
  unfold State.dailyStat
  rw [hr, hfr]
  refine ⟨fun he hl => ?_, fun r b h hne hb => ?_, fun r h hne hb => ?_, fun h => ?_⟩
  · subst he
    rw [dailyReel_mod, dailyReel_current hl]
    simp
  · have hm := mem_damageDaily_bad (d := d) (dailyReel_mod s reel ▸ h)
    rw [h]
    simp [hne, ho, hb, hm]
  · rw [h]
    simp [hne, ho, hb]
  · rw [h]

theorem dailySelWrite_acts (reel : Nat) (d : Bool) (h : s.Reaches src (ofsOf pgSYS 0x90)) : ∃ t, exec (.dailySelWrite src reel d) s = .next t
    ∧ t.daily.sel = reel % 2 ^ 32 ∧ t.daily.stat = (s.damageDaily reel d).dailyStat (reel % 2 ^ 32) ∧ Only regPath s t := by
  have ho := only_damageDaily reel d s
  have hr : (s.damageDaily reel d).Reaches src (ofsOf pgSYS 0x90) := by
    obtain ⟨h1, h2, h3, h4⟩ := h
    have hm : (s.damageDaily reel d).mgmt = s.mgmt := ho .mgmt (by decide)
    have hs : (s.damageDaily reel d).sys = s.sys := ho .sys (by decide)
    have hf : (s.damageDaily reel d).mfn = s.mfn := ho .mfn (by decide)
    have hp : (s.damageDaily reel d).hports = s.hports := ho .hports (by decide)
    unfold State.Reaches State.mgmtIdle State.windowUp State.mgmtUp State.hport at *
    rw [hm, hs, hf, hp]
    exact ⟨h1, h2, h3, h4⟩
  obtain ⟨a, -, -, he⟩ := rowWrite_access hr (by decide) (by decide) (BitVec.ofNat 32 reel)
  have hw : ((s.damageDaily reel d).pathTaken src).regWrite (ofsOf pgSYS 0x90) (BitVec.ofNat 32 reel)
      = (((s.damageDaily reel d).pathTaken src).dropCaptures (ofsOf pgSYS 0x90)).dailySel (BitVec.ofNat 32 reel).toNat := rfl
  rw [hw] at he
  obtain ⟨hsel, hstat, -, -⟩ := dailyKept_mgmtReply
    ((((s.damageDaily reel d).pathTaken src).dropCaptures (ofsOf pgSYS 0x90)).dailySel (BitVec.ofNat 32 reel).toNat) a 0#32
  have hd := only_dropCaptures ((s.damageDaily reel d).pathTaken src) (ofsOf pgSYS 0x90)
  refine ⟨_, exec_done rfl he, hsel.trans ?_, hstat.trans ?_, Only.keeping_any ?_ nofun⟩
  · show (BitVec.ofNat 32 reel).toNat % 2 ^ 32 = _
    rw [BitVec.toNat_ofNat, Nat.mod_mod]
  · show (((s.damageDaily reel d).pathTaken src).dropCaptures (ofsOf pgSYS 0x90)).dailyStat (BitVec.ofNat 32 reel).toNat = _
    rw [BitVec.toNat_ofNat]
    exact dailyStat_congr (hd .frame (by decide)) (hd .daily (by decide)) _
  · have hpath : Only regPath (s.damageDaily reel d) ((s.damageDaily reel d).pathTaken src) :=
      (only_onPath src (s.damageDaily reel d)).mono (by decide)
    exact (ho.mono (by decide)).trans (hpath.trans ((hd.mono (by decide)).trans (((only_with_daily _ _).mono (by decide)).trans ((only_mgmtReply _ _ _).mono (by decide)))))

theorem rdSeqWrite_acts (seq : Nat) (h : s.Reaches src (ofsOf pgCLOG 0x4C)) : ∃ t, exec (.rdSeqWrite src seq) s = .next t
    ∧ t.log = { s.log with rdSeq := seq % 2 ^ 32 } ∧ Only (.log :: regPath) s t := by
  obtain ⟨a, ha⟩ := exec_row_served (c := .rdSeqWrite src seq) (v := BitVec.ofNat 32 seq) h (by decide) (by decide) rfl
  have hw : (s.pathTaken src).regWrite (ofsOf pgCLOG 0x4C) (BitVec.ofNat 32 seq)
      = ((s.pathTaken src).dropCaptures (ofsOf pgCLOG 0x4C)).rdSeqWrite (BitVec.ofNat 32 seq).toNat := rfl
  rw [hw] at ha
  refine ⟨_, ha, ?_, (only_served (src := src) (l := [.mgmt, .log]) ?_).mono (by decide)⟩
  · rw [keeping_log, mgmtReply_log, State.rdSeqWrite, BitVec.toNat_ofNat]
    rfl
  · exact ((only_dropCaptures _ _).mono (by decide)).trans ((only_with_log _ _).mono (by decide))

/-- Settles O36: the three header registers by what each does to one header; the rest by one lemma each. -/
theorem eventRegistersAct : Obligations.EventRegistersAct := by
  refine ⟨fun src p v s hf hq => ⟨evtStatClear_acts hf hq, evtEnaWrite_acts hf hq, evtForce_acts hf hq⟩, fun _ _ _ => vmapDataWrite_acts,
    fun src reel d s h => ?_, fun _ seq _ => rdSeqWrite_acts seq⟩
  obtain ⟨t, ht, hsel, hstat, ho⟩ := dailySelWrite_acts reel d h
  obtain ⟨h1, h2, h3, h4⟩ := dailyStat_damaged (reel := reel) (d := d) s
  rw [← hstat] at h1 h2 h3 h4
  exact ⟨t, ht, hsel, h1, h2, h3, h4, ho⟩

end Sys2Proof.Machine
end

section
/-!
PROOFS. Faults of the device: FATAL events, readings of the sensors, the log's own faults and the escrow's.
-/

namespace Sys2Proof.Machine

open Sys2Proof

variable {s : State}

/-! ### FATAL events (R875, R944) -/

/-- A meaning that is one FATAL entry is answered as one. -/
theorem fatal_answer {c : Instr} {ev : Nat} {v : List Nat} (hc : exec c s = done s (s.logE ev 5 none pgSYS 0 v)) :
    ∃ t, exec c s = .next t ∧ s.GoesFatal ev v t ∧ Only [.log, .hdrs, .mfn, .ctrs] s t :=
  ⟨_, hc, (logE_fatal s ev v).kept _ _, Only.keeping_any (only_logE s _ _ _ _ _ _) nofun⟩

/-- A trial boot that the watchdog ends. -/
def State.trialOver (s : State) : State := if s.fw.trial then { s with fw := { s.fw with trialEnded := true } } else s

theorem only_trialOver (s : State) : Only [.fw] s s.trialOver := Only.ite (only_with_fw s _) (Only.refl _ _)

theorem trialOver_fw (s : State) : s.trialOver.fw = if s.fw.trial = true then { s.fw with trialEnded := true } else s.fw := by
  unfold State.trialOver
  split <;> rfl

theorem mgmtWatchdog_acts (s : State) : ∃ t, exec .mgmtWatchdog s = .next t ∧ s.GoesFatal 0x1003 [] t
    ∧ t.fw = (if s.fw.trial = true then { s.fw with trialEnded := true } else s.fw) ∧ Only [.fw, .log, .hdrs, .mfn, .ctrs] s t := by
  have ho := only_trialOver s
  have hfr : s.trialOver.frame = s.frame := ho .frame (by decide)
  have hlog : s.trialOver.log = s.log := ho .log (by decide)
  have hf : s.GoesFatal 0x1003 [] (s.trialOver.logE 0x1003 5 none pgSYS 0 []) := (logE_fatal s.trialOver 0x1003 []).from_log hlog.symm (by rw [hfr])
  refine ⟨s.keeping { fw := true } (s.trialOver.logE 0x1003 5 none pgSYS 0 []), rfl, hf.kept _ _, ?_, Only.keeping_any ?_ nofun⟩
  · exact (logE_fw s.trialOver 0x1003 5 none pgSYS 0 []).trans (trialOver_fw s)
  · exact (ho.mono (by decide)).trans ((only_logE _ _ _ _ _ _ _).mono (by decide))

/-! ### Readings of the sensors (R944 to R948) -/

theorem tEmerg_le (s : State) : s.tEmerg ≤ 105 := Nat.min_le_left _ _

theorem pins_power (s : State) : s.pins.power = s.power := only_pins s .power (by decide)
theorem pins_hdr (s : State) (p : Nat) : s.pins.hdr p = s.hdr p := by
  have h : s.pins.hdrs = s.hdrs := only_pins s .hdrs (by decide)
  unfold State.hdr
  rw [h]

section Readings

variable {sensor deg : Nat} (hs : sensor < 8)
include hs

theorem thermalTrip_acts (hd : 110 ≤ deg) (hst : s.power.stopped = false) : ∃ t, exec (.thermalTrip sensor deg) s = .next t
    ∧ s.GoesFatal 0x1005 [sensor] t ∧ t.power.stopped = true ∧ (∀ d ∈ diesOf sensor, d ∈ t.power.emerg)
    ∧ Only [.power, .log, .hdrs, .mfn, .ctrs, .sys, .out] s t := by
  obtain ⟨x, -, hxs, hr⟩ := reading_split s deg hs
  have he : s.tEmerg ≤ deg := (tEmerg_le s).trans (by omega)
  rw [if_pos hd, if_pos he] at hr
  generalize hu : (({ s with power := x } : State).emergency sensor) = u at hr
  have ho : Only [.power, .hdrs, .mfn] s u := by
    rw [← hu]
    exact ((only_with_power s x).mono (by decide)).trans (only_emergency _ _)
  have hlog : u.log = s.log := ho .log (by decide)
  have hfr : u.frame = s.frame := ho .frame (by decide)
  obtain ⟨l, hl⟩ := emergency_power ({ s with power := x } : State) sensor
  have hdies : ∀ d ∈ diesOf sensor, d ∈ u.power.emerg := fun d h => hu ▸ emergency_dies _ sensor d h
  obtain ⟨hf, hp⟩ := thermTrip_trips (s := u) (i := sensor) (by rw [← hu, hl]; exact hxs.trans hst)
  have hpow : (u.thermTrip sensor).pins.power = { u.power with stopped := true } := (pins_power _).trans hp
  refine ⟨_, exec_done rfl ((if_pos hd).trans hr), ?_, ?_, fun d h => ?_, Only.keeping_any (hr ▸ only_reading s sensor deg) nofun⟩
  · exact (hf.of hlog.symm (by rw [hfr]) (only_pins _ .log (by decide)) (BitsKept.of_only (only_pins _) (by decide))).kept _ _
  · rw [keeping_power, hpow]
  · rw [keeping_power, hpow]
    exact hdies d h

theorem thermEmergency_acts (he : s.tEmerg ≤ deg) (hd : deg < 110) : ∃ t, exec (.thermEmergency sensor deg) s = .next t
    ∧ (∀ d ∈ diesOf sensor, d ∈ t.power.emerg) ∧ (t.hdr (pgPRESS 0)).stat.getLsbD 11 = true ∧ t.power.temp = listSet sensor deg s.power.temp
    ∧ (s.power.temp.length = 8 → t.sys.alertPin = true) ∧ t.power.stopped = s.power.stopped ∧ Only [.power, .hdrs, .mfn, .sys, .out] s t := by
  obtain ⟨x, hxt, hxs, hr⟩ := reading_split s deg hs
  rw [if_neg (by omega), if_pos he] at hr
  have ho : Only [.power, .hdrs, .mfn] s (({ s with power := x } : State).emergency sensor) :=
    ((only_with_power s x).mono (by decide)).trans (only_emergency _ _)
  have htemerg : (({ s with power := x } : State).emergency sensor).tEmerg = s.tEmerg := by
    have h : (({ s with power := x } : State).emergency sensor).regs = s.regs := ho .regs (by decide)
    unfold State.tEmerg State.regF State.reg
    rw [h]
  obtain ⟨l, hl⟩ := emergency_power ({ s with power := x } : State) sensor
  have hpow : (({ s with power := x } : State).emergency sensor).pins.power = { x with emerg := l } := (pins_power _).trans hl
  refine ⟨_, exec_done rfl ((if_pos he).trans hr), fun d h => ?_, ?_, ?_, fun h8 => ?_, ?_, Only.keeping_any ?_ nofun⟩
  · rw [keeping_power, pins_power]
    exact emergency_dies _ sensor d h
  · rw [keeping_hdr, pins_hdr]
    exact setEvt_sets _ _ (by decide)
  · rw [keeping_power, hpow]
    exact hxt
  · have hal : (({ s with power := x } : State).emergency sensor).pins.sys.alertPin = true := by
      rw [(pins_follow _).2, htemerg, hl, Bool.or_eq_true]
      exact Or.inr (List.any_eq_true.mpr ⟨deg, by rw [show ({ x with emerg := l } : PowerS).temp = x.temp from rfl, hxt]; exact mem_listSet _ _ _ (by omega), decide_eq_true he⟩)
    exact hal
  · rw [keeping_power, hpow]
    exact hxs
  · exact (ho.mono (by decide)).trans ((only_pins _).mono (by decide))

theorem sensorFault_acts (h8 : s.power.silent.getD sensor 0 = 8) : ∃ t, exec (.sensorFault sensor) s = .next t
    ∧ s.Records 0x1102 0 none (pgPRESS 0) 0 [sensor] t ∧ (∀ d ∈ diesOf sensor, d ∈ t.power.emerg) ∧ (t.hdr (pgPRESS 0)).stat.getLsbD 11 = true
    ∧ Only [.power, .log, .hdrs, .mfn, .ctrs] s t := by
  have ho := only_emergency s sensor
  have hfr : (s.emergency sensor).frame = s.frame := ho .frame (by decide)
  have hlog : (s.emergency sensor).log = s.log := ho .log (by decide)
  refine ⟨_, exec_done rfl (if_pos ⟨hs, h8⟩), ?_, fun d h => ?_, ?_, Only.keeping_any ?_ nofun⟩
  · exact ((logE_records (s.emergency sensor) _ _ _ _ _ _).from_log hlog.symm (by rw [hfr])).kept _ _
  · rw [keeping_power, logE_power]
    exact emergency_dies s sensor d h
  · exact bitsKept_logE _ _ _ _ _ _ _ _ _ (setEvt_sets _ _ (by decide))
  · exact (ho.mono (by decide)).trans ((only_logE _ _ _ _ _ _ _).mono (by decide))

end Readings

/-! ### The log's own faults (R870, R883) -/

theorem logOverflow_acts (hd : s.log.dropped ≠ 0) (hr : logRoom s.log.onchip 0 = true) : ∃ t, exec .logOverflow s = .next t
    ∧ t.log.dropped = 0 ∧ t.log.onchip = s.log.onchip ++ [s.entryNow 0x1010 0 none pgCLOG 0 (x2 s.log.dropped)] ∧ Only [.log, .hdrs, .mfn, .ctrs] s t := by
  have hrec := logE_records ({ s with log := { s.log with dropped := 0 } } : State) 0x1010 0 none pgCLOG 0 (x2 s.log.dropped)
  obtain ⟨hon, hdrop⟩ := (hrec.2 (Or.inl rfl)).1 hr
  exact ⟨_, exec_done rfl (if_neg (by simp [hd, hr])), hdrop, hon,
    Only.keeping_any (((only_with_log s _).mono (by decide)).trans (only_logE _ _ _ _ _ _ _)) nofun⟩

theorem logRingUe_answers {first n : Nat} (h : ∃ e ∈ s.log.ring ++ s.log.onchip, first ≤ e.seq ∧ e.seq < first + n) :
    ∃ t, exec (.logRingUe first n) s = .next t
      ∧ (∀ e, e ∈ t.log.ring ↔ e ∈ s.log.ring ∧ ¬ (first ≤ e.seq ∧ e.seq < first + n))
      ∧ (∀ e ∈ s.log.ring ++ s.log.onchip, first ≤ e.seq ∧ e.seq < first + n → e.seq ∈ t.log.damaged)
      ∧ (t.hdr pgCLOG).stat.getLsbD 3 = true ∧ Only [.log, .hdrs, .mfn, .ctrs] s t := by
  obtain ⟨hring, hdam, hbit, ho⟩ := logRingUe_acts s h
  exact ⟨_, rfl, hring, hdam, hbit, Only.keeping_any ho nofun⟩

/-! ### The escrow (R833) -/

section Escrow

variable {p ix : Nat}

theorem escrowUe_response {o : Output} (h : (s.hport p).respQ[ix]? = some o) : ∃ t, exec (.escrowUe 0 p ix) s = .next t
    ∧ t.hport p = { s.hport p with respQ := listSet ix (poisonResp o) (s.hport p).respQ } ∧ (∀ q, q ≠ p → t.hport q = s.hport q)
    ∧ Only [.hports, .ctrs] s t := by
  have hs : ∃ u : State, Only [.ctrs] s u ∧ s.escrowUe 0 p ix = u.updPort p fun h => { h with respQ := listSet ix (poisonResp o) h.respQ } := by
    unfold State.escrowUe
    rw [if_pos rfl, h]
    dsimp only
    split
    · exact ⟨_, only_bump s _ _ _, rfl⟩
    · exact ⟨_, Only.refl _ _, rfl⟩
  obtain ⟨u, hu, hs⟩ := hs
  have hp : ∀ q, u.hport q = s.hport q := fun q => by
    have h : u.hports = s.hports := hu .hports (by decide)
    unfold State.hport
    rw [h]
  refine ⟨_, exec_done rfl hs, ?_, fun q hq => ?_, Only.keeping_any ((hu.mono (by decide)).trans ((only_updPort _ _ _).mono (by decide))) nofun⟩
  · rw [keeping_hport, hport_updPort_same, hp]
  · rw [keeping_hport, hport_updPort_other _ _ hq, hp]

/-- A page with a write-back that waits marked as poison. -/
def PageRec.poisonHeld (w : LineWrite) (r : PageRec) : PageRec := { r with held := r.held.map fun x => if x = w then { x with poison := true } else x }

/-- The tenant whose host a write is of. -/
def LineWrite.hostTenant (w : LineWrite) : Option Nat := match w.who with | .host r => some r.tenant | _ => none

theorem escrowUe_writeback {page : Nat} {w : LineWrite} (h : (s.sinkWrites p)[ix]? = some (page, w)) : ∃ t, exec (.escrowUe 1 p ix) s = .next t
    ∧ t.page page = (s.page page).poisonHeld w ∧ (∀ q, q ≠ page → t.page q = s.page q)
    ∧ s.Records 0x0F01 3 w.hostTenant (pgHPORT p) (64 * w.line) [1] t
    ∧ Only [.tier, .log, .hdrs, .mfn, .ctrs] s t := by
  have hs : s.escrowUe 1 p ix = (s.updPage page (PageRec.poisonHeld w)).logE 0x0F01 3 w.hostTenant (pgHPORT p) (64 * w.line) [1] := by
    unfold State.escrowUe
    rw [if_neg (by decide), if_pos rfl, h]
    rfl
  refine ⟨_, exec_done rfl hs, ?_, fun q hq => ?_, ?_, Only.keeping_any ?_ nofun⟩
  · rw [keeping_page, logE_page, page_updPage_same]
  · rw [keeping_page, logE_page, page_updPage_other _ _ hq]
  · exact ((logE_records (s.updPage page (PageRec.poisonHeld w)) _ _ _ _ _ _).from_log rfl rfl).kept _ _
  · exact ((only_updPage s _ _).mono (by decide)).trans ((only_logE _ _ _ _ _ _ _).mono (by decide))

theorem escrowUe_staging {page : Nat} (h : ∀ r ∈ s.shelf.reads, r.page ≠ page) : ∃ t, exec (.escrowUe 3 p page) s = .next t
    ∧ (∀ w ∈ t.lanes.waiting, w.page = page → w.kind = .fetched → w.ue = true) ∧ Only [.lanes] s t := by
  have hn : s.shelf.reads.find? (fun r => r.page == page) = none := by
    rw [List.find?_eq_none]
    exact fun r hr => by simpa using h r hr
  have hs : ∃ x : LanesS, (∀ w ∈ x.waiting, w.page = page → w.kind = .fetched → w.ue = true) ∧ s.escrowUe 3 p page = { s with lanes := x } := by
    unfold State.escrowUe State.stagingUe
    rw [if_neg (by decide), if_neg (by decide), if_pos rfl, hn]
    refine ⟨_, fun w hw hp hk => ?_, rfl⟩
    obtain ⟨w', -, rfl⟩ := List.mem_map.mp hw
    by_cases hc : w'.page = page ∧ w'.kind = .fetched
    · rw [if_pos hc]
    · rw [if_neg hc] at hp hk
      exact absurd ⟨hp, hk⟩ hc
  obtain ⟨x, hx, hs⟩ := hs
  exact ⟨_, exec_done rfl hs, hx, Only.keeping_any (only_with_lanes s x) nofun⟩

end Escrow

/-- Settles O37: the FATAL events through the entry they decide, the rest by one lemma for each fault. -/
theorem deviceFaultsAreLogged : Obligations.DeviceFaultsAreLogged := by
  refine ⟨fun _ _ => fatal_answer rfl, fun die s hd => fatal_answer (congrArg (done s) (if_pos hd)), mgmtWatchdog_acts,
    fun rail s hr hl => fatal_answer (congrArg (done s) (if_neg (by simp [hl]; omega))), fun _ _ _ => thermalTrip_acts, fun _ _ _ => thermEmergency_acts,
    fun _ _ => sensorFault_acts, fun _ => logOverflow_acts, fun _ _ _ => logRingUe_answers, fun _ _ _ _ => escrowUe_response, fun p ix page w s h => ?_,
    fun _ _ _ => escrowUe_staging⟩
  obtain ⟨t, ht, hp, hrest⟩ := escrowUe_writeback h
  exact ⟨t, ht, congrArg PageRec.held hp, hrest⟩

end Sys2Proof.Machine
end

section
/-!
PROOFS. Requests for a power state, and the end of a wake.
-/

namespace Sys2Proof.Machine

open Sys2Proof

variable {s : State} {src : MgmtSrc} {aw : Bool}

/-! ### The register of the request -/

theorem fieldsAt_pwrReq : fieldsAt (ofsOf (pgPRESS 0) 0x100) =
    [⟨0x14, 0, 0, 0x100, 1, 0, 0, [], false⟩, ⟨0x14, 0, 0, 0x100, 4, 4, 1, [], false⟩] := by decide

/-- A write of PWR_REQ keeps AUTO_WAKE as written. -/
theorem regMerge_autoWake (l : Bool) (w v : Word32) : bitOf (regMerge (fieldsAt (ofsOf (pgPRESS 0) 0x100)) l w v) 4 = bitOf v 4 := by
  rw [fieldsAt_pwrReq]
  simp [regMerge, RegField.ok, RegField.mask, bitOf, place]

theorem pwrWord_fields {k : Nat} (hk : k < 4) (aw : Bool) : field (pwrWord k aw) 1 0 = k ∧ bitOf (pwrWord k aw) 4 = aw := by
  interval_cases k <;> cases aw <;> decide

/-- What the path and the register have taken of a request, before it acts. -/
def State.pwrTaken (src : MgmtSrc) (k : Nat) (aw : Bool) (s : State) : State :=
  (s.pathTaken src).writePlain (ofsOf (pgPRESS 0) 0x100) (pwrWord k aw)

theorem only_pwrTaken (src : MgmtSrc) (k : Nat) (aw : Bool) (s : State) : Only [.regs, .hdrs, .mfn, .ctrs] (s.pathTaken src) (s.pwrTaken src k aw) :=
  only_writePlain _ _ _

theorem pwrTaken_autoWake {k : Nat} (hk : k < 4) : bitOf ((s.pwrTaken src k aw).reg (ofsOf (pgPRESS 0) 0x100)) 4 = aw := by
  have ht : pageTenant (ofsOf (pgPRESS 0) 0x100 / 4096) = none := by decide
  have hf : (fieldsAt (ofsOf (pgPRESS 0) 0x100)).isEmpty = false := by rw [fieldsAt_pwrReq]; rfl
  unfold State.pwrTaken State.writePlain
  dsimp only
  rw [ht, if_neg (by simp [hf]), if_neg (by simp), reg_setReg_same, regMerge_autoWake]
  exact (pwrWord_fields hk aw).2

theorem regWrite_pwrReq {k : Nat} (hk : k < 4) : (s.pathTaken src).regWrite (ofsOf (pgPRESS 0) 0x100) (pwrWord k aw) = (s.pwrTaken src k aw).pwrRequest k := by
  rw [regWrite_press (by decide) (by decide) (by decide)]
  show (s.pwrTaken src k aw).pwrRequest (field (pwrWord k aw) 1 0) = _
  rw [(pwrWord_fields hk aw).1]

section Taken

variable (src aw) (k : Nat) (s)

@[simp] theorem pwrTaken_power : (s.pwrTaken src k aw).power = s.power := only_pwrTaken src k aw s .power (by decide)
@[simp] theorem pwrTaken_frame : (s.pwrTaken src k aw).frame = s.frame := only_pwrTaken src k aw s .frame (by decide)
@[simp] theorem pwrTaken_slate : (s.pwrTaken src k aw).slate = s.slate := only_pwrTaken src k aw s .slate (by decide)
@[simp] theorem pwrTaken_shelf : (s.pwrTaken src k aw).shelf = s.shelf := only_pwrTaken src k aw s .shelf (by decide)
@[simp] theorem pwrTaken_pats : (s.pwrTaken src k aw).pats = s.pats := only_pwrTaken src k aw s .pats (by decide)

end Taken

theorem pwrRow_served {c : Instr} {k : Nat} (hk : k < 4) (h : s.Reaches src (ofsOf (pgPRESS 0) 0x100))
    (hc : exec c s = done s (s.rowWrite src (ofsOf (pgPRESS 0) 0x100) (pwrWord k aw))) :
    ∃ a, exec c s = .next (s.keeping {} (((s.pwrTaken src k aw).pwrRequest k).mgmtReply a 0#32)) := by
  obtain ⟨a, ha⟩ := exec_row_served h (ofsOf_word (by decide)) (family_press (by decide) (by decide)) hc
  exact ⟨a, regWrite_pwrReq hk ▸ ha⟩

/-- The parts of an answer to a request that writes those of a list. -/
theorem only_pwrServed {k : Nat} {l : List Part} {u : State} (a : MgmtAcc) (h : Only (.regs :: .hdrs :: .mfn :: .ctrs :: l) (s.pwrTaken src k aw) u) :
    Only ((.regs :: .hdrs :: .mfn :: .ctrs :: l) ++ regPath) s (s.keeping {} (u.mgmtReply a 0#32)) :=
  only_served (src := src) (Only.trans (fun p hp => only_pwrTaken src k aw s p fun hm => hp (by
    simp only [List.mem_cons, List.not_mem_nil, or_false] at hm ⊢
    tauto)) h)

/-! ### RUN (R942) -/

theorem only_beginWake (s : State) : Only [.power] s s.beginWake := Only.ite (only_with_power s _) (only_with_power s _)

theorem pwrRun_power (u : State) :
    u.pwrRun.power.want = (if u.power.st = 3 then some 0 else none) ∧ u.pwrRun.power.offWait = [] ∧ u.pwrRun.power.rej = 0 ∧ u.pwrRun.power.st = u.power.st
    ∧ u.pwrRun.power.wake = (if u.gated = true ∧ u.baseState ≤ 2 then u.power.wake.orElse (fun _ => some u.frame.num) else u.power.wake) := by
  have hg : (u.gated = true ∧ u.baseState ≤ 2) ↔ (u.baseState = 1 ∨ u.baseState = 2) := by
    have h : u.gated = (u.baseState != 0) := rfl
    rw [h, bne_iff_ne]
    omega
  have hw : ¬ ((if u.power.st = 3 then some 0 else none : Option Nat) = some 1 ∨ (if u.power.st = 3 then some 0 else none : Option Nat) = some 2) := by
    split <;> simp
  unfold State.pwrRun State.beginWake
  dsimp only
  rw [if_neg hw]
  rw [if_congr hg rfl rfl]
  unfold State.baseState
  generalize (if u.power.st = 3 then u.power.before else u.power.st) = g
  by_cases hb : g = 1 ∨ g = 2
  · simp only [if_pos hb, and_self]
  · simp only [if_neg hb, and_self]

theorem pwrReqRun_acts (h : s.Reaches src (ofsOf (pgPRESS 0) 0x100)) : ∃ t, exec (.pwrReqRun src aw) s = .next t
    ∧ t.power.want = (if s.power.st = 3 then some 0 else none) ∧ t.power.offWait = [] ∧ t.power.rej = 0 ∧ t.power.st = s.power.st
    ∧ t.power.wake = (if s.gated = true ∧ s.baseState ≤ 2 then s.power.wake.orElse (fun _ => some s.frame.num) else s.power.wake)
    ∧ bitOf (t.reg (ofsOf (pgPRESS 0) 0x100)) 4 = aw ∧ Only (.power :: .regs :: regPath) s t := by
  obtain ⟨a, ha⟩ := pwrRow_served (c := .pwrReqRun src aw) (k := 0) (by decide) h rfl
  have hp := pwrRun_power (s.pwrTaken src 0 aw)
  have hgated : (s.pwrTaken src 0 aw).gated = s.gated := by unfold State.gated; rw [pwrTaken_power]
  have hbase : (s.pwrTaken src 0 aw).baseState = s.baseState := by unfold State.baseState; rw [pwrTaken_power]
  rw [hgated, hbase, pwrTaken_power, pwrTaken_frame] at hp
  obtain ⟨hwant, hoff, hrej, hst, hwake⟩ := hp
  have ho : Only [.power] (s.pwrTaken src 0 aw) (s.pwrTaken src 0 aw).pwrRun := (only_with_power _ _).trans (only_beginWake _)
  refine ⟨_, ha, ?_, ?_, ?_, ?_, ?_, ?_, (only_pwrServed (l := [.power]) a (ho.mono (by decide))).mono (by decide)⟩
  all_goals simp only [served_power, served_reg]
  · exact hwant
  · exact hoff
  · exact hrej
  · exact hst
  · exact hwake
  · exact (congrArg (bitOf · 4) (reg_of_regs (ho .regs (by decide)) _)).trans (pwrTaken_autoWake (by decide))

/-! ### TRIM and IDLE (R939 to R941) -/

theorem only_pwrGate (k : Nat) (u : State) : Only [.power, .hdrs, .mfn] u (u.pwrGate k) :=
  Only.ite (((only_with_power _ _).mono (by decide)).trans ((only_setEvt _ _ _).mono (by decide))) ((only_with_power _ _).mono (by decide))

theorem pressSealed_taken (k : Nat) : (s.pwrTaken src k aw).pressSealed = s.pressSealed := by
  unfold State.pressSealed
  rw [pwrTaken_slate]

theorem pwrReqGate_acts {k : Nat} (hk : k = 1 ∨ k = 2) (h : s.Reaches src (ofsOf (pgPRESS 0) 0x100)) :
    ∃ t, exec (if k = 1 then .pwrReqTrim src aw else .pwrReqIdle src aw) s = .next t
      ∧ (s.pressSealed = true → t.power = { s.power with rej := 1 } ∧ (t.hdr (pgPRESS 0)).stat.getLsbD 14 = true)
      ∧ (s.pressSealed = false → t.power = { s.power with want := if s.power.st = k then none else some k, rej := 0, wake := none, offWait := [] })
      ∧ bitOf (t.reg (ofsOf (pgPRESS 0) 0x100)) 4 = aw ∧ Only (.power :: .regs :: regPath) s t := by
  have hc : exec (if k = 1 then .pwrReqTrim src aw else .pwrReqIdle src aw) s = done s (s.rowWrite src (ofsOf (pgPRESS 0) 0x100) (pwrWord k aw)) := by
    rcases hk with rfl | rfl <;> rfl
  obtain ⟨a, ha⟩ := pwrRow_served (k := k) (by omega) h hc
  have hq : (s.pwrTaken src k aw).pwrRequest k = (s.pwrTaken src k aw).pwrGate k := (if_neg (by omega)).trans (if_neg (by omega))
  rw [hq] at ha
  have ho := only_pwrGate k (s.pwrTaken src k aw)
  have hseal := pressSealed_taken (src := src) (aw := aw) (s := s) k
  refine ⟨_, ha, fun hs => ⟨?_, served_bit a ?_⟩, fun hs => ?_, ?_, (only_pwrServed (l := [.power]) a (ho.mono (by decide))).mono (by decide)⟩
  · rw [served_power, State.pwrGate, if_pos (hseal.trans hs), State.pwrReject, setEvt_power, pwrTaken_power]
  · rw [State.pwrGate, if_pos (hseal.trans hs)]
    exact setEvt_sets _ _ (by decide)
  · rw [served_power, State.pwrGate, if_neg (by rw [hseal, hs]; decide), pwrTaken_power]
  · rw [served_reg]
    exact (congrArg (bitOf · 4) (reg_of_regs (ho .regs (by decide)) _)).trans (pwrTaken_autoWake (by omega))

/-! ### OFF (R943) -/

/-- The writes that OFF waits for. -/
def State.offWrites (s : State) : List Nat :=
  [1] ++ (if s.shelf.gib = 0 then [] else [2]) ++ (if s.pats.slots.any fun e => e.2.dirty.isSome then [3] else [])

theorem mem_offWrites (s : State) : 1 ∈ s.offWrites ∧ (2 ∈ s.offWrites ↔ s.shelf.gib ≠ 0) ∧ (3 ∈ s.offWrites ↔ ∃ e ∈ s.pats.slots, e.2.dirty.isSome = true) := by
  unfold State.offWrites
  rw [← List.any_eq_true]
  refine ⟨by simp, ?_, ?_⟩
  · by_cases hg : s.shelf.gib = 0
    · rw [if_pos hg]
      split <;> simp [hg]
    · rw [if_neg hg]
      simp [hg]
  · by_cases hd : (s.pats.slots.any fun e => e.2.dirty.isSome) = true
    · simp [hd]
    · rw [if_neg hd]
      split <;> simp [hd]

theorem only_with_power_shelf (x : PowerS) (y : ShelfS) (u : State) : Only [.power, .shelf] u { u with power := x, shelf := y } := by
  intro p hp
  cases p <;> first | exact absurd (by decide) hp | rfl

theorem pwrReqOff_acts (h : s.Reaches src (ofsOf (pgPRESS 0) 0x100)) : ∃ t, exec (.pwrReqOff src aw) s = .next t
    ∧ t.power.want = (if s.power.st = 3 then none else some 3) ∧ t.power.rej = 0
    ∧ 1 ∈ t.power.offWait ∧ t.press.swatch.now = true ∧ (2 ∈ t.power.offWait ↔ s.shelf.gib ≠ 0)
    ∧ (3 ∈ t.power.offWait ↔ ∃ e ∈ s.pats.slots, e.2.dirty.isSome = true)
    ∧ bitOf (t.reg (ofsOf (pgPRESS 0) 0x100)) 4 = aw ∧ Only (.power :: .regs :: .press :: .shelf :: regPath) s t := by
  obtain ⟨a, ha⟩ := pwrRow_served (c := .pwrReqOff src aw) (k := 3) (by decide) h rfl
  have ho : Only [.press, .power, .shelf] (s.pwrTaken src 3 aw) ((s.pwrTaken src 3 aw).pwrRequest 3) :=
    ((only_with_press _ _).mono (by decide)).trans ((only_with_power_shelf _ _ _).mono (by decide))
  have hp : ((s.pwrTaken src 3 aw).pwrRequest 3).power = { s.power with want := if s.power.st = 3 then none else some 3, offWait := s.offWrites, rej := 0 } := by
    have hw : (s.pwrTaken src 3 aw).offWrites = s.offWrites := by unfold State.offWrites; rw [pwrTaken_shelf, pwrTaken_pats]
    rw [← hw, ← pwrTaken_power s src aw 3]
    rfl
  obtain ⟨h1, h2, h3⟩ := mem_offWrites s
  refine ⟨_, ha, ?_, ?_, ?_, ?_, ?_, ?_, ?_, (only_pwrServed (l := [.press, .power, .shelf]) a (ho.mono (by decide))).mono (by decide)⟩
  · rw [served_power, hp]
  · rw [served_power, hp]
  · rw [served_power, hp]
    exact h1
  · rw [keeping_press, mgmtReply_press]
    rfl
  · rw [served_power, hp]
    exact h2
  · rw [served_power, hp]
    exact h3
  · rw [served_reg]
    exact (congrArg (bitOf · 4) (reg_of_regs (ho .regs (by decide)) _)).trans (pwrTaken_autoWake (by decide))

/-! ### The end of a wake (R942) -/

/-- The state at the end of a wake, before arrays are marked for calibration. -/
def State.awake (s : State) : State := { s with power := { s.power with wake := none, before := 0, st := if s.power.st = 3 then 3 else 0 } }

/-- Arrays that are due are marked for calibration. -/
def State.markDue (s : State) : State :=
  forEach (List.range 288) (fun p (s : State) => forEach (List.range 8) (fun a (s : State) =>
    if (List.range 4).any fun d => s.calDue p a d then s.updArr p a fun x => { x with pending := 2, calMask := 0 } else s) s) s

theorem only_markDue (s : State) : Only [.press] s s.markDue :=
  Only.forEach (fun s _ => Only.forEach (fun s _ => Only.ite (only_with_press s _) (Only.refl _ _)) _ s) _ s

theorem wakeComplete_eq {f : Nat} (hw : s.power.wake = some f) (hr : s.frame.num % 125 = 0) (hf : 2000 ≤ framesSince f s.frame.num) :
    s.wakeComplete = s.awake.markDue.setEvt (pgPRESS 0) 13 := by
  unfold State.wakeComplete
  simp only [hw]
  rw [if_neg (by simp [hr]; omega)]
  rfl

theorem exec_wakeComplete (s : State) : exec .wakeComplete s = done s s.wakeComplete := rfl

theorem wakeComplete_acts {f : Nat} (hw : s.power.wake = some f) (hr : s.frame.num % 125 = 0) (hf : 2000 ≤ framesSince f s.frame.num) :
    ∃ t, exec .wakeComplete s = .next t ∧ t.power = { s.power with wake := none, before := 0, st := if s.power.st = 3 then 3 else 0 }
      ∧ (t.hdr (pgPRESS 0)).stat.getLsbD 13 = true ∧ Only [.power, .press, .hdrs, .mfn] s t := by
  have hm := only_markDue s.awake
  have he := wakeComplete_eq hw hr hf
  generalize s.awake.markDue = u at hm he
  refine ⟨_, exec_done (exec_wakeComplete s) he, ?_, ?_, Only.keeping_any ?_ nofun⟩
  · rw [keeping_power, setEvt_power]
    exact hm .power (by decide)
  · rw [keeping_hdr]
    exact setEvt_sets u _ (by decide)
  · exact ((only_with_power s _).mono (by decide)).trans ((hm.mono (by decide)).trans ((only_setEvt _ _ _).mono (by decide)))

/-- Settles O38: the four requests through what the register takes of each, and the end of a wake. -/
theorem powerStatesAreRequested : Obligations.PowerStatesAreRequested :=
  ⟨fun _ _ _ => pwrReqRun_acts, fun _ _ _ _ hk => pwrReqGate_acts hk, fun _ _ _ => pwrReqOff_acts, fun _ _ => wakeComplete_acts⟩

end Sys2Proof.Machine
end

section
/-!
PROOFS. Units taken out of service and brought back, and the instructions of the test port.
-/

namespace Sys2Proof.Machine

open Sys2Proof

variable {s : State} {src : MgmtSrc} {k : UnitKind} {c i : Nat}

/-! ### The request register of a unit -/

theorem only_svcReject (cause : Nat) (k : UnitKind) (i : Nat) (s : State) : Only [.svcRej, .svcEvt, .mfn, .hdrs] s (s.svcReject cause k i) := by
  have h : Only [.svcRej, .svcEvt, .mfn, .hdrs] s (({ s with svcRej := cause } : State).setSvcEvt 6) :=
    ((only_with_svcRej s cause).mono (by decide)).trans ((only_setSvcEvt _ _).mono (by decide))
  exact Only.ite (h.trans ((only_setEvt _ _ _).mono (by decide))) h

theorem setSvcEvt_sets {b : Nat} (hb : b < 32) (s : State) : (s.setSvcEvt b).svcEvt.getLsbD b = true := by
  have h : (s.setSvcEvt b).svcEvt = s.svcEvt ||| bit32 b := by
    unfold State.setSvcEvt
    dsimp only
    split
    · exact only_pageCause _ _ .svcEvt (by decide)
    · rfl
  rw [h, BitVec.getLsbD_or, bit32_self hb, Bool.or_true]

theorem svcReject_rej (cause : Nat) (k : UnitKind) (i : Nat) (s : State) : (s.svcReject cause k i).svcRej = cause := by
  have h : (({ s with svcRej := cause } : State).setSvcEvt 6).svcRej = cause := only_setSvcEvt _ _ .svcRej (by decide)
  unfold State.svcReject
  dsimp only
  split
  · exact (setEvt_svcRej _ _ _).trans h
  · exact h

theorem svcReject_evt (cause : Nat) (k : UnitKind) (i : Nat) (s : State) : (s.svcReject cause k i).svcEvt.getLsbD 6 = true := by
  unfold State.svcReject
  dsimp only
  split
  · rw [setEvt_svcEvt]
    exact setSvcEvt_sets (by decide) _
  · exact setSvcEvt_sets (by decide) _

theorem unit_of_svc {t u : State} (h : t.svc = u.svc) (k : UnitKind) (i : Nat) : t.unit k i = u.unit k i := by unfold State.unit; rw [h]

theorem svcReject_unit (cause : Nat) (k j : UnitKind) (i n : Nat) (s : State) : (s.svcReject cause k i).unit j n = s.unit j n :=
  unit_of_svc (only_svcReject cause k i s .svc (by decide)) _ _

/-- The parts that a request for service writes. -/
theorem only_svcReq (k : UnitKind) (i r : Nat) (s : State) : Only [.svc, .svcRej, .svcEvt, .mfn, .hdrs] s (s.svcReq k i r) := by
  have hu : ∀ f, Only [.svc, .svcRej, .svcEvt, .mfn, .hdrs] s (s.updUnit k i f) := fun f => (only_updUnit s k i f).mono (by decide)
  have hr : ∀ n, Only [.svc, .svcRej, .svcEvt, .mfn, .hdrs] s (s.svcReject n k i) := fun n => (only_svcReject n k i s).mono (by decide)
  exact Only.ite (Only.ite (Only.refl _ _) (Only.ite (hr _) (hu _))) (Only.ite (Only.ite (Only.refl _ _) (Only.ite (hr _) (hu _))) (Only.refl _ _))

/-- The register of a unit's request names the unit: a page of its own, or the selected lane or engine. -/
def Selected (k : UnitKind) (i : Nat) (s : State) : Prop :=
  (k = .lane → s.regF pgPAT 0x100 5 0 = i) ∧ (k = .engine → s.regF pgSYS 0x300 4 0 = i)

theorem place_field {r : Nat} (hr : r < 4) : field (place r 2 0) 1 0 = r := by
  rw [field, place_toNat (by decide)]
  omega

theorem regWrite_svcReq (hi : i < k.count) (v : Word32) (u : State) (hs : Selected k i u) :
    u.regWrite (svcReqOfs k i) v = u.svcReq k i (field v 1 0) := by
  obtain ⟨hlane, hengine⟩ := hs
  cases k with
  | hport => exact (regWrite_hport hi (by decide) (by decide) _ u).trans rfl
  | fport => exact (regWrite_fport hi (by decide) (by decide) _ u).trans rfl
  | dram =>
    have hi : i < 16 := hi
    exact (regWrite_media (by omega) (by decide) (by decide) _ u).trans (if_pos hi)
  | shelf =>
    have hi : i < 32 := hi
    refine (regWrite_media (by omega) (by decide) (by decide) _ u).trans ((if_neg (by omega)).trans ((if_pos rfl).trans ?_))
    rw [Nat.add_sub_cancel_left]
  | lane => exact (regWrite_block (by decide) (by decide) (by decide) _ u).trans (congrArg (fun n => u.svcReq .lane n (field v 1 0)) (hlane rfl))
  | engine =>
    have h : u.regWrite (ofsOf pgSYS 0x308) v = u.svcReq .engine (u.regF pgSYS 0x300 4 0) (field v 1 0) := rfl
    exact h.trans (congrArg (fun n => u.svcReq .engine n (field v 1 0)) (hengine rfl))
  | press => exact (regWrite_press hi (by decide) (by decide) _ u).trans rfl

theorem svcReqOfs_word (k : UnitKind) (i : Nat) : svcReqOfs k i % 4 = 0 := by
  cases k <;> exact ofsOf_word (by decide)

theorem svcReqOfs_family (hi : i < k.count) : (pageFamily (svcReqOfs k i / 4096)).isSome = true := by
  cases k with
  | hport => exact family_hport hi (by decide)
  | fport => exact family_fport hi (by decide)
  | dram => exact family_media (Nat.lt_of_lt_of_le hi (by decide)) (by decide)
  | shelf =>
    have hi : i < 32 := hi
    exact family_media (by omega) (by decide)
  | lane => exact (by decide : (pageFamily (ofsOf pgPAT 0x118 / 4096)).isSome = true)
  | engine => exact (by decide : (pageFamily (ofsOf pgSYS 0x308 / 4096)).isSome = true)
  | press => exact family_press hi (by decide)

section Requests

variable (hk : kindOf c = some k) (hi : i < k.count) (h : s.Reaches src (svcReqOfs k i)) (hs : Selected k i s)
include hk hi h hs

theorem svcRow_served {d : Instr} {r : Nat} (hr : r < 4) (hd : exec d s = done s (s.svcRow src c i r)) :
    ∃ a, exec d s = .next (s.keeping {} (((s.pathTaken src).svcReq k i r).mgmtReply a 0#32)) := by
  have hrow : s.svcRow src c i r = s.rowWrite src (svcReqOfs k i) (place r 2 0) := by
    unfold State.svcRow
    rw [hk]
    exact if_pos hi
  obtain ⟨a, ha⟩ := exec_row_served h (svcReqOfs_word k i) (svcReqOfs_family hi) (hd.trans (congrArg (done s) hrow))
  rw [regWrite_svcReq hi _ (s.pathTaken src) hs, place_field hr] at ha
  exact ⟨a, ha⟩

theorem svcDrain_acts : ∃ t, exec (.svcDrain src c i) s = .next t
    ∧ (s.drainCause k i = 0 → t.unit k i = { s.unit k i with req := some 1 } ∧ t.svcRej = s.svcRej)
    ∧ (s.drainCause k i ≠ 0 → t.unit k i = s.unit k i ∧ t.svcRej = s.drainCause k i ∧ t.svcEvt.getLsbD 6 = true)
    ∧ Only (.svc :: .svcEvt :: .svcRej :: regPath) s t := by
  obtain ⟨a, ha⟩ := svcRow_served (d := .svcDrain src c i) hk hi h hs (r := 1) (by decide) rfl
  have hreq : (s.pathTaken src).svcReq k i 1 = if s.drainCause k i ≠ 0 then (s.pathTaken src).svcReject (s.drainCause k i) k i
      else (s.pathTaken src).updUnit k i fun u => { u with req := some 1 } := (if_pos rfl).trans (if_neg (by omega))
  refine ⟨_, ha, fun h0 => ?_, fun h0 => ?_, (only_served (src := src) (only_svcReq k i 1 _)).mono (by decide)⟩
  · rw [hreq, if_neg (not_not.mpr h0), keeping_unit, mgmtReply_unit, keeping_svcRej, mgmtReply_svcRej, unit_updUnit_same]
    exact ⟨rfl, rfl⟩
  · rw [hreq, if_pos h0, keeping_unit, mgmtReply_unit, keeping_svcRej, mgmtReply_svcRej, keeping_svcEvt, mgmtReply_svcEvt, svcReject_unit, svcReject_rej]
    exact ⟨rfl, rfl, svcReject_evt _ _ _ _⟩

theorem svcReturn_acts : ∃ t, exec (.svcReturn src c i) s = .next t
    ∧ ((s.unit k i).st = .out → t.unit k i = { s.unit k i with req := some 2 } ∧ t.svcRej = s.svcRej)
    ∧ ((s.unit k i).st ≠ .out → t.unit k i = s.unit k i ∧ t.svcRej = 1 ∧ t.svcEvt.getLsbD 6 = true)
    ∧ Only (.svc :: .svcEvt :: .svcRej :: regPath) s t := by
  obtain ⟨a, ha⟩ := svcRow_served (d := .svcReturn src c i) hk hi h hs (r := 2) (by decide) rfl
  have hreq : (s.pathTaken src).svcReq k i 2 = if (s.unit k i).st ≠ .out then (s.pathTaken src).svcReject 1 k i
      else (s.pathTaken src).updUnit k i fun u => { u with req := some 2 } := (if_neg (by decide)).trans ((if_pos rfl).trans (if_neg (by omega)))
  refine ⟨_, ha, fun h0 => ?_, fun h0 => ?_, (only_served (src := src) (only_svcReq k i 2 _)).mono (by decide)⟩
  · rw [hreq, if_neg (not_not.mpr h0), keeping_unit, mgmtReply_unit, keeping_svcRej, mgmtReply_svcRej, unit_updUnit_same]
    exact ⟨rfl, rfl⟩
  · rw [hreq, if_pos h0, keeping_unit, mgmtReply_unit, keeping_svcRej, mgmtReply_svcRej, keeping_svcEvt, mgmtReply_svcEvt, svcReject_unit, svcReject_rej]
    exact ⟨rfl, rfl, svcReject_evt _ _ _ _⟩

end Requests

/-! ### Draining and quarantine (R837, R841) -/

/-- A command of a unit of an existing kind and number does what it does to that unit. -/
theorem exec_unit {d : Instr} {f : UnitKind → State} (hk : kindOf c = some k) (hi : i < k.count)
    (hd : exec d s = done s (match kindOf c with | some k => if i < k.count then f k else s | none => s)) : exec d s = .next (s.keeping {} (f k)) := by
  refine exec_done hd ?_
  rw [hk]
  exact if_pos hi

theorem unitDrained_acts (hk : kindOf c = some k) (hi : i < k.count) (hst : (s.unit k i).st = .drain) (hd : s.drained k i = true) :
    ∃ t, exec (.unitDrained c i) s = .next t ∧ t.unit k i = { s.unit k i with req := some 3 } ∧ Only [.svc] s t := by
  have he : s.unitDrained k i = s.updUnit k i fun u => { u with req := some 3 } := if_pos (by simp [hst, hd])
  refine ⟨_, exec_unit (d := .unitDrained c i) (f := fun k => s.unitDrained k i) hk hi rfl, ?_, ?_⟩
  · rw [he, keeping_unit, unit_updUnit_same]
  · rw [he]
    exact Only.keeping_any (only_updUnit s _ _ _) nofun

/-- The parts of a press that a passed quarantine sets up again. -/
def State.pressRenewed (i : Nat) (lost : List (Nat × Nat)) (s : State) : State :=
  forEach (List.range 8) (fun a (s : State) =>
    let s1 := s.updArr i a fun x => { x with pending := 0, calMask := 0, retryDue := 0 }
    forEach (List.range 4) (fun d (s : State) =>
      let s1 := (s.updPart i a d fun x => { x with calAt := s.press.reels, calTemp := s.dieTemp i }).swMark i a
      if (s1.part i a d).st ≠ 2 ∨ (a, d) ∈ lost then s1.emptyPart i a d else s1) s1) s

theorem only_swMark (p a : Nat) (s : State) : Only [.press] s (s.swMark p a) := only_with_press s _

theorem only_emptyPart (p a d : Nat) (s : State) : Only [.press] s (s.emptyPart p a d) := only_updPart s _ _ _ _

theorem only_pressRenewed (i : Nat) (lost : List (Nat × Nat)) (s : State) : Only [.press] s (s.pressRenewed i lost) :=
  Only.forEach (fun s a => Only.trans (only_updArr s i a _) (Only.forEach (fun s d =>
    have h := (only_updPart s i a d _).trans (only_swMark i a _)
    Only.ite (h.trans (only_emptyPart i a d _)) h) _ _)) _ s

/-- A unit that has passed its quarantine. -/
def State.quarPassed (k : UnitKind) (i : Nat) (s : State) : State := (s.updUnit k i fun u => { u with result := 2, req := some 4 }).setSvcEvt 2

theorem quarDone_passes (lost : List (Nat × Nat)) (hst : (s.unit k i).st = .quar) (hres : (s.unit k i).result = 1) (hf : (s.unit k i).fail = none) :
    s.quarDone k i none lost = if k ≠ .press then s.quarPassed k i else (s.quarPassed k i).pressRenewed i lost := by
  unfold State.quarDone
  dsimp only
  rw [if_neg (by simp [hst, hres]), if_neg (by simp [hf])]
  rfl

theorem quarDone_fails {n : Nat} (lost : List (Nat × Nat)) (hst : (s.unit k i).st = .quar) (hres : (s.unit k i).result = 1) :
    s.quarDone k i (some n) lost = s.quarFail k i n := by
  unfold State.quarDone
  dsimp only
  rw [if_neg (by simp [hst, hres])]

theorem quarPassed_unit (k : UnitKind) (i : Nat) (s : State) : (s.quarPassed k i).unit k i = { s.unit k i with result := 2, req := some 4 } :=
  (unit_of_svc (only_setSvcEvt _ _ .svc (by decide)) k i).trans (unit_updUnit_same s k i _)

theorem quarFail_acts (n : Nat) : (s.quarFail k i n).unit k i = { s.unit k i with result := 3, test := n, req := some 5, fail := none }
    ∧ (s.quarFail k i n).svcEvt.getLsbD 3 = true ∧ s.Records 0x0F02 4 none (unitPage k i) i [k.advice, 0xF000 + n] (s.quarFail k i n)
    ∧ Only [.svc, .svcEvt, .log, .hdrs, .mfn, .ctrs] s (s.quarFail k i n) := by
  have hq : ∃ u : State, u = (s.updUnit k i fun u => { u with result := 3, test := n, req := some 5, fail := none }).setSvcEvt 3 := ⟨_, rfl⟩
  obtain ⟨u, hu⟩ := hq
  have ho : Only [.svc, .svcEvt, .mfn] s u := hu ▸ ((only_updUnit s k i _).mono (by decide)).trans ((only_setSvcEvt _ _).mono (by decide))
  have hunit : u.unit k i = { s.unit k i with result := 3, test := n, req := some 5, fail := none } :=
    hu ▸ (unit_of_svc (only_setSvcEvt _ _ .svc (by decide)) k i).trans (unit_updUnit_same s k i _)
  have hevt : u.svcEvt.getLsbD 3 = true := hu ▸ setSvcEvt_sets (by decide) _
  have hlog : u.log = s.log := ho .log (by decide)
  have hfr : u.frame = s.frame := ho .frame (by decide)
  have he : s.quarFail k i n = u.logE 0x0F02 4 none (unitPage k i) i [k.advice, 0xF000 + n] := hu ▸ rfl
  rw [he]
  refine ⟨?_, ?_, (logE_records u _ _ _ _ _ _).from_log hlog.symm (by rw [hfr]), (ho.mono (by decide)).trans ((only_logE _ _ _ _ _ _ _).mono (by decide))⟩
  · rw [logE_unit, hunit]
  · rw [logE_svcEvt]
    exact hevt

section Quarantine

variable (hk : kindOf c = some k) (hi : i < k.count) (hst : (s.unit k i).st = .quar) (hres : (s.unit k i).result = 1)
include hk hi hst hres

theorem quarantineDone_acts (failed : Option Nat) (lost : List (Nat × Nat)) : ∃ t, exec (.quarantineDone c i failed lost) s = .next t
    ∧ (failed = none → (s.unit k i).fail = none → (t.unit k i) = { s.unit k i with result := 2, req := some 4 } ∧ t.svcEvt.getLsbD 2 = true
        ∧ (k ≠ .press → Only [.svc, .svcEvt, .mfn] s t) ∧ Only [.svc, .svcEvt, .mfn, .press] s t)
    ∧ (∀ n, failed = some n → t.unit k i = { s.unit k i with result := 3, test := n, req := some 5, fail := none } ∧ t.svcEvt.getLsbD 3 = true
        ∧ s.Records 0x0F02 4 none (unitPage k i) i [k.advice, 0xF000 + n] t ∧ Only [.svc, .svcEvt, .log, .hdrs, .mfn, .ctrs] s t) := by
  refine ⟨_, exec_unit (d := .quarantineDone c i failed lost) (f := fun k => s.quarDone k i failed lost) hk hi rfl, fun hf hn => ?_, fun n hf => ?_⟩
  · have ho : Only [.svc, .svcEvt, .mfn] s (s.quarPassed k i) := ((only_updUnit s k i _).mono (by decide)).trans ((only_setSvcEvt _ _).mono (by decide))
    have hevt : (s.quarPassed k i).svcEvt.getLsbD 2 = true := setSvcEvt_sets (by decide) _
    rw [hf, quarDone_passes lost hst hres hn]
    by_cases hp : k = .press
    · have hr := only_pressRenewed i lost (s.quarPassed k i)
      rw [if_neg (not_not.mpr hp)]
      refine ⟨?_, ?_, fun h => absurd hp h, Only.keeping_any ((ho.mono (by decide)).trans (hr.mono (by decide))) nofun⟩
      · rw [keeping_unit, unit_of_svc (hr .svc (by decide)) k i]
        exact quarPassed_unit k i s
      · rw [keeping_svcEvt, show ((s.quarPassed k i).pressRenewed i lost).svcEvt = (s.quarPassed k i).svcEvt from hr .svcEvt (by decide)]
        exact hevt
    · rw [if_pos hp]
      exact ⟨quarPassed_unit k i s, hevt, fun _ => Only.keeping_any ho nofun, Only.keeping_any (ho.mono (by decide)) nofun⟩
  · obtain ⟨hu, hev, hrec, ho⟩ := quarFail_acts (s := s) (k := k) (i := i) n
    rw [hf, quarDone_fails lost hst hres]
    exact ⟨hu, hev, hrec.kept _ _, Only.keeping_any ho nofun⟩

theorem quarantineTimeout_acts (hto : s.regF pgSYS 0x364 23 0 * 1000 ≤ framesSince (s.unit k i).since s.frame.num) :
    ∃ t, exec (.quarantineTimeout c i) s = .next t
      ∧ t.unit k i = { s.unit k i with result := 3, test := 15, req := some 5, fail := none } ∧ t.svcEvt.getLsbD 3 = true
      ∧ s.Records 0x0F02 4 none (unitPage k i) i [k.advice, 0xF00F] t ∧ Only [.svc, .svcEvt, .log, .hdrs, .mfn, .ctrs] s t := by
  obtain ⟨hu, hev, hrec, ho⟩ := quarFail_acts (s := s) (k := k) (i := i) 15
  have he : s.quarTimeout k i = s.quarFail k i 15 := if_pos ⟨hst, hres, hto⟩
  refine ⟨_, exec_unit (d := .quarantineTimeout c i) (f := fun k => s.quarTimeout k i) hk hi rfl, ?_⟩
  rw [he]
  exact ⟨hu, hev, hrec.kept _ _, Only.keeping_any ho nofun⟩

end Quarantine

/-! ### The test port (R986, R987) -/

theorem tapLoad_eq {ir : TapIr} (hne : ir ≠ .idcode) (step : Nat) (s : State) : s.tapLoad ir step = { s with sys := { s.sys with
    tap := if (match ir with | .bypass | .idcode => true | .sample | .extest => s.sys.rstLow | .other => s.tables.debug) then ir else .bypass } } :=
  if_neg hne

theorem tap_answer {d : Instr} {u : State} {x : TapIr} (hd : exec d s = answer { tap := true } s u) (hu : u = { s with sys := { s.sys with tap := x } }) :
    ∃ t, exec d s = .next t ∧ t.sys.tap = x ∧ Only [.sys] s t := by
  subst hu
  exact ⟨_, hd, rfl, Only.keeping_any (only_with_sys s _) nofun⟩

/-- Settles O39: a request splits on the checks of its unit, a quarantine on its result; the test port by instruction. -/
theorem unitsAreServiced : Obligations.UnitsAreServiced := by
  refine ⟨fun src c i k s hk hi h hl he => svcDrain_acts hk hi h ⟨hl, he⟩, fun src c i k s hk hi h hl he => svcReturn_acts hk hi h ⟨hl, he⟩,
    fun _ _ _ _ => unitDrained_acts, fun _ _ _ failed lost _ hk hi hst hres => quarantineDone_acts hk hi hst hres failed lost,
    fun _ _ _ _ => quarantineTimeout_acts, fun s => tap_answer rfl rfl, fun s => ⟨?idcode, tap_answer rfl (tapLoad_eq (by decide) _ s), tap_answer rfl (tapLoad_eq (by decide) _ s)⟩⟩
  exact ⟨_, rfl, rfl, rfl, Only.keeping_any (((only_with_sys s _).mono (by decide)).trans ((only_emit _ _).mono (by decide))) nofun⟩

end Sys2Proof.Machine
end

section
/-!
PROOFS. The DRAM channels: retirement commands and moving units, refresh, the flush of the front cache, heat and loss.
-/

namespace Sys2Proof.Machine

open Sys2Proof

variable {s : State} {src : MgmtSrc}

/-! ### Retirement commands (R510 to R512) -/

theorem regWrite_retCmd (op : Word32) (u : State) : u.regWrite (ofsOf (pgMEDIA 0) 0x118) op = u.retOp (field op 1 0) :=
  (regWrite_media (q := 0) (by decide) (by decide) (by decide) op u).trans rfl

theorem retOp_waiting {u : State} (h : u.dram.retCmd.isSome = true) (op : Nat) : u.retOp op = u := by
  unfold State.retOp State.retRead State.retLater
  simp [h]

theorem retRead_idle {u : State} (h : u.dram.retCmd = none) : u.retRead =
    (u.setReg (ofsOf (pgMEDIA 0) 0x110) (u.retEntry (field (u.reg (ofsOf (pgMEDIA 0) 0x10C)) 9 0)).lo).setReg (ofsOf (pgMEDIA 0) 0x114)
      ((u.retEntry (field (u.reg (ofsOf (pgMEDIA 0) 0x10C)) 9 0)).hi ||| placeB (u.retEntry (field (u.reg (ofsOf (pgMEDIA 0) 0x10C)) 9 0)).done 31) := by
  rw [State.retRead, if_neg (by simp [h])]
  rfl

theorem retLater_idle {u : State} (h : u.dram.retCmd = none) (op : Nat) : u.retLater op =
    { u with dram := { u.dram with retCmd := some (field (u.reg (ofsOf (pgMEDIA 0) 0x10C)) 9 0, op, u.reg (ofsOf (pgMEDIA 0) 0x110), u.reg (ofsOf (pgMEDIA 0) 0x114)) } } := by
  rw [State.retLater, if_neg (by simp [h])]
  rfl

section Retirement

variable (h : s.Reaches src (ofsOf (pgMEDIA 0) 0x118))
include h

theorem exec_retRow {c : Instr} {op : Word32} (hc : exec c s = done s (s.rowWrite src (ofsOf (pgMEDIA 0) 0x118) op)) :
    ∃ a, exec c s = .next (s.keeping {} (((s.pathTaken src).retOp (field op 1 0)).mgmtReply a 0#32)) := by
  obtain ⟨a, ha⟩ := exec_row_served h (by decide) (by decide) hc
  exact ⟨a, regWrite_retCmd op _ ▸ ha⟩

theorem retRow_waiting {c : Instr} {op : Word32} (hc : exec c s = done s (s.rowWrite src (ofsOf (pgMEDIA 0) 0x118) op)) (hw : s.dram.retCmd.isSome = true) :
    ∃ t, exec c s = .next t ∧ Only regPath s t := by
  obtain ⟨a, ha⟩ := exec_retRow h hc
  rw [retOp_waiting (u := s.pathTaken src) hw] at ha
  exact ⟨_, ha, only_served (src := src) (l := []) (Only.refl _ _)⟩

theorem retRead_stages (hi : s.dram.retCmd = none) :
    let e := s.retEntry (field (s.reg (ofsOf (pgMEDIA 0) 0x10C)) 9 0)
    ∃ t, exec (.retRead src) s = .next t ∧ t.reg (ofsOf (pgMEDIA 0) 0x110) = e.lo ∧ t.reg (ofsOf (pgMEDIA 0) 0x114) = e.hi ||| placeB e.done 31
      ∧ (∀ o, o ≠ ofsOf (pgMEDIA 0) 0x110 → o ≠ ofsOf (pgMEDIA 0) 0x114 → t.reg o = s.reg o) ∧ Only (.regs :: regPath) s t := by
  obtain ⟨a, ha⟩ := exec_retRow (c := .retRead src) (op := 1#32) h rfl
  rw [show (s.pathTaken src).retOp (field 1#32 1 0) = (s.pathTaken src).retRead from rfl, retRead_idle (u := s.pathTaken src) hi] at ha
  refine ⟨_, ha, ?lo, ?hi, fun o h0 h4 => ?other, only_served (src := src) (l := [.regs]) ((only_setReg _ _ _).trans (only_setReg _ _ _))⟩
  case lo =>
    rw [served_reg]
    exact (reg_setReg_other _ _ (by decide)).trans (reg_setReg_same _ _ _)
  case hi =>
    rw [served_reg]
    exact reg_setReg_same _ _ _
  case other =>
    rw [served_reg, reg_setReg_other _ _ h4, reg_setReg_other _ _ h0]
    rfl

theorem retLater_waits {c : Instr} {op : Word32} (hc : exec c s = done s (s.rowWrite src (ofsOf (pgMEDIA 0) 0x118) op)) (hi : s.dram.retCmd = none)
    (ho : field op 1 0 = 2 ∨ field op 1 0 = 3) : ∃ t, exec c s = .next t
    ∧ t.dram = { s.dram with retCmd := some (field (s.reg (ofsOf (pgMEDIA 0) 0x10C)) 9 0, field op 1 0, s.reg (ofsOf (pgMEDIA 0) 0x110), s.reg (ofsOf (pgMEDIA 0) 0x114)) }
    ∧ Only (.dram :: regPath) s t := by
  obtain ⟨a, ha⟩ := exec_retRow h hc
  have hop : (s.pathTaken src).retOp (field op 1 0) = (s.pathTaken src).retLater (field op 1 0) := by
    rw [State.retOp, if_neg (by omega), if_pos ho]
  rw [hop, retLater_idle (u := s.pathTaken src) hi] at ha
  refine ⟨_, ha, ?_, only_served (src := src) (l := [.dram]) (only_with_dram _ _)⟩
  rw [keeping_dram, mgmtReply_dram]
  rfl

end Retirement

/-! ### Migration (R511, R517, R523) -/

theorem retEntry_of_dram {t u : State} (h : t.dram = u.dram) (i : Nat) : t.retEntry i = u.retEntry i := by unfold State.retEntry; rw [h]

theorem retEntry_updRet (i k : Nat) (f : RetEntry → RetEntry) (s : State) : (s.updRet i f).retEntry k = if k = i then f (s.retEntry i) else s.retEntry k :=
  mapGet_upd _ _ _ _

theorem retireMigrationDone_marks (i : Nat) (h : (s.retEntry i).valid = true ∧ (s.retEntry i).active = true ∧ (s.retEntry i).done = false) :
    ∃ t, exec (.retireMigrationDone i) s = .next t ∧ t.retEntry i = { s.retEntry i with done := true } ∧ (∀ k, k ≠ i → t.retEntry k = s.retEntry k)
      ∧ (t.hdr (pgMEDIA 0)).stat.getLsbD 8 = true ∧ Only [.dram, .hdrs, .mfn] s t := by
  obtain ⟨hv, ha, hd⟩ := h
  have he : s.retDone i = (s.updRet i fun e => { e with done := true }).setEvt (pgMEDIA 0) 8 := by
    unfold State.retDone
    simp only [hv, ha, hd]
    rfl
  have hr : ∀ k, (s.keeping {} (s.retDone i)).retEntry k = (s.updRet i fun e => { e with done := true }).retEntry k := fun k => by
    refine retEntry_of_dram ?_ k
    rw [keeping_dram, he, setEvt_dram]
  refine ⟨_, exec_done rfl rfl, ?_, fun k hk => ?_, ?_, ?_⟩
  · rw [hr, retEntry_updRet, if_pos rfl]
  · rw [hr, retEntry_updRet, if_neg hk]
  · rw [keeping_hdr, he]
    exact setEvt_sets _ _ (by decide)
  · rw [he]
    exact Only.keeping_any (((only_updRet _ _ _).mono (by decide)).trans ((only_setEvt _ _ _).mono (by decide))) nofun

theorem retireMigrationDone_idle (i : Nat) (h : (s.retEntry i).valid = false ∨ (s.retEntry i).active = false ∨ (s.retEntry i).done = true) :
    ∃ t, exec (.retireMigrationDone i) s = .next t ∧ Only [] s t := by
  have he : s.retDone i = s := by
    unfold State.retDone
    rcases h with h | h | h <;> simp [h]
  exact ⟨_, exec_done rfl he, Only.keeping_any (Only.refl _ _) nofun⟩

/-- What the copy costs is charged, then the page's units are on the new channel. -/
theorem unitCopy_eq {p c d : Nat} {slips : Bool} (hc : (if slips = true then (s.page p).slipCh else (s.page p).frameCh) = some c)
    (hd : s.pickChan = some d) (hm : s.moves c = true) (hf : s.unitsFree d ≠ 0) :
    ∃ u : State, s.unitCopy p slips = u.updPage p (fun r => if slips then { r with slipCh := some d } else { r with frameCh := some d })
      ∧ Only [.slate, .daily] s u := by
  have hw : ¬ (!s.moves c || s.unitsFree d == 0) = true := by simp [hm, hf]
  unfold State.unitCopy
  dsimp only
  rw [hc, hd]
  exact ⟨_, if_neg hw, (only_chargeSplit s gDRAM c 0 _ _).trans (only_chargeSplit _ gDRAM d 0 _ _)⟩

theorem unitMigrationCopy_moves {p c d : Nat} {slips : Bool} (hc : (if slips = true then (s.page p).slipCh else (s.page p).frameCh) = some c)
    (hd : s.pickChan = some d) (hm : s.moves c = true) (hf : s.unitsFree d ≠ 0) : ∃ t, exec (.unitMigrationCopy p slips) s = .next t
      ∧ t.page p = (if slips = true then { s.page p with slipCh := some d } else { s.page p with frameCh := some d }) ∧ (∀ q, q ≠ p → t.page q = s.page q)
      ∧ Only [.tier, .slate, .daily] s t := by
  obtain ⟨u, ht, hu⟩ := unitCopy_eq hc hd hm hf
  have hpage : ∀ q, u.page q = s.page q := page_congr (hu .tier (by decide))
  refine ⟨_, exec_done rfl ht, ?_, fun q hq => ?_, Only.keeping_any ((hu.mono (by decide)).trans ((only_updPage _ _ _).mono (by decide))) nofun⟩
  · rw [keeping_page, page_updPage_same, hpage]
  · rw [keeping_page, page_updPage_other _ _ hq, hpage]

theorem unitMigrationCopy_stays {p c : Nat} {slips : Bool} (hc : (if slips = true then (s.page p).slipCh else (s.page p).frameCh) = some c)
    (h : s.pickChan = none ∨ s.moves c = false ∨ (∀ d, s.pickChan = some d → s.unitsFree d = 0)) :
    ∃ t, exec (.unitMigrationCopy p slips) s = .next t ∧ Only [] s t := by
  have he : s.unitCopy p slips = s := by
    unfold State.unitCopy
    dsimp only
    rw [hc]
    cases hd : s.pickChan with
    | none => rfl
    | some d =>
      refine if_pos ?_
      rcases h with h | h | h
      · exact absurd (hd.symm.trans h) (by simp)
      · simp [h]
      · simp [h d hd]
  exact ⟨_, exec_done rfl he, Only.keeping_any (Only.refl _ _) nofun⟩

/-- Settles O46: each command of the retirement table while one waits and while none does, the end of a migration, and a unit that moves or stays. -/
theorem dramUnitsAreRetired : Obligations.DramUnitsAreRetired := by
  refine ⟨fun src s h => ⟨fun hi => ⟨retRead_stages h hi, fun x hx => ?_⟩, fun hw c hc => ?_⟩,
    fun i s => ⟨retireMigrationDone_marks i, retireMigrationDone_idle i⟩,
    fun p c slips s hc => ⟨fun d => unitMigrationCopy_moves hc, unitMigrationCopy_stays hc⟩⟩
  · simp only [List.mem_cons, List.not_mem_nil, or_false] at hx
    rcases hx with rfl | rfl
    · exact retLater_waits (c := .retWrite src) (op := 2#32) h rfl hi (.inl rfl)
    · exact retLater_waits (c := .retRelease src) (op := 3#32) h rfl hi (.inr rfl)
  · simp only [List.mem_cons, List.not_mem_nil, or_false] at hc
    rcases hc with rfl | rfl | rfl
    · exact retRow_waiting (op := 1#32) h rfl hw
    · exact retRow_waiting (op := 2#32) h rfl hw
    · exact retRow_waiting (op := 3#32) h rfl hw

/-! ### Refresh (R500, R501, R518) -/

theorem chan_updChan (c k : Nat) (f : DramCh → DramCh) (s : State) : (s.updChan c f).chan k = if k = c then f (s.chan c) else s.chan k := mapGet_upd _ _ _ _

/-- The two refresh commands of a channel do the same. -/
theorem exec_refresh {c : Nat} (hc : c < 16) {i : Instr} (hi : i ∈ [Instr.refresh c, .refreshManagementRequest c]) {u : State} (h : s.refresh c = u) :
    exec i s = .next (s.keeping {} u) := by
  simp only [List.mem_cons, List.not_mem_nil, or_false] at hi
  rcases hi with rfl | rfl <;> exact exec_done rfl ((if_pos hc).trans h)

section Refresh

variable {c : Nat} {i : Instr} (hc : c < 16) (hi : i ∈ [Instr.refresh c, .refreshManagementRequest c])

section

variable (hk : (s.chan c).kind ≠ 0) (ho : (s.unit .dram c).st ≠ .out)
include hk ho

theorem refresh_present : s.refresh c = if 0 < min ((s.chan c).postponed + 1) (s.availOf gDRAM c 0 ownMnt / 8) then
      (s.useTake gDRAM c 0 ownMnt (8 * min ((s.chan c).postponed + 1) (s.availOf gDRAM c 0 ownMnt / 8))).updChan c
        fun x => { x with postponed := (s.chan c).postponed + 1 - min ((s.chan c).postponed + 1) (s.availOf gDRAM c 0 ownMnt / 8) }
    else if (s.chan c).postponed + 1 ≤ 4 then (s.updChan c fun x => { x with postponed := (s.chan c).postponed + 1 }).bump (ofsOf (pgMEDIA c) 0x50) 7 1
    else s.useTake gDRAM c 0 ownMnt 8 :=
  if_neg (by simp [hk, ho])

include hc hi

theorem refresh_runs {due n : Nat} (hd : due = (s.chan c).postponed + 1) (hn : n = min due (s.availOf gDRAM c 0 ownMnt / 8)) (h : 0 < n) :
    ∃ t, exec i s = .next t ∧ t.chan c = { s.chan c with postponed := due - n } ∧ (∀ k, k ≠ c → t.chan k = s.chan k)
      ∧ t.slate = (s.useTake gDRAM c 0 ownMnt (8 * n)).slate ∧ Only [.slate, .chans] s t := by
  subst hd hn
  refine ⟨_, exec_refresh hc hi ((refresh_present hk ho).trans (if_pos h)), ?_, fun k hkc => ?_, keeping_slate _ _ _,
    Only.keeping_any (((only_useTake _ _ _ _ _ _).mono (by decide)).trans ((only_updChan _ _ _).mono (by decide))) nofun⟩
  · rw [keeping_chan, chan_updChan, if_pos rfl]
    rfl
  · rw [keeping_chan, chan_updChan, if_neg hkc]
    rfl

theorem refresh_postponed {due : Nat} (hd : due = (s.chan c).postponed + 1) (hn : min due (s.availOf gDRAM c 0 ownMnt / 8) = 0) (h : due ≤ 4) :
    ∃ t, exec i s = .next t ∧ t.chan c = { s.chan c with postponed := due } ∧ (∀ k, k ≠ c → t.chan k = s.chan k)
      ∧ t.ctr (ofsOf (pgMEDIA c) 0x50) 7 = satAdd 32 (s.ctr (ofsOf (pgMEDIA c) 0x50) 7) 1 ∧ Only [.chans, .ctrs] s t := by
  subst hd
  have hchan : ∀ (u : State) k, (u.bump (ofsOf (pgMEDIA c) 0x50) 7 1).chan k = u.chan k := fun _ _ => rfl
  refine ⟨_, exec_refresh hc hi ((refresh_present hk ho).trans ((if_neg (by omega)).trans (if_pos h))), ?_, fun k hkc => ?_, ?_,
    Only.keeping_any (((only_updChan _ _ _).mono (by decide)).trans ((only_bump _ _ _ _).mono (by decide))) nofun⟩
  · rw [keeping_chan, hchan, chan_updChan, if_pos rfl]
  · rw [keeping_chan, hchan, chan_updChan, if_neg hkc]
  · rw [keeping_ctr, ctr_bump_same]
    rfl

theorem refresh_forced {due : Nat} (hd : due = (s.chan c).postponed + 1) (hn : min due (s.availOf gDRAM c 0 ownMnt / 8) = 0) (h : 4 < due) :
    ∃ t, exec i s = .next t ∧ t.slate = (s.useTake gDRAM c 0 ownMnt 8).slate ∧ Only [.slate] s t := by
  subst hd
  exact ⟨_, exec_refresh hc hi ((refresh_present hk ho).trans ((if_neg (by omega)).trans (if_neg (by omega)))), keeping_slate _ _ _,
    Only.keeping_any (only_useTake _ _ _ _ _ _) nofun⟩

end

include hc hi

theorem refresh_absent (h : (s.chan c).kind = 0 ∨ (s.unit .dram c).st = .out) : ∃ t, exec i s = .next t ∧ Only [] s t :=
  ⟨_, exec_refresh hc hi (if_pos h), Only.keeping_any (Only.refl _ _) nofun⟩

end Refresh

/-! ### The flush of the front cache (R508) -/

theorem regWrite_fcCtl (u : State) : u.regWrite (ofsOf (pgMEDIA 0) 0x128) 1#32 = u.fcFlush :=
  (regWrite_media (q := 0) (by decide) (by decide) (by decide) _ u).trans rfl

/-- The write-back of one line of the front cache in a flush. -/
def State.flushLine (s : State) (e : Nat × FcLine) : State :=
  if e.2.dirty && 1 ≤ s.availOf gDRAM (s.frameChan (pageOfLine e.1)) 0 ownMnt then
    ((s.charge gDRAM (s.frameChan (pageOfLine e.1)) 0 ownMnt 1).bump (ofsOf (pgMEDIA 0) 0x124) 2 1).updFc e.1 fun f => { f with dirty := false }
  else s

/-- The flush ends when no line is dirty. -/
def State.flushEnd (s : State) : State :=
  if s.dram.fc.any fun e => e.2.dirty then s else { s with dram := { s.dram with flush := false } }

theorem fcFlush_eq (s : State) : s.fcFlush = (s.dram.fc.foldl State.flushLine { s with dram := { s.dram with flush := true } }).flushEnd := rfl

theorem foldl_flushLine_clean (l : List (Nat × FcLine)) (h : l.any (fun e => e.2.dirty) = false) (s : State) : l.foldl State.flushLine s = s := by
  induction l with
  | nil => rfl
  | cons e l ih =>
    obtain ⟨he, hl⟩ := Bool.or_eq_false_iff.mp h
    have hs : s.flushLine e = s := if_neg (by simp [he])
    rw [List.foldl_cons, hs, ih hl]

theorem fcFlush_clean (h : s.dram.fc.any (fun e => e.2.dirty) = false) : s.fcFlush = { s with dram := { s.dram with flush := false } } := by
  rw [fcFlush_eq, foldl_flushLine_clean _ h]
  exact if_neg (by rw [h]; decide)

theorem any_dirty_cleaned (l : Nat) (f : FcLine) :
    ((mapUpd (fun _ => {}) l (fun f : FcLine => { f with dirty := false }) [(l, f)]).any fun e => e.2.dirty) = false := by
  unfold mapUpd mapPut
  split
  · simp
  · simp [mapInsert, mapGet]

section OneLine

variable {l : Nat} {f : FcLine} (hf : s.dram.fc = [(l, f)]) (hd : f.dirty = true)
include hf hd

theorem fcFlush_unpaid (h : s.availOf gDRAM (s.frameChan (pageOfLine l)) 0 ownMnt = 0) : s.fcFlush = { s with dram := { s.dram with flush := true } } := by
  have hl : State.flushLine { s with dram := { s.dram with flush := true } } (l, f) = { s with dram := { s.dram with flush := true } } :=
    if_neg fun hc => by
      have h1 : 1 ≤ s.availOf gDRAM (s.frameChan (pageOfLine l)) 0 ownMnt := of_decide_eq_true (Bool.and_eq_true_iff.mp hc).2
      omega
  rw [fcFlush_eq, hf, List.foldl_cons, List.foldl_nil, hl]
  exact if_pos (by simp [hf, hd])

theorem fcFlush_paid (h : 1 ≤ s.availOf gDRAM (s.frameChan (pageOfLine l)) 0 ownMnt) :
    s.fcFlush.fcLine l = { f with dirty := false } ∧ s.fcFlush.dram.flush = false ∧ Only [.dram, .slate, .daily, .ctrs] s s.fcFlush := by
  obtain ⟨u, hu, hl⟩ : ∃ u : State, Only [.slate, .daily, .ctrs] { s with dram := { s.dram with flush := true } } u
      ∧ State.flushLine { s with dram := { s.dram with flush := true } } (l, f) = u.updFc l fun f => { f with dirty := false } :=
    ⟨_, ((only_charge _ _ _ _ _ _).mono (by decide)).trans ((only_bump _ _ _ _).mono (by decide)),
      if_pos (Bool.and_eq_true_iff.mpr ⟨hd, decide_eq_true h⟩)⟩
  have hfc : u.dram.fc = [(l, f)] := (congrArg DramS.fc (hu .dram (by decide))).trans hf
  have hclean : ((u.updFc l fun f => { f with dirty := false }).dram.fc.any fun e => e.2.dirty) = false :=
    (congrArg (List.any · _) (congrArg (mapUpd _ l _) hfc)).trans (any_dirty_cleaned l f)
  have he : s.fcFlush = { u.updFc l fun f => { f with dirty := false } with dram := { (u.updFc l fun f => { f with dirty := false }).dram with flush := false } } := by
    rw [fcFlush_eq, hf, List.foldl_cons, List.foldl_nil, hl]
    exact if_neg (by rw [hclean]; decide)
  rw [he]
  refine ⟨?_, rfl, ?_⟩
  · refine (mapGet_upd_same l (fun f : FcLine => { f with dirty := false }) u.dram.fc).trans ?_
    rw [hfc]
    exact congrArg (fun f : FcLine => { f with dirty := false }) (if_pos rfl)
  · exact (((only_with_dram s _).mono (by decide)).trans (hu.mono (by decide))).trans
      (((only_updFc _ _ _).mono (by decide)).trans ((only_with_dram _ _).mono (by decide)))

end OneLine

section Flush

variable (h : s.Reaches src (ofsOf (pgMEDIA 0) 0x128))
include h

theorem exec_flush : ∃ a, exec (.flush src) s = .next (s.keeping {} ((s.pathTaken src).fcFlush.mgmtReply a 0#32)) := by
  obtain ⟨a, ha⟩ := exec_row_served (c := .flush src) (v := 1#32) h (by decide) (by decide) rfl
  exact ⟨a, regWrite_fcCtl _ ▸ ha⟩

theorem flush_clean (hc : s.dram.fc.any (fun e => e.2.dirty) = false) :
    ∃ t, exec (.flush src) s = .next t ∧ t.dram = { s.dram with flush := false } ∧ Only (.dram :: regPath) s t := by
  obtain ⟨a, ha⟩ := exec_flush h
  rw [fcFlush_clean (s := s.pathTaken src) hc] at ha
  refine ⟨_, ha, ?_, only_served (src := src) (l := [.dram]) (only_with_dram _ _)⟩
  rw [keeping_dram, mgmtReply_dram]
  rfl

variable {l : Nat} {f : FcLine} (hf : s.dram.fc = [(l, f)]) (hd : f.dirty = true)
include hf hd

theorem flush_unpaid (hn : (s.onPath src).availOf gDRAM (s.frameChan (pageOfLine l)) 0 ownMnt = 0) :
    ∃ t, exec (.flush src) s = .next t ∧ t.dram = { s.dram with flush := true } ∧ Only (.dram :: regPath) s t := by
  obtain ⟨a, ha⟩ := exec_flush h
  rw [fcFlush_unpaid (s := s.pathTaken src) hf hd hn] at ha
  refine ⟨_, ha, ?_, only_served (src := src) (l := [.dram]) (only_with_dram _ _)⟩
  rw [keeping_dram, mgmtReply_dram]
  rfl

theorem flush_paid (hn : 1 ≤ (s.onPath src).availOf gDRAM (s.frameChan (pageOfLine l)) 0 ownMnt) :
    ∃ t, exec (.flush src) s = .next t ∧ t.fcLine l = { f with dirty := false } ∧ t.dram.flush = false ∧ Only (.dram :: regPath) s t := by
  obtain ⟨a, ha⟩ := exec_flush h
  obtain ⟨hline, hflush, ho⟩ := fcFlush_paid (s := s.pathTaken src) hf hd hn
  generalize (s.pathTaken src).fcFlush = u at ha hline hflush ho
  have hdram : (s.keeping {} (u.mgmtReply a 0#32)).dram = u.dram := by rw [keeping_dram, mgmtReply_dram]
  refine ⟨_, ha, ?_, (congrArg DramS.flush hdram).trans hflush, (only_served (src := src) ho).mono (by decide)⟩
  rw [← hline]
  unfold State.fcLine
  rw [hdram]

end Flush

/-! ### Heat (R524) -/

theorem dimmHot_acts {c : Nat} (temp : Nat) (hc : c < 16) (hk : (s.chan c).kind ≠ 0) :
    ∃ t, exec (.dimmHot c temp) s = .next t ∧ t.chan c = { s.chan c with temp := temp } ∧ (∀ k, k ≠ c → t.chan k = s.chan k)
      ∧ (t.hdr (pgMEDIA c)).stat.getLsbD 5 = true ∧ s.Records 0x0805 0 none (pgMEDIA c) 0 [c, temp] t ∧ Only [.chans, .log, .hdrs, .mfn, .ctrs] s t := by
  have he : s.dimmHot c temp = ((s.updChan c fun x => { x with temp := temp }).setEvt (pgMEDIA c) 5).logE 0x0805 0 none (pgMEDIA c) 0 [c, temp] := if_neg hk
  have hr := logE_records ((s.updChan c fun x => { x with temp := temp }).setEvt (pgMEDIA c) 5) 0x0805 0 none (pgMEDIA c) 0 [c, temp]
  refine ⟨_, exec_done rfl ((if_pos hc).trans he), ?_, fun k hkc => ?_, ?_, ?_, ?_⟩
  · rw [keeping_chan, logE_chan, setEvt_chan, chan_updChan, if_pos rfl]
  · rw [keeping_chan, logE_chan, setEvt_chan, chan_updChan, if_neg hkc]
  · rw [keeping_hdr]
    exact bitsKept_logE _ _ _ _ _ _ _ _ _ (setEvt_sets _ _ (by decide))
  · exact (hr.from_log (by simp) (by simp)).kept _ _
  · exact Only.keeping_any (((only_updChan _ _ _).mono (by decide)).trans
      (((only_setEvt _ _ _).mono (by decide)).trans ((only_logE _ _ _ _ _ _ _).mono (by decide)))) nofun

/-! ### The loss of a channel (R522) -/

theorem mapGet_of_not_mem {α : Type} {d : Nat → α} {m : Map α} {k : Nat} (h : k ∉ m.map (·.1)) : mapGet d m k = d k := by
  induction m with
  | nil => rfl
  | cons e m ih =>
    exact (if_neg fun hk => h (by simp [hk])).trans (ih fun hm => h (List.mem_cons_of_mem _ hm))

/-- A page without what a lost channel held of it. -/
def PageRec.without (c : Nat) (r : PageRec) : PageRec :=
  { r with frameCh := if r.frameCh = some c then none else r.frameCh
           slipCh := if r.slipCh = some c then none else r.slipCh
           stored := if r.slipCh = some c then r.stored.map (fun f => { f with bytes := [] }) else r.stored }

/-- The loss of a page's open frame: no line of it is in the front cache, and every line is poison. -/
def State.loseFrame (p : Nat) (s : State) : State :=
  forEach (List.range 64) (fun k (s : State) => s.originPoison (64 * p + k)) ((s.fcDropPage p).updPage p fun r => { r with frameCh := none })

/-- The loss of what a channel held of a page. -/
def State.losePage (c p : Nat) (s : State) : State :=
  if (s.page p).slipCh = some c then
    (if (s.page p).frameCh = some c then s.loseFrame p else s).updPage p fun r => { r with slipCh := none, stored := r.stored.map fun f => { f with bytes := [] } }
  else if (s.page p).frameCh = some c then s.loseFrame p else s

/-- The channel is out, with its event and its entry. -/
def State.chanLost (c retries : Nat) (s : State) : State :=
  (((if retries = 0 then s.bump (ofsOf (pgMEDIA c) 0x50) 4 4 else if retries = 1 then s.bump (ofsOf (pgMEDIA c) 0x50) 5 4 else s).fatalOut .dram c).setEvt
    (pgMEDIA c) 4).logE 0x0804 3 none (pgMEDIA c) 0 [c]

theorem chFatal_eq {c : Nat} (retries : Nat) (h : (s.unit .dram c).st ≠ .out) : s.chFatal c retries [] [] [] =
    (forEach (s.chanLost c retries).pageKeys (State.losePage c) (s.chanLost c retries)).poolChanged := by
  unfold State.chFatal
  rw [if_neg h]
  rfl

section ChanLost

variable (c retries : Nat) (s : State)

theorem only_fatalOut (k : UnitKind) : Only [.svc, .svcEvt, .mfn] s (s.fatalOut k c) :=
  ((only_updUnit _ _ _ _).mono (by decide)).trans ((only_setSvcEvt _ _).mono (by decide))

theorem fatalOut_st (k : UnitKind) : ((s.fatalOut k c).unit k c).st = .out := by
  rw [State.fatalOut, unit_of_svc (only_setSvcEvt _ _ .svc (by decide)), unit_updUnit_same]

theorem only_chanLost : Only [.svc, .svcEvt, .hdrs, .mfn, .log, .ctrs] s (s.chanLost c retries) := by
  refine Only.trans ?_ ((only_logE _ _ _ _ _ _ _).mono (by decide))
  refine Only.trans ?_ ((only_setEvt _ _ _).mono (by decide))
  refine Only.trans ?_ ((only_fatalOut _ _ _).mono (by decide))
  exact Only.ite ((only_bump _ _ _ _).mono (by decide)) (Only.ite ((only_bump _ _ _ _).mono (by decide)) (Only.refl _ _))

theorem chanLost_st : ((s.chanLost c retries).unit .dram c).st = .out := by
  rw [State.chanLost, logE_unit, setEvt_unit]
  exact fatalOut_st _ _ _

theorem chanLost_stat : ((s.chanLost c retries).hdr (pgMEDIA c)).stat.getLsbD 4 = true :=
  bitsKept_logE _ _ _ _ _ _ _ _ _ (setEvt_sets _ _ (by decide))

end ChanLost

theorem PageRec.without_without (c : Nat) (r : PageRec) : (r.without c).without c = r.without c := by
  unfold PageRec.without
  by_cases hf : r.frameCh = some c <;> by_cases hs : r.slipCh = some c <;> simp [hf, hs]

section LosePage

variable (c p : Nat) (s : State)

theorem only_fcDropPage : Only [.rgl, .dram] s (s.fcDropPage p) :=
  Only.trans (Only.foldl (fun s _ => Only.ite ((only_updRun' _ _ _).mono (by decide)) (Only.refl _ s)) _ _) ((only_with_dram _ _).mono (by decide))

theorem forEach_originPoison (l : List Nat) : forEach l (fun k (s : State) => s.originPoison (64 * p + k)) s = (l.map (64 * p + ·)).foldl (fun (s : State) l => s.originPoison l) s :=
  (List.foldl_map (f := (64 * p + ·)) (g := fun (s : State) l => s.originPoison l) (l := l) (init := s)).symm

theorem loseFrame_eq : s.loseFrame p = (((List.range 64).map (64 * p + ·)).foldl (fun (s : State) l => s.originPoison l)
    ((s.fcDropPage p).updPage p fun r => { r with frameCh := none })) := forEach_originPoison _ _ _

theorem only_loseFrame : Only [.tier, .dram, .rgl, .poison, .log] s (s.loseFrame p) := by
  rw [loseFrame_eq]
  exact (((only_fcDropPage _ _).mono (by decide)).trans ((only_updPage _ _ _).mono (by decide))).trans ((only_foldOriginPoison _).mono (by decide))

theorem loseFrame_page (q : Nat) : (s.loseFrame p).page q = if q = p then { s.page p with frameCh := none } else s.page q := by
  have hq : ∀ q, (s.fcDropPage p).page q = s.page q := page_congr (only_fcDropPage p s .tier (by decide))
  rw [loseFrame_eq, page_congr (only_foldOriginPoison _ .tier (by decide))]
  split
  · subst q
    rw [page_updPage_same, hq]
  · rename_i h
    rw [page_updPage_other _ _ h, hq]

theorem loseFrame_isPoison {l : Nat} (h : (∃ k, k < 64 ∧ l = 64 * p + k) ∨ s.isPoison l = true) : (s.loseFrame p).isPoison l = true := by
  rw [loseFrame_eq]
  refine foldOriginPoison _ _ _ (h.imp (fun ⟨k, hk, hl⟩ => List.mem_map.mpr ⟨k, List.mem_range.mpr hk, hl.symm⟩) fun h => ?_)
  exact (congrArg (mapGet (fun _ => false) · l) (only_fcDropPage p s .poison (by decide))).trans h

theorem only_losePage : Only [.tier, .dram, .rgl, .poison, .log] s (s.losePage c p) := by
  have hf := Only.ite (c := (s.page p).frameCh = some c) (only_loseFrame p s) (Only.refl _ s)
  exact Only.ite (hf.trans ((only_updPage _ _ _).mono (by decide))) hf

theorem losePage_page (q : Nat) : (s.losePage c p).page q = if q = p then (s.page p).without c else s.page q := by
  by_cases hq : q = p
  · subst hq
    rw [if_pos rfl, State.losePage, PageRec.without]
    by_cases hf : (s.page q).frameCh = some c <;> by_cases hs : (s.page q).slipCh = some c <;> simp [hf, hs, loseFrame_page]
  · rw [if_neg hq, State.losePage]
    by_cases hf : (s.page p).frameCh = some c <;> by_cases hs : (s.page p).slipCh = some c <;> simp [hf, hs, loseFrame_page, page_updPage_other _ _ hq, hq]

theorem losePage_isPoison {l : Nat} (h : ((s.page p).frameCh = some c ∧ ∃ k, k < 64 ∧ l = 64 * p + k) ∨ s.isPoison l = true) :
    (s.losePage c p).isPoison l = true := by
  have hf : (if (s.page p).frameCh = some c then s.loseFrame p else s).isPoison l = true := by
    split
    · exact loseFrame_isPoison p s (h.imp_left And.right)
    · rename_i hc
      exact h.resolve_left fun h => hc h.1
  unfold State.losePage
  split
  · exact hf
  · exact hf

variable {c p}

theorem losePages_page (ps : List Nat) (s : State) (q : Nat) : (forEach ps (State.losePage c) s).page q = if q ∈ ps then (s.page q).without c else s.page q := by
  induction ps generalizing s with
  | nil => rfl
  | cons p ps ih =>
    rw [show forEach (p :: ps) (State.losePage c) s = forEach ps (State.losePage c) (s.losePage c p) from rfl, ih, losePage_page]
    by_cases hq : q = p
    · subst hq
      simp [PageRec.without_without]
    · simp [hq]

theorem losePages_kept (ps : List Nat) (s : State) {l : Nat} (h : s.isPoison l = true) : (forEach ps (State.losePage c) s).isPoison l = true := by
  induction ps generalizing s with
  | nil => exact h
  | cons p ps ih => exact ih _ (losePage_isPoison c p s (.inr h))

theorem losePages_isPoison {ps : List Nat} {s : State} (hp : p ∈ ps) (hc : (s.page p).frameCh = some c) {k : Nat} (hk : k < 64) :
    (forEach ps (State.losePage c) s).isPoison (64 * p + k) = true := by
  induction ps generalizing s with
  | nil => simp at hp
  | cons q ps ih =>
    show (forEach ps (State.losePage c) (s.losePage c q)).isPoison (64 * p + k) = true
    by_cases hq : p = q
    · subst hq
      exact losePages_kept ps _ (losePage_isPoison c p s (.inl ⟨hc, k, hk, rfl⟩))
    · refine ih ((List.mem_cons.mp hp).resolve_left hq) ?_
      rw [losePage_page, if_neg hq]
      exact hc

theorem page_of_not_mem_pageKeys (s : State) {q : Nat} (h : q ∉ s.pageKeys) : s.page q = {} := mapGet_of_not_mem h

end LosePage

/-! ### The pool after the loss (R112, R113) -/

/-- The floors in effect, whether they are scaled, an event and an entry. -/
theorem poolChanged_cases (s : State) : ∃ (u : State) (b : Bool) (n : Nat) (v : List Nat), Only [.tenants] s u ∧
    let x : State := { u with tier := { u.tier with scaled := b } }
    s.poolChanged = x ∨ s.poolChanged = x.setEvt pgTIER 7 ∨ s.poolChanged = x.logE 0x0203 3 none pgTIER n v
      ∨ s.poolChanged = (x.setEvt pgTIER 7).logE 0x0203 3 none pgTIER n v := by
  unfold State.poolChanged
  dsimp only
  generalize hu : forEach allTenants _ s = u
  have ho : Only [.tenants] s u := hu ▸ Only.forEach (fun s t => only_updTen s t _) _ _
  refine ⟨u, decide (s.poolMiB < s.writtenFloors true + s.writtenFloors false), s.poolMiB, x2 (s.writtenFloors true / 1024), ho, ?_⟩
  split
  · split
    · exact .inr (.inr (.inr rfl))
    · exact .inr (.inr (.inl rfl))
  · split
    · exact .inr (.inl rfl)
    · exact .inl rfl

theorem only_poolChanged (s : State) : Only [.tenants, .tier, .hdrs, .mfn, .log, .ctrs] s s.poolChanged := by
  obtain ⟨u, b, n, v, hu, h⟩ := poolChanged_cases s
  have hx : Only [.tenants, .tier, .hdrs, .mfn, .log, .ctrs] s { u with tier := { u.tier with scaled := b } } :=
    (hu.mono (by decide)).trans ((only_with_tier u _).mono (by decide))
  have he : ∀ x : State, Only [.tenants, .tier, .hdrs, .mfn, .log, .ctrs] x (x.setEvt pgTIER 7) := fun x => (only_setEvt _ _ _).mono (by decide)
  have hl : ∀ x : State, Only [.tenants, .tier, .hdrs, .mfn, .log, .ctrs] x (x.logE 0x0203 3 none pgTIER n v) := fun x => (only_logE _ _ _ _ _ _ _).mono (by decide)
  rcases h with h | h | h | h <;> rw [h]
  · exact hx
  · exact hx.trans (he _)
  · exact hx.trans (hl _)
  · exact (hx.trans (he _)).trans (hl _)

/-- Whatever the floors come to, the pages stay. -/
theorem poolChanged_page (s : State) (p : Nat) : s.poolChanged.page p = s.page p := by
  obtain ⟨u, b, n, v, hu, h⟩ := poolChanged_cases s
  have hx : ({ u with tier := { u.tier with scaled := b } } : State).page p = s.page p := page_congr (hu .tier (by decide)) p
  rcases h with h | h | h | h <;> rw [h]
  · exact hx
  · rw [setEvt_page, hx]
  · rw [logE_page, hx]
  · rw [logE_page, setEvt_page, hx]

theorem bitsKept_poolChanged (s : State) : BitsKept s s.poolChanged := by
  obtain ⟨u, b, n, v, hu, h⟩ := poolChanged_cases s
  have hx : BitsKept s { u with tier := { u.tier with scaled := b } } := BitsKept.of_hdrs (hu .hdrs (by decide))
  rcases h with h | h | h | h <;> rw [h]
  · exact hx
  · exact hx.trans (bitsKept_setEvt _ _ _)
  · exact hx.trans (bitsKept_logE _ _ _ _ _ _ _)
  · exact (hx.trans (bitsKept_setEvt _ _ _)).trans (bitsKept_logE _ _ _ _ _ _ _)

theorem chFatal_acts {c : Nat} (retries : Nat) (hc : c < 16) (ho : (s.unit .dram c).st ≠ .out) : ∃ t, exec (.chFatal c retries [] [] []) s = .next t
    ∧ (t.unit .dram c).st = .out ∧ (t.hdr (pgMEDIA c)).stat.getLsbD 4 = true
    ∧ (∀ p, t.page p = (s.page p).without c ∧ ((s.page p).frameCh = some c → ∀ k, k < 64 → t.isPoison (64 * p + k) = true))
    ∧ (∀ l, s.isPoison l = true → t.isPoison l = true)
    ∧ Only [.svc, .svcEvt, .hdrs, .mfn, .log, .ctrs, .tier, .dram, .rgl, .poison, .tenants] s t := by
  have h1 := only_chanLost c retries s
  have hst := chanLost_st c retries s
  have hstat := chanLost_stat c retries s
  have he := chFatal_eq (s := s) retries ho
  generalize s.chanLost c retries = u at h1 hst hstat he
  have h2 : Only [.tier, .dram, .rgl, .poison, .log] u (forEach u.pageKeys (State.losePage c) u) := Only.forEach (fun s p => only_losePage c p s) _ _
  have hpage : ∀ p, u.page p = s.page p := page_congr (h1 .tier (by decide))
  have hpoison : ∀ l, u.isPoison l = s.isPoison l := fun l => congrArg (mapGet (fun _ => false) · l) (h1 .poison (by decide))
  have hlost := losePages_page (c := c) u.pageKeys u
  have hframe := fun p => @losePages_isPoison c p u.pageKeys u
  have hkept := fun l => @losePages_kept c u.pageKeys u l
  generalize forEach u.pageKeys (State.losePage c) u = v at h2 he hlost hframe hkept
  have h3 := only_poolChanged v
  have hout : ∀ l, (s.keeping {} v.poolChanged).isPoison l = v.isPoison l := fun l => by
    rw [keeping_isPoison]
    exact congrArg (mapGet (fun _ => false) · l) (h3 .poison (by decide))
  refine ⟨_, exec_done rfl ((if_pos hc).trans he), ?st, ?stat, fun p => ⟨?page, fun hf k hk => ?lines⟩, fun l hl => ?poison,
    Only.keeping_any ((h1.mono (by decide)).trans ((h2.mono (by decide)).trans (h3.mono (by decide)))) nofun⟩
  case st => rw [keeping_unit, unit_of_svc (h3 .svc (by decide)), unit_of_svc (h2 .svc (by decide)), hst]
  case stat =>
    rw [keeping_hdr]
    exact (BitsKept.of_hdrs (h2 .hdrs (by decide))).trans (bitsKept_poolChanged v) _ _ hstat
  case page =>
    rw [keeping_page, poolChanged_page, hlost, hpage]
    split
    · rfl
    · rename_i hp
      rw [← hpage, page_of_not_mem_pageKeys u hp]
      rfl
  case lines =>
    rw [hout]
    refine hframe p (by_contra fun hp => ?_) ((congrArg PageRec.frameCh (hpage p)).trans hf) hk
    rw [← hpage, page_of_not_mem_pageKeys u hp] at hf
    cases hf
  case poison =>
    rw [hout]
    exact hkept l ((hpoison l).trans hl)

/-- Settles O47: a refresh that runs, is postponed or is forced; a flush; a hot DIMM; and a lost channel, page by page. -/
theorem channelsAreMaintained : Obligations.ChannelsAreMaintained := by
  refine ⟨fun c s hc i hi => ⟨refresh_absent hc hi, fun hk ho => ⟨refresh_runs hc hi hk ho rfl rfl, refresh_postponed hc hi hk ho rfl, refresh_forced hc hi hk ho rfl⟩⟩,
    fun src s h => ⟨flush_clean h, fun l f hf hd => ⟨flush_unpaid h hf hd, flush_paid h hf hd⟩⟩, fun c temp s => dimmHot_acts temp, fun c retries s hc ho => ?_⟩
  obtain ⟨t, ht, hst, hstat, hp, hl, ho⟩ := chFatal_acts retries hc ho
  refine ⟨t, ht, hst, hstat, fun p => ?_, hl, ho⟩
  obtain ⟨hpage, hpoison⟩ := hp p
  rw [hpage]
  exact ⟨rfl, rfl, rfl, hpoison⟩

end Sys2Proof.Machine
end

section
/-!
PROOFS. The shelf: reads, programs and erases.
-/

namespace Sys2Proof.Machine

open Sys2Proof

variable {s : State} {p k b n : Nat}

/-! ### The shelf's records read back -/

theorem shLun_updLun (k j : Nat) (f : ShLun → ShLun) (s : State) : (s.updLun k f).shLun j = if j = k then f (s.shLun k) else s.shLun j := mapGet_upd _ _ _ _
theorem shRec_updRec (n m : Nat) (f : ShelfRec → ShelfRec) (s : State) : (s.updRec n f).shRec m = if m = n then f (s.shRec n) else s.shRec m := mapGet_upd _ _ _ _
theorem shBlock_updBlock_same (k b : Nat) (f : ShBlock → ShBlock) (s : State) : (s.updBlock k b f).shBlock k b = f (s.shBlock k b) := mapGet_upd_same _ _ _

theorem shLun_updBlock (k b j : Nat) (f : ShBlock → ShBlock) (s : State) : (s.updBlock k b f).shLun j = s.shLun j := rfl
theorem shBlock_updLun (k j b : Nat) (f : ShLun → ShLun) (s : State) : (s.updLun k f).shBlock j b = s.shBlock j b := rfl
theorem shLun_of_luns {t u : State} (h : t.shelf.luns = u.shelf.luns) (k : Nat) : t.shLun k = u.shLun k := by unfold State.shLun; rw [h]
theorem shLun_of_shelf {t u : State} (h : t.shelf = u.shelf) (k : Nat) : t.shLun k = u.shLun k := shLun_of_luns (congrArg ShelfS.luns h) k
theorem shRec_of_recs {t u : State} (h : t.shelf.recs = u.shelf.recs) (n : Nat) : t.shRec n = u.shRec n := by unfold State.shRec; rw [h]
theorem shBlock_of_blocks {t u : State} (h : t.shelf.blocks = u.shelf.blocks) (k b : Nat) : t.shBlock k b = u.shBlock k b := by unfold State.shBlock; rw [h]

/-- Records and the reads in progress are kept. -/
def RecordsKept (s t : State) : Prop := t.shelf.recs = s.shelf.recs ∧ t.shelf.reads = s.shelf.reads

theorem RecordsKept.of_shelf {s t : State} (h : t.shelf = s.shelf) : RecordsKept s t := ⟨congrArg ShelfS.recs h, congrArg ShelfS.reads h⟩
theorem RecordsKept.trans {s t u : State} (h : RecordsKept s t) (h' : RecordsKept t u) : RecordsKept s u := ⟨h'.1.trans h.1, h'.2.trans h.2⟩

/-! ### Errors and retirement of blocks (R550, R551) -/

theorem only_shErr (l sel n : Nat) (s : State) : Only [.ctrs] s (s.shErr l sel n) := only_bump _ _ _ _
theorem only_noteLast (l b : Nat) (s : State) : Only [.shelf] s (s.noteLast l b) := only_with_shelf _ _

/-- One advice of a LUN or plane. -/
def State.adviseOne (k bit plane : Nat) (whole due : Bool) (s : State) : State :=
  if due && !(s.shLun k).advised.testBit bit then
    ((s.updLun k fun l => { l with advised := l.advised ||| 2 ^ bit }).setEvt (pgSH (lunChan k)) 5).retireAdvice 4 0 (sretLocator k plane whole) (pgSH (lunChan k))
  else s

/-- What errors change: no record and no read in progress; events are set, and entries logged. -/
structure ShelfErrs (s t : State) : Prop where
  recs : RecordsKept s t
  bits : BitsKept s t
  parts : Only [.shelf, .ctrs, .hdrs, .mfn, .log] s t

theorem ShelfErrs.refl (s : State) : ShelfErrs s s := ⟨.of_shelf rfl, .refl _, .refl _ _⟩
theorem ShelfErrs.trans {s t u : State} (h : ShelfErrs s t) (h' : ShelfErrs t u) : ShelfErrs s u :=
  ⟨h.recs.trans h'.recs, h.bits.trans h'.bits, h.parts.trans h'.parts⟩
theorem shelfErrs_updBlock (k b : Nat) (f : ShBlock → ShBlock) (s : State) : ShelfErrs s (s.updBlock k b f) :=
  ⟨⟨rfl, rfl⟩, .of_hdrs rfl, (only_updBlock _ _ _ _).mono (by decide)⟩

/-- An error that leaves the blocks. -/
structure Advises (s t : State) : Prop extends ShelfErrs s t where
  blocks : t.shelf.blocks = s.shelf.blocks

theorem Advises.refl (s : State) : Advises s s := ⟨.refl _, rfl⟩
theorem Advises.trans {s t u : State} (h : Advises s t) (h' : Advises t u) : Advises s u :=
  ⟨h.toShelfErrs.trans h'.toShelfErrs, h'.blocks.trans h.blocks⟩

theorem advises_updLun (k : Nat) (f : ShLun → ShLun) (s : State) : Advises s (s.updLun k f) :=
  ⟨⟨⟨rfl, rfl⟩, .of_hdrs rfl, (only_updLun _ _ _).mono (by decide)⟩, rfl⟩
theorem advises_setEvt (p b : Nat) (s : State) : Advises s (s.setEvt p b) :=
  ⟨⟨.of_shelf (setEvt_shelf _ _ _), bitsKept_setEvt _ _ _, (only_setEvt _ _ _).mono (by decide)⟩, congrArg ShelfS.blocks (setEvt_shelf _ _ _)⟩
theorem advises_logE (ev sev : Nat) (t : Option Nat) (p a : Nat) (v : List Nat) (s : State) : Advises s (s.logE ev sev t p a v) :=
  ⟨⟨.of_shelf (logE_shelf _ _ _ _ _ _ _), bitsKept_logE _ _ _ _ _ _ _, (only_logE _ _ _ _ _ _ _).mono (by decide)⟩,
    congrArg ShelfS.blocks (logE_shelf _ _ _ _ _ _ _)⟩
theorem advises_shErr (l sel n : Nat) (s : State) : Advises s (s.shErr l sel n) :=
  ⟨⟨⟨rfl, rfl⟩, .of_hdrs rfl, (only_shErr _ _ _ _).mono (by decide)⟩, rfl⟩
theorem advises_noteLast (l b : Nat) (s : State) : Advises s (s.noteLast l b) :=
  ⟨⟨⟨rfl, rfl⟩, .of_hdrs rfl, (only_noteLast _ _ _).mono (by decide)⟩, rfl⟩

theorem advises_adviseOne (k bit plane : Nat) (whole due : Bool) (s : State) : Advises s (s.adviseOne k bit plane whole due) := by
  unfold State.adviseOne
  split
  · exact ((advises_updLun _ _ _).trans (advises_setEvt _ _ _)).trans (advises_logE _ _ _ _ _ _ _)
  · exact .refl _

theorem advises_forEach {f : Nat → State → State} (h : ∀ n s, Advises s (f n s)) (l : List Nat) (s : State) : Advises s (forEach l f s) := by
  induction l generalizing s with
  | nil => exact .refl _
  | cons n l ih => exact (h n s).trans (ih _)

theorem advises_adviseLun (k : Nat) (s : State) : Advises s (s.adviseLun k) :=
  (advises_adviseOne k 8 0 true _ s).trans (advises_forEach (fun n => advises_adviseOne k n n false _) _ _)

section RetireBlock

variable (k b : Nat) (s : State)

theorem retireBlock_used (h : (s.shBlock k b).use = 4) : s.retireBlock k b = s := if_pos h

/-- A block that is not retired becomes so; then its LUN is advised of. -/
theorem retireBlock_unused (h : (s.shBlock k b).use ≠ 4) : Advises (s.updBlock k b fun x => { x with use := 4 }) (s.retireBlock k b) := by
  unfold State.retireBlock
  rw [if_neg h]
  exact (((advises_shErr _ _ _ _).trans (advises_setEvt _ _ _)).trans (advises_updLun _ _ _)).trans (advises_adviseLun _ _)

theorem retireBlock_use : ((s.retireBlock k b).shBlock k b).use = 4 := by
  by_cases h : (s.shBlock k b).use = 4
  · rw [retireBlock_used k b s h, h]
  · rw [shBlock_of_blocks (retireBlock_unused k b s h).blocks, shBlock_updBlock_same]

theorem shelfErrs_retireBlock : ShelfErrs s (s.retireBlock k b) := by
  by_cases h : (s.shBlock k b).use = 4
  · rw [retireBlock_used k b s h]
    exact .refl _
  · exact (shelfErrs_updBlock k b _ s).trans (retireBlock_unused k b s h).toShelfErrs

end RetireBlock

/-! ### Erases (R540) -/

/-- The LUN is idle again, and no record is left in the block. -/
def State.erased (k b : Nat) (s : State) : State :=
  { s.updLun k fun l => { l with erasing := none } with
    shelf := { (s.updLun k fun l => { l with erasing := none }).shelf with recs := s.shelf.recs.filter fun e => !(e.2.lun == k && e.2.st == 2 && e.2.block == b) } }

theorem only_erased (k b : Nat) (s : State) : Only [.shelf] s (s.erased k b) := (only_updLun _ _ _).trans (only_with_shelf _ _)

theorem erased_luns (k b : Nat) (s : State) : (s.erased k b).shelf.luns = (s.updLun k fun l => { l with erasing := none }).shelf.luns := rfl

theorem flashEraseDone_good (he : (s.shLun k).erasing = some b) :
    s.flashEraseDone k true = (s.erased k b).updBlock k b fun x => { x with use := 1, erases := x.erases + 1 } := by
  unfold State.flashEraseDone
  rw [he]
  rfl

theorem flashEraseDone_bad (he : (s.shLun k).erasing = some b) :
    s.flashEraseDone k false = ((((s.erased k b).shErr k 5 1).setEvt (pgSH (lunChan k)) 1).noteLast k b).retireBlock k b := by
  unfold State.flashEraseDone
  rw [he]
  rfl

theorem eraseDone_good (hk : k < 1024) (he : (s.shLun k).erasing = some b) : ∃ t, exec (.flashEraseDone k true) s = .next t ∧ (t.shLun k).erasing = none
    ∧ t.shBlock k b = { s.shBlock k b with use := 1, erases := (s.shBlock k b).erases + 1 }
    ∧ t.shelf.recs = s.shelf.recs.filter (fun e => !(e.2.lun == k && e.2.st == 2 && e.2.block == b)) ∧ Only [.shelf] s t := by
  refine ⟨_, exec_done rfl ((if_pos hk).trans (flashEraseDone_good he)), ?_, ?_, ?_, Only.keeping_any ((only_erased _ _ _).trans (only_updBlock _ _ _ _)) nofun⟩
  · rw [shLun_of_luns (congrArg ShelfS.luns (keeping_shelf _ _ _)), shLun_updBlock, shLun_of_luns (erased_luns k b s), shLun_updLun, if_pos rfl]
  · rw [shBlock_of_blocks (congrArg ShelfS.blocks (keeping_shelf _ _ _)), shBlock_updBlock_same]
    rfl
  · rw [keeping_shelf]
    rfl

theorem eraseDone_bad (hk : k < 1024) (he : (s.shLun k).erasing = some b) : ∃ t, exec (.flashEraseDone k false) s = .next t
    ∧ (t.hdr (pgMEDIA (16 + lunChan k))).stat.getLsbD 1 = true ∧ (t.shBlock k b).use = 4
    ∧ t.shelf.recs = s.shelf.recs.filter (fun e => !(e.2.lun == k && e.2.st == 2 && e.2.block == b)) ∧ Only [.shelf, .ctrs, .hdrs, .mfn, .log] s t := by
  have h1 : Advises (s.erased k b) ((((s.erased k b).shErr k 5 1).setEvt (pgSH (lunChan k)) 1).noteLast k b) :=
    ((advises_shErr _ _ _ _).trans (advises_setEvt _ _ _)).trans (advises_noteLast _ _ _)
  have hbit : (((((s.erased k b).shErr k 5 1).setEvt (pgSH (lunChan k)) 1).noteLast k b).hdr (pgSH (lunChan k))).stat.getLsbD 1 = true := setEvt_sets _ _ (by decide)
  have hd := flashEraseDone_bad he
  generalize (((s.erased k b).shErr k 5 1).setEvt (pgSH (lunChan k)) 1).noteLast k b = u at h1 hbit hd
  refine ⟨_, exec_done rfl ((if_pos hk).trans hd), ?_, ?_, ?_, Only.keeping_any (((only_erased k b s).mono (by decide)).trans (h1.parts.trans (shelfErrs_retireBlock k b u).parts)) nofun⟩
  · rw [keeping_hdr]
    exact (shelfErrs_retireBlock k b u).bits _ _ hbit
  · rw [shBlock_of_blocks (congrArg ShelfS.blocks (keeping_shelf _ _ _)), retireBlock_use]
  · rw [keeping_shelf, (shelfErrs_retireBlock k b u).recs.1, h1.recs.1]
    rfl

/-! ### Programs (R26, R539) -/

theorem notePeaks_shelf (s : State) : s.notePeaks.shelf = s.shelf := only_notePeaks s .shelf (by decide)
theorem notePeaks_page (s : State) (p : Nat) : s.notePeaks.page p = s.page p := page_congr (only_notePeaks s .tier (by decide)) p

section Programs

variable (hk : k < 1024) (hp : (s.shLun k).prog = some [n]) (hc : (s.shRec n).copyOf = none)

/-- A page whose record is programmed is told how that ended. -/
def PageRec.programmed (live : Bool) (e : PageDone) (r : PageRec) : PageRec := if live && r.st == .shelving then { r with done := some e } else r

theorem PageRec.programmed_done {live : Bool} {e : PageDone} {r : PageRec} (hl : live = true) (hs : r.st = .shelving) : (r.programmed live e).done = some e := by
  simp [PageRec.programmed, hl, hs]

/-- The LUN is idle, and its failed program is counted, with its event and its location. -/
def State.programFailed (k : Nat) (s : State) : State :=
  (((s.updLun k fun l => { l with prog := none }).shErr k 4 1).setEvt (pgSH (lunChan k)) 0).noteLast k (s.shLun k).progBlk

/-- A record that could not be programmed is no page's, and its page is told. -/
def State.recordLost (n : Nat) (s : State) : State :=
  if (s.shRec n).copyOf.isNone && (s.shRec n).live then
    (s.updRec n fun x => { x with live := false, copyOf := none }).updPage (s.shRec n).page fun x => if x.st == .shelving then { x with done := some .progFail } else x
  else s.updRec n fun x => { x with live := false, copyOf := none }

theorem shelfErrs_programFailed (k : Nat) (s : State) : ShelfErrs s (s.programFailed k) :=
  (((advises_updLun _ _ _).trans (advises_shErr _ _ _ _)).trans ((advises_setEvt _ _ _).trans (advises_noteLast _ _ _))).toShelfErrs

theorem programFailed_stat (k : Nat) (s : State) : ((s.programFailed k).hdr (pgSH (lunChan k))).stat.getLsbD 0 = true :=
  setEvt_sets ((s.updLun k fun l => { l with prog := none }).shErr k 4 1) (pgSH (lunChan k)) (by decide)

theorem only_recordLost (n : Nat) (s : State) : Only [.shelf, .tier] s (s.recordLost n) :=
  Only.ite (((only_updRec _ _ _).mono (by decide)).trans ((only_updPage _ _ _).mono (by decide))) ((only_updRec _ _ _).mono (by decide))

theorem recordLost_rec (n : Nat) (s : State) : ((s.recordLost n).shRec n).live = false := by
  have h : ((s.updRec n fun x => { x with live := false, copyOf := none }).shRec n).live = false := by rw [shRec_updRec, if_pos rfl]
  unfold State.recordLost
  split
  · exact h
  · exact h

theorem recordLost_page (hc : (s.shRec n).copyOf = none) (q : Nat) : (s.recordLost n).page q =
    if q = (s.shRec n).page then (s.page q).programmed (s.shRec n).live .progFail else s.page q := by
  unfold State.recordLost PageRec.programmed
  cases hl : (s.shRec n).live
  · simp [hc, show ∀ f, (s.updRec n f).page q = s.page q from fun _ => rfl]
  · by_cases hq : q = (s.shRec n).page
    · subst hq
      simp [hc, show ∀ f q, (s.updRec n f).page q = s.page q from fun _ _ => rfl]
    · simp [hc, hq, page_updPage_other _ _ hq, show ∀ f, (s.updRec n f).page q = s.page q from fun _ => rfl]

section

include hp

theorem flashProgramDone_bad : s.flashProgramDone k false = ((s.programFailed k).recordLost n).retireBlock k (s.shLun k).progBlk := by
  unfold State.flashProgramDone
  rw [hp]
  rfl

include hc

theorem flashProgramDone_good : s.flashProgramDone k true =
    ((s.updLun k fun l => { l with prog := none }).updRec n fun r => { r with st := 2 }).updPage (s.shRec n).page (PageRec.programmed (s.shRec n).live .progOk) := by
  have hc' : ((s.updLun k fun l => { l with prog := none }).shRec n).copyOf = none := hc
  unfold State.flashProgramDone
  rw [hp]
  simp only [List.foldl_cons, List.foldl_nil, if_true]
  rw [hc']
  rfl

end

include hk hp hc

theorem programDone_good : ∃ t, exec (.flashProgramDone k true) s = .next t ∧ (t.shLun k).prog = none ∧ (t.shRec n).st = 2
    ∧ ((s.shRec n).live = true → (s.page (s.shRec n).page).st = .shelving → (t.page (s.shRec n).page).done = some .progOk)
    ∧ (∀ q, q ≠ (s.shRec n).page → t.page q = s.page q) ∧ Only [.shelf, .tier, .sys] s t := by
  have hd := flashProgramDone_good hp hc
  have hshelf : (s.flashProgramDone k true).shelf = ((s.updLun k fun l => { l with prog := none }).updRec n fun r => { r with st := 2 }).shelf := by rw [hd]; rfl
  have hpage : ∀ q, (s.keeping {} (s.flashProgramDone k true).notePeaks).page q =
      if q = (s.shRec n).page then (s.page q).programmed (s.shRec n).live .progOk else s.page q := fun q => by
    rw [keeping_page, notePeaks_page, hd]
    split
    · subst q
      exact page_updPage_same _ _ _
    · rename_i hq
      exact page_updPage_other _ _ hq
  have ho : Only [.shelf, .tier, .sys] s (s.flashProgramDone k true) := by
    rw [hd]
    exact (((only_updLun _ _ _).mono (by decide)).trans ((only_updRec _ _ _).mono (by decide))).trans ((only_updPage _ _ _).mono (by decide))
  refine ⟨_, exec_done rfl (if_pos hk), ?_, ?_, fun hl hs => ?_, fun q hq => ?_, Only.keeping_any (ho.trans ((only_notePeaks _).mono (by decide))) nofun⟩
  · rw [shLun_of_shelf (keeping_shelf _ _ _), shLun_of_shelf (notePeaks_shelf _), shLun_of_shelf hshelf]
    exact congrArg ShLun.prog ((shLun_updLun k k (fun l => { l with prog := none }) s).trans (if_pos rfl))
  · rw [shRec_of_recs (congrArg ShelfS.recs (keeping_shelf _ _ _)), shRec_of_recs (congrArg ShelfS.recs (notePeaks_shelf _)), shRec_of_recs (congrArg ShelfS.recs hshelf),
      shRec_updRec, if_pos rfl]
  · rw [hpage, if_pos rfl]
    exact PageRec.programmed_done hl hs
  · rw [hpage, if_neg hq]

theorem programDone_bad : ∃ t, exec (.flashProgramDone k false) s = .next t ∧ (t.hdr (pgMEDIA (16 + lunChan k))).stat.getLsbD 0 = true
    ∧ (t.shBlock k (s.shLun k).progBlk).use = 4 ∧ (t.shRec n).live = false
    ∧ ((s.shRec n).live = true → (s.page (s.shRec n).page).st = .shelving → (t.page (s.shRec n).page).done = some .progFail)
    ∧ (∀ q, q ≠ (s.shRec n).page → t.page q = s.page q) ∧ Only [.shelf, .tier, .ctrs, .hdrs, .mfn, .log, .sys] s t := by
  have hd := flashProgramDone_bad hp
  have h1 := shelfErrs_programFailed k s
  have hbit := programFailed_stat k s
  generalize s.programFailed k = u at hd h1 hbit
  have hrec : u.shRec n = s.shRec n := shRec_of_recs h1.recs.1 n
  have h3 := shelfErrs_retireBlock k (s.shLun k).progBlk (u.recordLost n)
  have huse := retireBlock_use k (s.shLun k).progBlk (u.recordLost n)
  have hlost := only_recordLost n u
  have hpage : ∀ q, (s.keeping {} (s.flashProgramDone k false).notePeaks).page q =
      if q = (s.shRec n).page then (s.page q).programmed (s.shRec n).live .progFail else s.page q := fun q => by
    rw [keeping_page, notePeaks_page, hd, page_congr (h3.parts .tier (by decide)), recordLost_page (hrec ▸ hc), hrec, page_congr (h1.parts .tier (by decide))]
  have hshelf : (s.keeping {} (s.flashProgramDone k false).notePeaks).shelf = ((u.recordLost n).retireBlock k (s.shLun k).progBlk).shelf := by
    rw [keeping_shelf, notePeaks_shelf, hd]
  have hhdrs : (s.flashProgramDone k false).notePeaks.hdrs = ((u.recordLost n).retireBlock k (s.shLun k).progBlk).hdrs := by
    rw [← hd]
    exact only_notePeaks _ .hdrs (by decide)
  have ho : Only [.shelf, .tier, .ctrs, .hdrs, .mfn, .log, .sys] s (s.flashProgramDone k false) := by
    rw [hd]
    exact ((h1.parts.mono (by decide)).trans (hlost.mono (by decide))).trans (h3.parts.mono (by decide))
  refine ⟨_, exec_done rfl (if_pos hk), ?_, ?_, ?_, fun hl hs => ?_, fun q hq => ?_, Only.keeping_any (ho.trans ((only_notePeaks _).mono (by decide))) nofun⟩
  · rw [keeping_hdr]
    exact BitsKept.of_hdrs hhdrs _ _ (h3.bits _ _ (BitsKept.of_hdrs (hlost .hdrs (by decide)) _ _ hbit))
  · rw [shBlock_of_blocks (congrArg ShelfS.blocks hshelf)]
    exact huse
  · rw [shRec_of_recs (congrArg ShelfS.recs hshelf), shRec_of_recs h3.recs.1]
    exact recordLost_rec n u
  · rw [hpage, if_pos rfl]
    exact PageRec.programmed_done hl hs
  · rw [hpage, if_neg hq]

end Programs

/-! ### Write points (R538, R539) -/

theorem chargeSplit_shelfB (g i sub o c : Nat) (s : State) : (s.chargeSplit g i sub o c).daily.acc.shelfB = s.daily.acc.shelfB := by
  unfold State.chargeSplit State.charge
  dsimp only
  split <;> split <;> rfl

/-- The records of a buffer are being programmed into a page. -/
def State.programs (buf : List Nat) (b pg : Nat) (s : State) : State := buf.foldl (fun s n => s.updRec n fun r => { r with st := 1, block := b, pg := pg }) s

theorem only_programs (buf : List Nat) (b pg : Nat) (s : State) : Only [.shelf] s (s.programs buf b pg) := Only.foldl (fun _ _ => only_updRec _ _ _) _ _

theorem programs_kept (buf : List Nat) (b pg : Nat) (s : State) :
    (s.programs buf b pg).shelf.luns = s.shelf.luns ∧ (s.programs buf b pg).shelf.blocks = s.shelf.blocks := by
  induction buf generalizing s with
  | nil => exact ⟨rfl, rfl⟩
  | cons n buf ih => exact ih _

theorem programs_rec {buf : List Nat} {b pg m : Nat} {s : State} (h : m ∈ buf ∨ ((s.shRec m).st = 1 ∧ (s.shRec m).block = b ∧ (s.shRec m).pg = pg)) :
    ((s.programs buf b pg).shRec m).st = 1 ∧ ((s.programs buf b pg).shRec m).block = b ∧ ((s.programs buf b pg).shRec m).pg = pg := by
  induction buf generalizing s with
  | nil => exact h.resolve_left (List.not_mem_nil)
  | cons n buf ih =>
    refine ih (s := s.updRec n _) ?_
    by_cases hn : m = n
    · exact .inr (by rw [shRec_updRec, if_pos hn]; exact ⟨rfl, rfl, rfl⟩)
    · exact h.imp (fun h => (List.mem_cons.mp h).resolve_left hn) (by rw [shRec_updRec, if_neg hn]; exact id)

/-- The buffer of a write point becomes a program of its open block. -/
def State.flushed (k b : Nat) (last : Prop) [Decidable last] (s : State) : State :=
  (s.updBlock k b fun x => { x with use := if last then 3 else 2 }).updLun k fun l =>
    { l with prog := some (s.shLun k).buf, progBlk := b, susp := 0, buf := [], used := 0
             opened := if last then none else some b, nextPg := if last then 0 else (s.shLun k).nextPg + 1 }

section WritePoint

variable (hb : (s.shLun k).buf ≠ []) (hp : (s.shLun k).prog = none) (he : (s.shLun k).erasing = none) (ho : s.lunOpen k = true)
  (hf : (s.shLun k).used = 64 ∨ s.shFlush ≤ framesSince (s.shLun k).oldest s.frame.num) (hopen : (s.shLun k).opened = some b)
include hb hp he ho hf hopen

theorem writePointFlush_programs : ∃ u : State, s.writePointFlush k = u
    ∧ u.shelf = ((s.flushed k b ((s.shLun k).nextPg + 1 = (s.shTarget (lunTarget k)).ppb)).programs (s.shLun k).buf b (s.shLun k).nextPg).shelf
    ∧ u.daily.acc.shelfB = s.daily.acc.shelfB + 16384 ∧ Only [.shelf, .slate, .daily] s u := by
  have h3 : Only [.shelf] s ((s.flushed k b ((s.shLun k).nextPg + 1 = (s.shTarget (lunTarget k)).ppb)).programs (s.shLun k).buf b (s.shLun k).nextPg) :=
    ((only_updBlock _ _ _ _).trans (only_updLun _ _ _)).trans (only_programs _ _ _ _)
  refine ⟨_, rfl, ?_⟩
  unfold State.writePointFlush
  dsimp only
  rw [if_neg (by rcases hf with h | h <;> simp [hb, hp, he, ho, h]), hopen]
  dsimp only [Option.orElse]
  rw [if_pos rfl]
  refine ⟨chargeSplit_shelf _ _ _ _ _ _, ?_, ?_⟩
  · rw [chargeSplit_shelfB]
    exact congrArg (· + 16384) (congrArg (fun d : DailyS => d.acc.shelfB) (h3 .daily (by decide)))
  · exact ((h3.mono (by decide)).trans ((only_with_daily _ _).mono (by decide))).trans ((only_chargeSplit _ _ _ _ _ _).mono (by decide))

theorem writePointFlush_acts (hk : k < 1024) : let l := s.shLun k
    let last := decide (l.nextPg + 1 = (s.shTarget (lunTarget k)).ppb)
    ∃ t, exec (.writePointFlush k) s = .next t
      ∧ t.shLun k = { l with prog := some l.buf, progBlk := b, susp := 0, buf := [], used := 0, opened := if last then none else some b, nextPg := if last then 0 else l.nextPg + 1 }
      ∧ (t.shBlock k b).use = (if last then 3 else 2) ∧ (∀ n ∈ l.buf, (t.shRec n).st = 1 ∧ (t.shRec n).block = b ∧ (t.shRec n).pg = l.nextPg)
      ∧ t.daily.acc.shelfB = s.daily.acc.shelfB + 16384 ∧ Only [.shelf, .slate, .daily] s t := by
  obtain ⟨u, hu, hshelf, hbytes, hou⟩ := writePointFlush_programs hb hp he ho hf hopen
  have ht : (s.keeping {} u).shelf = _ := (keeping_shelf _ _ _).trans hshelf
  obtain ⟨hluns, hblocks⟩ := programs_kept (s.shLun k).buf b (s.shLun k).nextPg (s.flushed k b ((s.shLun k).nextPg + 1 = (s.shTarget (lunTarget k)).ppb))
  refine ⟨_, exec_done rfl ((if_pos hk).trans hu), ?_, ?_, fun n hn => ?_, ?_, Only.keeping_any hou nofun⟩
  · rw [shLun_of_shelf ht, shLun_of_luns hluns, State.flushed, shLun_updLun, if_pos rfl]
    simp only [decide_eq_true_eq]
    rfl
  · rw [shBlock_of_blocks (congrArg ShelfS.blocks ht), shBlock_of_blocks hblocks, State.flushed, shBlock_updLun, shBlock_updBlock_same]
    simp only [decide_eq_true_eq]
  · rw [shRec_of_recs (congrArg ShelfS.recs ht)]
    exact programs_rec (.inl hn)
  · rw [keeping_daily]
    exact hbytes

end WritePoint

theorem writePointFlush_waits (hk : k < 1024)
    (h : (s.shLun k).buf = [] ∨ (s.shLun k).prog.isSome = true ∨ (s.shLun k).erasing.isSome = true ∨ s.lunOpen k = false) :
    ∃ t, exec (.writePointFlush k) s = .next t ∧ Only [] s t := by
  refine ⟨_, exec_done rfl ((if_pos hk).trans (if_pos ?_)), Only.keeping_any (Only.refl _ _) nofun⟩
  rcases h with h | h | h | h <;> simp [h]

/-! ### The end of a read (R541, R542, R557, R560) -/

/-- The read leaves the LUN, at the cost of its transfer. -/
def State.readOver (w : ShelfRead) (s : State) : State :=
  let s1 := ({ s with shelf := { s.shelf with reads := s.shelf.reads.erase w } }).chargeSplit gSHELF (lunChan (s.shRec w.rec').lun) 0 (s.ownerCode w.owner)
    (256 * (s.shRec w.rec').slips + 4)
  { s1 with daily := { s1.daily with acc := { s1.daily.acc with shelfB := s1.daily.acc.shelfB + 256 * (s.shRec w.rec').slips } } }

/-- The codewords of a record, which are fetched when the first decision is not good. -/
def ShelfRec.codewords (r : ShelfRec) : Nat := (r.first + r.slips - 1) / 16 - r.first / 16 + 1

/-- A read that was not good is counted, as are its retry level and its correction; level 9 is an event. -/
def State.readRetried (r : ShelfRec) (level : Nat) (s : State) : State :=
  let s2 := (s.shErr r.lun 0 1).noteLast r.lun r.block
  let s3 := if 0 < level then s2.shErr r.lun 2 (min level 8) else s2
  if level < 9 then s3.shErr r.lun 1 r.codewords else (s3.shErr r.lun 3 1).setEvt (pgSH (lunChan r.lun)) 2

/-- The first bad read of a block is logged. -/
def State.readLogged (r : ShelfRec) (owner : Nat) (known : Bool) (s : State) : State :=
  if known then s
  else (s.updBlock r.lun r.block fun b => { b with logged := true }).logE 0x0901 0 (some owner) (pgSH (lunChan r.lun)) 0 [lunChan r.lun, lunTarget r.lun, r.block]

theorem only_readOver (w : ShelfRead) (s : State) : Only [.shelf, .slate, .daily] s (s.readOver w) :=
  ((only_with_shelf s _).mono (by decide)).trans (((only_chargeSplit _ _ _ _ _ _).mono (by decide)).trans ((only_with_daily _ _).mono (by decide)))

theorem readOver_reads (w : ShelfRead) (s : State) : (s.readOver w).shelf.reads = s.shelf.reads.erase w :=
  congrArg ShelfS.reads (chargeSplit_shelf _ _ _ _ _ _)

theorem shelfErrs_readRetried (r : ShelfRec) (level : Nat) (s : State) : ShelfErrs s (s.readRetried r level) := by
  have h1 := (advises_shErr r.lun 0 1 s).trans (advises_noteLast r.lun r.block _)
  have h2 : Advises s (if 0 < level then ((s.shErr r.lun 0 1).noteLast r.lun r.block).shErr r.lun 2 (min level 8) else (s.shErr r.lun 0 1).noteLast r.lun r.block) := by
    split
    · exact h1.trans (advises_shErr _ _ _ _)
    · exact h1
  unfold State.readRetried
  dsimp only
  split
  · exact (h2.trans (advises_shErr _ _ _ _)).toShelfErrs
  · exact (h2.trans ((advises_shErr _ _ _ _).trans (advises_setEvt _ _ _))).toShelfErrs

theorem readRetried_stat (r : ShelfRec) (s : State) : ((s.readRetried r 9).hdr (pgSH (lunChan r.lun))).stat.getLsbD 2 = true := setEvt_sets _ _ (by decide)

theorem shelfErrs_readLogged (r : ShelfRec) (owner : Nat) (known : Bool) (s : State) : ShelfErrs s (s.readLogged r owner known) := by
  unfold State.readLogged
  split
  · exact .refl _
  · exact (shelfErrs_updBlock _ _ _ _).trans (advises_logE _ _ _ _ _ _ _).toShelfErrs

theorem fetchedTo_eq (page owner cls : Nat) (ue : Bool) (s : State) : (s.fetchedTo page owner cls ue).lanes.waiting =
    s.lanes.waiting ++ [{ id := s.lanes.serial, kind := .fetched, page := page, owner := owner, cls := cls, ue := ue }] := rfl
theorem only_fetchedTo (page owner cls : Nat) (ue : Bool) (s : State) : Only [.lanes] s (s.fetchedTo page owner cls ue) := only_with_lanes _ _
theorem fetchedTo_shelf (page owner cls : Nat) (ue : Bool) (s : State) : (s.fetchedTo page owner cls ue).shelf = s.shelf := rfl

section ReadDone

variable {w : ShelfRead} (hw : s.shelf.reads.find? (fun r => r.page == p) = some w) (level : Nat)

/-- What the state is once a bad read is accounted for. -/
def State.readBad (w : ShelfRead) (level : Nat) (s : State) : State :=
  let r := s.shRec w.rec'
  let u := (((s.readOver w).chargeSplit gSHELF (lunChan r.lun) 0 (s.ownerCode w.owner) (r.codewords * (4 + 4096 + 4 + 352))).readRetried r level).readLogged r w.owner
    (s.shBlock r.lun r.block).logged
  if s.retireLvl ≤ level then u.retireBlock r.lun r.block else u

include hw

theorem flashReadDone_good : s.flashReadDone p true level = (s.readOver w).fetchedTo p w.owner w.cls (s.shRec w.rec').damaged := by
  unfold State.flashReadDone
  rw [hw]
  rfl

theorem flashReadDone_bad : s.flashReadDone p false level = (s.readBad w level).fetchedTo p w.owner w.cls (level == 9 || (s.shRec w.rec').damaged) := by
  unfold State.flashReadDone
  rw [hw]
  rfl

omit hw

theorem readBad_acts (w : ShelfRead) (s : State) : (s.readBad w level).shelf.reads = s.shelf.reads.erase w
    ∧ (level = 9 → ((s.readBad w level).hdr (pgSH (lunChan (s.shRec w.rec').lun))).stat.getLsbD 2 = true)
    ∧ (s.retireLvl ≤ level → ((s.readBad w level).shBlock (s.shRec w.rec').lun (s.shRec w.rec').block).use = 4)
    ∧ Only [.shelf, .slate, .daily, .ctrs, .hdrs, .mfn, .log] s (s.readBad w level) := by
  have h1 := only_readOver w s
  have hreads := readOver_reads w s
  unfold State.readBad
  dsimp only
  generalize s.shRec w.rec' = r
  generalize s.readOver w = s1 at h1 hreads
  have h2 := only_chargeSplit s1 gSHELF (lunChan r.lun) 0 (s.ownerCode w.owner) (r.codewords * (4 + 4096 + 4 + 352))
  have hshelf := chargeSplit_shelf s1 gSHELF (lunChan r.lun) 0 (s.ownerCode w.owner) (r.codewords * (4 + 4096 + 4 + 352))
  generalize s1.chargeSplit gSHELF (lunChan r.lun) 0 (s.ownerCode w.owner) (r.codewords * (4 + 4096 + 4 + 352)) = s2 at h2 hshelf
  have hlog := shelfErrs_readLogged r w.owner (s.shBlock r.lun r.block).logged (s2.readRetried r level)
  have h3 := (shelfErrs_readRetried r level s2).trans hlog
  have hbit : level = 9 → ((((s2.readRetried r level).readLogged r w.owner (s.shBlock r.lun r.block).logged).hdr (pgSH (lunChan r.lun))).stat.getLsbD 2 = true) :=
    fun h => hlog.bits _ _ (h ▸ readRetried_stat r s2)
  generalize (s2.readRetried r level).readLogged r w.owner (s.shBlock r.lun r.block).logged = s3 at h3 hbit
  have ho : Only [.shelf, .slate, .daily, .ctrs, .hdrs, .mfn, .log] s s3 := ((h1.mono (by decide)).trans (h2.mono (by decide))).trans (h3.parts.mono (by decide))
  have hr3 : s3.shelf.reads = s.shelf.reads.erase w := h3.recs.2.trans ((congrArg ShelfS.reads hshelf).trans hreads)
  split
  · have h4 := shelfErrs_retireBlock r.lun r.block s3
    exact ⟨h4.recs.2.trans hr3, fun h => h4.bits _ _ (hbit h), fun _ => retireBlock_use _ _ _, ho.trans (h4.parts.mono (by decide))⟩
  · rename_i hl
    exact ⟨hr3, hbit, fun h => absurd h hl, ho⟩

include hw

theorem readDone_good : ∃ t, exec (.flashReadDone p true level) s = .next t ∧ t.shelf.reads = s.shelf.reads.erase w
    ∧ t.lanes.waiting = s.lanes.waiting ++ [{ id := s.lanes.serial, kind := .fetched, page := p, owner := w.owner, cls := w.cls, ue := (s.shRec w.rec').damaged }]
    ∧ Only [.shelf, .slate, .daily, .lanes] s t := by
  have h1 := only_readOver w s
  refine ⟨_, exec_done rfl (flashReadDone_good hw level), ?_, ?_, Only.keeping_any ((h1.mono (by decide)).trans ((only_fetchedTo _ _ _ _ _).mono (by decide))) nofun⟩
  · rw [keeping_shelf, fetchedTo_shelf, readOver_reads]
  · rw [keeping_lanes, fetchedTo_eq, show (s.readOver w).lanes = s.lanes from h1 .lanes (by decide)]

theorem readDone_bad : ∃ t, exec (.flashReadDone p false level) s = .next t ∧ t.shelf.reads = s.shelf.reads.erase w
    ∧ t.lanes.waiting = s.lanes.waiting ++ [{ id := s.lanes.serial, kind := .fetched, page := p, owner := w.owner, cls := w.cls, ue := level == 9 || (s.shRec w.rec').damaged }]
    ∧ (level = 9 → (t.hdr (pgMEDIA (16 + lunChan (s.shRec w.rec').lun))).stat.getLsbD 2 = true)
    ∧ (s.retireLvl ≤ level → (t.shBlock (s.shRec w.rec').lun (s.shRec w.rec').block).use = 4)
    ∧ Only [.shelf, .slate, .daily, .lanes, .ctrs, .hdrs, .mfn, .log] s t := by
  obtain ⟨hreads, hbit, huse, ho⟩ := readBad_acts level w s
  have hd := flashReadDone_bad hw level
  generalize s.readBad w level = u at hreads hbit huse ho hd
  have hshelf : (s.keeping {} (u.fetchedTo p w.owner w.cls (level == 9 || (s.shRec w.rec').damaged))).shelf = u.shelf := by rw [keeping_shelf, fetchedTo_shelf]
  refine ⟨_, exec_done rfl hd, ?_, ?_, fun h => ?_, fun h => ?_, Only.keeping_any ((ho.mono (by decide)).trans ((only_fetchedTo _ _ _ _ _).mono (by decide))) nofun⟩
  · rw [hshelf, hreads]
  · rw [keeping_lanes, fetchedTo_eq, show u.lanes = s.lanes from ho .lanes (by decide)]
  · rw [keeping_hdr]
    exact hbit h
  · rw [shBlock_of_blocks (congrArg ShelfS.blocks hshelf)]
    exact huse h

end ReadDone

/-! ### The issue of a read (R530, R531) -/

theorem charge_gSHELF (i sub o c : Nat) (s : State) : s.charge gSHELF i sub o c = s.useTake gSHELF i sub o c := by
  unfold State.charge
  exact if_neg (by decide)

section ReadIssue

variable {w : ShelfWork} {r : ShelfRec} (hw : s.shelf.toRead.find? (fun w => w.page == p) = some w)

/-- Another read of the LUN is in the record's plane. -/
def State.planeBusy (s : State) (r : ShelfRec) : Bool :=
  s.shelf.reads.any fun x => (s.shRec x.rec').lun == r.lun && (s.shRec x.rec').block % max 1 (s.shTarget (lunTarget r.lun)).planes == r.block % max 1 (s.shTarget (lunTarget r.lun)).planes

/-- A program or erase occupies the LUN. -/
def State.lunBusy (s : State) (k : Nat) : Bool := (s.shLun k).prog.isSome || (s.shLun k).erasing.isSome

/-- A read of a record that is not there, or cannot be had, goes to the lanes as uncorrectable. -/
def State.readLost (p : Nat) (w : ShelfWork) (s : State) : State :=
  ({ s with shelf := { s.shelf with toRead := s.shelf.toRead.erase w } } : State).fetchedTo p w.owner w.cls true

/-- The read is paid for, and suspends what occupies its LUN. -/
def State.readPaid (w : ShelfWork) (r : ShelfRec) (s : State) : State :=
  let s1 := ({ s with shelf := { s.shelf with toRead := s.shelf.toRead.erase w } } : State).charge gSHELF (lunChan r.lun) 0 (s.ownerCode w.owner) 7
  if s.lunBusy r.lun then (s1.updLun r.lun fun l => { l with susp := l.susp + 1 }).shErr r.lun 6 1 else s1

/-- The array read of a record starts. -/
def State.readStarts (p n : Nat) (w : ShelfWork) (r : ShelfRec) (s : State) : State :=
  { s.readPaid w r with shelf := { (s.readPaid w r).shelf with
      reads := (s.readPaid w r).shelf.reads ++ [{ page := p, owner := w.owner, cls := w.cls, transient := w.transient, rec' := n, since := s.frame.num }] } }

include hw

theorem flashReadIssue_gone (h : s.recOf p = none) : s.flashReadIssue p = s.readLost p w := by
  unfold State.flashReadIssue
  rw [hw]
  dsimp only
  rw [h]
  rfl

theorem flashReadIssue_some (h : s.recOf p = some (n, r)) : s.flashReadIssue p =
    if r.damaged || (s.shLun r.lun).fault || (s.unit .shelf (lunChan r.lun)).st == .out then s.readLost p w
    else if s.planeBusy r then s
    else if !(!s.lunBusy r.lun || ((s.shTarget (lunTarget r.lun)).suspend && (s.shLun r.lun).susp < s.suspMax)) || !s.fits gSHELF (lunChan r.lun) 0 (s.ownerCode w.owner) 7 then s
    else s.readStarts p n w r := by
  unfold State.flashReadIssue
  rw [hw]
  dsimp only
  rw [h]
  rfl

theorem readIssue_lost (h : s.recOf p = none ∨ (∃ n r, s.recOf p = some (n, r) ∧ (r.damaged = true ∨ (s.shLun r.lun).fault = true ∨ (s.unit .shelf (lunChan r.lun)).st = .out))) :
    ∃ t, exec (.flashReadIssue p) s = .next t ∧ t.shelf = { s.shelf with toRead := s.shelf.toRead.erase w }
      ∧ t.lanes.waiting = s.lanes.waiting ++ [{ id := s.lanes.serial, kind := .fetched, page := p, owner := w.owner, cls := w.cls, ue := true }]
      ∧ Only [.shelf, .lanes, .sys] s t := by
  have hu : s.flashReadIssue p = s.readLost p w := by
    rcases h with h | ⟨n, r, hr, h⟩
    · exact flashReadIssue_gone hw h
    · rw [flashReadIssue_some hw hr]
      refine if_pos ?_
      rcases h with h | h | h <;> simp [h]
  have ho : Only [.shelf, .lanes, .sys] s (s.readLost p w) := ((only_with_shelf s _).mono (by decide)).trans ((only_fetchedTo _ _ _ _ _).mono (by decide))
  refine ⟨_, exec_done rfl (congrArg State.notePeaks hu), ?_, ?_, Only.keeping_any (ho.trans ((only_notePeaks _).mono (by decide))) nofun⟩
  · rw [keeping_shelf, notePeaks_shelf]
    rfl
  · rw [keeping_lanes, show (s.readLost p w).notePeaks.lanes = (s.readLost p w).lanes from only_notePeaks _ .lanes (by decide)]
    rfl

section Found

variable (hr : s.recOf p = some (n, r)) (hd : r.damaged = false) (hfault : (s.shLun r.lun).fault = false) (hst : (s.unit .shelf (lunChan r.lun)).st ≠ .out)
include hr hd hfault hst

theorem flashReadIssue_found : s.flashReadIssue p =
    if s.planeBusy r then s
    else if !(!s.lunBusy r.lun || ((s.shTarget (lunTarget r.lun)).suspend && (s.shLun r.lun).susp < s.suspMax)) || !s.fits gSHELF (lunChan r.lun) 0 (s.ownerCode w.owner) 7 then s
    else s.readStarts p n w r := by
  rw [flashReadIssue_some hw hr]
  exact if_neg (by simp [hd, hfault, hst])

theorem readIssue_waits (h : s.planeBusy r = true ∨ s.fits gSHELF (lunChan r.lun) 0 (s.ownerCode w.owner) 7 = false
      ∨ (s.lunBusy r.lun = true ∧ ((s.shTarget (lunTarget r.lun)).suspend = false ∨ s.suspMax ≤ (s.shLun r.lun).susp))) :
    ∃ t, exec (.flashReadIssue p) s = .next t ∧ Only [.sys] s t := by
  have hu : s.flashReadIssue p = s := by
    rw [flashReadIssue_found hw hr hd hfault hst]
    split
    · rfl
    · rename_i hb
      refine if_pos ?_
      rcases h with h | h | ⟨h, h'⟩
      · exact absurd h hb
      · simp [h]
      · rcases h' with h' | h' <;> simp [h, h']
  exact ⟨_, exec_done rfl (congrArg State.notePeaks hu), Only.keeping_any (only_notePeaks _) nofun⟩

omit hw hr hd hfault hst

theorem readPaid_kept (w : ShelfWork) (r : ShelfRec) (s : State) : (s.readPaid w r).shelf.reads = s.shelf.reads
    ∧ (s.readPaid w r).shelf.toRead = s.shelf.toRead.erase w
    ∧ (s.readPaid w r).shLun r.lun = (if s.lunBusy r.lun = true then { s.shLun r.lun with susp := (s.shLun r.lun).susp + 1 } else s.shLun r.lun)
    ∧ (s.readPaid w r).slate = (s.charge gSHELF (lunChan r.lun) 0 (s.ownerCode w.owner) 7).slate ∧ Only [.shelf, .slate, .ctrs] s (s.readPaid w r) := by
  have h1 : Only [.shelf, .slate, .ctrs] s (({ s with shelf := { s.shelf with toRead := s.shelf.toRead.erase w } } : State).useTake gSHELF (lunChan r.lun) 0 (s.ownerCode w.owner) 7) :=
    ((only_with_shelf s _).mono (by decide)).trans ((only_useTake _ _ _ _ _ _).mono (by decide))
  unfold State.readPaid
  dsimp only
  rw [charge_gSHELF, charge_gSHELF]
  split
  · refine ⟨rfl, rfl, ?_, rfl, h1.trans (((only_updLun _ _ _).mono (by decide)).trans ((only_shErr _ _ _ _).mono (by decide)))⟩
    exact (shLun_updLun r.lun r.lun (fun l => { l with susp := l.susp + 1 }) _).trans (if_pos rfl)
  · exact ⟨rfl, rfl, rfl, rfl, h1⟩

include hw hr hd hfault hst

theorem readIssue_starts (hb : s.planeBusy r = false) (hf : s.fits gSHELF (lunChan r.lun) 0 (s.ownerCode w.owner) 7 = true)
    (hs : s.lunBusy r.lun = true → (s.shTarget (lunTarget r.lun)).suspend = true ∧ (s.shLun r.lun).susp < s.suspMax) :
    ∃ t, exec (.flashReadIssue p) s = .next t
      ∧ t.shelf.reads = s.shelf.reads ++ [{ page := p, owner := w.owner, cls := w.cls, transient := w.transient, rec' := n, since := s.frame.num }]
      ∧ t.shelf.toRead = s.shelf.toRead.erase w
      ∧ t.shLun r.lun = (if s.lunBusy r.lun = true then { s.shLun r.lun with susp := (s.shLun r.lun).susp + 1 } else s.shLun r.lun)
      ∧ t.slate = (s.charge gSHELF (lunChan r.lun) 0 (s.ownerCode w.owner) 7).slate ∧ Only [.shelf, .slate, .ctrs, .sys] s t := by
  have hu : s.flashReadIssue p = s.readStarts p n w r := by
    rw [flashReadIssue_found hw hr hd hfault hst, if_neg (by simp [hb]), if_neg ?_]
    cases hl : s.lunBusy r.lun
    · simp [hf]
    · simp [hf, hs hl]
  obtain ⟨hreads, htoRead, hlun, hslate, ho⟩ := readPaid_kept w r s
  have hshelf : (s.keeping {} (s.readStarts p n w r).notePeaks).shelf = (s.readStarts p n w r).shelf := by rw [keeping_shelf, notePeaks_shelf]
  refine ⟨_, exec_done rfl (congrArg State.notePeaks hu), ?_, ?_, ?_, ?_,
    Only.keeping_any ((ho.mono (by decide)).trans (((only_with_shelf _ _).mono (by decide)).trans ((only_notePeaks _).mono (by decide)))) nofun⟩
  · rw [hshelf]
    exact congrArg (· ++ _) hreads
  · rw [hshelf]
    exact htoRead
  · rw [shLun_of_shelf hshelf]
    exact hlun
  · rw [keeping_slate, show (s.readStarts p n w r).notePeaks.slate = (s.readStarts p n w r).slate from only_notePeaks _ .slate (by decide)]
    exact hslate

end Found

end ReadIssue

/-- Settles O48: the issue of a read, its end by the first decision, the flush of a write point, and programs and erases that end good or fail. -/
theorem theShelfReadsAndPrograms : Obligations.TheShelfReadsAndPrograms := by
  refine ⟨fun p w s hw => ⟨readIssue_lost hw, fun n r hr hd hf hst => ⟨readIssue_waits hw hr hd hf hst, readIssue_starts hw hr hd hf hst⟩⟩,
    fun p level good w s hw => ?read, fun k b s hk => ⟨writePointFlush_waits hk, fun hb hp he ho hf hopen => writePointFlush_acts hb hp he ho hf hopen hk⟩,
    fun k n s hk hp hc => ⟨programDone_good hk hp hc, programDone_bad hk hp hc⟩, fun k b s hk he => ⟨eraseDone_good hk he, eraseDone_bad hk he⟩⟩
  cases good
  case false =>
    obtain ⟨t, ht, hreads, hlanes, hbit, huse, ho⟩ := readDone_bad hw level
    exact ⟨t, ht, hreads, hlanes, fun _ => hbit, fun _ => huse, ho⟩
  case true =>
    obtain ⟨t, ht, hreads, hlanes, ho⟩ := readDone_good hw level
    exact ⟨t, ht, hreads, hlanes, nofun, nofun, ho⟩

end Sys2Proof.Machine
end

section
/-!
PROOFS. What a tenant reaches of the block: its page, its cue rings, the reads of its host, credits, and a retrained link.
-/

namespace Sys2Proof.Machine

open Sys2Proof

variable {s : State} {k j t r p : Nat}

/-! ### The tenant page (R252, R253) -/

/-- An access of a tenant page is charged to its port. -/
def State.pagePaid (k : Nat) (s : State) : State :=
  s.chargeSplit (fnPort k) 0 0 (match s.fnTenant k with | some t => s.ownerCode t | none => ownOpen) 1

theorem only_pagePaid (k : Nat) (s : State) : Only [.slate, .daily] s (s.pagePaid k) := only_chargeSplit _ _ _ _ _ _
theorem pagePaid_fn (k n : Nat) (s : State) : (s.pagePaid k).fn n = s.fn n := chargeSplit_fn _ _ _ _ _ _ _
theorem pagePaid_ring (k n : Nat) (s : State) : (s.pagePaid k).ring n = s.ring n := chargeSplit_ring _ _ _ _ _ _ _
theorem pagePaid_fnTenant (k n : Nat) (s : State) : (s.pagePaid k).fnTenant n = s.fnTenant n :=
  fnTenant_congr (only_pagePaid k s .tables (by decide)) (only_pagePaid k s .hports (by decide)) (only_pagePaid k s .regs (by decide)) n

theorem fn_updFn (k n : Nat) (f : Fn → Fn) (s : State) : (s.updFn k f).fn n = if n = k then f (s.fn k) else s.fn n := mapGet_upd _ _ _ _

section TenantPage

variable (hp : s.presents k = true) (hr : s.pageReach k = true)
include hp hr

theorem tenantPageWrite_reached {o : Nat} (ho : o % 4 = 0) : (!s.presents k || !s.pageReach k || o % 4 != 0) = false := by
  rw [hp, hr, ho]
  rfl

theorem tenantPageWrite_ena (v : Word32) : s.tenantPageWrite k 0x24 v = (s.pagePaid k).updFn k fun x => { x with ena := v &&& 0x3FFFF#32 } :=
  (if_neg (by rw [tenantPageWrite_reached hp hr (by decide)]; decide)).trans rfl

theorem tenantPageWrite_stat (v : Word32) : s.tenantPageWrite k 0x20 v =
    (s.pagePaid k).updFn k fun x => { x with stat := x.stat &&& ((v &&& 0x3FFFF#32) ^^^ 0xFFFFFFFF#32 ||| x.seen) } :=
  (if_neg (by rw [tenantPageWrite_reached hp hr (by decide)]; decide)).trans rfl

theorem tenantPageWrite_ring {q : Nat} (hq : q < 64) (h4 : q % 4 = 0) (v : Word32) : s.tenantPageWrite k (0x100 + 64 * (j % 4) + q) v =
    if q = 0 then (s.pagePaid k).doorbell k (j % 4) (field v 15 0)
    else if q = 0x08 ∨ q = 0x0C then (s.pagePaid k).ringSet k (j % 4) q v
    else if q = 0x10 then (s.pagePaid k).ringCtl k (j % 4) v
    else s.pagePaid k := by
  have hj : j % 4 < 4 := Nat.mod_lt _ (by decide)
  have h1 : (0x100 + 64 * (j % 4) + q - 0x100) / 64 = j % 4 := by omega
  have h2 : (0x100 + 64 * (j % 4) + q - 0x100) % 64 = q := by omega
  unfold State.tenantPageWrite
  rw [if_neg (by rw [tenantPageWrite_reached hp hr (by omega)]; decide)]
  dsimp only
  rw [if_neg (by omega), if_neg (by omega), if_neg (by omega), if_pos (by omega), h1, h2]
  rfl

theorem exec_doorbell (tail : Nat) : exec (.doorbell k j tail) s = .next (s.keeping {} ((s.pagePaid k).doorbell k (j % 4) (tail % 65536))) := by
  refine exec_done rfl ((tenantPageWrite_ring hp hr (q := 0) (by decide) rfl _).trans ((if_pos rfl).trans (congrArg (State.doorbell k (j % 4) · _) ?_)))
  rw [field, BitVec.toNat_ofNat]
  omega

/-- A write of a ring's CTL. -/
theorem exec_ringCtl {c : Instr} {v : Word32} (hc : exec c s = done s (s.tenantPageWrite k (0x100 + 64 * (j % 4) + 0x10) v)) :
    exec c s = .next (s.keeping {} ((s.pagePaid k).ringCtl k (j % 4) v)) :=
  exec_done hc ((tenantPageWrite_ring hp hr (q := 0x10) (by decide) rfl _).trans rfl)

theorem intEna_stored (v : Word32) : ∃ t, exec (.tenantPageWrite k 0x24 v) s = .next t ∧ t.fn k = { s.fn k with ena := v &&& 0x3FFFF#32 }
    ∧ Only [.fns, .slate, .daily] s t := by
  refine ⟨_, exec_done rfl (tenantPageWrite_ena hp hr v), ?_,
    Only.keeping_any (((only_pagePaid k s).mono (by decide)).trans ((only_updFn _ _ _).mono (by decide))) nofun⟩
  rw [keeping_fn, fn_updFn_same, pagePaid_fn]

theorem intStat_cleared (v : Word32) : ∃ t, exec (.tenantPageWrite k 0x20 v) s = .next t
    ∧ t.fn k = { s.fn k with stat := (s.fn k).stat &&& ((v &&& 0x3FFFF#32) ^^^ 0xFFFFFFFF#32 ||| (s.fn k).seen) } ∧ Only [.fns, .slate, .daily] s t := by
  refine ⟨_, exec_done rfl (tenantPageWrite_stat hp hr v), ?_,
    Only.keeping_any (((only_pagePaid k s).mono (by decide)).trans ((only_updFn _ _ _).mono (by decide))) nofun⟩
  rw [keeping_fn, fn_updFn_same, pagePaid_fn]

end TenantPage

/-! ### Rings (R568 to R574, R597) -/

theorem ring_updRing (r q : Nat) (f : Ring → Ring) (s : State) : (s.updRing r f).ring q = if q = r then f (s.ring r) else s.ring q := mapGet_upd _ _ _ _

section Rings

variable (ht : s.fnTenant k = some t) (hr : r = 4 * t + j % 4)
include ht hr

theorem doorbell_ignored (tail : Nat) (h : (s.ring r).fn ≠ some k ∨ (s.ring r).st = 0) : s.doorbell k j tail = s := by
  subst hr
  unfold State.doorbell
  rw [ht]
  exact if_pos h

theorem doorbell_moves {tail : Nat} (hf : (s.ring r).fn = some k) (hs : (s.ring r).st ≠ 0)
    (h : (tail % 65536 + 65536 - (s.ring r).head) % 65536 ≤ 2 ^ (s.ring r).size) : s.doorbell k j tail = s.updRing r fun x => { x with tail := tail % 65536 } := by
  subst hr
  unfold State.doorbell
  rw [ht]
  exact (if_neg (by simp [hf, hs])).trans (if_pos h)

theorem doorbell_stops {tail : Nat} (hf : (s.ring r).fn = some k) (hs : (s.ring r).st ≠ 0)
    (h : 2 ^ (s.ring r).size < (tail % 65536 + 65536 - (s.ring r).head) % 65536) : s.doorbell k j tail = s.draw.2.ringStop r csDOORBELL (s.draw.1 % 65536) k := by
  subst hr
  unfold State.doorbell
  rw [ht]
  exact (if_neg (by simp [hf, hs])).trans (if_neg (by omega))

theorem ringSet_busy (v : Word32) (o : Nat) (hs : (s.ring r).st ≠ 0) : s.ringSet k j o v = s := by
  subst hr
  unfold State.ringSet
  rw [ht]
  exact if_pos (by simp [hs])

theorem ringSet_ctl {v : Word32} (hs : (s.ring r).st = 0) (hf : (s.ring r).fn = none) (h4 : 4 ≤ field v 3 0) (h12 : field v 3 0 ≤ 12) :
    s.ringSet k j 0x10 v = (s.updRing r fun x => { x with size := field v 3 0 }).updRing r fun x => { x with loc := bitOf v 4 } := by
  subst hr
  unfold State.ringSet
  rw [ht]
  dsimp only
  rw [if_neg (by simp [hs, Ring.openTo, hf]), if_neg (by decide), if_neg (by decide), if_pos ⟨h4, h12⟩]

theorem ringEnable_busy (hs : (s.ring r).st ≠ 0) : s.ringEnable k j = s := by
  subst hr
  unfold State.ringEnable
  rw [ht]
  exact if_pos (by simp [hs])

theorem ringEnable_free (hs : (s.ring r).st = 0) (hf : (s.ring r).fn = none) (hm : s.sys.memActive = true) :
    s.ringEnable k j = s.updRing r fun x => { x with st := 1, fn := some k, head := 0, tail := 0, ready := 0, err := 0, errIdx := 0, disabling := false } := by
  subst hr
  unfold State.ringEnable
  rw [ht]
  exact if_neg (by simp [hs, hf, hm])

theorem ringDisable_bound (hs : (s.ring r).st ≠ 0) (hf : (s.ring r).fn = some k) :
    s.ringDisable k j = (s.updRing r fun x => { x with disabling := true }).ringSettle r := by
  subst hr
  unfold State.ringDisable
  rw [ht]
  exact if_neg (by simp [hs, hf])

theorem ringResume_bound (hf : (s.ring r).fn = some k) : s.ringResume k j = if (s.ring r).st = 2 then s.updRing r fun x => { x with st := 1 } else s := by
  subst hr
  unfold State.ringResume
  rw [ht]
  exact if_congr (and_iff_right hf) rfl rfl

end Rings

theorem ringSettle_disabling (r : Nat) (s : State) : (s.updRing r fun x => { x with disabling := true }).ringSettle r =
    if s.runsOf r = [] then (s.updRing r fun x => { x with disabling := true }).updRing r fun x => { x with st := 0, disabling := false, fn := none }
    else s.updRing r fun x => { x with disabling := true } := by
  unfold State.ringSettle
  refine if_congr ?_ rfl rfl
  rw [ring_updRing_same, Bool.true_and]
  exact List.isEmpty_iff

theorem ringCtlWord_fields : ∀ size, size < 16 → ∀ d e r : Bool, field (ringCtlWord size d e r) 3 0 = size ∧ bitOf (ringCtlWord size d e r) 4 = d
    ∧ bitOf (ringCtlWord size d e r) 8 = e ∧ bitOf (ringCtlWord size d e r) 9 = r := by decide

/-- A write of CTL: its three steps, by the bits of the word that is written. -/
theorem ringCtl_word {size : Nat} (hz : size < 16) (d e r : Bool) (s : State) : s.ringCtl k j (ringCtlWord size d e r) =
    let s1 := s.ringSet k j 0x10 (ringCtlWord size d e r)
    let s2 := if e then s1.ringEnable k j else s1.ringDisable k j
    if r then s2.ringResume k j else s2 := by
  obtain ⟨-, -, he, hr⟩ := ringCtlWord_fields size hz d e r
  unfold State.ringCtl
  rw [he, hr]

theorem ringStop_ring (hn : r < 512) (hs : (s.ring r).st = 1) (c i f q : Nat) :
    (s.ringStop r c i f).ring q = if q = r then { s.ring q with st := 2, err := c, errIdx := i } else s.ring q := by
  unfold State.ringStop
  rw [if_neg (by omega), fnCause_ring, ring_updRing]
  split
  · subst q
    rw [if_pos (.inl hs), if_neg (by rw [hs]; decide)]
  · rfl

theorem fnTenant_updRing (k r : Nat) (f : Ring → Ring) (s : State) : (s.updRing r f).fnTenant k = s.fnTenant k := fnTenant_congr rfl rfl rfl k

/-- CTL enables a free ring with its size and its place. -/
theorem ringCtl_opens (ht : s.fnTenant k = some t) (hr : r = 4 * t + j % 4) {size : Nat} (hz : size < 16) (d : Bool) (hs : (s.ring r).st = 0)
    (hf : (s.ring r).fn = none) (hm : s.sys.memActive = true) (h4 : 4 ≤ size) (h12 : size ≤ 12) : s.ringCtl k j (ringCtlWord size d true false) =
      ((s.updRing r fun x => { x with size := size }).updRing r fun x => { x with loc := d }).updRing r
        fun x => { x with st := 1, fn := some k, head := 0, tail := 0, ready := 0, err := 0, errIdx := 0, disabling := false } := by
  obtain ⟨hsize, hloc, -, -⟩ := ringCtlWord_fields size hz d true false
  rw [ringCtl_word hz, ringSet_ctl ht hr hs hf (by rwa [hsize]) (by rwa [hsize]), hsize, hloc]
  dsimp only
  rw [if_pos rfl, if_neg (by decide)]
  refine ringEnable_free ?_ hr ?_ ?_ ?_
  · rw [fnTenant_updRing, fnTenant_updRing, ht]
  · rw [ring_updRing_same, ring_updRing_same, hs]
  · rw [ring_updRing_same, ring_updRing_same, hf]
  · rw [updRing_sys, updRing_sys, hm]

section RingCommands

variable (hp : s.presents k = true) (hr : s.pageReach k = true) (ht : s.fnTenant k = some t)
include hp hr ht

theorem doorbell_unbound (tail : Nat) (h : (s.ring (4 * t + j % 4)).fn ≠ some k ∨ (s.ring (4 * t + j % 4)).st = 0) :
    ∃ u, exec (.doorbell k j tail) s = .next u ∧ Only [.slate, .daily] s u := by
  have he := exec_doorbell (j := j) hp hr tail
  rw [doorbell_ignored (r := 4 * t + j % 4) ((pagePaid_fnTenant k k s).trans ht) (by omega) _ (by rwa [pagePaid_ring])] at he
  exact ⟨_, he, Only.keeping_any (only_pagePaid k s) nofun⟩

theorem doorbell_accepted {tail : Nat} (hf : (s.ring (4 * t + j % 4)).fn = some k) (hs : (s.ring (4 * t + j % 4)).st ≠ 0)
    (h : (tail % 65536 + 65536 - (s.ring (4 * t + j % 4)).head) % 65536 ≤ 2 ^ (s.ring (4 * t + j % 4)).size) :
    ∃ u, exec (.doorbell k j tail) s = .next u ∧ u.ring (4 * t + j % 4) = { s.ring (4 * t + j % 4) with tail := tail % 65536 }
      ∧ (∀ q, q ≠ 4 * t + j % 4 → u.ring q = s.ring q) ∧ Only [.cues, .slate, .daily] s u := by
  have he := exec_doorbell (j := j) hp hr tail
  rw [doorbell_moves (r := 4 * t + j % 4) ((pagePaid_fnTenant k k s).trans ht) (by omega) (by rwa [pagePaid_ring]) (by rwa [pagePaid_ring])
    (by rwa [pagePaid_ring, Nat.mod_mod])] at he
  refine ⟨_, he, ?_, fun q hq => ?_, Only.keeping_any (((only_pagePaid k s).mono (by decide)).trans ((only_updRing _ _ _).mono (by decide))) nofun⟩
  · rw [keeping_ring, ring_updRing, if_pos rfl, pagePaid_ring, Nat.mod_mod]
  · rw [keeping_ring, ring_updRing, if_neg hq, pagePaid_ring]

theorem doorbell_stopped {tail : Nat} (hf : (s.ring (4 * t + j % 4)).fn = some k) (hs : (s.ring (4 * t + j % 4)).st = 1) (hn : 4 * t + j % 4 < 512)
    (h : 2 ^ (s.ring (4 * t + j % 4)).size < (tail % 65536 + 65536 - (s.ring (4 * t + j % 4)).head) % 65536) :
    ∃ u, exec (.doorbell k j tail) s = .next u ∧ (u.ring (4 * t + j % 4)).st = 2 ∧ (u.ring (4 * t + j % 4)).err = 9
      ∧ (u.ring (4 * t + j % 4)).tail = (s.ring (4 * t + j % 4)).tail ∧ (∀ q, q ≠ 4 * t + j % 4 → u.ring q = s.ring q)
      ∧ Only [.cues, .fns, .freeIx, .slate, .daily] s u := by
  have he := exec_doorbell (j := j) hp hr tail
  rw [doorbell_stops (r := 4 * t + j % 4) ((pagePaid_fnTenant k k s).trans ht) (by omega) (by rwa [pagePaid_ring]) (by rw [pagePaid_ring, hs]; decide)
    (by rwa [pagePaid_ring, Nat.mod_mod])] at he
  have hring : ∀ q, (s.pagePaid k).draw.2.ring q = s.ring q := fun q => by rw [draw_ring, pagePaid_ring]
  have ho : Only [.cues, .fns, .freeIx, .slate, .daily] s (s.pagePaid k).draw.2 := ((only_pagePaid k s).mono (by decide)).trans ((only_draw (s.pagePaid k)).mono (by decide))
  generalize (s.pagePaid k).draw.2 = x at he hring ho
  generalize (s.pagePaid k).draw.1 % 65536 = i at he
  have hstop := ringStop_ring (s := x) hn ((congrArg Ring.st (hring _)).trans hs) csDOORBELL i k
  have hout := ho.trans ((only_ringStop x (4 * t + j % 4) csDOORBELL i k).mono (by decide))
  generalize x.ringStop (4 * t + j % 4) csDOORBELL i k = u at he hstop hout
  refine ⟨_, he, ?_, ?_, ?_, fun q hq => ?_, Only.keeping_any hout nofun⟩
  · rw [keeping_ring, hstop, if_pos rfl]
  · rw [keeping_ring, hstop, if_pos rfl]
    rfl
  · rw [keeping_ring, hstop, if_pos rfl, hring]
  · rw [keeping_ring, hstop, if_neg hq, hring]

variable {size : Nat} (hz : size < 16) (d : Bool)
include hz

theorem ringEnable_opens (hs : (s.ring (4 * t + j % 4)).st = 0) (hf : (s.ring (4 * t + j % 4)).fn = none) (hm : s.sys.memActive = true)
    (h4 : 4 ≤ size) (h12 : size ≤ 12) : ∃ u, exec (.ringEnable k j size d) s = .next u
      ∧ u.ring (4 * t + j % 4) = { s.ring (4 * t + j % 4) with size := size, loc := d, st := 1, fn := some k, head := 0, tail := 0, ready := 0, err := 0, errIdx := 0, disabling := false }
      ∧ (∀ q, q ≠ 4 * t + j % 4 → u.ring q = s.ring q) ∧ Only [.cues, .slate, .daily] s u := by
  have he := exec_ringCtl (c := .ringEnable k j size d) (j := j) hp hr rfl
  rw [ringCtl_opens (r := 4 * t + j % 4) ((pagePaid_fnTenant k k s).trans ht) (by omega) hz d (by rwa [pagePaid_ring]) (by rwa [pagePaid_ring])
    ((congrArg SysS.memActive (only_pagePaid k s .sys (by decide))).trans hm) h4 h12] at he
  refine ⟨_, he, ?_, fun q hq => ?_, Only.keeping_any (((only_pagePaid k s).mono (by decide)).trans
    ((((only_updRing _ _ _).trans (only_updRing _ _ _)).trans (only_updRing _ _ _)).mono (by decide))) nofun⟩
  · rw [keeping_ring, ring_updRing_same, ring_updRing_same, ring_updRing_same, pagePaid_ring]
  · rw [keeping_ring, ring_updRing, if_neg hq, ring_updRing, if_neg hq, ring_updRing, if_neg hq, pagePaid_ring]

section Bound

variable (hs : (s.ring (4 * t + j % 4)).st ≠ 0)
include hs

theorem exec_ringCtl_bound {c : Instr} {e r : Bool} (hc : exec c s = done s (s.tenantPageWrite k (0x100 + 64 * (j % 4) + 0x10) (ringCtlWord size d e r))) :
    exec c s = .next (s.keeping {} (let u := if e then s.pagePaid k else (s.pagePaid k).ringDisable k (j % 4); if r then u.ringResume k (j % 4) else u)) := by
  have he := exec_ringCtl (j := j) hp hr hc
  have ht' : (s.pagePaid k).fnTenant k = some t := (pagePaid_fnTenant k k s).trans ht
  have hs' : ((s.pagePaid k).ring (4 * t + j % 4)).st ≠ 0 := by rwa [pagePaid_ring]
  rw [ringCtl_word hz, ringSet_busy (r := 4 * t + j % 4) ht' (by omega) _ _ hs'] at he
  dsimp only at he
  rw [ringEnable_busy (r := 4 * t + j % 4) ht' (by omega) hs'] at he
  exact he

theorem ringEnable_again : ∃ u, exec (.ringEnable k j size d) s = .next u ∧ Only [.slate, .daily] s u :=
  ⟨_, exec_ringCtl_bound hp hr ht hz d hs rfl, Only.keeping_any (only_pagePaid k s) nofun⟩

variable (hf : (s.ring (4 * t + j % 4)).fn = some k)
include hf

theorem ringDisable_ends : ∃ u, exec (.ringDisable k j size d) s = .next u
    ∧ u.ring (4 * t + j % 4) = (if s.runsOf (4 * t + j % 4) = [] then { s.ring (4 * t + j % 4) with st := 0, disabling := false, fn := none }
        else { s.ring (4 * t + j % 4) with disabling := true })
    ∧ (∀ q, q ≠ 4 * t + j % 4 → u.ring q = s.ring q) ∧ Only [.cues, .slate, .daily] s u := by
  have he := exec_ringCtl_bound (c := .ringDisable k j size d) hp hr ht hz d hs rfl
  have ht' : (s.pagePaid k).fnTenant k = some t := (pagePaid_fnTenant k k s).trans ht
  have hruns : (s.pagePaid k).runsOf (4 * t + j % 4) = s.runsOf (4 * t + j % 4) := by
    unfold State.runsOf
    rw [show (s.pagePaid k).cues = s.cues from only_pagePaid k s .cues (by decide)]
  dsimp only at he
  rw [if_neg (by decide), if_neg (by decide), ringDisable_bound (r := 4 * t + j % 4) ht' (by omega) (by rwa [pagePaid_ring]) (by rwa [pagePaid_ring]),
    ringSettle_disabling, hruns] at he
  have ho : Only [.cues, .slate, .daily] s ((s.pagePaid k).updRing (4 * t + j % 4) fun x => { x with disabling := true }) :=
    ((only_pagePaid k s).mono (by decide)).trans ((only_updRing _ _ _).mono (by decide))
  refine ⟨_, he, ?_, fun q hq => ?_, Only.keeping_any (Only.ite (ho.trans ((only_updRing _ _ _).mono (by decide))) ho) nofun⟩
  · rw [keeping_ring]
    split
    · rw [ring_updRing_same, ring_updRing_same, pagePaid_ring]
    · rw [ring_updRing_same, pagePaid_ring]
  · rw [keeping_ring]
    split
    · rw [ring_updRing, if_neg hq, ring_updRing, if_neg hq, pagePaid_ring]
    · rw [ring_updRing, if_neg hq, pagePaid_ring]

theorem resume_runs : ∃ u, exec (.resume k j size d) s = .next u
    ∧ u.ring (4 * t + j % 4) = (if (s.ring (4 * t + j % 4)).st = 2 then { s.ring (4 * t + j % 4) with st := 1 } else s.ring (4 * t + j % 4))
    ∧ (∀ q, q ≠ 4 * t + j % 4 → u.ring q = s.ring q) ∧ Only [.cues, .slate, .daily] s u := by
  have he := exec_ringCtl_bound (c := .resume k j size d) hp hr ht hz d hs rfl
  dsimp only at he
  rw [if_pos rfl, if_pos rfl, ringResume_bound (r := 4 * t + j % 4) ((pagePaid_fnTenant k k s).trans ht) (by omega) (by rwa [pagePaid_ring]), pagePaid_ring] at he
  have ho : Only [.cues, .slate, .daily] s (s.pagePaid k) := (only_pagePaid k s).mono (by decide)
  refine ⟨_, he, ?_, fun q hq => ?_, Only.keeping_any (Only.ite (ho.trans ((only_updRing _ _ _).mono (by decide))) ho) nofun⟩
  · rw [keeping_ring]
    split
    · rw [ring_updRing_same, pagePaid_ring]
    · rw [pagePaid_ring]
  · rw [keeping_ring]
    split
    · rw [ring_updRing, if_neg hq, pagePaid_ring]
    · rw [pagePaid_ring]

end Bound

end RingCommands

/-! ### Reads of host memory (R211, R586) -/

theorem hport_updPort (p q : Nat) (f : HPort → HPort) (s : State) : (s.updPort p f).hport q = if q = p then f (s.hport p) else s.hport q := mapGet_upd _ _ _ _

theorem hport_of_hports {t u : State} (h : t.hports = u.hports) (q : Nat) : t.hport q = u.hport q := hport_congr h q

theorem only_hostDone (x : HostRead) (s : State) : Only [.cues, .hports] s (s.hostDone x) :=
  ((only_with_cues s _).mono (by decide)).trans ((only_updPort _ _ _).mono (by decide))

theorem hostDone_hport (x : HostRead) (s : State) (q : Nat) : (s.hostDone x).hport q =
    if q = x.port then { s.hport x.port with tagsUsed := (s.hport x.port).tagsUsed - 1 } else s.hport q := hport_updPort _ _ _ _

theorem hostDone_cues (x : HostRead) (s : State) : (s.hostDone x).cues = { s.cues with reads := s.cues.reads.filter (· != x) } := rfl

theorem bufGet_bufPut (key line : Nat) (b : List Byte) (p : Bool) (s : State) : (s.bufPut key line b p).bufGet key line = some (b, p) := by
  have h : (s.fab.buf.filter fun e => !(e.1 == key && e.2.1 == line)).find? (fun e => e.1 == key && e.2.1 == line) = none :=
    List.find?_eq_none.mpr fun e he => Bool.not_eq_true _ ▸ (Bool.not_eq_true' _).mp (List.mem_filter.mp he).2
  unfold State.bufGet State.bufPut
  dsimp only
  rw [List.find?_append, h]
  simp

/-- The end of a cue leaves the reads of host memory. -/
theorem cueEnd_reads (n st : Nat) (r0 r1 : Option Nat) (s : State) : (s.cueEnd n st r0 r1).cues.reads = s.cues.reads := by
  have hr : ∀ (u : State) (v : Option Nat), (u.resultOf v).2.cues = u.cues := fun u v => only_resultOf u v .cues (by decide)
  have hstop : ∀ (u : State) a b c d e i j m, (((u.ringStop a b c d).cueCount e i 1).cueCount e j m).cues.reads = u.cues.reads := fun u a b c d e i j m => by
    show (u.ringStop a b c d).cues.reads = _
    unfold State.ringStop
    split <;> rfl
  have hends : (((s.resultOf r0).2.resultOf r1).2).cues.reads = s.cues.reads := by rw [hr, hr]
  unfold State.cueEnd
  split
  · rfl
  · split
    · rfl
    · dsimp only
      split
      · exact hends
      · rw [hstop]
        exact hends

section HostReads

variable {port tag : Nat} {x : HostRead} (hx : s.cues.reads.find? (fun x => x.port == port && x.tag == tag) = some x)

include hx

theorem hostCompletion_data (data : List Byte) (poison : Bool) : s.hostCompletion port tag data poison false =
    if (s.run x.cue).isSome then (s.hostDone x).bufPut (cueKey x.cue) (hostOfs + x.line) data poison else s.hostDone x := by
  unfold State.hostCompletion
  rw [hx]
  rfl

/-- The cue that waited no longer asks for the line. -/
theorem hostCompletion_error (data : List Byte) (poison : Bool) : s.hostCompletion port tag data poison true =
    ((s.hostDone x).updRunOf x.cue fun c => { c with asked := c.asked.filter (· != hostOfs + x.line) }).cueEnd x.cue csHOST (some (64 * x.line)) none := by
  unfold State.hostCompletion
  rw [hx]
  rfl

theorem hostReadCompletion_data (data : List Byte) (poison : Bool) : ∃ t, exec (.hostReadCompletion port tag data poison false) s = .next t
    ∧ t.cues = { s.cues with reads := s.cues.reads.filter (· != x) } ∧ t.hport x.port = { s.hport x.port with tagsUsed := (s.hport x.port).tagsUsed - 1 }
    ∧ (∀ q, q ≠ x.port → t.hport q = s.hport q)
    ∧ ((s.run x.cue).isSome = true → t.bufGet (cueKey x.cue) (hostOfs + x.line) = some (data, poison)) ∧ Only [.cues, .hports, .fab] s t := by
  have hd := hostCompletion_data hx data poison
  have h1 := only_hostDone x s
  have hport := hostDone_hport x s
  have hcues := hostDone_cues x s
  generalize s.hostDone x = u at hd h1 hport hcues
  have ho : Only [.fab] u (s.hostCompletion port tag data poison false) := by
    rw [hd]
    exact Only.ite (only_bufPut _ _ _ _ _) (Only.refl _ _)
  have hq : ∀ q, (s.keeping {} (s.hostCompletion port tag data poison false)).hport q = u.hport q := fun q => by
    rw [keeping_hport]
    exact hport_congr (ho .hports (by decide)) q
  refine ⟨_, exec_done rfl rfl, ?_, ?_, fun q hne => ?_, fun hr => ?_, Only.keeping_any ((h1.mono (by decide)).trans (ho.mono (by decide))) nofun⟩
  · rw [keeping_cues, ← hcues]
    exact ho .cues (by decide)
  · rw [hq, hport, if_pos rfl]
  · rw [hq, hport, if_neg hne]
  · rw [hd, if_pos hr]
    exact bufGet_bufPut _ _ _ _ _

/-- What a read that ends without its data does to the cue that waited for it. -/
theorem hostError_acts {c : Instr} (data : List Byte) (poison : Bool) (hc : exec c s = .next (s.keeping {} (s.hostCompletion port tag data poison true))) :
    ∃ t, exec c s = .next t ∧ t.cues.reads = s.cues.reads.filter (· != x)
      ∧ t.hport x.port = { s.hport x.port with tagsUsed := (s.hport x.port).tagsUsed - 1 } ∧ (∀ q, q ≠ x.port → t.hport q = s.hport q)
      ∧ (∀ c, s.run x.cue = some c → c.phase < 2 → ∃ d, t.run x.cue = some d ∧ d.phase = 2 ∧ d.status = csHOST ∧ d.r0 = 64 * x.line)
      ∧ Only [.cues, .hports, .fns, .ctrs, .freeIx] s t := by
  rw [hostCompletion_error hx data poison] at hc
  have h1 : Only [.cues, .hports] s ((s.hostDone x).updRunOf x.cue fun c => { c with asked := c.asked.filter (· != hostOfs + x.line) }) :=
    (only_hostDone x s).trans ((only_updRunOf _ _ _).mono (by decide))
  have hport : ∀ q, ((s.hostDone x).updRunOf x.cue fun c => { c with asked := c.asked.filter (· != hostOfs + x.line) }).hport q =
    if q = x.port then { s.hport x.port with tagsUsed := (s.hport x.port).tagsUsed - 1 } else s.hport q := hostDone_hport x s
  have hreads : ((s.hostDone x).updRunOf x.cue fun c => { c with asked := c.asked.filter (· != hostOfs + x.line) }).cues.reads = s.cues.reads.filter (· != x) := rfl
  have hrun : ∀ c, s.run x.cue = some c → ((s.hostDone x).updRunOf x.cue fun c => { c with asked := c.asked.filter (· != hostOfs + x.line) }).run x.cue
      = some { c with asked := c.asked.filter (· != hostOfs + x.line) } := fun c h => run_updRunOf_same (s.hostDone x) ((run_of_cues rfl x.cue).trans h) _
  generalize (s.hostDone x).updRunOf x.cue (fun c => { c with asked := c.asked.filter (· != hostOfs + x.line) }) = u at hc h1 hport hreads hrun
  have h2 := only_cueEnd u x.cue csHOST (some (64 * x.line)) none
  have hq : ∀ q, (s.keeping {} (u.cueEnd x.cue csHOST (some (64 * x.line)) none)).hport q = u.hport q := fun q => by
    rw [keeping_hport]
    exact hport_congr (h2 .hports (by decide)) q
  refine ⟨_, hc, ?_, ?_, fun q hne => ?_, fun c hr hp => ?_, Only.keeping_any ((h1.mono (by decide)).trans (h2.mono (by decide))) nofun⟩
  · rw [keeping_cues, cueEnd_reads, hreads]
  · rw [hq, hport, if_pos rfl]
  · rw [hq, hport, if_neg hne]
  · obtain ⟨d, hd, hphase, hstatus, -, -, hr0, -⟩ := cueEnd_run u (hrun c hr) hp csHOST (some (64 * x.line)) none
    rw [keeping_run]
    exact ⟨d, hd, hphase, hstatus, hr0 _ rfl⟩

end HostReads

/-! ### Credits (R824, R825) -/

section Credits

variable (hp : p < 8) (ndr drs : Nat)
include hp

omit hp in
/-- What returned credits make of a state where they have been added and the waiting responses have gone out. -/
theorem creditReturn_eq {u : State} {n : Nat} (hq : (s.hport p).respQ.length = n)
    (hu : State.drainResp n p (s.updPort p fun h => { h with s2mNdr := h.s2mNdr + ndr, s2mDrs := h.s2mDrs + drs }) = u) (he : (u.hport p).respQ = []) :
    s.creditReturn p ndr drs = u.updPort p fun h => { h with wedge := 0 } := by
  have hl : ((s.updPort p fun h => { h with s2mNdr := h.s2mNdr + ndr, s2mDrs := h.s2mDrs + drs }).hport p).respQ.length = n := by
    rw [hport_updPort_same]
    exact hq
  unfold State.creditReturn
  dsimp only
  rw [hl, hu]
  exact if_pos (by rw [he]; rfl)

theorem creditReturn_empty (hq : (s.hport p).respQ = []) : ∃ t, exec (.creditReturn p ndr drs) s = .next t
    ∧ t.hport p = { s.hport p with s2mNdr := (s.hport p).s2mNdr + ndr, s2mDrs := (s.hport p).s2mDrs + drs, wedge := 0 } ∧ (∀ q, q ≠ p → t.hport q = s.hport q)
    ∧ Only [.hports] s t := by
  have he := creditReturn_eq (s := s) (p := p) (u := s.updPort p fun h => { h with s2mNdr := h.s2mNdr + ndr, s2mDrs := h.s2mDrs + drs }) ndr drs
    (congrArg List.length hq) rfl (by rw [hport_updPort_same]; exact hq)
  refine ⟨_, exec_done rfl ((if_pos hp).trans he), ?_, fun q hne => ?_, Only.keeping_any ((only_updPort _ _ _).trans (only_updPort _ _ _)) nofun⟩
  · rw [keeping_hport, hport_updPort_same, hport_updPort_same]
  · rw [keeping_hport, hport_updPort_other _ _ hne, hport_updPort_other _ _ hne]

theorem creditReturn_sends {o : Output} (hq : (s.hport p).respQ = [o]) (ho : ∃ a b c d e, o = .ndr a b c d e) (hn : 0 < (s.hport p).s2mNdr + ndr) :
    ∃ t, exec (.creditReturn p ndr drs) s = .next t ∧ t.out = s.out ++ [o]
      ∧ t.hport p = { s.hport p with s2mNdr := (s.hport p).s2mNdr + ndr - 1, s2mDrs := (s.hport p).s2mDrs + drs, respQ := [], wedge := 0 }
      ∧ (∀ q, q ≠ p → t.hport q = s.hport q) ∧ Only [.hports, .out] s t := by
  obtain ⟨a, b, c, d, e, rfl⟩ := ho
  have hcount : ((s.updPort p fun h => { h with s2mNdr := h.s2mNdr + ndr, s2mDrs := h.s2mDrs + drs }).hport p) =
    { s.hport p with s2mNdr := (s.hport p).s2mNdr + ndr, s2mDrs := (s.hport p).s2mDrs + drs } := hport_updPort_same _ _ _
  have hone : State.drainResp 1 p (s.updPort p fun h => { h with s2mNdr := h.s2mNdr + ndr, s2mDrs := h.s2mDrs + drs }) =
      ((s.updPort p fun h => { h with s2mNdr := h.s2mNdr + ndr, s2mDrs := h.s2mDrs + drs }).updPort p fun h => { h with s2mNdr := h.s2mNdr - 1, respQ := [] }).emit (.ndr a b c d e) := by
    unfold State.drainResp
    rw [hcount]
    dsimp only
    rw [hq]
    exact if_pos hn
  have he := creditReturn_eq (s := s) (p := p) ndr drs (congrArg List.length hq) hone (by rw [emit_hport, hport_updPort_same])
  refine ⟨_, exec_done rfl ((if_pos hp).trans he), ?_, ?_, fun q hne => ?_, Only.keeping_any ((((only_updPort _ _ _).trans (only_updPort _ _ _)).mono (by decide)).trans
    (((only_emit _ _).mono (by decide)).trans ((only_updPort _ _ _).mono (by decide)))) nofun⟩
  · rw [keeping_out]
    rfl
  · rw [keeping_hport, hport_updPort_same, emit_hport, hport_updPort_same, hport_updPort_same]
  · rw [keeping_hport, hport_updPort_other _ _ hne, emit_hport, hport_updPort_other _ _ hne, hport_updPort_other _ _ hne]

end Credits

/-! ### A retrained link (R191) -/

theorem writePlain_open {ofs : Nat} (hf : (fieldsAt ofs).isEmpty = false) (ht : pageTenant (ofs / 4096) = none) (v : Word32) (s : State) :
    s.writePlain ofs v = s.setReg ofs (regMerge (fieldsAt ofs) false (s.reg ofs) v) := by
  unfold State.writePlain
  dsimp only
  rw [hf, ht]
  rfl

theorem linkCtl_open : ∀ p < 8, (fieldsAt (ofsOf (pgHPORT p) 0x40)).isEmpty = false ∧ pageTenant (ofsOf (pgHPORT p) 0x40 / 4096) = none := by decide

theorem retrain_bit (v : Word32) : bitOf (v ||| 0x1000#32) 12 = true := by
  rw [bitOf, BitVec.getLsbD_or]
  exact Bool.or_true _

theorem retrain_acts {src : MgmtSrc} (hp : p < 8) (v : Word32) (h : s.Reaches src (ofsOf (pgHPORT p) 0x40)) : ∃ t, exec (.retrain src p v) s = .next t
    ∧ t.hport p = { s.hport p with retrain := true } ∧ (∀ q, q ≠ p → t.hport q = s.hport q)
    ∧ t.reg (ofsOf (pgHPORT p) 0x40) = regMerge (fieldsAt (ofsOf (pgHPORT p) 0x40)) false (s.reg (ofsOf (pgHPORT p) 0x40)) (v ||| 0x1000#32)
    ∧ Only (.regs :: .hports :: regPath) s t := by
  obtain ⟨a, ha⟩ := exec_row_served (c := .retrain src p v) (v := v ||| 0x1000#32) h (ofsOf_word (by decide)) (family_hport hp (by decide)) (congrArg (done s) (if_pos hp))
  obtain ⟨hf, ht⟩ := linkCtl_open p hp
  have hw : (s.pathTaken src).regWrite (ofsOf (pgHPORT p) 0x40) (v ||| 0x1000#32) =
      ((s.pathTaken src).setReg (ofsOf (pgHPORT p) 0x40) (regMerge (fieldsAt (ofsOf (pgHPORT p) 0x40)) false (s.reg (ofsOf (pgHPORT p) 0x40)) (v ||| 0x1000#32))).retrainPort p := by
    rw [regWrite_hport hp (by decide) (by decide), State.writeHport, if_pos rfl, if_pos (retrain_bit v), writePlain_open hf ht]
    rfl
  rw [hw] at ha
  have hport : ∀ (u : State) q, (u.retrainPort p).hport q = if q = p then { u.hport p with retrain := true } else u.hport q := fun u q => by
    rw [State.retrainPort, emit_hport, hport_updPort]
  refine ⟨_, ha, ?_, fun q hq => ?_, ?_, (only_served (src := src) (l := [.regs, .hports, .out]) ?_).mono (by decide)⟩
  · rw [keeping_hport, mgmtReply_hport, hport, if_pos rfl]
    rfl
  · rw [keeping_hport, mgmtReply_hport, hport, if_neg hq]
    rfl
  · rw [served_reg, State.retrainPort]
    exact reg_setReg_same _ _ _
  · exact ((only_setReg _ _ _).mono (by decide)).trans (((only_updPort _ _ _).mono (by decide)).trans ((only_emit _ _).mono (by decide)))

/-- Settles O50: the tenant page, its doorbells and CTL, what ends a read of host memory, returned credits, and RETRAIN. -/
theorem hostPagesAndReads : Obligations.HostPagesAndReads := by
  refine ⟨fun k v s hp hr => ⟨intEna_stored hp hr v, intStat_cleared hp hr v⟩,
    fun k j tail t s hp hr ht => ⟨doorbell_unbound hp hr ht tail, doorbell_accepted hp hr ht, fun hf hs => doorbell_stopped hp hr ht hf hs⟩,
    fun k j size t d s hp hr ht hz => ⟨ringEnable_opens hp hr ht hz d, fun hs hf => ⟨ringEnable_again hp hr ht hz d hs, ringDisable_ends hp hr ht hz d hs hf, resume_runs hp hr ht hz d hs hf⟩⟩,
    fun port tag data poison error x s hx => ⟨?data, ?error, hostError_acts hx [] false rfl⟩,
    fun p ndr drs s hp => ⟨creditReturn_empty hp ndr drs, fun o => creditReturn_sends hp ndr drs⟩, fun src p v s hp => retrain_acts hp v⟩
  case data =>
    rintro rfl
    exact hostReadCompletion_data hx data poison
  case error =>
    rintro rfl
    exact hostError_acts hx data poison rfl

end Sys2Proof.Machine
end

section
/-!
PROOFS. Requests of hosts: reads, writes and refusals, from receipt to answer.
-/

namespace Sys2Proof.Machine

open Sys2Proof

variable {s : State} {c : Instr} {kind : ReqKind} {m : MemReq} {h p : Nat} {g : Range}

/-! ### What a port's answer leaves -/

theorem State.Sent.kept {t : State} {p : Nat} {o : Output} (h : s.Sent p o t) (k : Touches) (r : State) : s.Sent p o (r.keeping k t) :=
  h.of rfl rfl rfl rfl rfl

theorem State.Sent.peaks {t : State} {p : Nat} {o : Output} (h : s.Sent p o t) (r : State) : s.Sent p o (r.keeping {} t.notePeaks) :=
  (h.upto (only_notePeaks t) (by decide) (by decide)).kept {} r

theorem State.LineWritten.kept {t : State} {l be : Nat} {d : List Byte} {b : Bool} (h : s.LineWritten l d be b t) (k : Touches) (r : State) :
    s.LineWritten l d be b (r.keeping k t) := h

theorem State.LineWritten.peaks {t : State} {l be : Nat} {d : List Byte} {b : Bool} (h : s.LineWritten l d be b t) (r : State) :
    s.LineWritten l d be b (r.keeping {} t.notePeaks) := by
  obtain ⟨hbyte, hpoison⟩ := h
  refine State.LineWritten.kept ⟨fun x => ?_, fun k => ?_⟩ {} r
  · rw [readByte_congr (only_notePeaks t .mem (by decide)), hbyte]
  · rw [← hpoison]
    exact congrArg (mapGet (fun _ => false) · k) (only_notePeaks t .poison (by decide))

theorem Only.peaks {l : List Part} {t : State} (h : Only l s t) (hl : ([Part.sys].all fun p => l.contains p) = true) : Only l s (s.keeping {} t.notePeaks) :=
  Only.keeping_any (h.trans ((only_notePeaks t).mono hl)) nofun

theorem page_peaks (r t : State) (q : Nat) : (r.keeping {} t.notePeaks).page q = t.page q := by rw [keeping_page, notePeaks_page]

theorem notePeaks_hdrs (t : State) : t.notePeaks.hdrs = t.hdrs := only_notePeaks t .hdrs (by decide)

/-! ### Receipt -/

theorem exec_hostRequest (hc : (c, kind) ∈ [(Instr.memRd m, ReqKind.rd), (.memRdData m, .rdData), (.memInv m, .inv), (.memWr m, .wr), (.memWrPtl m, .wrPtl)]) :
    exec c s = .next (s.keeping {} (s.hostReceive kind m).notePeaks) := by
  simp only [List.mem_cons, List.not_mem_nil, or_false, Prod.mk.injEq] at hc
  rcases hc with ⟨rfl, rfl⟩ | ⟨rfl, rfl⟩ | ⟨rfl, rfl⟩ | ⟨rfl, rfl⟩ | ⟨rfl, rfl⟩ <;> exact exec_done rfl rfl

/-- The state from which the port's one request is admitted at once. -/
structure Admits (s u : State) (r : Req) (g : Range) : Prop where
  waiting : (u.hport r.m.port).waiting = [r]
  sameOut : (u.hport r.m.port).sameOut (s.hport r.m.port)
  parts : Only [.ctrs, .daily, .hports] s u
  atOnce : u.AdmitsAtOnce r.m.port r.tenant r.cls
  noPeer : u.fab.waiting = []
  idle : u.DirIdle
  noDb : u.isDb r.m.line = false
  bound : ∃ i, u.rgnAt (granuleOfLine r.m.line) = some (i, g)
  isLocal : g.remote = false
  sound : u.Sound r.m

/-- A request that passes at a quiet port is admitted at once. -/
theorem hostReceive_admits (hp : s.Passes m h g) (hq : s.Quiet m.port) (ha : s.AdmitsAtOnce m.port (s.ident h).tenant (s.ident h).cls) (hs : s.Sound m) :
    ∃ u r, s.hostReceive kind m = u.hubAdmit m.port ∧ r.m = m ∧ r.kind = kind ∧ Admits s u r g := by
  obtain ⟨u, r, he, hr, hw, hout, ho⟩ := hostReceive_passes (kind := kind) hp
  obtain ⟨hwait, hfab, hdir⟩ := hq
  obtain ⟨-, -, -, -, ⟨i, hreach⟩, hremote, -, hdb⟩ := hp
  have hm : r.m = m := by rw [hr]
  have hdir' : u.DirIdle := by
    unfold State.DirIdle
    rw [show u.dir = s.dir from ho .dir (by decide)]
    exact hdir
  refine ⟨u, r, he, hm, by rw [hr], ?_⟩
  constructor
  case waiting => rw [hm, hw, hwait, List.nil_append]
  case sameOut => rwa [hm]
  case parts => exact ho
  case atOnce =>
    rw [hr]
    exact admitsAtOnce_congr ho ha
  case noPeer => rwa [show u.fab = s.fab from ho .fab (by decide)]
  case idle => exact hdir'
  case noDb => rwa [hm, isDb_congr (ho .tables (by decide)) (ho .extents (by decide))]
  case bound => exact ⟨i, by rw [hm, rgnAt_congr (ho .tables (by decide))]; exact reach_rgnAt hreach⟩
  case isLocal => exact hremote
  case sound =>
    rw [hm]
    exact sound_congr ho hs

section Admitted

variable {u : State} {r : Req} (ha : Admits s u r g)
include ha

theorem Admits.page (q : Nat) : u.page q = s.page q := page_congr (ha.parts .tier (by decide)) q
theorem Admits.isPoison (l : Nat) : u.isPoison l = s.isPoison l := congrArg (mapGet (fun _ => false) · l) (ha.parts .poison (by decide))
theorem Admits.readByte (x : Nat) : u.readByte x = s.readByte x := readByte_congr (ha.parts .mem (by decide)) x
theorem Admits.readLine (l : Nat) : u.readLine l = s.readLine l := by
  unfold State.readLine State.readBytes State.readByte
  rw [show u.mem = s.mem from ha.parts .mem (by decide)]
theorem Admits.fcLine (l : Nat) : u.fcLine l = s.fcLine l := by
  unfold State.fcLine
  rw [show u.dram = s.dram from ha.parts .dram (by decide)]
theorem Admits.out : u.out = s.out := ha.parts .out (by decide)
theorem Admits.sent {o : Output} {t : State} (h : u.Sent r.m.port o t) : s.Sent r.m.port o t := h.from ha.out ha.sameOut

theorem Admits.lineWritten {l be : Nat} {d : List Byte} {b : Bool} {t : State} (h : u.LineWritten l d be b t) : s.LineWritten l d be b t := by
  obtain ⟨hbyte, hpoison⟩ := h
  exact ⟨fun x => by rw [hbyte, ha.readByte], fun k => by rw [hpoison, ha.isPoison, ha.isPoison]⟩

/-- A read of a ZERO page. -/
theorem Admits.read_zero (hk : r.kind.isWrite = false) (hz : (s.page (pageOfLine r.m.line)).st = .zero) :
    (∃ dev, s.Sent r.m.port (readAnswer r.kind r.m zeroLine (s.isPoison r.m.line) dev) (u.hubAdmit r.m.port)) ∧ Only reqPath s (u.hubAdmit r.m.port) := by
  obtain ⟨i, hb⟩ := ha.bound
  obtain ⟨⟨dev, hsent⟩, -, -, ho⟩ := (hubAdmit_read ha.waiting rfl ha.atOnce ha.noPeer ha.idle ha.noDb hb ha.isLocal ha.sound hk).1 (by rwa [ha.page])
  rw [ha.isPoison] at hsent
  exact ⟨⟨dev, ha.sent hsent⟩, (ha.parts.mono (by decide)).trans ho⟩

/-- A read of a page that is OPEN or FOLDING. -/
theorem Admits.read_open (hk : r.kind.isWrite = false) (hz : (s.page (pageOfLine r.m.line)).st = .opened ∨ (s.page (pageOfLine r.m.line)).st = .folding)
    (hd : r.m.env.dec = .good) :
    (∃ dev, s.Sent r.m.port (readAnswer r.kind r.m (s.readLine r.m.line) (s.isPoison r.m.line) dev) (u.hubAdmit r.m.port))
      ∧ (u.hubAdmit r.m.port).page (pageOfLine r.m.line) = { s.page (pageOfLine r.m.line) with age := 0, touched := true }
      ∧ (∀ q, q ≠ pageOfLine r.m.line → (u.hubAdmit r.m.port).page q = s.page q) ∧ Only (.tier :: .dram :: reqPath) s (u.hubAdmit r.m.port) := by
  obtain ⟨i, hb⟩ := ha.bound
  obtain ⟨⟨dev, hsent⟩, -, -, hpage, hother, ho⟩ :=
    (hubAdmit_read ha.waiting rfl ha.atOnce ha.noPeer ha.idle ha.noDb hb ha.isLocal ha.sound hk).2 (by rwa [ha.page]) hd
  rw [ha.isPoison, ha.readLine] at hsent
  exact ⟨⟨dev, ha.sent hsent⟩, by rw [hpage, ha.page], fun q hq => by rw [hother q hq, ha.page], (ha.parts.mono (by decide)).trans ho⟩

/-- A write of an OPEN page. -/
theorem Admits.write_open {be : Nat} (hbe : (if r.kind = .wr then fullBe else r.m.be) = be) (hk : r.kind.isWrite = true)
    (hz : (s.page (pageOfLine r.m.line)).st = .opened) (hl : be = fullBe ∨ (s.fcLine r.m.line).valid = true) :
    (∃ dev, s.Sent r.m.port (.ndr r.m.port r.m.tag 0 0 dev) (u.hubAdmit r.m.port)) ∧ s.LineWritten r.m.line r.m.data be r.m.poison (u.hubAdmit r.m.port)
      ∧ (u.hubAdmit r.m.port).page (pageOfLine r.m.line) = { s.page (pageOfLine r.m.line) with age := 0, touched := true }
      ∧ (∀ q, q ≠ pageOfLine r.m.line → (u.hubAdmit r.m.port).page q = s.page q)
      ∧ Only (.tier :: .dram :: .mem :: .poison :: .log :: reqPath) s (u.hubAdmit r.m.port) := by
  subst hbe
  obtain ⟨i, hb⟩ := ha.bound
  obtain ⟨⟨dev, hsent⟩, hline, hpage, hother, ho⟩ :=
    (hubAdmit_write ha.waiting rfl ha.atOnce ha.noPeer ha.idle ha.noDb hb ha.isLocal ha.sound hk).1 (by rwa [ha.page]) (by rwa [ha.fcLine])
  exact ⟨⟨dev, ha.sent hsent⟩, ha.lineWritten hline, by rw [hpage, ha.page], fun q hq => by rw [hother q hq, ha.page], (ha.parts.mono (by decide)).trans ho⟩

/-- A write of any other page is held. -/
theorem Admits.write_held {be : Nat} (hbe : (if r.kind = .wr then fullBe else r.m.be) = be) (hk : r.kind.isWrite = true)
    (hz : (s.page (pageOfLine r.m.line)).st ≠ .opened) :
    (∃ w : LineWrite, (w.line, w.data, w.be, w.poison) = (r.m.line, r.m.data, be, r.m.poison) ∧ ((u.hubAdmit r.m.port).page (pageOfLine r.m.line)).held = [w])
      ∧ ((u.hubAdmit r.m.port).page (pageOfLine r.m.line)).want = true
      ∧ ((u.hubAdmit r.m.port).page (pageOfLine r.m.line)).st = (s.page (pageOfLine r.m.line)).st ∧ (u.hubAdmit r.m.port).out = s.out
      ∧ (∀ q, q ≠ pageOfLine r.m.line → (u.hubAdmit r.m.port).page q = s.page q) ∧ Only (.tier :: reqPath) s (u.hubAdmit r.m.port) := by
  subst hbe
  obtain ⟨i, hb⟩ := ha.bound
  obtain ⟨hw, hwant, hst, hout, hother, ho⟩ :=
    (hubAdmit_write ha.waiting rfl ha.atOnce ha.noPeer ha.idle ha.noDb hb ha.isLocal ha.sound hk).2 (by rwa [ha.page])
  exact ⟨hw, hwant, by rw [hst, ha.page], hout.trans ha.out, fun q hq => by rw [hother q hq, ha.page], (ha.parts.mono (by decide)).trans ho⟩

end Admitted

/-! ### Reads -/

theorem hostRead_answered (hc : (c, kind) ∈ [(Instr.memRd m, ReqKind.rd), (.memRdData m, .rdData), (.memInv m, .inv)]) (hp : s.Passes m h g) (hq : s.Quiet m.port)
    (ha : s.AdmitsAtOnce m.port (s.ident h).tenant (s.ident h).cls) (hs : s.Sound m) : ∃ t, exec c s = .next t
      ∧ ((s.page (pageOfLine m.line)).st = .zero →
          (∃ dev, s.Sent m.port (readAnswer kind m zeroLine (s.isPoison m.line) dev) t) ∧ Only reqPath s t)
      ∧ ((s.page (pageOfLine m.line)).st = .opened ∨ (s.page (pageOfLine m.line)).st = .folding → m.env.dec = .good →
          (∃ dev, s.Sent m.port (readAnswer kind m (s.readLine m.line) (s.isPoison m.line) dev) t)
          ∧ t.page (pageOfLine m.line) = { s.page (pageOfLine m.line) with age := 0, touched := true }
          ∧ (∀ q, q ≠ pageOfLine m.line → t.page q = s.page q) ∧ Only (.tier :: .dram :: reqPath) s t) := by
  have hk : kind.isWrite = false := by
    simp only [List.mem_cons, List.not_mem_nil, or_false, Prod.mk.injEq] at hc
    rcases hc with ⟨-, rfl⟩ | ⟨-, rfl⟩ | ⟨-, rfl⟩ <;> rfl
  have he := exec_hostRequest (s := s) (m := m) (c := c) (kind := kind) (by simp only [List.mem_cons] at hc ⊢; tauto)
  obtain ⟨u, r, hu, rfl, rfl, ha⟩ := hostReceive_admits (kind := kind) hp hq ha hs
  rw [hu] at he
  refine ⟨_, he, fun hz => ?_, fun hz hd => ?_⟩
  · obtain ⟨⟨dev, hsent⟩, ho⟩ := ha.read_zero hk hz
    exact ⟨⟨dev, hsent.peaks s⟩, ho.peaks (by decide)⟩
  · obtain ⟨⟨dev, hsent⟩, hpage, hother, ho⟩ := ha.read_open hk hz hd
    exact ⟨⟨dev, hsent.peaks s⟩, by rw [page_peaks, hpage], fun q hq => by rw [page_peaks, hother q hq], ho.peaks (by decide)⟩

theorem exec_hubRequestAdmit (hp : p < 8) (s : State) : exec (.hubRequestAdmit p) s = .next (s.keeping {} (s.hubAdmit p).notePeaks) := exec_done rfl (if_pos hp)

/-! ### Refusals (R141, R151, R216, R329) -/

/-- The counts of a request that a port takes. -/
def State.hostReceived (kind : ReqKind) (m : MemReq) (s : State) : State :=
  let s0 := if kind.isWrite && m.poison then s.bump (ofsOf (pgHPORT m.port) 0x6C) 6 1 else s
  let acc := s0.daily.acc
  { s0 with daily := { s0.daily with acc := if kind.isWrite then { acc with hostWr := satAdd 32 acc.hostWr 1 } else { acc with hostRd := satAdd 32 acc.hostRd 1 } } }

/-- A request before an identity is found for it. -/
def State.unmatched (kind : ReqKind) (m : MemReq) (s : State) : Req := { m := m, kind := kind, hid := 0, tenant := 0, cls := 0, since := s.frame.num }

/-- A request of an identity. -/
def State.matched (kind : ReqKind) (m : MemReq) (h : Nat) (s : State) : Req := { s.unmatched kind m with hid := h, tenant := (s.ident h).tenant, cls := (s.ident h).cls }

theorem only_hostReceived (kind : ReqKind) (m : MemReq) (s : State) : Only [.ctrs, .daily] s (s.hostReceived kind m) :=
  Only.trans (Only.ite ((only_bump _ _ _ _).mono (by decide)) (Only.refl _ s)) ((only_with_daily _ _).mono (by decide))

theorem hostReceived_matchId (l x : Nat) : (s.hostReceived kind m).matchId p l x = s.matchId p l x :=
  matchId_congr (only_hostReceived kind m s .tables (by decide)) (only_hostReceived kind m s .hports (by decide)) (only_hostReceived kind m s .regs (by decide)) p l x

theorem hostReceived_ident (h : Nat) : (s.hostReceived kind m).ident h = s.ident h := by
  unfold State.ident
  rw [show (s.hostReceived kind m).tables = s.tables from only_hostReceived kind m s .tables (by decide)]

theorem hostReceived_reach (t x : Nat) : (s.hostReceived kind m).reach t x = s.reach t x := by
  unfold State.reach State.boundAt State.rgnAt
  rw [show (s.hostReceived kind m).tables = s.tables from only_hostReceived kind m s .tables (by decide)]

theorem hostReceived_hport (q : Nat) : (s.hostReceived kind m).hport q = s.hport q := hport_congr (only_hostReceived kind m s .hports (by decide)) q

theorem hostReceive_notAccepted (ha : s.accepts m.port m.link = false) : s.hostReceive kind m = s := if_pos (by rw [ha]; rfl)

section Refused

variable (ha : s.accepts m.port m.link = true)
include ha

theorem hostReceive_inactive (hm : s.sys.memActive = false) : s.hostReceive kind m = (s.hostReceived kind m).refuse (s.unmatched kind m) := by
  unfold State.hostReceive
  rw [if_neg (by rw [ha]; decide)]
  refine if_pos ?_
  show (!(s.hostReceived kind m).sys.memActive) = true
  rw [show (s.hostReceived kind m).sys = s.sys from only_hostReceived kind m s .sys (by decide), hm]
  rfl

variable (hm : s.sys.memActive = true)
include hm

theorem hostReceive_active : s.hostReceive kind m = match s.matchId m.port m.link m.src with
    | none => (((s.hostReceived kind m).setEvt pgTEN128 2).bump (ofsOf pgTEN128 0x78) 0 1).refuse (s.unmatched kind m)
    | some h =>
      if (s.ident h).lost ≠ 0 then ((s.hostReceived kind m).dirCount 7 1).refuse (s.matched kind m h)
      else if !(match s.reach (s.ident h).tenant (granuleOfLine m.line) with
          | none => false
          | some (_, g) => ((s.hport m.port).linkOf m.link).flit != 1 || g.kind == kPrivate)
        then (((s.hostReceived kind m).setEvt pgTEN128 3).bump (ofsOf pgTEN128 0x7C) 0 1).refuse (s.matched kind m h)
        else ((s.hostReceived kind m).updPort m.port fun h' => { h' with waiting := h'.waiting ++ [s.matched kind m h] }).hubAdmit m.port := by
  have hid := hostReceived_ident (s := s) (kind := kind) (m := m)
  have hreach := hostReceived_reach (s := s) (kind := kind) (m := m)
  have hport := hostReceived_hport (s := s) (kind := kind) (m := m)
  have hsys : (s.hostReceived kind m).sys.memActive = true := (congrArg SysS.memActive (only_hostReceived kind m s .sys (by decide))).trans hm
  rw [← hostReceived_matchId (kind := kind) (m := m)]
  unfold State.hostReceive State.matched State.unmatched
  rw [if_neg (by rw [ha]; decide)]
  change (if !(s.hostReceived kind m).sys.memActive then _ else _) = _
  rw [if_neg (by rw [hsys]; decide)]
  change (match (s.hostReceived kind m).matchId m.port m.link m.src with | none => _ | some h => _) = _
  cases (s.hostReceived kind m).matchId m.port m.link m.src with
  | none => rfl
  | some h =>
    dsimp only
    rw [← hid, ← hreach, ← hport]
    rfl

theorem hostReceive_noIdentity (hi : s.matchId m.port m.link m.src = none) :
    s.hostReceive kind m = (((s.hostReceived kind m).setEvt pgTEN128 2).bump (ofsOf pgTEN128 0x78) 0 1).refuse (s.unmatched kind m) := by
  rw [hostReceive_active ha hm, hi]

variable (hi : s.matchId m.port m.link m.src = some h)
include hi

theorem hostReceive_lost (hl : (s.ident h).lost ≠ 0) : s.hostReceive kind m = ((s.hostReceived kind m).dirCount 7 1).refuse (s.matched kind m h) := by
  rw [hostReceive_active ha hm, hi]
  exact if_pos hl

theorem hostReceive_denied (hl : (s.ident h).lost = 0) (hr : s.reach (s.ident h).tenant (granuleOfLine m.line) = none
      ∨ (∃ x, s.reach (s.ident h).tenant (granuleOfLine m.line) = some x ∧ ((s.hport m.port).linkOf m.link).flit = 1 ∧ x.2.kind ≠ kPrivate)) :
    s.hostReceive kind m = (((s.hostReceived kind m).setEvt pgTEN128 3).bump (ofsOf pgTEN128 0x7C) 0 1).refuse (s.matched kind m h) := by
  rw [hostReceive_active ha hm, hi]
  refine (if_neg (by rw [hl]; decide)).trans (if_pos ?_)
  rcases hr with hr | ⟨x, hr, hf, hk⟩
  · rw [hr]
    rfl
  · rw [hr]
    simp [hf, hk]

end Refused

/-- A refused request: its answer, and the parts that change. -/
def State.Refused (s : State) (kind : ReqKind) (m : MemReq) (t : State) : Prop :=
  s.Sent m.port (if kind.isWrite then .ndr m.port m.tag 0 0 0 else readAnswer kind m zeroLine true 0) t
    ∧ Only [.ctrs, .daily, .hports, .out, .fns, .hdrs, .mfn, .sys] s t

section Answers

variable (hc : (c, kind) ∈ [(Instr.memRd m, ReqKind.rd), (.memRdData m, .rdData), (.memInv m, .inv), (.memWr m, .wr), (.memWrPtl m, .wrPtl)])
include hc

theorem hostRequest_refused {u : State} {r : Req} (hu : s.hostReceive kind m = u.refuse r) (hm : r.m = m) (hk : r.kind = kind) (ho : Only [.ctrs, .daily, .hdrs, .mfn] s u) :
    ∃ t, exec c s = .next t ∧ s.Refused kind m t ∧ t.hdrs = u.hdrs := by
  have he := exec_hostRequest (s := s) hc
  have hsent := refuse_sent (r := r) ho (by decide) (by decide)
  have hr := only_refuse u r
  rw [hm, hk] at hsent
  rw [hu] at he
  generalize u.refuse r = v at he hsent hr
  refine ⟨_, he, ⟨hsent.peaks s, ((ho.mono (by decide)).trans (hr.mono (by decide))).peaks (by decide)⟩, ?_⟩
  rw [keeping_hdrs, notePeaks_hdrs]
  exact hr .hdrs (by decide)

/-- A refusal with an event of TEN_COMMON. -/
theorem hostRequest_refusedEvt {b ofs n : Nat} {r : Req} (hb : b < 32)
    (hu : s.hostReceive kind m = (((s.hostReceived kind m).setEvt pgTEN128 b).bump ofs n 1).refuse r) (hm : r.m = m) (hk : r.kind = kind) :
    ∃ t, exec c s = .next t ∧ s.Refused kind m t ∧ (t.hdr pgTEN128).stat.getLsbD b = true := by
  obtain ⟨t, ht, href, hhdrs⟩ := hostRequest_refused hc hu hm hk
    (((only_hostReceived kind m s).mono (by decide)).trans (((only_setEvt _ _ _).mono (by decide)).trans ((only_bump _ _ _ _).mono (by decide))))
  exact ⟨t, ht, href, BitsKept.of_hdrs hhdrs _ _ (setEvt_sets (s.hostReceived kind m) pgTEN128 hb)⟩

theorem hostRequest_notAccepted (ha : s.accepts m.port m.link = false) : ∃ t, exec c s = .next t ∧ Only [.sys] s t := by
  have he := exec_hostRequest (s := s) hc
  rw [hostReceive_notAccepted ha] at he
  exact ⟨_, he, (Only.refl _ _).peaks (by decide)⟩

variable (ha : s.accepts m.port m.link = true)
include ha

theorem hostRequest_inactive (hm : s.sys.memActive = false) : ∃ t, exec c s = .next t ∧ s.Refused kind m t := by
  obtain ⟨t, ht, href, -⟩ := hostRequest_refused hc (hostReceive_inactive ha hm) rfl rfl ((only_hostReceived _ _ _).mono (by decide))
  exact ⟨t, ht, href⟩

theorem hostRequest_lost (hm : s.sys.memActive = true) (hi : s.matchId m.port m.link m.src = some h) (hl : (s.ident h).lost ≠ 0) :
    ∃ t, exec c s = .next t ∧ s.Refused kind m t := by
  obtain ⟨t, ht, href, -⟩ := hostRequest_refused hc (hostReceive_lost ha hm hi hl) rfl rfl
    (((only_hostReceived _ _ _).mono (by decide)).trans ((only_dirCount' _ _ _).mono (by decide)))
  exact ⟨t, ht, href⟩

end Answers

/-- Settles O40: a read from its receipt or from its port, and the four refusals. -/
theorem hostReadsAreAnswered : Obligations.HostReadsAreAnswered := by
  refine ⟨fun c kind m h g s hc hp hq ha hs => hostRead_answered hc hp hq ha hs, fun p i r g s hp hw hrp hk hf hd ha hdb hg hr hs hst hdec => ?waiting,
    fun c kind m s hc => ⟨hostRequest_notAccepted hc, fun ha => ⟨hostRequest_inactive hc ha, fun hm hi => ?none, fun h hm hi hl => hostRequest_lost hc ha hm hi hl,
      fun h hm hi hl hr => ?denied⟩⟩⟩
  case waiting =>
    obtain ⟨⟨dev, hsent⟩, -, hwait, hpage, hother, ho⟩ := (hubAdmit_read hw hrp ha hf hd hdb hg hr hs hk).2 (.inl hst) hdec
    refine ⟨_, dev, exec_hubRequestAdmit hp s, hsent.peaks s, ?_, by rw [page_peaks, hpage], fun q hq => by rw [page_peaks, hother q hq], ho.peaks (by decide)⟩
    rw [keeping_hport, hport_congr (only_notePeaks _ .hports (by decide)), hwait]
  case none => exact hostRequest_refusedEvt hc (by decide) (hostReceive_noIdentity ha hm hi) rfl rfl
  case denied => exact hostRequest_refusedEvt hc (by decide) (hostReceive_denied ha hm hi hl hr) rfl rfl

/-! ### Writes (R101, R102, R496) -/

/-- Settles O41: a write of an OPEN page, a write that its page holds, and a held write of a page that has become OPEN. -/
theorem hostWritesAreStored : Obligations.HostWritesAreStored := by
  refine ⟨fun c kind be m h g s hc hp hq ha hs => ?request, fun p w r s hst hh hw hb => ?held⟩
  case request =>
    have hkind : kind.isWrite = true ∧ (if kind = .wr then fullBe else m.be) = be := by
      simp only [List.mem_cons, List.not_mem_nil, or_false, Prod.mk.injEq] at hc
      rcases hc with ⟨-, rfl, rfl⟩ | ⟨-, rfl, rfl⟩ <;> exact ⟨rfl, rfl⟩
    obtain ⟨hk, hbe⟩ := hkind
    have he : exec c s = .next (s.keeping {} (s.hostReceive kind m).notePeaks) := by
      simp only [List.mem_cons, List.not_mem_nil, or_false, Prod.mk.injEq] at hc
      rcases hc with ⟨rfl, rfl, -⟩ | ⟨rfl, rfl, -⟩ <;> exact exec_hostRequest (m := m) (by simp)
    obtain ⟨u, r, hu, rfl, rfl, ha⟩ := hostReceive_admits (kind := kind) hp hq ha hs
    rw [hu] at he
    refine ⟨_, he, fun hz hl => ?_, fun hz => ?_⟩
    · obtain ⟨⟨dev, hsent⟩, hline, hpage, hother, ho⟩ := ha.write_open hbe hk hz hl
      refine ⟨⟨dev, hsent.peaks s⟩, ?_, by rw [page_peaks, hpage], fun q hq => by rw [page_peaks, hother q hq], ho.peaks (by decide)⟩
      exact hline.peaks s
    · obtain ⟨⟨w, hw, hheld⟩, hwant, hst, hout, hother, ho⟩ := ha.write_held hbe hk hz
      refine ⟨⟨w, hw, by rw [page_peaks, hheld]⟩, by rw [page_peaks, hwant], by rw [page_peaks, hst], ?_, fun q hq => by rw [page_peaks, hother q hq], ho.peaks (by decide)⟩
      rw [keeping_out, show (u.hubAdmit r.m.port).notePeaks.out = (u.hubAdmit r.m.port).out from only_notePeaks _ .out (by decide), hout]
  case held =>
    obtain ⟨⟨dev, hsent⟩, hline, hpage, hother, ho⟩ := applyHeld_one hst hh hw hb
    exact ⟨_, dev, exec_done rfl rfl, hsent.kept {} s, hline.kept {} s, by rw [keeping_page, hpage], fun q hq => by rw [keeping_page, hother q hq],
      Only.keeping_any (ho.mono (by decide)) nofun⟩

end Sys2Proof.Machine
end

section
/-!
PROOFS. Recalls: answers, conflicts, write-backs, and a snoop that nothing answers.
-/

namespace Sys2Proof.Machine

open Sys2Proof

variable {s : State} {p link src line rsp tag h : Nat} {dirty : Bool} {tr : Trans} {n : Snoop}

/-! ### Answers (R322, R323, R343) -/

theorem holds_congr {t u : State} (ht : t.tables = u.tables) (e : DirEnt) (h : Nat) : t.holds e h = u.holds e h := by
  unfold State.holds State.liveSlots State.slotLive State.ident
  rw [ht]

theorem dirEnt_congr {t u : State} (h : t.dir = u.dir) (l : Nat) : t.dirEnt l = u.dirEnt l := by
  unfold State.dirEnt
  rw [h]

/-- What an answer notes of its snoop. -/
def Snoop.answered (dirty : Bool) (n : Snoop) : Snoop := { n with resp := true, needWb := dirty && n.hadM }

section Answers

variable (hp : p < 8) (hr : s.Recalling line tr n) (hm : s.matchId p link src = some n.hid) (ha : s.accepts p link = true) (hl : (s.ident n.hid).lost = 0)

include hr

theorem dirCount_tick (k m : Nat) : (s.dirCount k m).dirTick = s.dirCount k m := recalling_tick (recalling_congr hr rfl rfl)

/-- An answer that settles its snoop removes it, and what an invalidated identity held. -/
theorem noteSnoop_settles (hs : (dirty && n.hadM) = false) : let t := s.noteSnoop line n.hid (Snoop.answered dirty)
    t.dirTick = t ∧ t.dir.trans = [(line, some (tr.without n.hid))]
      ∧ (n.kind = snInv → (s.dirEnt line).coarse = false → (s.dirEnt line).valid = true → t.holds (t.dirEnt line) n.hid = false) ∧ Only [.dir] s t := by
  obtain ⟨he, hu, ho⟩ := noteSnoop_recalling hr (Snoop.answered dirty) (fun _ => rfl) (fun _ => rfl)
  have hent : ∀ l, (s.updTrans line fun t => { t with snoops := t.snoops.map fun m => if m.hid == n.hid then m.answered dirty else m }).dirEnt l = s.dirEnt l := fun _ => rfl
  generalize s.updTrans line (fun t => { t with snoops := t.snoops.map fun m => if m.hid == n.hid then m.answered dirty else m }) = u at he hu ho hent
  have hhid : (n.answered dirty).hid = n.hid := rfl
  obtain ⟨htrans, htick, -, honly, hdir⟩ := answer_recalling hu
  rw [hhid] at htrans htick honly hdir
  have he' : s.noteSnoop line n.hid (Snoop.answered dirty) = u.answerSnoop line n.hid := he.trans (if_pos (by simp [Snoop.answered, hs]))
  dsimp only
  rw [he']
  refine ⟨htick, ?_, fun hk hc hv => ?_, ho.trans honly⟩
  · rw [htrans]
    exact congrArg (fun t => [(line, some t)]) (noting_without tr n.hid _ fun _ => rfl)
  · have hdrop : u.snoopEffect line (n.answered dirty) = u.dropGrant line n.hid := if_pos hk
    have hd := dropGrant_holds (s := u) line n.hid (by rw [hent, hc])
    rw [hent, hv] at hd
    rw [holds_congr (honly .tables (by decide)), hdir, hdrop, ← holds_congr (only_dropGrant u line n.hid .tables (by decide))]
    exact hd.resolve_right (by decide)

/-- An answer to which a write-back belongs is noted, and its snoop stays. -/
theorem noteSnoop_waits (hs : (dirty && n.hadM) = true) (hw : n.wb = false) : let t := s.noteSnoop line n.hid (Snoop.answered dirty)
    t.dirTick = t ∧ t.dir.trans = [(line, some (tr.noting n.hid (Snoop.answered dirty)))] ∧ (∀ l, t.dirEnt l = s.dirEnt l) ∧ Only [.dir] s t := by
  obtain ⟨he, hu, ho⟩ := noteSnoop_recalling hr (Snoop.answered dirty) (fun _ => rfl) (fun _ => rfl)
  have hent : ∀ l, (s.updTrans line fun t => { t with snoops := t.snoops.map fun m => if m.hid == n.hid then m.answered dirty else m }).dirEnt l = s.dirEnt l := fun _ => rfl
  generalize s.updTrans line (fun t => { t with snoops := t.snoops.map fun m => if m.hid == n.hid then m.answered dirty else m }) = u at he hu ho hent
  have he' : s.noteSnoop line n.hid (Snoop.answered dirty) = u := he.trans (if_neg (by simp [Snoop.answered, hs, hw]))
  dsimp only
  rw [he']
  exact ⟨recalling_tick hu, hu.2.1, hent, ho⟩

include hp hm ha hl

theorem exec_birsp : exec (.birsp p link src line rsp dirty) s = .next (s.keeping {} (if !rspFits n.kind rsp then s.dirCount 8 1
    else s.noteSnoop line n.hid (Snoop.answered dirty)).dirTick.notePeaks) :=
  exec_done rfl ((if_pos hp).trans (congrArg State.notePeaks (birsp_recalling hr hm ha hl)))

theorem birsp_acts : ∃ t, exec (.birsp p link src line rsp dirty) s = .next t
    ∧ (rspFits n.kind rsp = false → t.dir = s.dir ∧ t.ctr (ofsOf pgDIR 0x78) 8 = satAdd 32 (s.ctr (ofsOf pgDIR 0x78) 8) 1 ∧ Only [.ctrs, .sys] s t)
    ∧ (rspFits n.kind rsp = true → (dirty && n.hadM) = false →
        t.dir.trans = [(line, some (tr.without n.hid))]
        ∧ (n.kind = snInv → (s.dirEnt line).coarse = false → (s.dirEnt line).valid = true → t.holds (t.dirEnt line) n.hid = false) ∧ Only [.dir, .sys] s t)
    ∧ (rspFits n.kind rsp = true → (dirty && n.hadM) = true → n.wb = false →
        t.dir.trans = [(line, some (tr.noting n.hid fun m => { m with resp := true, needWb := dirty && m.hadM }))]
        ∧ (∀ l, t.dirEnt l = s.dirEnt l) ∧ Only [.dir, .sys] s t) := by
  refine ⟨_, exec_birsp hp hr hm ha hl, fun hf => ?_, fun hf hs => ?_, fun hf hs hw => ?_⟩
  · rw [hf, Bool.not_false, if_pos rfl, dirCount_tick hr]
    have hpk := only_notePeaks (s.dirCount 8 1)
    refine ⟨hpk .dir (by decide), ?_, (only_bump s _ _ _ |>.mono (by decide)).peaks (by decide)⟩
    rw [keeping_ctr, show (s.dirCount 8 1).notePeaks.ctr (ofsOf pgDIR 0x78) 8 = (s.dirCount 8 1).ctr (ofsOf pgDIR 0x78) 8 from
      congrArg (mapGet (fun _ => 0) · _) (hpk .ctrs (by decide))]
    exact ctr_bump_same _ _ _ _
  · obtain ⟨htick, htrans, hholds, ho⟩ := noteSnoop_settles hr hs
    rw [hf, if_neg (by decide), htick]
    generalize s.noteSnoop line n.hid (Snoop.answered dirty) = u at htrans hholds ho
    have hdir : u.notePeaks.dir = u.dir := only_notePeaks u .dir (by decide)
    refine ⟨by rw [keeping_dir, hdir, htrans], fun hk hc hv => ?_, (ho.mono (by decide)).peaks (by decide)⟩
    rw [← hholds hk hc hv, keeping_dirEnt, dirEnt_congr hdir]
    exact holds_congr (only_notePeaks u .tables (by decide)) _ _
  · obtain ⟨htick, htrans, hent, ho⟩ := noteSnoop_waits hr hs hw
    rw [hf, if_neg (by decide), htick]
    generalize s.noteSnoop line n.hid (Snoop.answered dirty) = u at htrans hent ho
    have hdir : u.notePeaks.dir = u.dir := only_notePeaks u .dir (by decide)
    exact ⟨by rw [keeping_dir, hdir, htrans]; rfl, fun l => by rw [keeping_dirEnt, dirEnt_congr hdir, hent], (ho.mono (by decide)).peaks (by decide)⟩

end Answers

/-! ### Conflicts (R334) -/

/-- A snoop to the identity is open, and a request of its own waits on the line. -/
def State.conflictDue (s : State) (p line h : Nat) : Prop :=
  (s.openSnoop line h).isSome = true ∧ ((∃ tr r, s.trans line = some tr ∧ .req r ∈ tr.wait ∧ r.hid = h) ∨ ∃ r ∈ (s.hport p).waiting, r.hid = h ∧ r.m.line = line)

/-- A request of the identity waits at the line's transaction. -/
def State.waitsAtLine (s : State) (line h : Nat) : Bool :=
  match s.trans line with
  | some t => t.wait.any fun w => match w with | .req r => r.hid == h | _ => false
  | none => false

theorem waitsAtLine_iff : s.waitsAtLine line h = true ↔ ∃ tr r, s.trans line = some tr ∧ .req r ∈ tr.wait ∧ r.hid = h := by
  unfold State.waitsAtLine
  cases s.trans line with
  | none => simp
  | some t =>
    simp only [List.any_eq_true, Option.some.injEq, exists_and_left, exists_eq_left']
    constructor
    · rintro ⟨w, hw, hh⟩
      cases w with
      | req r => exact ⟨r, hw, eq_of_beq hh⟩
      | _ => cases hh
    · rintro ⟨r, hw, hh⟩
      exact ⟨_, hw, beq_iff_eq.mpr hh⟩

theorem biconflict_eq (hm : s.matchId p link src = some h) : s.biconflict p link src line tag =
    if (s.openSnoop line h).isSome && (s.waitsAtLine line h || (s.hport p).waiting.any fun r => r.hid == h && r.m.line == line) then
      (s.dirCount 6 1).sendResp p (.ndr p tag 4 0 (s.devLoad p (s.ident h).tenant))
    else s := by
  unfold State.biconflict
  rw [hm]
  rfl

theorem conflictDue_iff : ((s.openSnoop line h).isSome && (s.waitsAtLine line h || (s.hport p).waiting.any fun r => r.hid == h && r.m.line == line)) = true
    ↔ s.conflictDue p line h := by
  unfold State.conflictDue
  rw [Bool.and_eq_true, Bool.or_eq_true, waitsAtLine_iff]
  simp only [List.any_eq_true, Bool.and_eq_true, beq_iff_eq]

section Conflicts

variable (hp : p < 8) (hm : s.matchId p link src = some h)
include hp hm

theorem biconflict_answered (hd : s.conflictDue p line h) :
    ∃ t dev, exec (.biconflict p link src line tag) s = .next t ∧ s.Sent p (.ndr p tag 4 0 dev) t ∧ Only [.ctrs, .hports, .out] s t := by
  have he := biconflict_eq (line := line) (tag := tag) hm
  rw [if_pos (conflictDue_iff.mpr hd)] at he
  refine ⟨_, s.devLoad p (s.ident h).tenant, exec_done rfl ((if_pos hp).trans he), ?_, ?_⟩
  · exact ((sendResp_sent (s.dirCount 6 1) p _ rfl).of rfl rfl rfl rfl rfl).kept {} s
  · exact Only.keeping_any (((only_bump _ _ _ _).mono (by decide)).trans ((only_sendResp _ _ _).mono (by decide))) nofun

theorem biconflict_ignored (hd : ¬ s.conflictDue p line h) : exec (.biconflict p link src line tag) s = .next s := by
  have he := biconflict_eq (line := line) (tag := tag) hm
  rw [if_neg (mt conflictDue_iff.mp hd)] at he
  exact (exec_done rfl ((if_pos hp).trans he)).trans (congrArg _ (keeping_self s))

end Conflicts

/-! ### Write-backs (R322, R820) -/

section WriteBacks

variable {m : MemReq} (hp : m.port < 8)
include hp

theorem exec_rwdWriteback : exec (.rwdWriteback m) s = .next (s.keeping {} (s.writeback m).notePeaks) := exec_done rfl (if_pos hp)

theorem writeback_plain (h : ∀ h, s.matchId m.port m.link m.src = some h → s.accepts m.port m.link = true ∧ (s.ident h).lost = 0 ∧ s.openSnoop m.line h = none
    ∧ s.openSnoop (recallKey m.line) h = none) : exec (.rwdWriteback m) s = exec (.memWr m) s := by
  have hw : s.writeback m = s.hostReceive .wr m := by
    unfold State.writeback
    cases hm : s.matchId m.port m.link m.src with
    | none => rfl
    | some x =>
      obtain ⟨ha, hl, hs, hr⟩ := h x hm
      dsimp only
      rw [if_neg (by simp [ha, hl]), hs, hr]
      rfl
  rw [exec_rwdWriteback hp, hw]
  exact (exec_done rfl rfl).symm

theorem writeback_stores {i : Nat} {g : Range} (hr : s.Recalling m.line tr n) (hm : s.matchId m.port m.link m.src = some n.hid) (ha : s.accepts m.port m.link = true)
    (hl : (s.ident n.hid).lost = 0) (hg : s.rgnAt (granuleOfLine m.line) = some (i, g)) (hrem : g.remote = false) (hk : s.keyBad m.line = false) (hsb : m.sheetBad = false)
    (hst : (s.page (pageOfLine m.line)).st = .opened) (hh : (s.page (pageOfLine m.line)).held = []) :
    ∃ t, exec (.rwdWriteback m) s = .next t ∧ (∃ dev, s.Sent m.port (.ndr m.port m.tag 0 0 dev) t) ∧ s.LineWritten m.line m.data fullBe m.poison t
      ∧ t.dir.trans = [(m.line, some (if n.resp then tr.without n.hid else tr.noting n.hid fun x => { x with wb := true }))]
      ∧ Only [.tier, .mem, .poison, .log, .dram, .dir, .ctrs, .slate, .daily, .rgl, .hports, .out, .tenants, .freeIx, .sys] s t := by
  obtain ⟨A, hA, hw, ⟨dev, hsent⟩, htrans⟩ := writeback_recalling hr hm ha hl hg hrem hk hsb hst hh
  have hline := lineWritten_of hA hw (by decide) (by decide) (by decide) (by decide)
  refine ⟨_, exec_rwdWriteback hp, ⟨dev, hsent.peaks s⟩, hline.peaks s, ?_,
    Only.peaks ((hA.mono (by decide)).trans (((only_applyWrite A m.line m.data fullBe m.poison).mono (by decide)).trans (hw.mono (by decide)))) (by decide)⟩
  rw [keeping_dir, show (s.writeback m).notePeaks.dir = (s.writeback m).dir from only_notePeaks _ .dir (by decide), htrans]

end WriteBacks

/-! ### Deadlines (R326) -/

theorem exec_recallDeadline (line h : Nat) (s : State) : exec (.recallDeadline line false h) s = .next (s.keeping {} (s.recallDeadline line h)) := exec_done rfl rfl

theorem recallDeadline_early {f : Nat} (ht : s.dir.trans = [(line, some tr)]) (hf : tr.snoops.find? (fun m => m.hid == h) = some n) (hs : n.sent = some f)
    (hd : framesSince f s.frame.num < 4) : s.recallDeadline line h = s := by
  unfold State.recallDeadline
  rw [trans_one ht, Option.bind_some, hf]
  dsimp only
  rw [hs]
  exact if_pos (by simp [hd])

/-- Settles O42: an answer, a conflict, the two kinds of write-back, and a deadline that passes. -/
theorem recallsAreAnswered : Obligations.RecallsAreAnswered := by
  refine ⟨fun p link src line rsp dirty tr n s hp hr hm ha hl => birsp_acts hp hr hm ha hl,
    fun p link src line tag h s hp hm => ⟨biconflict_answered hp hm, biconflict_ignored hp hm⟩, fun m s hp => writeback_plain hp,
    fun m i g tr n s hp hr hm ha hl hg hrem hk hsb hst hh => writeback_stores hp hr hm ha hl hg hrem hk hsb hst hh,
    fun line h f tr n s hline ht hi hphase hn hf ho hs hl hreq => ⟨fun hd => ?early, fun hd => ?due⟩⟩
  case early =>
    rw [exec_recallDeadline, recallDeadline_early ht hf hs hd, keeping_self]
  case due =>
    obtain ⟨hlost, hclear, hpoison, hb0, hb1, htrans, hrec, hparts⟩ := recallDeadline_one hline ht hi hphase hn hf ho hs hd hl hreq
    exact ⟨_, exec_recallDeadline line h s, by rw [keeping_ident, hlost], by rw [keeping_ident, hclear], fun l hl => by rw [keeping_isPoison, hpoison l hl],
      by rw [keeping_hdr, hb0], fun hne => by rw [keeping_hdr, hb1 hne], by rw [keeping_dir, htrans], fun he => (hrec he).kept _ _, Only.keeping_any hparts nofun⟩

end Sys2Proof.Machine
end

section
/-!
PROOFS. Cues on their engine: the buffer their lines arrive in, one line written for a cue, and its end.
-/

namespace Sys2Proof.Machine

open Sys2Proof

variable {s t u : State} {n : Nat} {c d : CueRun}

/-! ### The buffer -/

theorem arrived_iff {key k : Nat} : s.arrived key k = true ↔ ∃ e ∈ s.fab.buf, e.1 = key ∧ e.2.1 = k := by
  simp [State.arrived, State.bufGet, List.find?_isSome]

theorem arrived_bufPut {key k l : Nat} (b : List Byte) (p : Bool) (h : k = l ∨ s.arrived key k = true) : (s.bufPut key l b p).arrived key k = true := by
  by_cases hk : k = l
  · subst hk
    unfold State.arrived
    rw [bufGet_bufPut]
    rfl
  · obtain ⟨e, he, hkey, hline⟩ := arrived_iff.mp (h.resolve_left hk)
    refine arrived_iff.mpr ⟨e, List.mem_append_left _ (List.mem_filter.mpr ⟨he, ?_⟩), hkey, hline⟩
    simp [hline, hk]

theorem arrived_bufPrune {key k : Nat} {gone : Nat → Bool} (hg : gone k = false) (h : s.arrived key k = true) : (s.bufPrune key gone).arrived key k = true := by
  obtain ⟨e, he, hkey, hline⟩ := arrived_iff.mp h
  refine arrived_iff.mpr ⟨e, List.mem_filter.mpr ⟨he, ?_⟩, hkey, hline⟩
  simp [hline, hg]

theorem bufPrune_run (key : Nat) (gone : Nat → Bool) (s : State) : (s.bufPrune key gone).run n = s.run n := rfl

theorem arrived_congr (h : u.fab = s.fab) (key k : Nat) : u.arrived key k = s.arrived key k := by
  unfold State.arrived State.bufGet
  rw [h]

theorem cueQuiet_iff : s.cueQuiet n c = true ↔ ∀ k ∈ c.asked, s.arrived (cueKey n) k = true := List.all_eq_true

/-! ### A running cue -/

theorem running_iff : s.running n = some c ↔ s.run n = some c ∧ c.phase = 0 ∧ s.log.fatal = false := by
  unfold State.running
  cases h : s.run n with
  | none => simp
  | some d =>
    dsimp only
    by_cases hp : d.phase = 0 ∧ s.log.fatal = false
    · rw [if_pos (by simp [hp])]
      constructor
      · rintro ⟨rfl⟩
        exact ⟨rfl, hp⟩
      · exact fun h => h.1
    · rw [if_neg (by simpa [and_imp] using hp)]
      constructor
      · nofun
      · rintro ⟨⟨rfl⟩, h'⟩
        exact absurd h' hp

theorem running_none (h : s.run n = some c) (hp : c.phase ≠ 0) : s.running n = none := by
  unfold State.running
  rw [h]
  exact if_neg (by simp [hp])

/-! ### The end -/

/-- The flags of a result outlive the end of the cue, and it no longer runs. -/
theorem cueEnd_flags (h : s.run n = some c) (hp : c.phase < 2) (st : Nat) (r0 r1 : Option Nat) :
    ∃ d, (s.cueEnd n st r0 r1).run n = some d ∧ d.phase = 2 ∧ d.mismatch = c.mismatch ∧ d.overflow = c.overflow := by
  have hr : ∀ (u : State) (v : Option Nat), (u.resultOf v).2.cues = u.cues := fun u v => only_resultOf u v .cues (by decide)
  have hrun : (((s.resultOf r0).2.resultOf r1).2).run n = some c :=
    (run_of_cues (congrArg _ ((hr _ _).trans (hr _ _))) n).trans h
  have stop : ∀ (u : State) (a b c d e i j k : Nat), (((u.ringStop a b c d).cueCount e i 1).cueCount e j k).run n = u.run n :=
    fun u a b c d _ _ _ _ => ringStop_run u a b c d n
  have key : ∀ (f : CueRun → CueRun) (k : Nat), State.run
      { (((s.resultOf r0).2.resultOf r1).2).updRunOf n f with cues := { ((((s.resultOf r0).2.resultOf r1).2).updRunOf n f).cues with ends := k } } n = some (f c) :=
    fun f _ => run_updRunOf_same _ hrun f
  unfold State.cueEnd
  rw [h]
  dsimp only
  rw [if_neg (by omega)]
  split
  · exact ⟨_, key _ _, rfl, rfl, rfl⟩
  · exact ⟨_, (stop _ _ _ _ _ _ _ _ _).trans (key _ _), rfl, rfl, rfl⟩

theorem cueEnd_ended (h : s.run n = some c) (hp : c.phase = 0) (st : Nat) (r0 r1 : Option Nat) : s.CueEnded n st r0 r1 (s.cueEnd n st r0 r1) := by
  obtain ⟨d, hd, hphase, hstatus, -, hat, hr0, hr1, -⟩ := cueEnd_run s h (by omega) st r0 r1
  exact ⟨d, hd, hphase, hstatus, hat, hr0, hr1⟩

theorem State.CueEnded.stopped {st : Nat} {r0 r1 : Option Nat} (h : s.CueEnded n st r0 r1 t) : t.running n = none := by
  obtain ⟨d, hd, hphase, -⟩ := h
  exact running_none hd (by omega)

theorem State.CueEnded.from {st : Nat} {r0 r1 : Option Nat} (h : u.CueEnded n st r0 r1 t) (hf : u.frame = s.frame) : s.CueEnded n st r0 r1 t := by
  obtain ⟨d, hd, hphase, hstatus, hat, hr⟩ := h
  exact ⟨d, hd, hphase, hstatus, by rw [hat, hf], hr⟩

theorem run_keeping (k : Touches) (r t : State) (n : Nat) : (r.keeping k t).run n = t.run n := run_of_cues (by rw [keeping_cues]) n

theorem State.CueEnded.kept {st : Nat} {r0 r1 : Option Nat} (h : s.CueEnded n st r0 r1 t) (k : Touches) (r : State) :
    s.CueEnded n st r0 r1 (r.keeping k t) := by
  obtain ⟨d, hd, h⟩ := h
  exact ⟨d, by rw [run_keeping, hd], h⟩

/-! ### Repeated steps -/

theorem loopN_stop {step : State → Option State} (f : Nat) (h : step s = none) : loopN step f s = s := by
  cases f with
  | zero => rfl
  | succ f => rw [loopN, h]

theorem loopN_step {step : State → Option State} (f : Nat) (h : step s = some t) : loopN step (f + 1) s = loopN step f t := by
  rw [loopN, h]

/-- A step that ends the cue is the last. -/
theorem loopN_one {step : State → Option State} (h : step s = some t) (hn : step t = none) : loopN step 20000 s = t :=
  (loopN_step 19999 h).trans (loopN_stop 19999 hn)

theorem loopN_two {step : State → Option State} (h : step s = some t) (h' : step t = some u) (hn : step u = none) : loopN step 20000 s = u :=
  (loopN_step 19999 h).trans ((loopN_step 19998 h').trans (loopN_stop 19998 hn))

/-! ### A line write that goes at once -/

theorem only_cuePay (k : Nat) (s : State) : Only [.slate, .daily, .ctrs] s (s.cuePay c k) :=
  ((only_chargeSplit _ _ _ _ _ _).mono (by decide)).trans ((only_bump _ _ _ _).mono (by decide))

theorem only_payDev (t cls : Nat) (s : State) : Only [.tenants, .slate, .daily, .ctrs] s (s.payDev t cls) :=
  (((Only.ite (only_updTen _ _ _) (Only.refl _ _)).mono (by decide)).trans ((only_chargeSplit _ _ _ _ _ _).mono (by decide))).trans
    ((only_bump _ _ _ _).mono (by decide))

theorem payDev_keyFault (a cls x : Nat) (s : State) : ((s.payDev a cls).ten x).keyFault = (s.ten x).keyFault := by
  unfold State.payDev
  dsimp only
  generalize hv : (if cls = clsCUE then s.updTen a fun x => x.pay 1 else s : State) = v
  have hcharged : Only [.slate, .daily, .ctrs] v ((v.chargeSplit gDIR 0 0 (v.ownerCode a) 1).dirCount 0 1) :=
    ((only_chargeSplit _ _ _ _ _ _).mono (by decide)).trans ((only_dirCount _ _ _).mono (by decide))
  rw [ten_congr (hcharged .tenants (by decide)), ← hv]
  split
  · by_cases h : x = a
    · subst h
      rw [ten_updTen_same]
      unfold Tenant.pay
      split <;> rfl
    · rw [ten_updTen_other _ _ h]
  · rfl

theorem lineReady_cuePay {l k : Nat} (h : s.LineReady n l) : (s.cuePay c k).LineReady n l := by
  have hn : (s.chargeSplit gCUE c.eng 0 (s.cueOwner c) k).LineReady n l := by
    unfold State.chargeSplit
    dsimp only
    split <;> exact h
  exact hn

theorem lineReady_cueAsk {l k m : Nat} (h : s.LineReady n l) : (s.cueAsk m k).LineReady n l := h

theorem deviceReady_idle {l : Nat} {w : Bool} (ht : s.trans l = none) (hn : s.needs l (.device w) = ([], [])) : s.deviceReady [l] w = (true, s) := by
  unfold State.deviceReady
  rw [List.foldl_cons, List.foldl_nil]
  dsimp only
  rw [ht]
  dsimp only
  rw [hn]
  rfl

theorem applyWrite_fatal (l : Nat) (b : List Byte) (be : Nat) (p : Bool) (s : State) : (s.applyWrite l b be p).log.fatal = s.log.fatal := by
  unfold State.applyWrite
  dsimp only
  have h : (s.writeLine l (mergeLine (s.readLine l) b be)).log = s.log := only_writeBytes _ _ _ .log (by decide)
  rw [← h]
  split
  · rfl
  · split <;> rfl

/-- What a line write of a cue changes before it is acknowledged. -/
def lineParts : List Part := [.tier, .ctrs, .slate, .daily, .rgl, .dram, .mem, .poison, .log, .fab, .cues, .tenants]

theorem devWrite_ready {key l a : Nat} {b : List Byte} {p : Bool} {env : ReadEnv} (h : s.LineReady a l) :
    ∃ u v, Only [.tier, .ctrs, .slate, .daily, .tenants] s u ∧ Only [.ctrs, .slate, .daily, .rgl, .dram] (u.applyWrite l b fullBe p) v
      ∧ s.devWrite key l a clsCUE b fullBe p env = (true, v.bufPut key (l + ackOfs) [] false) := by
  obtain ⟨hadm, ⟨i, g, hreach, hremote⟩, htrans, hneeds, hkey, hst, hheld⟩ := h
  have hpaid := only_payDev a clsCUE s
  have hpage : (s.payDev a clsCUE).page (pageOfLine l) = s.page (pageOfLine l) := page_congr (hpaid .tier (by decide)) _
  have hkey' : (s.payDev a clsCUE).keyBad l = false := (keyBad_congr (hpaid .tables (by decide)) (fun x => payDev_keyFault a clsCUE x s) l).trans hkey
  obtain ⟨u, v, hu, hv, hw, -⟩ := writeFor_open (t := a) (c := clsCUE) (d := b) (p := p) (env := env) (who := .dev key l a clsCUE) hkey'
    (by rw [hpage, hst]) (by rw [hpage, hheld]) (.inl rfl)
  refine ⟨u, v, (hpaid.mono (by decide)).trans (hu.mono (by decide)), hv, ?_⟩
  unfold State.devWrite
  rw [hadm, hreach, deviceReady_idle htrans hneeds]
  dsimp only
  rw [if_neg (by decide), if_neg (by simp [hremote]), if_pos rfl, hw]
  rfl

theorem placeBytes_line {b : List Byte} (h : b.length = 64) : placeBytes 0 b = (b, fullBe) := by
  unfold placeBytes
  rw [h]
  simp [List.take_left' h, fullBe]

/-- A whole line of a cue whose write goes at once: it is written, and acknowledged beside all that the cue waited for. -/
theorem cueWrite_ready {a : Nat} {b : List Byte} (p : Bool) (env : List (Nat × ReadEnv)) (hr : s.run n = some c) (hq : s.cueQuiet n c = true)
    (ha : a % 64 = 0) (hb : b.length = 64) (h : s.LineReady c.tenant (a / 64)) :
    ∃ v, s.cueWrite n c a b p env = (true, v) ∧ s.LineWritten (a / 64) b fullBe p v ∧ Only lineParts s v ∧ v.log.fatal = s.log.fatal
      ∧ v.run n = some { c with asked := c.asked ++ [a / 64 + ackOfs] } ∧ ∀ k ∈ c.asked ++ [a / 64 + ackOfs], v.arrived (cueKey n) k = true := by
  have hask := only_updRunOf s n fun c => { c with asked := c.asked ++ [a / 64 + ackOfs] }
  obtain ⟨u, v, hu, hv, hw⟩ := devWrite_ready (key := cueKey n) (b := b) (p := p) (env := envAt env (a / 64)) (lineReady_cueAsk (m := n) (k := a / 64 + ackOfs) h)
  have hsu : Only [.cues, .tier, .ctrs, .slate, .daily, .tenants] s u := (hask.mono (by decide)).trans (hu.mono (by decide))
  have hput := only_bufPut v (cueKey n) (a / 64 + ackOfs) [] false
  have happ := only_applyWrite u (a / 64) b fullBe p
  have hfab : v.fab = s.fab := Eq.trans (hv .fab (by decide)) (Eq.trans (happ .fab (by decide)) (hsu .fab (by decide)))
  obtain ⟨i, g, hreach, -⟩ := h.2.1
  refine ⟨v.bufPut (cueKey n) (a / 64 + ackOfs) [] false, ?_, ?_, ?_, ?_, ?_, ?_⟩
  · unfold State.cueWrite
    rw [ha, placeBytes_line hb]
    dsimp only
    rw [hreach, if_neg (by simp), hw, if_pos rfl]
  · exact lineWritten_of hsu ((hv.mono (l' := [.ctrs, .slate, .daily, .rgl, .dram, .fab]) (by decide)).trans (hput.mono (by decide)))
      (by decide) (by decide) (by decide) (by decide)
  · exact (hsu.mono (by decide)).trans ((happ.mono (by decide)).trans ((hv.mono (by decide)).trans (hput.mono (by decide))))
  · show v.log.fatal = _
    rw [hv .log (by decide), applyWrite_fatal, hsu .log (by decide)]
  · have hcues : v.cues = (s.cueAsk n (a / 64 + ackOfs)).cues := Eq.trans (hv .cues (by decide)) (Eq.trans (happ .cues (by decide)) (hu .cues (by decide)))
    exact (run_of_cues (congrArg _ hcues) n).trans (run_updRunOf_same s hr _)
  · intro k hk
    refine arrived_bufPut _ _ ?_
    rw [arrived_congr hfab]
    rcases List.mem_append.mp hk with hk | hk
    · exact .inr (cueQuiet_iff.mp hq k hk)
    · exact .inl (List.mem_singleton.mp hk)

/-! ### A cue whose last line is written -/

/-- The cue after one line that a write of it moved. -/
def CueRun.moved (c : CueRun) (p ov : Bool) (asked : List Nat) : CueRun :=
  { c with ofs := c.ofs + 64, poison := c.poison || p, r1 := c.r1 + (if p then 1 else 0), overflow := ov, asked := asked }

/-- One line of a cue is written, and all that the cue waits for has arrived. -/
def State.Moved (s : State) (n : Nat) (c : CueRun) (l : Nat) (b : List Byte) (p ov : Bool) (t : State) : Prop :=
  s.LineWritten l b fullBe p t ∧ Only lineParts s t ∧ t.log.fatal = s.log.fatal
  ∧ ∃ asked, t.run n = some (c.moved p ov asked) ∧ ∀ k ∈ asked, t.arrived (cueKey n) k = true

theorem isPoison_congr (h : u.poison = s.poison) (l : Nat) : u.isPoison l = s.isPoison l := by
  unfold State.isPoison
  rw [h]

theorem State.LineWritten.from {l be : Nat} {b : List Byte} {p : Bool} {parts : List Part} (h : u.LineWritten l b be p t) (ho : Only parts s u)
    (hm : Part.mem ∉ parts) (hp : Part.poison ∉ parts) : s.LineWritten l b be p t := by
  obtain ⟨hbyte, hpoison⟩ := h
  have he := isPoison_congr (ho .poison hp)
  exact ⟨fun x => by rw [hbyte, readByte_congr (ho .mem hm)], fun x => by rw [hpoison, he, he]⟩

theorem State.LineWritten.upto {l be : Nat} {b : List Byte} {p : Bool} {parts : List Part} (h : s.LineWritten l b be p t) (ho : Only parts t u)
    (hm : Part.mem ∉ parts) (hp : Part.poison ∉ parts) : s.LineWritten l b be p u := by
  obtain ⟨hbyte, hpoison⟩ := h
  exact ⟨fun x => by rw [readByte_congr (ho .mem hm), hbyte], fun x => by rw [isPoison_congr (ho .poison hp), hpoison]⟩

/-- A whole line delivered to a destination of the device. -/
theorem chunkOut_moved {a : Nat} {b : List Byte} (p : Bool) (env : List (Nat × ReadEnv)) (hr : s.run n = some c) (hq : s.cueQuiet n c = true)
    (hh : c.dstHost = false) (ha : a % 64 = 0) (hb : b.length = 64) (h : s.LineReady c.tenant (a / 64)) :
    ∃ t, s.chunkOut n c a b p env = some t ∧ s.Moved n c (a / 64) b p c.overflow t := by
  obtain ⟨v, hw, hline, ho, hfatal, hrun, harr⟩ := cueWrite_ready p env hr hq ha hb h
  generalize hm : (v.cuePay c b.length).cueCount c.eng 4 (if p then 1 else 0) = w
  have hvw : Only [.slate, .daily, .ctrs] v w := by
    rw [← hm]
    exact (only_cuePay _ _).trans ((only_bump _ _ _ _).mono (by decide))
  have hend : Only [.slate, .daily, .ctrs, .cues] v (w.cueLine n b.length p) := (hvw.mono (by decide)).trans ((only_updRunOf _ _ _).mono (by decide))
  refine ⟨w.cueLine n b.length p, ?_, hline.upto hend (by decide) (by decide), ho.trans (hend.mono (by decide)), ?_, c.asked ++ [a / 64 + ackOfs], ?_, ?_⟩
  · unfold State.chunkOut
    rw [hh, if_neg Bool.false_ne_true, hw, if_pos rfl, hm]
  · rw [hend .log (by decide), hfatal]
  · have hwrun : w.run n = v.run n := run_of_cues (congrArg _ (hvw .cues (by decide))) n
    rw [State.cueLine, run_updRunOf_same w (hwrun.trans hrun), hb]
    rfl
  · intro k hk
    rw [arrived_congr (hend .fab (by decide))]
    exact harr k hk

theorem only_cueSettle (keep : List Nat) (s : State) : Only [.cues, .fab] s (s.cueSettle n keep) :=
  ((only_updRunOf _ _ _).mono (by decide)).trans ((only_with_fab _ _).mono (by decide))

theorem cueSettle_arrived {keep : List Nat} {k : Nat} (h : s.arrived (cueKey n) k = true) (hk : k ∈ keep) : (s.cueSettle n keep).arrived (cueKey n) k = true :=
  arrived_bufPrune (by simp [hk]) h

/-- Where all that a cue asked for has arrived, what it still keeps has too. -/
theorem cueSettle_run {keep : List Nat} (hr : s.run n = some c) (hq : ∀ k ∈ c.asked, s.arrived (cueKey n) k = true) :
    (s.cueSettle n keep).run n = some { c with asked := c.asked.filter (· ∈ keep) } := by
  have hf : c.asked.filter (fun k => !(s.arrived (cueKey n) k && decide (k ∉ keep))) = c.asked.filter (· ∈ keep) :=
    List.filter_congr fun k hk => by simp [hq k hk]
  rw [← hf]
  unfold State.cueSettle
  dsimp only
  rw [bufPrune_run]
  exact run_updRunOf_same s hr fun c => { c with asked := c.asked.filter fun k => !(s.arrived (cueKey n) k && decide (k ∉ keep)) }

theorem State.Moved.settled {l : Nat} {b : List Byte} {p ov : Bool} (h : s.Moved n c l b p ov t) (keep : List Nat) :
    s.Moved n c l b p ov (t.cueSettle n keep) := by
  obtain ⟨hline, ho, hfatal, asked, hrun, harr⟩ := h
  have hs := only_cueSettle (n := n) keep t
  refine ⟨hline.upto hs (by decide) (by decide), ho.trans (hs.mono (by decide)), (congrArg LogS.fatal (hs .log (by decide))).trans hfatal,
    asked.filter (· ∈ keep), cueSettle_run hrun harr, fun k hk => ?_⟩
  obtain ⟨hk, hkeep⟩ := List.mem_filter.mp hk
  exact cueSettle_arrived (harr k hk) (of_decide_eq_true hkeep)

theorem State.Moved.running {l : Nat} {b : List Byte} {p ov : Bool} (h : s.Moved n c l b p ov t) (hc : s.running n = some c) :
    ∃ asked, t.running n = some (c.moved p ov asked) ∧ t.cueQuiet n (c.moved p ov asked) = true := by
  obtain ⟨-, -, hfatal, asked, hrun, harr⟩ := h
  obtain ⟨-, hp, hf⟩ := running_iff.mp hc
  exact ⟨asked, running_iff.mpr ⟨hrun, hp, hfatal.trans hf⟩, cueQuiet_iff.mpr harr⟩

theorem moveDone_ends (h : s.running n = some c) (hq : s.cueQuiet n c = true) : s.moveDone n = some (s.cueEnd n csOK (some c.ofs) (some c.r1)) := by
  unfold State.moveDone
  rw [h]
  exact if_pos hq

/-- A cue that ends has changed nothing else. -/
theorem cue_done {i : Instr} {st : Nat} {r0 r1 : Option Nat} (hi : exec i s = .next (s.keeping {} (s.cueEnd n st r0 r1))) (h : s.running n = some c) :
    ∃ t, exec i s = .next t ∧ s.CueEnded n st r0 r1 t ∧ Only [.cues, .fns, .ctrs, .freeIx] s t := by
  obtain ⟨hrun, hp, -⟩ := running_iff.mp h
  exact ⟨_, hi, (cueEnd_ended hrun hp st r0 r1).kept {} s, Only.keeping_any (only_cueEnd s n st r0 r1) nofun⟩

/-- A cue that ends after its last line. -/
theorem State.Moved.ends {i : Instr} {l : Nat} {b : List Byte} {p ov : Bool} (h : s.Moved n c l b p ov t) (hc : s.running n = some c)
    (hi : exec i s = .next (s.keeping {} (t.cueEnd n csOK (some c.len) (some (c.r1 + if p then 1 else 0))))) :
    ∃ t, exec i s = .next t ∧ s.LineWritten l b fullBe p t ∧ s.CueEnded n csOK (some c.len) (some (c.r1 + if p then 1 else 0)) t
      ∧ (∃ e, t.run n = some e ∧ e.overflow = ov)
      ∧ Only [.tier, .ctrs, .slate, .daily, .rgl, .dram, .mem, .poison, .log, .fab, .cues, .tenants, .fns, .freeIx] s t := by
  obtain ⟨asked, hrun, -⟩ := h.running hc
  obtain ⟨hline, ho, -⟩ := h
  obtain ⟨hrun, hp, -⟩ := running_iff.mp hrun
  have he := only_cueEnd t n csOK (some c.len) (some (c.r1 + if p then 1 else 0))
  obtain ⟨e, hd, -, -, hov⟩ := cueEnd_flags hrun (by omega) csOK (some c.len) (some (c.r1 + if p then 1 else 0))
  exact ⟨_, hi, (hline.upto he (by decide) (by decide)).kept {} s, ((cueEnd_ended hrun hp _ _ _).from (ho .frame (by decide))).kept {} s,
    ⟨e, by rw [run_keeping, hd], hov⟩, Only.keeping_any ((ho.mono (by decide)).trans (he.mono (by decide))) nofun⟩

/-! ### FILL and COPY, PLAIN (R586, R587) -/

section
variable {env : List (Nat × ReadEnv)}

theorem exec_fill (h : s.running n = some c) (ho : c.op = opFILL) (hl : loopN (fun (s : State) => s.fillStep n env) 20000 s = t) :
    exec (.fill n env) s = .next (s.keeping {} t) := by
  refine exec_done rfl ?_
  unfold State.cueFill
  rw [h]
  exact (if_pos ho).trans hl

theorem fillStep_stopped (h : s.running n = none) : s.fillStep n env = none := by
  unfold State.fillStep
  rw [h]

theorem fillStep_over (h : s.running n = some c) (hq : s.cueQuiet n c = true) (hl : c.len ≤ c.ofs) :
    s.fillStep n env = some (s.cueEnd n csOK (some c.ofs) (some c.r1)) := by
  unfold State.fillStep
  rw [h]
  exact (if_pos hl).trans (moveDone_ends h hq)

theorem fillBytes_length (v : List Byte) (k m : Nat) : (fillBytes v k m).length = m := by simp [fillBytes]

/-- The bytes of the last whole line. -/
theorem lastLine_size {a : Nat} (ha : a % 64 = 0) (hl : c.ofs + 64 = c.len) : min (64 - a % 64) (c.len - c.ofs) = 64 := by omega

theorem fillStep_moved (h : s.running n = some c) (hl : c.ofs + 64 = c.len) (hh : c.dstHost = false) (hroom : s.cueRoom c = true)
    (ha : (c.num 0x10 8 + c.ofs) % 64 = 0) (hready : s.LineReady c.tenant ((c.num 0x10 8 + c.ofs) / 64)) (hq : s.cueQuiet n c = true) :
    ∃ t, s.fillStep n env = some t
      ∧ s.Moved n c ((c.num 0x10 8 + c.ofs) / 64) (fillBytes ((c.bytes.drop 0x20).take 8) c.ofs 64) false c.overflow t := by
  obtain ⟨t, ht, hm⟩ := chunkOut_moved false env (running_iff.mp h).1 hq hh ha (fillBytes_length ((c.bytes.drop 0x20).take 8) c.ofs 64) hready
  refine ⟨t, ?_, hm⟩
  unfold State.fillStep
  rw [h]
  dsimp only
  rw [if_neg (by omega), hroom, if_neg (by decide), lastLine_size ha hl, ht]

theorem fill_over (h : s.running n = some c) (ho : c.op = opFILL) (hl : c.len ≤ c.ofs) (hq : s.cueQuiet n c = true) :
    ∃ t, exec (.fill n env) s = .next t ∧ s.CueEnded n csOK (some c.ofs) (some c.r1) t ∧ Only [.cues, .fns, .ctrs, .freeIx] s t := by
  obtain ⟨hrun, hp, -⟩ := running_iff.mp h
  exact cue_done (exec_fill h ho (loopN_one (fillStep_over h hq hl) (fillStep_stopped (cueEnd_ended hrun hp _ _ _).stopped))) h

/-- The cue that a written last line leaves is over. -/
theorem State.Moved.over {l : Nat} {b : List Byte} {p ov : Bool} (h : s.Moved n c l b p ov t) (hc : s.running n = some c) (hlen : c.ofs + 64 = c.len) :
    ∃ d : CueRun, t.running n = some d ∧ t.cueQuiet n d = true ∧ d.len ≤ d.ofs ∧ d.recs = c.recs
      ∧ t.cueEnd n csOK (some d.ofs) (some d.r1) = t.cueEnd n csOK (some c.len) (some (c.r1 + if p then 1 else 0))
      ∧ (t.cueEnd n csOK (some c.len) (some (c.r1 + if p then 1 else 0))).running n = none := by
  obtain ⟨asked, hrun, hq⟩ := h.running hc
  obtain ⟨hr, hp, -⟩ := running_iff.mp hrun
  exact ⟨_, hrun, hq, hlen.ge, rfl, by rw [← hlen]; rfl, (cueEnd_ended hr hp _ _ _).stopped⟩

theorem fill_last (h : s.running n = some c) (ho : c.op = opFILL) (hl : c.ofs + 64 = c.len) (hh : c.dstHost = false) (hroom : s.cueRoom c = true)
    (ha : (c.num 0x10 8 + c.ofs) % 64 = 0) (hready : s.LineReady c.tenant ((c.num 0x10 8 + c.ofs) / 64)) (hq : s.cueQuiet n c = true) :
    ∃ t, exec (.fill n env) s = .next t ∧ s.LineWritten ((c.num 0x10 8 + c.ofs) / 64) (fillBytes ((c.bytes.drop 0x20).take 8) c.ofs 64) fullBe false t
      ∧ s.CueEnded n csOK (some c.len) (some c.r1) t
      ∧ Only [.tier, .ctrs, .slate, .daily, .rgl, .dram, .mem, .poison, .log, .fab, .cues, .tenants, .fns, .freeIx] s t := by
  obtain ⟨t, ht, hm⟩ := fillStep_moved (env := env) h hl hh hroom ha hready hq
  obtain ⟨d, hd, hdq, hover, -, hend, hstop⟩ := hm.over h hl
  obtain ⟨v, hv, hline, hended, -, honly⟩ := hm.ends h (exec_fill (env := env) h ho (loopN_two ht ((fillStep_over hd hdq hover).trans (congrArg some hend)) (fillStep_stopped hstop)))
  exact ⟨v, hv, hline, hended, honly⟩

/-! #### Source lines -/

theorem linesOf_aligned {a m : Nat} (ha : a % 64 = 0) (h0 : 0 < m) (hm : m ≤ 64) : linesOf a m = [a / 64] := by
  unfold linesOf
  rw [if_neg (by omega), show (a + m - 1) / 64 + 1 - a / 64 = 1 by omega]
  simp

/-- Lines that a cue has asked for are not asked for again. -/
theorem needLines_asked {host : Bool} {a m : Nat} (h : s.run n = some c) (ha : a % 64 = 0) (h0 : 0 < m) (hm : m ≤ 64)
    (hk : (if host then hostOfs else 0) + a / 64 ∈ c.asked) :
    s.needLines n host a m env = (s.arrived (cueKey n) ((if host then hostOfs else 0) + a / 64), s) := by
  unfold State.needLines
  rw [linesOf_aligned ha h0 hm]
  dsimp only [List.foldl_cons, List.foldl_nil]
  rw [h]
  dsimp only
  rw [if_pos (by simp [hk])]
  simp

theorem bufBytes_line {key ofs a : Nat} {b : List Byte} {p : Bool} (ha : a % 64 = 0) (hb : s.bufGet key (ofs + a / 64) = some (b, p)) (hl : b.length = 64) :
    s.bufBytes key ofs a 64 = (b, p) := by
  unfold State.bufBytes
  rw [linesOf_aligned ha (by decide) (by decide), ha]
  simp [hb, List.take_of_length_le hl.le]

theorem arrived_of_bufGet {key k : Nat} {x : List Byte × Bool} (h : s.bufGet key k = some x) : s.arrived key k = true := by
  unfold State.arrived
  rw [h]
  rfl

theorem avail_of_room (h : s.cueRoom c = true) : 0 < s.availOf gCUE c.eng 0 (s.cueOwner c) := by
  unfold State.cueRoom at h
  rw [Bool.and_eq_true] at h
  exact of_decide_eq_true h.1

/-! #### COPY, PLAIN -/

theorem exec_copyPlain (h : s.running n = some c) (ho : c.op = opCOPY) (hmode : c.mode = 0)
    (hl : loopN (fun (s : State) => s.copyStep n env) 20000 (s.copyAsk n env) = t) : exec (.copyPlain n env) s = .next (s.keeping {} t) := by
  refine exec_done rfl ?_
  unfold State.cueCopy
  rw [h]
  exact (if_pos ⟨ho, hmode⟩).trans hl

theorem copyStep_stopped (h : s.running n = none) : s.copyStep n env = none := by
  unfold State.copyStep
  rw [h]

theorem copyStep_over (h : s.running n = some c) (hq : s.cueQuiet n c = true) (hl : c.len ≤ c.ofs) :
    s.copyStep n env = some (s.cueEnd n csOK (some c.ofs) (some c.r1)) := by
  unfold State.copyStep
  rw [h]
  exact (if_pos hl).trans (moveDone_ends h hq)

theorem copyAsk_over (h : s.running n = some c) (hl : c.len ≤ c.ofs) : s.copyAsk n env = s := by
  unfold State.copyAsk
  rw [h]
  exact if_neg (by omega)

theorem copyAsk_asked (h : s.running n = some c) (hl : c.ofs + 64 = c.len) (hroom : s.cueRoom c = true) (ha : (c.num 0x10 8 + c.ofs) % 64 = 0)
    (hk : (if c.srcHost then hostOfs else 0) + (c.num 0x10 8 + c.ofs) / 64 ∈ c.asked) : s.copyAsk n env = s := by
  have hav := avail_of_room hroom
  unfold State.copyAsk
  rw [h]
  dsimp only
  rw [if_pos ⟨by omega, hroom⟩, needLines_asked (running_iff.mp h).1 ha (by omega) (by omega) hk]

theorem copyStep_moved {b : List Byte} {p : Bool} (h : s.running n = some c) (hl : c.ofs + 64 = c.len) (hh : c.dstHost = false) (hroom : s.cueRoom c = true)
    (ha : (c.num 0x10 8 + c.ofs) % 64 = 0) (hd : (c.num 0x18 8 + c.ofs) % 64 = 0) (hready : s.LineReady c.tenant ((c.num 0x18 8 + c.ofs) / 64))
    (hq : s.cueQuiet n c = true) (hk : (if c.srcHost then hostOfs else 0) + (c.num 0x10 8 + c.ofs) / 64 ∈ c.asked)
    (hb : s.bufGet (cueKey n) ((if c.srcHost then hostOfs else 0) + (c.num 0x10 8 + c.ofs) / 64) = some (b, p)) (hlen : b.length = 64) :
    ∃ t, s.copyStep n env = some t ∧ s.Moved n c ((c.num 0x18 8 + c.ofs) / 64) b p c.overflow t := by
  obtain ⟨t, ht, hm⟩ := chunkOut_moved p env (running_iff.mp h).1 hq hh hd hlen hready
  refine ⟨t.cueSettle n [(if c.srcHost then hostOfs else 0) + (c.num 0x10 8 + c.ofs + 64) / 64], ?_, hm.settled _⟩
  unfold State.copyStep
  rw [h]
  dsimp only
  rw [if_neg (by omega), hroom, if_neg (by decide), lastLine_size hd hl, needLines_asked (running_iff.mp h).1 ha (by decide) (by decide) hk,
    arrived_of_bufGet hb]
  dsimp only
  rw [if_neg (by decide), bufBytes_line ha hb hlen, ht]

theorem copy_over (h : s.running n = some c) (ho : c.op = opCOPY) (hmode : c.mode = 0) (hl : c.len ≤ c.ofs) (hq : s.cueQuiet n c = true) :
    ∃ t, exec (.copyPlain n env) s = .next t ∧ s.CueEnded n csOK (some c.ofs) (some c.r1) t ∧ Only [.cues, .fns, .ctrs, .freeIx] s t := by
  obtain ⟨hrun, hp, -⟩ := running_iff.mp h
  refine cue_done (exec_copyPlain h ho hmode ?_) h
  rw [copyAsk_over h hl]
  exact loopN_one (copyStep_over h hq hl) (copyStep_stopped (cueEnd_ended hrun hp _ _ _).stopped)

theorem copy_last {b : List Byte} {p : Bool} (h : s.running n = some c) (ho : c.op = opCOPY) (hmode : c.mode = 0) (hl : c.ofs + 64 = c.len)
    (hh : c.dstHost = false) (hroom : s.cueRoom c = true)
    (ha : (c.num 0x10 8 + c.ofs) % 64 = 0) (hd : (c.num 0x18 8 + c.ofs) % 64 = 0) (hready : s.LineReady c.tenant ((c.num 0x18 8 + c.ofs) / 64))
    (hq : s.cueQuiet n c = true) (hk : (if c.srcHost then hostOfs else 0) + (c.num 0x10 8 + c.ofs) / 64 ∈ c.asked)
    (hb : s.bufGet (cueKey n) ((if c.srcHost then hostOfs else 0) + (c.num 0x10 8 + c.ofs) / 64) = some (b, p)) (hlen : b.length = 64) :
    ∃ t, exec (.copyPlain n env) s = .next t ∧ s.LineWritten ((c.num 0x18 8 + c.ofs) / 64) b fullBe p t
      ∧ s.CueEnded n csOK (some c.len) (some (c.r1 + if p then 1 else 0)) t
      ∧ Only [.tier, .ctrs, .slate, .daily, .rgl, .dram, .mem, .poison, .log, .fab, .cues, .tenants, .fns, .freeIx] s t := by
  obtain ⟨t, ht, hm⟩ := copyStep_moved (env := env) h hl hh hroom ha hd hready hq hk hb hlen
  obtain ⟨d, hrun, hdq, hover, -, hend, hstop⟩ := hm.over h hl
  obtain ⟨v, hv, hline, hended, -, honly⟩ := hm.ends h (exec_copyPlain (env := env) h ho hmode
    ((congrArg _ (copyAsk_asked h hl hroom ha hk)).trans (loopN_two ht ((copyStep_over hrun hdq hover).trans (congrArg some hend)) (copyStep_stopped hstop))))
  exact ⟨v, hv, hline, hended, honly⟩

end

/-- Settles O51: one step of a FILL or of a PLAIN copy writes its last line, which the next one finds acknowledged. -/
theorem cuesFillAndCopy : Obligations.CuesFillAndCopy := by
  unfold Obligations.CuesFillAndCopy
  refine ⟨fun n c env s h ho => ⟨fun hl hq => fill_over h ho hl hq, fun hl hh hroom ha hready hq => fill_last h ho hl hh hroom ha hready hq⟩,
    fun n c env s h ho hmode => ⟨fun hl hq => copy_over h ho hmode hl hq, ?_⟩⟩
  intro b p hl hh hroom ha hd hready hq hk hb hlen
  exact copy_last h ho hmode hl hh hroom ha hd hready hq hk hb hlen

end Sys2Proof.Machine
end

section
/-!
PROOFS. Cues that answer what they find: comparisons, swaps and reductions.
-/

namespace Sys2Proof.Machine

open Sys2Proof

variable {s t u : State} {n : Nat} {c d : CueRun} {env : List (Nat × ReadEnv)}

/-! ### EQUAL and FIRST_DIFF (R590) -/

section
variable {i : Nat × Instr}

theorem exec_compare (hi : i ∈ [(0, Instr.equal n env), (1, .firstDiff n env)]) (h : s.running n = some c) (ho : c.op = opCOMPARE) (hmode : c.mode = i.1)
    (hl : loopN (fun (s : State) => s.compareStep n env) 20000 (s.compareAsk n env) = t) : exec i.2 s = .next (s.keeping {} t) := by
  have hc : s.cueCompare i.1 n env = t := by
    unfold State.cueCompare
    rw [h]
    exact (if_pos ⟨ho, hmode⟩).trans hl
  simp only [List.mem_cons, List.not_mem_nil, or_false] at hi
  rcases hi with rfl | rfl
  · exact exec_done rfl hc
  · exact exec_done rfl hc

theorem compareStep_stopped (h : s.running n = none) : s.compareStep n env = none := by
  unfold State.compareStep
  rw [h]

/-- At the end of both ranges. -/
theorem compareStep_over (h : s.running n = some c) (hl : c.len ≤ c.ofs) :
    s.compareStep n env = some (s.cueEnd n csOK (some (if c.mode = 1 then c.len else 0)) none) := by
  unfold State.compareStep
  rw [h]
  dsimp only
  rw [if_pos hl]
  simp

theorem compareAsk_over (h : s.running n = some c) (hl : c.len ≤ c.ofs) : s.compareAsk n env = s := by
  unfold State.compareAsk
  rw [h]
  exact if_neg (by omega)

theorem compare_over (hi : i ∈ [(0, Instr.equal n env), (1, .firstDiff n env)]) (h : s.running n = some c) (ho : c.op = opCOMPARE) (hmode : c.mode = i.1)
    (hl : c.len ≤ c.ofs) :
    ∃ t, exec i.2 s = .next t ∧ s.CueEnded n csOK (some (if i.1 = 1 then c.len else 0)) none t ∧ Only [.cues, .fns, .ctrs, .freeIx] s t := by
  obtain ⟨hrun, hp, -⟩ := running_iff.mp h
  refine cue_done (exec_compare hi h ho hmode ?_) h
  rw [compareAsk_over h hl, ← hmode]
  exact loopN_one (compareStep_over h hl) (compareStep_stopped (cueEnd_ended hrun hp _ _ _).stopped)

/-- The last line of both ranges has arrived. -/
structure State.LastLines (s : State) (n : Nat) (c : CueRun) (x y : List Byte × Bool) : Prop where
  running : s.running n = some c
  last : c.ofs + 64 = c.len
  room : s.cueRoom c = true
  alignA : (c.num 0x10 8 + c.ofs) % 64 = 0
  alignB : (c.num 0x20 8 + c.ofs) % 64 = 0
  askedA : (c.num 0x10 8 + c.ofs) / 64 ∈ c.asked
  askedB : (if c.srcHost then hostOfs else 0) + (c.num 0x20 8 + c.ofs) / 64 ∈ c.asked
  lineA : s.bufGet (cueKey n) ((c.num 0x10 8 + c.ofs) / 64) = some x
  lineB : s.bufGet (cueKey n) ((if c.srcHost then hostOfs else 0) + (c.num 0x20 8 + c.ofs) / 64) = some y

/-- Where the last lines of two ranges first differ or are poisoned. -/
def lastStop (x y : List Byte × Bool) : Option (Nat × Bool) :=
  firstStop 0 ((List.range 64).map fun k => (x.1.getD k 0#8, x.2)) ((List.range 64).map fun k => (y.1.getD k 0#8, y.2))

variable {x y : List Byte × Bool}

theorem markedBytes_line {key ofs a : Nat} (ha : a % 64 = 0) (hx : s.bufGet key (ofs + a / 64) = some x) :
    s.markedBytes key ofs a 64 = (List.range 64).map fun k => (x.1.getD k 0#8, x.2) := by
  unfold State.markedBytes
  refine List.map_congr_left fun k hk => ?_
  have hk : k < 64 := List.mem_range.mp hk
  rw [show (a + k) / 64 = a / 64 by omega, show (a + k) % 64 = k by omega, hx]
  rfl

theorem needLines_dpa {a m : Nat} (h : s.run n = some c) (ha : a % 64 = 0) (h0 : 0 < m) (hm : m ≤ 64) (hk : a / 64 ∈ c.asked) :
    s.needLines n false a m env = (s.arrived (cueKey n) (a / 64), s) := by
  have hn := needLines_asked (env := env) (host := false) h ha h0 hm (by simpa using hk)
  simpa using hn

theorem cueSettle_keeps {keep : List Nat} (hr : s.run n = some c) : ∃ asked, (s.cueSettle n keep).run n = some { c with asked := asked } := by
  unfold State.cueSettle
  dsimp only
  rw [bufPrune_run]
  exact ⟨_, run_updRunOf_same s hr fun c => { c with asked := c.asked.filter fun k => !(s.arrived (cueKey n) k && decide (k ∉ keep)) }⟩

/-- What the comparison of the last lines gives. -/
def State.compared (s : State) (n : Nat) (c : CueRun) (stop : Option (Nat × Bool)) : State :=
  let u := s.cuePay c (2 * 64)
  match stop with
  | some (i, true) => u.cueEnd n csPOISONED (some (c.ofs + i)) none
  | some (i, false) => (u.updRunOf n fun c => { c with mismatch := true }).cueEnd n csOK (some (if c.mode == 1 then c.ofs + i else 0)) none
  | none => (u.updRunOf n fun c => { c with ofs := c.ofs + 64 }).cueSettle n
      [(c.num 0x10 8 + c.ofs + 64) / 64, (if c.srcHost then hostOfs else 0) + (c.num 0x20 8 + c.ofs + 64) / 64]

namespace State.LastLines

theorem ask (hL : s.LastLines n c x y) : s.compareAsk n env = s := by
  obtain ⟨h, hl, hroom, ha, hb, hka, hkb, -, -⟩ := hL
  have hav := avail_of_room hroom
  have hrun := (running_iff.mp h).1
  unfold State.compareAsk
  rw [h]
  dsimp only
  rw [if_pos ⟨by omega, hroom⟩, needLines_dpa hrun ha (by omega) (by omega) hka]
  dsimp only
  rw [needLines_asked hrun hb (by omega) (by omega) hkb]

theorem step (hL : s.LastLines n c x y) : s.compareStep n env = some (s.compared n c (lastStop x y)) := by
  obtain ⟨h, hl, hroom, ha, hb, hka, hkb, hx, hy⟩ := hL
  have hrun := (running_iff.mp h).1
  have hfab : ∀ key k, (s.cuePay c (2 * 64)).bufGet key k = s.bufGet key k := fun key k => by
    unfold State.bufGet
    rw [only_cuePay (c := c) (2 * 64) s .fab (by decide)]
  unfold State.compareStep
  rw [h]
  dsimp only
  rw [if_neg (by omega), hroom, if_neg (by decide), lastLine_size ha hl, needLines_dpa hrun ha (by decide) (by decide) hka, arrived_of_bufGet hx]
  dsimp only
  rw [needLines_asked hrun hb (by decide) (by decide) hkb, arrived_of_bufGet hy]
  dsimp only
  rw [if_neg (by decide), markedBytes_line (x := x) (ofs := 0) ha (by rw [hfab, Nat.zero_add, hx]), markedBytes_line (x := y) hb (by rw [hfab, hy])]
  unfold State.compared lastStop
  dsimp only
  generalize firstStop 0 ((List.range 64).map fun k => (x.1.getD k 0#8, x.2)) ((List.range 64).map fun k => (y.1.getD k 0#8, y.2)) = stop
  match stop with
  | some (_, true) | some (_, false) | none => rfl

/-- The answer of a comparison that the last lines end. -/
theorem ends (hL : s.LastLines n c x y) (hi : i ∈ [(0, Instr.equal n env), (1, .firstDiff n env)]) (ho : c.op = opCOMPARE) (hmode : c.mode = i.1)
    {st : Nat} {r0 : Option Nat} (hu : Only [.cues, .slate, .daily, .ctrs, .fab] s u) (hr : u.run n = some d) (hp : d.phase = 0)
    (hend : loopN (fun (s : State) => s.compareStep n env) 20000 s = u.cueEnd n st r0 none) :
    ∃ t, exec i.2 s = .next t ∧ Only [.cues, .fns, .ctrs, .freeIx, .slate, .daily, .fab] s t ∧ s.CueEnded n st r0 none t
      ∧ ∃ e, t.run n = some e ∧ e.mismatch = d.mismatch := by
  obtain ⟨e, he, -, hmis, -⟩ := cueEnd_flags hr (by omega) st r0 none
  exact ⟨_, exec_compare hi hL.running ho hmode ((congrArg _ hL.ask).trans hend),
    Only.keeping_any ((hu.mono (by decide)).trans ((only_cueEnd u n st r0 none).mono (by decide))) nofun,
    ((cueEnd_ended hr hp st r0 none).from (hu .frame (by decide))).kept {} s, e, by rw [run_keeping, he], hmis⟩

/-- A poisoned byte, or one that differs, ends the comparison at once; else the next step ends it. -/
theorem compares (hL : s.LastLines n c x y) (hi : i ∈ [(0, Instr.equal n env), (1, .firstDiff n env)]) (ho : c.op = opCOMPARE) (hmode : c.mode = i.1) :
    ∃ t, exec i.2 s = .next t ∧ Only [.cues, .fns, .ctrs, .freeIx, .slate, .daily, .fab] s t
      ∧ (∀ k, lastStop x y = some (k, true) → s.CueEnded n csPOISONED (some (c.ofs + k)) none t)
      ∧ (∀ k, lastStop x y = some (k, false) → s.CueEnded n csOK (some (if i.1 = 1 then c.ofs + k else 0)) none t ∧ ∃ d, t.run n = some d ∧ d.mismatch = true)
      ∧ (lastStop x y = none → s.CueEnded n csOK (some (if i.1 = 1 then c.len else 0)) none t) := by
  have hstep := hL.step (env := env)
  obtain ⟨hrun, hp, hfatal⟩ := running_iff.mp hL.running
  have hpay := only_cuePay (c := c) (2 * 64) s
  have hpaid : (s.cuePay c (2 * 64)).run n = some c := (run_of_cues (congrArg _ (hpay .cues (by decide))) n).trans hrun
  unfold State.compared at hstep
  match hstop : lastStop x y, hstep with
  | some (k, true), hstep =>
    have hstopped : (State.cueEnd n csPOISONED (some (c.ofs + k)) none (s.cuePay c (2 * 64))).running n = none := (cueEnd_ended hpaid hp _ _ _).stopped
    obtain ⟨t, ht, honly, hended, -⟩ := hL.ends hi ho hmode (hpay.mono (by decide)) hpaid hp (loopN_one hstep (compareStep_stopped hstopped))
    exact ⟨t, ht, honly, fun j hj => by cases hj; exact hended, nofun, nofun⟩
  | some (k, false), hstep =>
    have hmark := run_updRunOf_same (s.cuePay c (2 * 64)) hpaid fun c => { c with mismatch := true }
    have honly := (hpay.mono (l' := [.cues, .slate, .daily, .ctrs, .fab]) (by decide)).trans
      ((only_updRunOf (s.cuePay c (2 * 64)) n fun c => { c with mismatch := true }).mono (by decide))
    obtain ⟨t, ht, honly, hended, e, he, hmis⟩ := hL.ends hi ho hmode honly hmark hp
      (loopN_one hstep (compareStep_stopped (cueEnd_ended hmark hp _ _ _).stopped))
    refine ⟨t, ht, honly, nofun, fun j hj => ?_, nofun⟩
    cases hj
    simp only [hmode, beq_iff_eq] at hended
    exact ⟨hended, e, he, hmis⟩
  | none, hstep =>
    generalize (([_, _] : List Nat)) = keep at hstep
    have hmoved := run_updRunOf_same (s.cuePay c (2 * 64)) hpaid fun c => { c with ofs := c.ofs + 64 }
    obtain ⟨asked, hsettled⟩ := cueSettle_keeps (keep := keep) hmoved
    have honly := (hpay.mono (l' := [.cues, .slate, .daily, .ctrs, .fab]) (by decide)).trans
      (((only_updRunOf (s.cuePay c (2 * 64)) n fun c => { c with ofs := c.ofs + 64 }).mono (by decide)).trans ((only_cueSettle (n := n) keep _).mono (by decide)))
    have hnext := compareStep_over (env := env) (running_iff.mpr ⟨hsettled, hp, (congrArg LogS.fatal (honly .log (by decide))).trans hfatal⟩) hL.last.ge
    obtain ⟨t, ht, honly, hended, -⟩ := hL.ends hi ho hmode honly hsettled hp
      (loopN_two hstep hnext (compareStep_stopped (cueEnd_ended hsettled hp _ _ _).stopped))
    refine ⟨t, ht, honly, nofun, nofun, fun _ => ?_⟩
    rw [← hmode]
    exact hended

end State.LastLines

end

/-! ### CAS (R591) -/

section
variable {env : ReadEnv}

theorem fcLine_updFc_same (l : Nat) (f : FcLine → FcLine) (s : State) : (s.updFc l f).fcLine l = f (s.fcLine l) := mapGet_upd_same _ _ _

theorem fcLine_congr (h : u.dram = s.dram) (l : Nat) : u.fcLine l = s.fcLine l := by
  unfold State.fcLine
  rw [h]

theorem readLine_congr (h : u.mem = s.mem) (l : Nat) : u.readLine l = s.readLine l := by
  unfold State.readLine State.readBytes
  exact List.map_congr_left fun k _ => readByte_congr h _

/-- A line that a read found in the front cache stays there. -/
theorem fcRead_hit {l a k : Nat} (hv : (s.fcLine l).valid = true) (he : env.dec = .good) : ((s.fcRead l a k env).2.fcLine l).valid = true := by
  have hcharged : (s.chargeSplit gDIR 1 0 (s.ownerCode a) 1).fcLine l = s.fcLine l :=
    fcLine_congr (only_chargeSplit s gDIR 1 0 (s.ownerCode a) 1 .dram (by decide)) l
  unfold State.fcRead
  dsimp only
  rw [if_pos hv, he]
  dsimp only
  generalize s.chargeSplit gDIR 1 0 (s.ownerCode a) 1 = u at hcharged
  rw [fcLine_updFc_same]
  exact (congrArg FcLine.valid hcharged).trans hv

/-- A CAS whose line may be read and written at once. -/
structure State.CasReady (s : State) (n : Nat) (c : CueRun) : Prop where
  running : s.running n = some c
  op : c.op = opCOMPARE
  mode : c.mode = 2
  room : s.cueRoom c = true
  admits : s.devAdmits c.tenant clsCUE = true
  reach : (s.reach c.tenant (granuleOfLine (c.num 0x10 8 / 64))).isSome = true
  trans : s.trans (c.num 0x10 8 / 64) = none
  needs : s.needs (c.num 0x10 8 / 64) (.device true) = ([], [])
  key : s.keyBad (c.num 0x10 8 / 64) = false
  sound : s.isPoison (c.num 0x10 8 / 64) = false

/-- The bytes of the line that a CAS names. -/
def State.casOld (s : State) (c : CueRun) : List Byte := ((s.readLine (c.num 0x10 8 / 64)).drop (c.num 0x10 8 % 64)).take c.casSize

/-- A CAS answers the bytes it found. -/
def State.casFinish (n k : Nat) (old : List Byte) (hit : Bool) (s : State) : State :=
  (s.updRunOf n fun c => { c with mismatch := !hit }).cueEnd n csOK (some (leNat (old.take 8))) (if k = 16 then some (leNat (old.drop 8)) else none)

namespace State.CasReady

theorem zero (hC : s.CasReady n c) (hz : (s.page (pageOfLine (c.num 0x10 8 / 64))).st = .zero) (hne : (c.bytes.drop 0x20).take c.casSize ≠ List.replicate c.casSize 0#8) :
    s.cueCas n env = ((s.payDev c.tenant clsCUE).cuePay c c.casSize).casFinish n c.casSize (List.replicate c.casSize 0#8) false := by
  obtain ⟨h, ho, hmode, hroom, hadm, hreach, htrans, hneeds, hkey, hsound⟩ := hC
  obtain ⟨g, hg⟩ := Option.isSome_iff_exists.mp hreach
  unfold State.cueCas
  rw [h]
  dsimp only
  rw [if_neg (by simp [ho, hmode, hroom, hadm]), hg, deviceReady_idle htrans hneeds]
  dsimp only
  rw [if_neg (by decide), if_neg (by simp [hkey, hsound]), if_pos (by simp [hz, hne])]
  rfl

/-- A CAS of an open page reads its line, and writes it where it holds the comparand. -/
theorem opened (hC : s.CasReady n c) (hst : (s.page (pageOfLine (c.num 0x10 8 / 64))).st = .opened)
    (hheld : (s.page (pageOfLine (c.num 0x10 8 / 64))).held = []) (he : env.dec = .good) (hv : (s.fcLine (c.num 0x10 8 / 64)).valid = true) :
    ∃ v, Only [.tenants, .tier, .slate, .daily, .ctrs, .rgl, .dram] s v ∧ (v.fcLine (c.num 0x10 8 / 64)).valid = true
      ∧ s.cueCas n env = if s.casOld c = (c.bytes.drop 0x20).take c.casSize
        then ((v.cuePay c c.casSize).fcWrite (c.num 0x10 8 / 64) c.tenant clsCUE (placeBytes (c.num 0x10 8 % 64) ((c.bytes.drop 0x30).take c.casSize)).1
          (placeBytes (c.num 0x10 8 % 64) ((c.bytes.drop 0x30).take c.casSize)).2 false goodEnv).casFinish n c.casSize (s.casOld c) true
        else v.casFinish n c.casSize (s.casOld c) false := by
  obtain ⟨h, ho, hmode, hroom, hadm, hreach, htrans, hneeds, hkey, hsound⟩ := hC
  obtain ⟨g, hg⟩ := Option.isSome_iff_exists.mp hreach
  generalize hw : ((s.payDev c.tenant clsCUE).touch (pageOfLine (c.num 0x10 8 / 64))).cuePay c c.casSize = w
  have hsw : Only [.tenants, .tier, .slate, .daily, .ctrs] s w := by
    rw [← hw]
    exact ((only_payDev c.tenant clsCUE s).mono (by decide)).trans (((only_touch _ _).mono (by decide)).trans ((only_cuePay _ _).mono (by decide)))
  obtain ⟨hbad, hread⟩ := fcRead_good (s := w) (l := c.num 0x10 8 / 64) (t := c.tenant) (c := clsCUE) he
  have hsv := (hsw.mono (l' := [.tenants, .tier, .slate, .daily, .ctrs, .rgl, .dram]) (by decide)).trans (hread.mono (by decide))
  have hline : (w.fcRead (c.num 0x10 8 / 64) c.tenant clsCUE env).2.readLine (c.num 0x10 8 / 64) = s.readLine (c.num 0x10 8 / 64) :=
    readLine_congr (hsv .mem (by decide)) _
  have hclean : (w.fcRead (c.num 0x10 8 / 64) c.tenant clsCUE env).1 = false :=
    hbad.trans ((isPoison_congr (hsw .poison (by decide)) _).trans hsound)
  have hvalid : (w.fcLine (c.num 0x10 8 / 64)).valid = true :=
    (congrArg FcLine.valid (fcLine_congr (hsw .dram (by decide)) _)).trans hv
  refine ⟨_, hsv, fcRead_hit hvalid he, ?_⟩
  unfold State.cueCas
  rw [h]
  dsimp only
  rw [if_neg (by simp [ho, hmode, hroom, hadm]), hg, deviceReady_idle htrans hneeds]
  dsimp only
  rw [if_neg (by decide), if_neg (by simp [hkey, hst]), if_neg (by simp [hst]), if_neg (by simp [hst, hheld]), hw, hclean, if_neg Bool.false_ne_true, hline]
  rfl

end State.CasReady

theorem exec_cas (h : s.cueCas n env = t) : exec (.cas n env) s = .next (s.keeping {} t) := exec_done rfl h

theorem casFinish_ends {k : Nat} {old : List Byte} {hit : Bool} (hr : s.run n = some c) (hp : c.phase = 0) :
    s.CueEnded n csOK (some (leNat (old.take 8))) (if k = 16 then some (leNat (old.drop 8)) else none) (s.casFinish n k old hit)
      ∧ (∃ d, (s.casFinish n k old hit).run n = some d ∧ d.mismatch = !hit) ∧ Only [.cues, .fns, .ctrs, .freeIx] s (s.casFinish n k old hit) := by
  have hmark := run_updRunOf_same s hr fun c => { c with mismatch := !hit }
  unfold State.casFinish
  generalize (if k = 16 then some (leNat (old.drop 8)) else none) = r1
  obtain ⟨d, hd, -, hmis, -⟩ := cueEnd_flags hmark (by show c.phase < 2; omega) csOK (some (leNat (old.take 8))) r1
  exact ⟨(cueEnd_ended hmark hp _ _ _).from rfl, ⟨d, hd, hmis⟩, ((only_updRunOf _ _ _).mono (by decide)).trans (only_cueEnd _ _ _ _ _)⟩

/-- The answer of a CAS. -/
theorem State.CasReady.answers {k : Nat} {old : List Byte} {hit : Bool} {l l' : List Part} (hC : s.CasReady n c) (hu : Only l s u) (hcues : Part.cues ∉ l) (hframe : Part.frame ∉ l)
    (hl : l.all (fun p => l'.contains p) = true) (hl' : [Part.cues, .fns, .ctrs, .freeIx].all (fun p => l'.contains p) = true)
    (h : s.cueCas n env = u.casFinish n k old hit) :
    ∃ t, exec (.cas n env) s = .next t ∧ t = s.keeping {} (u.casFinish n k old hit)
      ∧ s.CueEnded n csOK (some (leNat (old.take 8))) (if k = 16 then some (leNat (old.drop 8)) else none) t
      ∧ (∃ d, t.run n = some d ∧ d.mismatch = !hit) ∧ Only l' s t := by
  obtain ⟨hrun, hp, -⟩ := running_iff.mp hC.running
  have hur := (run_of_cues (congrArg _ (hu .cues hcues)) n).trans hrun
  obtain ⟨hended, ⟨d, hd, hmis⟩, honly⟩ := casFinish_ends (k := k) (old := old) (hit := hit) hur hp
  exact ⟨_, exec_cas h, rfl, (hended.from (hu .frame hframe)).kept {} s, ⟨d, by rw [run_keeping, hd], hmis⟩,
    Only.keeping_any ((hu.mono hl).trans (honly.mono hl')) nofun⟩

theorem cas_zero (hC : s.CasReady n c) (hz : (s.page (pageOfLine (c.num 0x10 8 / 64))).st = .zero) (hne : (c.bytes.drop 0x20).take c.casSize ≠ List.replicate c.casSize 0#8) :
    ∃ t, exec (.cas n env) s = .next t
      ∧ s.CueEnded n csOK (some (leNat ((List.replicate c.casSize 0#8).take 8))) (if c.casSize = 16 then some (leNat ((List.replicate c.casSize 0#8).drop 8)) else none) t
      ∧ (∃ d, t.run n = some d ∧ d.mismatch = true) ∧ Only [.cues, .fns, .ctrs, .freeIx, .slate, .daily, .tenants] s t := by
  obtain ⟨t, ht, -, h⟩ := hC.answers (l := [.tenants, .slate, .daily, .ctrs]) (l' := [.cues, .fns, .ctrs, .freeIx, .slate, .daily, .tenants])
    ((only_payDev c.tenant clsCUE s).trans ((only_cuePay _ _).mono (by decide))) (by decide) (by decide) (by decide) (by decide) (hC.zero (env := env) hz hne)
  exact ⟨t, ht, h⟩

section
variable (hC : s.CasReady n c) (hst : (s.page (pageOfLine (c.num 0x10 8 / 64))).st = .opened) (hheld : (s.page (pageOfLine (c.num 0x10 8 / 64))).held = [])
  (he : env.dec = .good) (hv : (s.fcLine (c.num 0x10 8 / 64)).valid = true)
include hC hst hheld he hv

theorem cas_differs (hne : s.casOld c ≠ (c.bytes.drop 0x20).take c.casSize) :
    ∃ t, exec (.cas n env) s = .next t
      ∧ s.CueEnded n csOK (some (leNat ((s.casOld c).take 8))) (if c.casSize = 16 then some (leNat ((s.casOld c).drop 8)) else none) t
      ∧ (∃ d, t.run n = some d ∧ d.mismatch = true) ∧ Only [.cues, .fns, .ctrs, .freeIx, .slate, .daily, .tenants, .tier, .rgl, .dram] s t := by
  obtain ⟨v, ho, -, heq⟩ := hC.opened (env := env) hst hheld he hv
  obtain ⟨t, ht, -, h⟩ := hC.answers (l' := [.cues, .fns, .ctrs, .freeIx, .slate, .daily, .tenants, .tier, .rgl, .dram]) ho (by decide) (by decide) (by decide) (by decide)
    (heq.trans (if_neg hne))
  exact ⟨t, ht, h⟩

theorem cas_swaps (heq : s.casOld c = (c.bytes.drop 0x20).take c.casSize) :
    ∃ t, exec (.cas n env) s = .next t
      ∧ s.LineWritten (c.num 0x10 8 / 64) (placeBytes (c.num 0x10 8 % 64) ((c.bytes.drop 0x30).take c.casSize)).1
        (placeBytes (c.num 0x10 8 % 64) ((c.bytes.drop 0x30).take c.casSize)).2 false t
      ∧ s.CueEnded n csOK (some (leNat ((s.casOld c).take 8))) (if c.casSize = 16 then some (leNat ((s.casOld c).drop 8)) else none) t
      ∧ (∃ d, t.run n = some d ∧ d.mismatch = false)
      ∧ Only [.cues, .fns, .ctrs, .freeIx, .slate, .daily, .tenants, .tier, .rgl, .dram, .mem, .poison, .log] s t := by
  obtain ⟨v, ho, hvalid, hcas⟩ := hC.opened (env := env) hst hheld he hv
  have hcas := hcas.trans (if_pos heq)
  have hpay := only_cuePay (c := c) c.casSize v
  generalize hw : v.cuePay c c.casSize = w at hcas hpay
  generalize placeBytes (c.num 0x10 8 % 64) ((c.bytes.drop 0x30).take c.casSize) = d at hcas ⊢
  obtain ⟨u, hu, hwrite⟩ := fcWrite_line (s := w) (t := c.tenant) (c := clsCUE) (d := d.1) (be := d.2) (p := false) (env := goodEnv)
    (.inr ((congrArg FcLine.valid (fcLine_congr (hpay .dram (by decide)) _)).trans hvalid))
  have hsu : Only [.tenants, .tier, .slate, .daily, .ctrs, .rgl, .dram] s u := ho.trans ((hpay.mono (by decide)).trans (hu.mono (by decide)))
  have hline := lineWritten_of hsu hwrite (by decide) (by decide) (by decide) (by decide)
  have hall := (hsu.mono (l' := [.tenants, .tier, .slate, .daily, .ctrs, .rgl, .dram, .mem, .poison, .log]) (by decide)).trans
    (((only_applyWrite u _ _ _ _).mono (by decide)).trans (hwrite.mono (by decide)))
  obtain ⟨t, ht, hteq, hended, hmis, honly⟩ :=
    hC.answers (l' := [.cues, .fns, .ctrs, .freeIx, .slate, .daily, .tenants, .tier, .rgl, .dram, .mem, .poison, .log]) hall (by decide) (by decide) (by decide) (by decide) hcas
  obtain ⟨hrun, hp, -⟩ := running_iff.mp hC.running
  have hfin := (casFinish_ends (k := c.casSize) (old := s.casOld c) (hit := true) ((run_of_cues (congrArg _ (hall .cues (by decide))) n).trans hrun) hp).2.2
  exact ⟨t, ht, hteq ▸ (hline.upto hfin (by decide) (by decide)).kept {} s, hended, hmis, honly⟩

end

end

end Sys2Proof.Machine
end

section
/-!
PROOFS. REDUCE: the reduction of the last line of its sources.
-/

namespace Sys2Proof.Machine

open Sys2Proof

variable {s t u : State} {n : Nat} {c d : CueRun} {env : List (Nat × ReadEnv)} {lst : List Byte}

/-! ### The bytes of a reduction (R592, R593) -/

theorem leBytes_length (k v : Nat) : (leBytes k v).length = k := by
  induction k generalizing v with
  | zero => rfl
  | succ k ih => simp [leBytes, ih]

theorem flatten_length_of_forall {ls : List (List Byte)} {k : Nat} (h : ∀ x ∈ ls, x.length = k) : ls.flatten.length = ls.length * k := by
  rw [List.length_flatten, List.map_congr_left h, List.map_const', List.sum_replicate, smul_eq_mul]

theorem reduceBytes_length (ty op sz m : Nat) (srcs : List (List Byte)) : (reduceBytes ty op sz m srcs).1.length = m / sz * sz := by
  unfold reduceBytes
  rw [flatten_length_of_forall (k := sz) (by simp [leBytes_length])]
  simp

theorem elSize_cases (c : CueRun) : c.elSize = 4 ∨ c.elSize = 2 ∨ c.elSize = 8 := by
  unfold CueRun.elSize
  split <;> simp

theorem elSize_line (c : CueRun) : 64 / c.elSize * c.elSize = 64 := by
  rcases elSize_cases c with h | h | h <;> rw [h]

/-! ### Its steps -/

theorem exec_reduce (h : s.running n = some c) (ho : c.op = opREDUCE) (ha : s.reduceAsk n env = s) (hs : s.reduceStep n env = some t)
    (hl : loopN (fun (s : State) => s.reduceStep n env) 20000 (t.reduceAsk n env) = u) : exec (.reduce n env) s = .next (s.keeping {} u) := by
  refine exec_done rfl ?_
  unfold State.cueReduce
  rw [h]
  dsimp only
  rw [if_pos ho, ha, hs]
  exact hl

theorem reduceStep_stopped (h : s.running n = none) : s.reduceStep n env = none := by
  unfold State.reduceStep
  rw [h]

theorem reduceAsk_stopped (h : s.running n = none) : s.reduceAsk n env = s := by
  unfold State.reduceAsk
  rw [h]

theorem reduceStep_over (h : s.running n = some c) (hr : c.recs = [lst]) (hq : s.cueQuiet n c = true) (hl : c.len ≤ c.ofs) :
    s.reduceStep n env = some (s.cueEnd n csOK (some c.ofs) (some c.r1)) := by
  unfold State.reduceStep
  rw [h]
  dsimp only
  rw [hr]
  exact (if_pos hl).trans (moveDone_ends h hq)

theorem reduceAsk_over (h : s.running n = some c) (hr : c.recs = [lst]) (hl : c.len ≤ c.ofs) : s.reduceAsk n env = s := by
  unfold State.reduceAsk
  rw [h]
  dsimp only
  rw [hr]
  exact if_neg (by omega)

theorem reduce_over (h : s.running n = some c) (ho : c.op = opREDUCE) (hr : c.recs = [lst]) (hl : c.len ≤ c.ofs) (hq : s.cueQuiet n c = true) :
    ∃ t, exec (.reduce n env) s = .next t ∧ s.CueEnded n csOK (some c.ofs) (some c.r1) t ∧ Only [.cues, .fns, .ctrs, .freeIx] s t := by
  obtain ⟨hrun, hp, -⟩ := running_iff.mp h
  have hstop : (s.cueEnd n csOK (some c.ofs) (some c.r1)).running n = none := (cueEnd_ended hrun hp _ _ _).stopped
  exact cue_done (exec_reduce h ho (reduceAsk_over h hr hl) (reduceStep_over h hr hq hl)
    ((congrArg _ (reduceAsk_stopped hstop)).trans (loopN_stop 20000 (reduceStep_stopped hstop)))) h

/-- Lines of every source that a cue has asked for and that have arrived. -/
theorem needAll_arrived {as : List Nat} (h : s.run n = some c) (ha : ∀ a ∈ as, a % 64 = 0 ∧ a / 64 ∈ c.asked ∧ s.arrived (cueKey n) (a / 64) = true) :
    s.needAll n as 64 env = (true, s) := by
  unfold State.needAll
  induction as with
  | nil => rfl
  | cons a as ih =>
    obtain ⟨halign, hk, harr⟩ := ha a List.mem_cons_self
    rw [List.foldl_cons, needLines_dpa h halign (by decide) (by decide) hk, harr]
    exact ih fun a h => ha a (List.mem_cons_of_mem _ h)

theorem State.Moved.from {k : Nat} {b : List Byte} {p ov : Bool} (h : u.Moved n c k b p ov t) (ho : Only [.slate, .daily, .ctrs] s u) : s.Moved n c k b p ov t := by
  obtain ⟨hline, honly, hfatal, h⟩ := h
  exact ⟨hline.from ho (by decide) (by decide), (ho.mono (by decide)).trans honly, hfatal.trans (congrArg LogS.fatal (ho .log (by decide))), h⟩

theorem State.Moved.flagged {k : Nat} {b : List Byte} {p ov : Bool} (h : s.Moved n c k b p ov t) (w : Bool) :
    s.Moved n c k b p (ov || w) (t.updRunOf n fun c => { c with overflow := c.overflow || w }) := by
  obtain ⟨hline, honly, hfatal, asked, hrun, harr⟩ := h
  have ho := only_updRunOf t n fun c => { c with overflow := c.overflow || w }
  exact ⟨hline.upto ho (by decide) (by decide), honly.trans (ho.mono (by decide)), hfatal, asked, run_updRunOf_same t hrun _, harr⟩

/-- The sources of the line that comes next. -/
def CueRun.sources (c : CueRun) (lst : List Byte) : List Nat := (splitEls 8 (c.num 0x24 2 % 32) lst).map (· + c.ofs)

/-- The bytes of the sources of a line, and the line's reduction. -/
def State.sourceBytes (s : State) (n : Nat) (c : CueRun) (lst : List Byte) : List (List Byte × Bool) := (c.sources lst).map fun a => s.bufBytes (cueKey n) 0 a 64
def State.reduced (s : State) (n : Nat) (c : CueRun) (lst : List Byte) : List Byte × Bool :=
  reduceBytes (c.num 0x24 2 / 4096 % 4) (c.num 0x24 2 / 256 % 4) c.elSize 64 ((s.sourceBytes n c lst).map (·.1))

/-- A REDUCE whose last source lines have arrived and whose write goes at once. -/
structure State.ReduceReady (s : State) (n : Nat) (c : CueRun) (lst : List Byte) : Prop where
  running : s.running n = some c
  list : c.recs = [lst]
  last : c.ofs + 64 = c.len
  count : c.num 0x24 1 % 32 = c.num 0x24 2 % 32
  device : c.dstHost = false
  room : s.cueRoom c = true
  align : (c.num 0x18 8 + c.ofs) % 64 = 0
  ready : s.LineReady c.tenant ((c.num 0x18 8 + c.ofs) / 64)
  quiet : s.cueQuiet n c = true
  sources : ∀ a ∈ c.sources lst, a % 64 = 0 ∧ a / 64 ∈ c.asked ∧ s.arrived (cueKey n) (a / 64) = true

namespace State.ReduceReady
variable (hR : s.ReduceReady n c lst)
include hR

theorem ask : s.reduceAsk n env = s := by
  obtain ⟨h, hr, hl, hcount, -, hroom, -, -, -, hsrc⟩ := hR
  unfold State.reduceAsk
  rw [h]
  dsimp only
  rw [hr]
  dsimp only
  rw [if_pos ⟨by omega, hroom⟩, hcount, show min 1024 (c.len - c.ofs) = 64 by omega]
  exact congrArg Prod.snd (needAll_arrived (running_iff.mp h).1 hsrc)

theorem step : ∃ t, s.reduceStep n env = some t
    ∧ s.Moved n c ((c.num 0x18 8 + c.ofs) / 64) (s.reduced n c lst).1 ((s.sourceBytes n c lst).any (·.2)) (c.overflow || (s.reduced n c lst).2) t := by
  obtain ⟨h, hr, hl, -, hh, hroom, hd, hready, hq, hsrc⟩ := hR
  have hpay := only_cuePay (c := c) (c.num 0x24 2 % 32 * 64) s
  have hrun := (run_of_cues (congrArg _ (hpay .cues (by decide))) n).trans (running_iff.mp h).1
  have hquiet : (s.cuePay c (c.num 0x24 2 % 32 * 64)).cueQuiet n c = true :=
    cueQuiet_iff.mpr fun k hk => (arrived_congr (hpay .fab (by decide)) _ _).trans (cueQuiet_iff.mp hq k hk)
  have hlen : (s.reduced n c lst).1.length = 64 := (reduceBytes_length _ _ _ _ _).trans (elSize_line c)
  obtain ⟨t, ht, hm⟩ := chunkOut_moved ((s.sourceBytes n c lst).any (·.2)) env hrun hquiet hh hd hlen (lineReady_cuePay hready)
  refine ⟨_, ?_, ((hm.from hpay).flagged (s.reduced n c lst).2).settled ((c.sources lst).map fun a => (a + 64) / 64)⟩
  unfold State.reduceStep
  rw [h]
  dsimp only
  rw [hr]
  dsimp only
  rw [if_neg (by omega), hroom, if_neg (by decide), lastLine_size hd hl, show (splitEls 8 (c.num 0x24 2 % 32) lst).map (· + c.ofs) = c.sources lst from rfl,
    needAll_arrived (running_iff.mp h).1 hsrc]
  dsimp only
  rw [if_neg (by decide)]
  unfold State.reduced State.sourceBytes at ht
  rw [ht]
  rfl

theorem reduces (ho : c.op = opREDUCE) :
    ∃ t, exec (.reduce n env) s = .next t ∧ s.LineWritten ((c.num 0x18 8 + c.ofs) / 64) (s.reduced n c lst).1 fullBe ((s.sourceBytes n c lst).any (·.2)) t
      ∧ s.CueEnded n csOK (some c.len) (some (c.r1 + if (s.sourceBytes n c lst).any (·.2) then 1 else 0)) t
      ∧ (∃ e, t.run n = some e ∧ e.overflow = (c.overflow || (s.reduced n c lst).2))
      ∧ Only [.tier, .ctrs, .slate, .daily, .rgl, .dram, .mem, .poison, .log, .fab, .cues, .tenants, .fns, .freeIx] s t := by
  obtain ⟨t, ht, hm⟩ := hR.step (env := env)
  obtain ⟨d, hrun, hdq, hover, hrecs, hend, hstop⟩ := hm.over hR.running hR.last
  have hlist := hrecs.trans hR.list
  exact hm.ends hR.running (exec_reduce (env := env) hR.running ho hR.ask ht ((congrArg _ (reduceAsk_over hrun hlist hover)).trans
    (loopN_one ((reduceStep_over hrun hlist hdq hover).trans (congrArg some hend)) (reduceStep_stopped hstop))))

end State.ReduceReady

/-- Settles O52: COMPARE, CAS and REDUCE each from what they found. -/
theorem cuesCompareAndReduce : Obligations.CuesCompareAndReduce := by
  unfold Obligations.CuesCompareAndReduce
  refine ⟨?compare, ?cas, ?reduce⟩
  case compare =>
    intro i n c env s hi h ho hmode
    refine ⟨compare_over hi h ho hmode, fun x y hl hroom ha hb hka hkb hx hy => ?_⟩
    exact State.LastLines.compares ⟨h, hl, hroom, ha, hb, hka, hkb, hx, hy⟩ hi ho hmode
  case cas =>
    intro n c env s h ho hmode hroom a l k cmp swap old hi hadm hreach htrans hneeds hkey
    refine ⟨fun hz hp hne => cas_zero ⟨h, ho, hmode, hroom, hadm, hreach, htrans, hneeds, hkey, hp⟩ hz hne, fun hst hheld he hp hv => ?_⟩
    have hC : s.CasReady n c := ⟨h, ho, hmode, hroom, hadm, hreach, htrans, hneeds, hkey, hp⟩
    exact ⟨cas_differs hC hst hheld he hv, cas_swaps hC hst hheld he hv⟩
  case reduce =>
    intro n c lst env s h ho hr w srcs d
    refine ⟨reduce_over h ho hr, fun hl hcount hh hroom hd hready hq hsrc => ?_⟩
    exact State.ReduceReady.reduces ⟨h, hr, hl, hcount, hh, hroom, hd, hready, hq, hsrc⟩ ho

end Sys2Proof.Machine
end
